-- ==== Sys2Proof/Word.lean ====
section
/-! DEFINITION. The word and byte types of the device (registers are 32 bits wide, *Registers* of 00_scope.md). -/

namespace Sys2Proof

/-- A register value: 32 bits. -/
abbrev Word := BitVec 32

/-- A byte of the SRAM, of a frame or of a flash image. -/
abbrev Byte := BitVec 8

end Sys2Proof
end

