-- ==== Sys2Proof/Syntax.lean ====
section
/-! DEFINITION. The commands the device takes (spec/opcode_table.json), with the data they carry: host frames, images,
checker reports, measured values and the outcomes that the world outside the device decides. -/

namespace Sys2Proof

/-- One checker report that reaches the Registrar (R359, R360): fault code, source, and whether it is a level. -/
structure Report where
  code : Nat
  src : Nat
  level : Bool
  deriving DecidableEq, Repr

/-- An entry of the catalogue of an image (R78), with the CRC-32C of the section's bytes as they were read beside it. -/
structure CatEntry where
  type : Nat
  flags : Nat
  offset : Nat
  length : Nat
  crc : Word
  dataCrc : Word
  deriving DecidableEq, Repr

/-- Analogue telemetry of a link frame (R175): rail codes of 0.1 V, the VGS code, the sense-cell level; of a GI lane the VGS code of
each of its channels, by rising number. -/
structure Telemetry where
  vgs : Nat
  vpos : Nat
  vneg : Nat
  vb : Nat
  sense : Nat
  chVgs : List Nat
  deriving DecidableEq, Repr

/-- A source that an INPUT instance reads (R261): quantity `item` of the field unit of an axis (0 i_d, 1 i_q, 2 speed,
3 angle, 4 v_d, 5 v_q, 6 invalid mark), a lane's output or loss, device state, axis state, engine mode, quantity of the
hall unit (0 speed, 1 position, 2 valid), DC-link item (R314), parameter, CMDIN value, SAR result, lattice event, CMDIN
loss. -/
inductive CeSrc where
  | fld (a item : Nat)
  | lane (l : Nat)
  | laneLoss (l : Nat)
  | dev
  | axis (a : Nat)
  | mode
  | pos (a item : Nat)
  | dcl (item : Nat)
  | par (i : Nat)
  | cmdin (d : Nat)
  | sar (s i : Nat)
  | event (n : Nat)
  | cmdLoss (d : Nat)
  deriving DecidableEq, Repr

/-- A sink that an OUTPUT instance writes (R261): the voltage reference of an axis, item 0 (target) or 1 (duty) of an aux
axis. -/
inductive CeSink where
  | vref (a : Nat)
  | aux (x item : Nat)
  deriving DecidableEq, Repr

/-- A block instance of the CE_GRAPH section (R259, R260): type code, the axis it serves (0–3, 4 X, 5 Y), the axis in
whose current section it runs, its inputs as (instance, output port), its parameter words, the initial values of its state words
and the place of the first one in the state memory, its source or sink, and the number g or m of a PROFILE or MONITOR. -/
structure CeInst where
  type : Nat
  axis : Option Nat
  cur : Option Nat
  ins : List (Nat × Nat)
  pars : List Nat
  init : List Int
  stAt : Nat
  src : Option CeSrc
  sink : Option CeSink
  unit : Nat
  deriving DecidableEq, Repr

/-- Bounds of one field of a tuning register (R85). -/
structure FieldBound where
  lo : Nat
  width : Nat
  signed : Bool
  min : Int
  max : Int
  deriving DecidableEq, Repr

/-- One entry of the TENANCY section (R101): host, axis set, privileges, clear limit (0 none, 1–3 F1–F3), heartbeat time in
ms, ticket quota. -/
structure Tenant where
  host : Nat
  axes : List Nat
  arm : Bool
  service : Bool
  inject : Bool
  takeover : Bool
  clear : Nat
  hb : Nat
  quota : Nat
  deriving DecidableEq, Repr

/-- What the sections of an image say (R80): TOPOLOGY (axes in use, 0–3 traction, 4 X, 5 Y; six-phase pairs 0 for 0+1, 1 for
2+3; the pairs with a 30° offset), TENANCY with the owner of each axis, the values of the registers that the sections load,
by rising address, the bounds of the tuning registers (R85), the block graph (R259), the owner axes of parameters
(R274) and the start value of `ADC_CTRL.GO` in ADC_SEQ (R210). -/
structure ImageContent where
  axes : List Nat
  pairs : List Nat
  off30 : List Nat
  tenants : List Tenant
  owners : List (Nat × Nat)
  regs : List (Nat × Word)
  bounds : List (Nat × List FieldBound)
  graph : List (Nat × CeInst)
  parOwner : List (Nat × Nat)
  adcGo : Nat
  deriving DecidableEq, Repr

/-- What the test of a BIST unit finds (R417, R418, and the `BIST_Uu` registers): a fault that is no logic one; of a memory fault the
spares that a repair takes, each by its bank and whether it is a column; the retest after the repair passed; of logic the difference
(XOR) of the signature from the value in the Docent ROM, of a memory its failing words; first failing address and bit; the health of
the entropy source. -/
structure BistOut where
  found : Bool
  repair : Option (List (Nat × Bool))
  retestOk : Bool
  sig : Word
  faddr : Word
  fbit : Nat
  entOk : Bool
  deriving DecidableEq, Repr


/-- A frame on a host port (R94, R96): the port (0 A … 3 D); the header fields but for the opcode, which the row names;
the bytes that follow the header (payload, CRC-32C, ignored bytes); the number of bytes that arrived when the frame is
cut short; whether the frame of the next such command ends in the same cycle of `CK_MGMT` (R98); whether its `nCS` fell before the
reply to the port's previous frame was held (R100). On ports C and D a frame is taken from the queue of received messages (R396),
and only the port and `more` count. -/
structure Frame where
  port : Nat
  sync : Byte
  host : Byte
  ticket : Byte
  len : Nat
  flags : Byte
  target : Byte
  rest : List Byte
  cut : Option Nat
  more : Bool
  early : Bool
  deriving DecidableEq, Repr


/-- The commands the device takes, one constructor per row of the table of operations and events. -/
inductive Instr where
  /-- POWER_ON_RESET_END (R42). The power-on reset ends 200 µs after the last rail passes its rising threshold; BOOT starts if a wake is already
  recognised. `testMode` is the level of `TEST_MODE`, sampled at the release of reset (R48). -/
  | powerOnResetEnd (testMode : Bool)
  /-- WAKE_RECOGNISED (R63). WAKE has stayed above its threshold for 33 CK_KA periods; the wake is recognised or latched, and it starts BOOT if the rails are present. -/
  | wakeRecognised
  /-- WAKE_FALL (R66). WAKE falls before the rails return and the latched wake clears. -/
  | wakeFall
  /-- MAIN_RAIL_LOSS (R65). VDD_CORE, VDD_IO or VDD_A falls below its falling reset threshold while VKA is present; the device goes to DORMANT from any state.
  `rail`: 0 VDD_CORE, 1 VDD_IO, 2 VDD_A. -/
  | mainRailLoss (rail : Nat)
  /-- VKA_LOSS (R447). VKA falls below its falling threshold; the device is held in reset and every recognised wake is forgotten. -/
  | vkaLoss
  /-- VKA_RETURN (R447). VKA rises above its rising threshold and the device is in DORMANT. -/
  | vkaReturn
  /-- NRESET_PULSE (R61). An accepted low pulse on nRESET resets the device into BOOT, except in LOCKOUT. With `held` the pulse is
  accepted and nRESET is still low; without it the pulse has ended, with `TEST_MODE` at the level `testMode` (R48). -/
  | nresetPulse (held testMode : Bool)
  /-- SRAM_CLEAR_END (R448). The SRAM clear at BOOT entry ends and any waiting host SRAM access proceeds. -/
  | sramClearEnd
  /-- CLKIN_DETECT_END (R121). The 100 µs count of CLKIN edges ends and the reference and factor M are chosen. -/
  | clkinDetectEnd (edges : Nat)
  /-- CLOCK_ROM_STEP_END (R68). The clock and ROM step ends; the device goes to IMAGE_CHECK, or to LOCKOUT on failure or with TEST_MODE high. -/
  | clockRomStepEnd (romOk mdllLock iloLock : Bool)
  /-- FLASH_START_END (R81). The flash-start step ends after both slot headers are judged by checks 1–10. -/
  | flashStartEnd (profileOk : Bool) (hdrA hdrB : List Byte)
  /-- IMAGE_READ_END (R68). The image read ends with checks 11–13 of the slot done; `body` are the bytes that its signature covers. -/
  | imageReadEnd (body : List Byte) (namesCd usesAux strobeOk : Bool)
  /-- VERIFY_END (R82). The signature verification of the slot ends; `sig`: the signature bytes of the slot. -/
  | verifyEnd (sig : List Byte)
  /-- COMMIT_END (R83). The content check and register loading end; RWL registers lock and the PWM timebases start. -/
  | commitEnd (content : ImageContent)
  /-- MANDATORY_BIST_END (R74). The mandatory BIST step ends, passing, soft-repaired or failing to LOCKOUT. -/
  | mandatoryBistEnd (outs : List BistOut)
  /-- ISLANDS_STEP_END (R74). The islands step ends and the device enters READY. -/
  | islandsStepEnd
  /-- KEY_DERIVED (R402). Derivation of the working identity key from the seed store ends. -/
  | keyDerived
  /-- REPLY_AGAIN (R99). Command that clocks out the held reply again without replacing it. -/
  | replyAgain (f : Frame)
  /-- IDENTITY (R117). Direct command that returns the identity reply. -/
  | identity (f : Frame)
  /-- STATUS (R117). Direct command that returns device state, axis states, image status and pool. -/
  | status (f : Frame)
  /-- HEARTBEAT (R106). Direct command that restarts the host's heartbeat timer and clears EXPIRED. -/
  | heartbeat (f : Frame)
  /-- RING_READ (R114). Acknowledges n completion records, returns their tickets and replies with up to m records. -/
  | ringRead (f : Frame)
  /-- MEM_READ (R117). Reads bytes from permitted SRAM regions. -/
  | memRead (f : Frame)
  /-- VIT_READ (R117). Reads words of a traction axis status mirror. -/
  | vitRead (f : Frame)
  /-- REG_READ (R117). Reads 1–64 consecutive registers. -/
  | regRead (f : Frame)
  /-- REG_WRITE (R110). Ticketed write of address-value pairs, admitted per commit point, Docent lane and preserve lane. -/
  | regWrite (f : Frame)
  /-- MEM_WRITE (R117). Ticketed write of data into the staging region. -/
  | memWrite (f : Frame)
  /-- ARM (R25). Takes the device from READY to ARMED. -/
  | arm (f : Frame)
  /-- DISARM (R25). Takes the device from ARMED to READY. -/
  | disarm (f : Frame)
  /-- AXIS_ENABLE (R28). Takes an axis from IDLE to ENABLED at its commit point. -/
  | axisEnable (f : Frame)
  /-- AXIS_DISABLE (R28). Takes an axis from ENABLED to IDLE at its commit point. -/
  | axisDisable (f : Frame)
  /-- AXIS_STOP (R28). Takes an axis from DRIVING to STOPPING, or ramp-stops an aux axis. -/
  | axisStop (f : Frame)
  /-- SETPOINT (R268). Sets the target of host lanes at the booked commit point. -/
  | setpoint (f : Frame)
  /-- ISL_DIAG (R194). Starts off-state diagnostics of an axis, taking it to DIAG. -/
  | islDiag (f : Frame)
  /-- SBC_TEST (R344). Starts a brake switch test. -/
  | sbcTest (f : Frame)
  /-- OWN_OFFER (R104). Offers ownership of an axis to a recipient, or withdraws the offer. -/
  | ownOffer (f : Frame)
  /-- OWN_TAKE (R104). Takes a standing ownership offer; ownership moves at the booked commit point. -/
  | ownTake (f : Frame)
  /-- OWN_SEIZE (R105). Seizes ownership of an axis whose owner's heartbeat has expired. -/
  | ownSeize (f : Frame)
  /-- FLT_CLEAR (R365). Clears fault records whose cause has gone within the host's clear limit. -/
  | fltClear (f : Frame)
  /-- FLT_INJ (R371). Injects inverted check bits into one checker for a set length. -/
  | fltInj (f : Frame)
  /-- THERM_MEASURE (R428). Demands one temperature conversion of a ring-oscillator sensor. -/
  | thermMeasure (f : Frame)
  /-- CE_CAPTURE (R286). Arms or cancels the capture unit. -/
  | ceCapture (f : Frame)
  /-- CE_MODE (R281). Requests paired or split engine mode at a common boundary. -/
  | ceMode (f : Frame)
  /-- ADC_CAL (R206). Starts self-calibration of one pipeline converter. -/
  | adcCal (f : Frame)
  /-- SERVICE_ENTER (R25). Takes the device from READY or SAFE to SERVICE. -/
  | serviceEnter (f : Frame)
  /-- SERVICE_EXIT (R25). Takes the device from SERVICE to READY. -/
  | serviceExit (f : Frame)
  /-- BIST_RUN (R418). Runs the selected BIST units in rising order. -/
  | bistRun (f : Frame)
  /-- REPAIR_FUSE (R422). Programs the unfused soft repairs of a memory unit into fuses. -/
  | repairFuse (f : Frame)
  /-- IMG_WRITE (R89). Copies staging data into the uncommitted flash slot with erase and read-back. -/
  | imgWrite (f : Frame)
  /-- IMG_VERIFY (R89). Runs checks 1–14 on the uncommitted slot. -/
  | imgVerify (f : Frame)
  /-- IMG_SELECT (R89). Makes the verified uncommitted slot preferred on trial and schedules a reset. -/
  | imgSelect (f : Frame)
  /-- IMG_ACCEPT (R89). Accepts the trial image, raising ARB and clearing TRIAL. -/
  | imgAccept (f : Frame)
  /-- IMG_REJECT (R89). Rejects the trial image, preferring the other slot, and schedules a reset. -/
  | imgReject (f : Frame)
  /-- ATTEST (R407). Starts a signed attestation report bound to a nonce. -/
  | attest (f : Frame)
  /-- DOCENT_LANE_EXECUTE (R109). The Docent lane executes queued admitted work in deadline order. -/
  | docentLaneExecute
  /-- PROMISE_MISSED (R112). An admitted command has not taken effect by its promise; it is dropped with BUSY and fault 0x0140. -/
  | promiseMissed (host label : Nat)
  /-- HEARTBEAT_EXPIRED (R106). HB_TIME passes without a heartbeat; EXPIRED is set and fault 0x0110+h raised. -/
  | heartbeatExpired (host : Nat)
  /-- OWN_OFFER_EXPIRED (R104). A standing ownership offer lapses after 100 ms. -/
  | ownOfferExpired (x : Nat)
  /-- SELF_RESET (R89). The device resets itself 5 ms after IMG_SELECT, IMG_REJECT or a successful REPAIR_FUSE. -/
  | selfReset
  /-- LOSS_OF_LOCK (R125). A clock path loses lock; the tree switches to the other path if locked. -/
  | lossOfLock (path : Nat)
  /-- PATH_RELOCK (R126). A lost clock path locks again and its fault clears. -/
  | pathRelock (path : Nat)
  /-- CLK_RETURN (R126). Write of CLK_CMD.RETURN returns the tree to the primary path. -/
  | clkReturn (host : Nat)
  /-- CLK_STEP (R137). Write of CLK_CMD.STEP queues manual phase steps. -/
  | clkStep (host steps : Nat)
  /-- PHASE_STEP (R137). One queued phase step is applied, moving CK_PWM one ILO tap. -/
  | phaseStep
  /-- CLOCK_MONITOR_WINDOW (R138). A 2 µs CK_WATCH window ends and every clock count is judged. -/
  | clockMonitorWindow (ctrl pwm mgmt can ref watch : Nat)
  /-- DELAY_LINE_CAL_LOST (R131). Delay-line calibration leaves ±40 ps and fractional compares round down. -/
  | delayLineCalLost
  /-- EPOCH_TICK (R132). The epoch counter wraps and SYNC_OUT goes high. -/
  | epochTick
  /-- SYNC_OUT_PULSE_END (R132). SYNC_OUT returns low after SYNCOUT_W ticks. -/
  | syncOutPulseEnd
  /-- SYNC_IN_EDGE (R133). A rising edge on SYNC_IN, in the phase `ph` of the present tick, captures the residual and acts under
  SYNC_MODE. -/
  | syncInEdge (ph : Nat)
  /-- SNAP (R135). The epoch is moved by n ticks at the first tick at least 100 ns after the edge. -/
  | snap
  /-- SYNC_IN_MISSING (R135). No SYNC_IN edge arrives for 2 × CLK_TBPER in ALIGN; fault 0x0308. -/
  | syncInMissing
  /-- PERIOD_BOUNDARY (R148). Boundary of an axis: commit-port entries, staged values, trips, pair lock and window shifts. -/
  | periodBoundary (a : Nat)
  /-- PEAK_UPDATE (R148). Peak update point with UPD = 1 takes staged down-count compares. -/
  | peakUpdate (a : Nat)
  /-- PWM_EDGE (R142). A scheduled compare edge changes a switch request; `p` 3–5 of a traction axis: the edges of a probe pulse
  (R252). -/
  | pwmEdge (a p : Nat) (rise : Bool)
  /-- DEAD_TIME_END (R143). A dead time runs out and the turn-on is sent unless a trip suppresses it. -/
  | deadTimeEnd (a p : Nat) (high : Bool)
  /-- TRIP_INPUT_CHANGE (R154). A trip source change passes its filter and may cut the pulses. -/
  | tripInputChange (a src : Nat) (active : Bool)
  /-- BLANKING_END (R159). The blanking timer ends and still-active selected sources act. -/
  | blankingEnd (a : Nat)
  /-- TRIP_LATCH_CLEAR (R158). Host write of 1 to a TRIP.LATCH bit clears it if its source is inactive. -/
  | tripLatchClear (host a bits : Nat)
  /-- SINK_ACTION (R379). A hardware sink acts on the tick after its routed events arrive. -/
  | sinkAction (sink : Nat)
  /-- CHANNEL_BOUNDARY (R167). Boundary of a chopper, discharge or aux channel applies staged period and compares. -/
  | channelBoundary (j : Nat)
  /-- LINK_FRAME_RECEIVED (R176). An island link frame is received and judged; three bad frames declare the lane lost. -/
  -- `words`: the eight 10-bit words; `checksOk`, `seqOk`: the words' check bits, the frame sequence; `lossFlag`: a word carries it.
  | linkFrameReceived (lane : Nat) (atCd : Bool) (words : List Nat) (checksOk seqOk lossFlag : Bool) (tel : Telemetry)
  /-- LINK_TIMEOUT (R176). No frame arrives for LINK_TIMEOUT and the lane is declared lost. -/
  | linkTimeout (lane : Nat) (atCd : Bool)
  /-- GI_SAFE_STATE_APPLY (R179). LINK_TIMEOUT + 2 µs after loss the GI applies the last received safe-state choice per axis. -/
  | giSafeStateApply (g : Nat)
  /-- CD_CONFIRM_OFF_ASSUMED (R178). LINK_TIMEOUT + 2 µs after declaring an Hn link lost the CD treats the high switch as confirmed off. -/
  | cdConfirmOffAssumed (n : Nat)
  /-- RETRAIN_START (R181). The CD starts to retrain a lost lane 10 µs after loss or 10 ms after a failed attempt. -/
  | retrainStart (lane : Nat)
  /-- RETRAIN_END (R181). A retraining attempt ends, restoring the lane or failing. -/
  | retrainEnd (lane : Nat) (ok : Bool)
  /-- ISLAND_COMMAND_WORD (R173). An island receives a downstream command field and acts on it. -/
  -- `checksOk`: the check bits of the field agree.
  | islandCommandWord (lane : Nat) (checksOk : Bool)
  /-- STATUS_WORD_RECEIVED (R175). A switch status change reaches the CD in an upstream status field. -/
  -- `checksOk`: the check bits of the field agree; `lossFlag`: it carries the loss flag (R177).
  | statusWordReceived (lane : Nat) (checksOk lossFlag : Bool)
  /-- INTERLOCK_RELEASE (R182). 40 ns after a confirmed-off status the held turn-on is sent. -/
  | interlockRelease (sw : Nat)
  /-- VGS_CONFIRM (R182). VGS has held beyond its confirm level for 5 ns and the switch is confirmed off or on. -/
  | vgsConfirm (sw : Nat) (on : Bool)
  /-- SEGMENT_END (R185). A gate-drive segment ends by time or VGS crossing and the next segment or hold starts. -/
  | segmentEnd (sw : Nat) (timeout : Bool)
  /-- GATE_MONITOR_TIMEOUT (R184). A switch is not confirmed within T_GM of its command; gate-monitor fault. -/
  | gateMonitorTimeout (sw : Nat)
  /-- SC_BLANK_END (R188). The short-circuit blanking time after a turn-on ends and comparison starts. -/
  | scBlankEnd (sw : Nat)
  /-- SHORT_DETECTED (R189). A sense level stays above threshold for SC_FILT; soft turn-off and SC indication. -/
  | shortDetected (sw : Nat)
  /-- OC_DETECTED (R190). A shunt signal crosses the OC threshold for 20 ns and becomes the OC trip source. -/
  | ocDetected (a p : Nat)
  /-- ISLAND_SUPPLY_CROSSING (R191). An island rail stays beyond a threshold for 1 µs; flag, fault and local reaction. -/
  | islandSupplyCrossing (isl mon : Nat) (beyond : Bool)
  /-- HON_LIMIT (R192). t_HON reaches t_HON_MAX and a bootstrap refresh is inserted at the next usable peak. -/
  | honLimit (n : Nat)
  /-- DIAG_PHASE_END (R194). The 6 ms test of one half-bridge ends and it is classified; the last ends the test. -/
  | diagPhaseEnd (a : Nat) (vk : Int) (ir var : Nat)
  /-- SUPPLY_FAULT (R44). A low-voltage rail or VCC_G leaves its operating range; supply fault reported. -/
  | supplyFault (rail : Nat)
  /-- VDD_IO_LOW (R45). VDD_IO falls below 3.0 V and no new preserve program starts. -/
  | vddIoLow
  /-- SEQ_DELAY_END (R208). A sequencer entry's delay ends and its conversions begin. -/
  | seqDelayEnd (k : Nat)
  /-- SEQ_WINDOW_WAIT_EXPIRY (R208). A WIN entry's window does not open within PWMk_PER ticks and the entry is skipped. -/
  | seqWindowWaitExpiry (k : Nat)
  /-- CONVERSION_RESULT (R209). A conversion result is ready and goes to the extractor, latest value or buffer. -/
  | conversionResult (k code : Nat) (urgent : Bool) (diff : Option Nat) (residue : Bool)
  /-- CALIBRATION_END (R205). Self-calibration ends and the converter enters PIPE, SLICE or FAILED. -/
  | calibrationEnd (k : Nat) (step1 : Bool) (diff : Nat) (words : List Word)
  /-- SEQUENCER_GO (R210). Write of ADC_CTRL.GO starts or stops a sequencer. -/
  | sequencerGo (host bits : Nat)
  /-- FORCE_SLICE (R204). Write of ADC_CMD.SLICE forces a converter into SLICE mode without fault. -/
  | forceSlice (host bits : Nat)
  /-- URGENT_REQUEST (R211). Write of ADCk_URG.REQ requests an urgent conversion. -/
  | urgentRequest (host k : Nat) (value : Word)
  /-- URGENT_ARRIVAL (R211). An urgent request reaches the converter and takes the next slot, or is lost. -/
  | urgentArrival (k : Nat)
  /-- LATEST_VALUE_UPDATE (R212). A latest value reaches ADCk_LATc over the GI lane. -/
  | latestValueUpdate (k c : Nat)
  /-- WINDOW_OPEN (R214). The extractor opens a phase window at the later of marker and SETTLE. -/
  | windowOpen (k p : Nat)
  /-- WINDOW_CLOSE (R214). The extractor closes a window and forms mean, minimum, maximum and N. -/
  | windowClose (k p : Nat)
  /-- WINDOW_RESULT_RECEIVED (R217). A window result reaches the assembler; a complete set is checked and delivered. -/
  | windowResultReceived (k p : Nat)
  /-- SAR_RESULT (R222). A SAR slot ends and its result is stored; reference checks are applied. -/
  | sarResult (sar v : Nat)
  /-- FIELD_STEP (R227). The field unit receives a current set, transforms it and runs the observer and source choice. -/
  | fieldStep (a : Nat)
  /-- SECTOR_CHANGE (R237). The block-commutation sector changes and a commutation event is issued. -/
  | sectorChange (a : Nat)
  /-- REACQ_TIMEOUT (R253). A re-acquisition attempt has not succeeded after 2 ms and fails. -/
  | reacqTimeout (a : Nat)
  /-- HALL_EDGE (R242). A filtered hall code change is counted, latched and timed. -/
  | hallEdge (a code : Nat)
  /-- HALL_TIMEOUT (R243). No hall edge arrives for POSa_TMO and the interval speed becomes invalid. -/
  | hallTimeout (a : Nat)
  /-- LPOS_READ (R244). A read of POSa_LPOS copies POSa_LTS into a holding register. -/
  | lposRead (a : Nat)
  /-- CE_STEP_START (R265). An engine step starts, samples async sources and agrees them. -/
  | ceStepStart (e : Nat) (skew : List (Nat × Int))
  /-- CE_CURRENT_SECTION (R265). A current section runs after i_d and i_q delivery and ends with the output checkpoint. -/
  | ceCurrentSection (a : Nat) (upset : Bool)
  /-- CE_STEP_END (R276). The last 80 cycles of a step exchange and compare the state CRCs and write capture records. -/
  | ceStepEnd (e : Nat) (upset : Bool) (useA useB : Nat)
  /-- STEP_OVERRUN (R267). The background or a current section has not finished in time; fault 0x0905. -/
  | stepOverrun (e : Nat)
  /-- LANE_TIMEOUT (R269). A host lane receives no SETPOINT for TMO and is lost. -/
  | laneTimeout (l : Nat)
  /-- CMDIN_EDGE (R271). A rising edge on a CMDIN input gives a new duty or frequency value. -/
  | cmdinEdge (d perA highA perB highB : Nat)
  /-- DECODER_LOSS (R271). No valid decoder value arrives for LOSS_T and loss is declared. -/
  | decoderLoss (e d : Nat)
  /-- PARAM_BLOCK_WRITE (R275). Write of CE_PBLK stages a parameter block for the commit point. -/
  | paramBlockWrite (host first count : Nat)
  /-- PARAM_BLOCK_TAKE_END (R275). The CE's take of a staged block ends and the block is applied or refused. -/
  | paramBlockTakeEnd
  /-- INJECTION_RUN (R285). Write of CE_INJg_CTL.RUN starts or stops a test-signal injection. -/
  | injectionRun (host g : Nat) (run : Bool)
  /-- AUX_CURRENT_TRIP (R293). The aux shunt voltage reaches the reference and the drive ends into decay. -/
  | auxCurrentTrip (x bridge peak : Nat)
  /-- AUX_OVERCURRENT (R294). The aux shunt voltage exceeds OC; every switch of the axis turns off and it enters FAULT. -/
  | auxOvercurrent (x bridge : Nat)
  /-- AUX_HON_LIMIT (R295). t_HON of an aux leg reaches its limit and the next period becomes a refresh period. -/
  | auxHonLimit (x leg : Nat)
  /-- AUX_BOOTSTRAP_LOW (R295). An aux bootstrap voltage stays below 8.0 V or 7.0 V for 1 µs. -/
  | auxBootstrapLow (x leg : Nat) (severe : Bool)
  /-- VAUX_UNDERVOLTAGE (R296). VAUX stays below 7.5 V for 1 µs and every aux switch turns off. -/
  | vauxUndervoltage (v : Nat)
  /-- AUX_SWITCH_CONFIRMED (R306). A limit or home switch level has held for DEB and is confirmed. -/
  | auxSwitchConfirmed (x sw : Nat)
  /-- HOLD_DELAY_END (R292). HOLD_DLY passes without motion and the coil current drops to I_HOLD. -/
  | holdDelayEnd (x : Nat)
  /-- AUX_TARGET (R303). Write of AUXx_TGT stages a target that is examined at the aux commit point. -/
  | auxTarget (host x : Nat) (target : Word)
  /-- HOME (R307). Write of AUXx_CMD.HOME starts the homing sequence. -/
  | home (host x : Nat)
  /-- AUX_DUTY (R309). Write of AUXx_DUTY sets the DC-mode duty reference. -/
  | auxDuty (host x : Nat) (duty : Word)
  /-- DCL_EVALUATION (R313). The DCL evaluates the link inputs, ladder, clamp and selector after a VDC update. -/
  | dclEvaluation (c : Nat)
  /-- VDC_STALE (R313). A link input is not updated for VDC_TMO and becomes stale. -/
  | vdcStale (c : Nat)
  /-- OV3_TRIP (R319). OVREF crosses the V_OV3 trip level; choppers are held on and the overvoltage demand is set. -/
  | ov3Trip
  /-- OV3_RELEASE (R55). The V_OV3 comparator releases 40 mV below its trip level. -/
  | ov3Release
  /-- OV3_PLAUSIBILITY_TIMER (R319). Comparator and ADC path disagree for 10 µs; fault 0x0B08. -/
  | ov3PlausibilityTimer
  /-- BCS_RESULT (R321). A tagged chopper current result is checked against the expected current. -/
  | bcsResult (i : Nat)
  /-- NO_FALL_TIMER (R321). T_FALL of full duty ends without a falling link voltage; NO_FALL mark. -/
  | noFallTimer (i : Nat)
  /-- CHOPPER_MARK_CLEAR (R321). Write of 1 to DCL_FLAGS.FAULTYi clears both marks of chopper i. -/
  | chopperMarkClear (host i : Nat)
  /-- FALLBACK_LEVEL_CROSS (R323). During lane loss the GI turns BCi on or off as OVREF crosses the fallback level. -/
  | fallbackLevelCross (i : Nat) (above : Bool)
  /-- DISCHARGE_GO (R325). Write of DCL_DISCH.GO starts an active discharge. -/
  | dischargeGo (host : Nat)
  /-- DISCHARGE_STOP (R325). Write of DCL_DISCH.STOP ends an active discharge. -/
  | dischargeStop (host : Nat)
  /-- DISCHARGE_PROBE_END (R326). A discharge probe ends and a channel running alone is judged. -/
  | dischargeProbeEnd
  /-- DISCHARGE_TARGET_TIMEOUT (R326). V_M is still at or above V_SAFE after TARGET; fault 0x0B24. -/
  | dischargeTargetTimeout
  /-- STO_INPUT_CHANGE (R332). An STO input changes level and its filter starts or STO ends. -/
  | stoInputChange (i : Nat) (high : Bool)
  /-- STO_FILTER_EXPIRY (R333). A low STO input has lasted STO_FILT and STO comes into effect. -/
  | stoFilterExpiry (i : Nat)
  /-- STO_DISCREPANCY (R336). One STO input has been low alone for STO_DISC; fault 0x0C02. -/
  | stoDiscrepancy
  /-- STO_PATH_TEST_START (R337). The STO path test starts at ARMED entry once every axis is IDLE. -/
  | stoPathTestStart
  /-- STO_PATH_TEST_PHASE_END (R337). A 2 µs STO field test of one channel ends and the island reports are judged. -/
  | stoPathTestPhaseEnd (ok : Bool)
  /-- STO_TEST_OVERDUE (R337). STO_T drive time reaches 8 h; fault 0x0C04. -/
  | stoTestOverdue
  /-- TORQUE_MONITOR_EVAL (R339). A synchronous SAR pair, sampled `ago` ticks ago, gives a torque estimate that is checked against
  demand and sensors. -/
  | torqueMonitorEval (a : Nat)
  /-- SBC_REL (R342). Write of SAFE_SBC_CTL.REL releases or applies the brake. -/
  | sbcRel (host : Nat) (rel : Bool)
  /-- BRAKE_APPLY_SPEED_REACHED (R342). Every axis falls below APPLY_SPEED and the brake pins fall. -/
  | brakeApplySpeedReached
  /-- SBC_TEST_WAIT_EXPIRY (R344). A brake test wait of T or T_REC runs out and the switch is judged. -/
  | sbcTestWaitExpiry
  /-- SBC_AUTO_TEST_START (R346). SBC_T reaches PERIOD with AUTO = 1 and the device starts a brake test. -/
  | sbcAutoTestStart
  /-- SBC_TEST_OVERDUE (R346). SBC_T reaches 8 h without a passing test; fault 0x0C23. -/
  | sbcTestOverdue
  /-- DEG_TIME_EXPIRED (R347). DEG_TIME ends in DEGRADED; fault 0x0C31 and the device enters SAFE. -/
  | degTimeExpired
  /-- SAFETY_WATCHDOG_EXPIRY (R354). A safety connection accepts no PDU for WD and is closed. -/
  | safetyWatchdogExpiry (c : Nat)
  /-- FAULT_REPORT (R360). A checker report reaches the Registrar and opens or updates a fault record. -/
  | faultReport (ext : List Report) (gone : List (Nat × Nat)) (poison : List Nat)
  /-- CAUSE_EXPIRY (R359). The 1 µs cause of an occurrence report ends, letting F1 records clear themselves. -/
  | causeExpiry (code : Nat)
  /-- REACTION_WINDOW_END (R363). The reaction window of an open F2 record ends and the Registrar escalates. -/
  | reactionWindowEnd (code : Nat)
  /-- COMPAT_RECOVERY_SCAN (R366). The 1 ms compatibility scan clears quiet records automatically. -/
  | compatRecoveryScan
  /-- RECOVERY_HOUR_END (R367). The powered hour ends and RECOV returns to 0. -/
  | recoveryHourEnd
  /-- RECOV_RST (R367). Write of FLT_CMD.RECOV_RST zeroes the recovery count. -/
  | recovRst (host : Nat)
  /-- LOGCLR (R374). Write of FLT_CMD.LOGCLR sets the log floor, emptying the log. -/
  | logclr (host : Nat)
  /-- FLT_LOOKUP (R358). Write of a code to FLT_LOOKUP returns its slot. -/
  | fltLookup (host code : Nat)
  /-- LOG_ENTRY_WRITTEN (R373). The Registrar's preserve port finishes writing a queued accession log entry. -/
  | logEntryWritten (ok : Bool)
  /-- INJECTION_END (R372). A fault injection ends after its length, detected or not. -/
  | injectionEnd
  /-- DOCENT_CHECK_IN (R370). The Docent checks in with the Registrar. -/
  | docentCheckIn
  /-- ALIVE_HALF_PERIOD (R370). A 500 µs half-period ends and ALIVE toggles only if all three conditions hold. -/
  | aliveHalfPeriod (selfOk : Bool)
  /-- DOCENT_STALL (R370). The Docent has not checked in for 2 ms; fault 0x0D05 and LOCKOUT. -/
  | docentStall
  /-- HLT_CLR (R376). Write of HLT_CLR zeroes the selected health monitors. -/
  | hltClr (host : Nat) (bits : Word)
  /-- HLT_CONFIG_WRITE (R376). Write of HLTm_CFG or HLTm_LO reconfigures and clears a monitor. -/
  | hltConfigWrite (host m : Nat) (lo : Bool) (value : Word)
  /-- EVENT_DELIVERY (R378). A routed lattice event reaches its host vector and sets pending or overrun. -/
  | eventDelivery
  /-- CAN_FRAME_RECEIVED (R389). A CAN frame is received without error and stored, queued as a port command, or dropped. -/
  | canFrameReceived (c id : Nat) (ide fdf brs esi remote : Bool) (dlc : Nat) (data : List Byte) (tec rec' : Nat)
  /-- CAN_FRAME_START (R393). At a frame start the controller picks the pending buffer or message that wins arbitration. -/
  | canFrameStart (c : Nat)
  /-- TRANSMIT_COMPLETE (R392). A sent frame is acknowledged and ends without error. -/
  | transmitComplete (c tec rec' tdc : Nat)
  /-- CAN_ERROR (R387). The controller detects a bus error; counters change or the restricted timer restarts. -/
  | canError (c lec tec rec' : Nat) (tdc : Option Nat)
  /-- INTEGRATION_COMPLETE (R385). 11 consecutive recessive bits end integration and the controller enters RESTRICTED. -/
  | integrationComplete (c : Nat)
  /-- RESTRICTED_TIMER (R386). RESTR_TIME passes; the controller enters ACTIVE if enough frames were received. -/
  | restrictedTimer (c : Nat)
  /-- RESTRICTION_PROLONGED (R386). The controller is still restricted after 10 × RESTR_TIME; fault raised once. -/
  | restrictionProlonged (c : Nat)
  /-- BUS_OFF_WAIT_END (R387). BO_WAIT ends with BO_AUTO = 1 and the controller enters RECOVERING. -/
  | busOffWaitEnd (c : Nat)
  /-- RECOVERY_COMPLETE (R387). 128 recessive sequences end recovery and the controller enters RESTRICTED. -/
  | recoveryComplete (c : Nat)
  /-- BOCNT_RESET_TIMER (R387). 1 s of continuous ACTIVE or PASSIVE returns BOCNT to 0. -/
  | bocntResetTimer (c : Nat)
  /-- CAN_STOP (R388). Write of CANc_CMD.STOP takes the controller to STOPPED. -/
  | canStop (host c : Nat)
  /-- CAN_RECOVER (R388). Write of CANc_CMD.RECOVER starts recovery from BUS_OFF or STOPPED. -/
  | canRecover (host c : Nat)
  /-- TX_REQUEST (R392). Write of 1 to CANc_TXREQ makes a transmit buffer pending. -/
  | txRequest (host c : Nat) (bits : Word)
  /-- TX_CANCEL (R394). Write of 1 to CANc_TXCAN cancels a transmit buffer. -/
  | txCancel (host c : Nat) (bits : Word)
  /-- OBJECT_HEADER_READ (R390). A read of CANc_OBJi_HDR copies the object into the host's shadow and clears NEW. -/
  | objectHeaderRead (host c i : Nat)
  /-- OBJECT_TIMEOUT (R391). A receive object stores no frame for TMO; object-timeout fault. -/
  | objectTimeout (c i : Nat)
  /-- TAMPER_ALARM (R409). A tamper source is detected; the key store clears and the seed may be erased. -/
  | tamperAlarm (k : Nat)
  /-- SEC_TAMPER_CLEAR (R411). Write of 1 to a SEC_TAMPER bit clears it in SERVICE. -/
  | secTamperClear (host : Nat) (bits : Word)
  /-- PROV_KEYHASH (R404). Test-port instruction that programs the image-key hash once. -/
  | provKeyhash (hash : List Byte)
  /-- PROV_POLICY (R404). Test-port instruction that programs the tamper policy once. -/
  | provPolicy (policy : Byte)
  /-- PROV_IDENT (R404). Test-port instruction that generates and stores the identity seed. -/
  | provIdent (entropyOk : Bool) (seed : List Byte)
  /-- PROV_LOCK (R404). Test-port instruction that blows the provisioning lock. -/
  | provLock
  /-- EXTEST (R413). Boundary-scan EXTEST instruction. `cells` are shifted in; `levels` are those that the board gives the pins, cell by
  cell, which matter where the device does not drive the pin. -/
  | extest (cells levels : List Bool)
  /-- SAMPLE_PRELOAD (R413). Boundary-scan SAMPLE/PRELOAD instruction; operands as of EXTEST. -/
  | samplePreload (cells levels : List Bool)
  /-- IDCODE (R412). Boundary-scan IDCODE instruction; reads 0x1941_2A5B. With `trst` it is selected by a low pulse on `nTRST` (R48, R413). -/
  | idcode (trst : Bool)
  /-- CLAMP (R413). Boundary-scan CLAMP instruction. -/
  | clamp
  /-- HIGHZ (R413). Boundary-scan HIGHZ instruction. -/
  | highz
  /-- BYPASS (R413). Test-port BYPASS instruction, also taken by unlisted codes. -/
  | bypass
  /-- SCAN (R413). Scan instruction, accepted only with TEST_MODE high. -/
  | scan
  /-- DBG_CHAL (R414). Test-port instruction that shifts out a new debug challenge. -/
  | dbgChal (entropyOk : Bool) (rnd : List Byte)
  /-- DBG_RESP (R414). Test-port instruction that shifts in a signed unlock response. -/
  | dbgResp (key sig : List Byte)
  /-- DBG_RESP_VERIFIED (R414). Verification of an unlock response ends and debug opens or a tamper alarm is raised. -/
  | dbgRespVerified
  /-- DBG_ACCESS (R415). Test-port register and SRAM access after unlock. -/
  | dbgAccess (write : Bool) (addr : Nat) (value : Word)
  /-- BIST_UNIT_COMPLETE (R418). A BIST unit's test and reinitialisation end and its result is recorded. -/
  | bistUnitComplete (out : BistOut)
  /-- REPAIR_PROGRAM_END (R422). Programming and verification of repair fuse entries ends. -/
  | repairProgramEnd (ok : Bool) (n : Nat)
  /-- ATTEST_SIGNATURE_COMPLETE (R407). The attestation signature is complete and the completion is written. -/
  | attestSignatureComplete
  /-- SENSOR_DEMAND (R427). The Docent's periodic INT demand of a temperature sensor falls due. -/
  | sensorDemand (sensor : Nat)
  /-- SENSOR_CONVERSION_END (R431). A temperature conversion ends and the source's level is evaluated. -/
  | sensorConversionEnd (sensor : Nat) (temp : Option Int)
  /-- THROTTLE_INTERVAL (R432). An axis throttle timer reaches THROT_INTERVAL and n_a steps up or down. -/
  | throttleInterval (a : Nat)
  /-- PRESERVE_TURN_START (R435). A preserve write reaches its turn on the lane and is judged and programmed. -/
  | preserveTurnStart
  /-- PRESERVE_PROGRAM_END (R435). A word program ends and is verified, retried or completed with CRC. `log`: on the Registrar's port
  (R445), else on the lane. -/
  | preserveProgramEnd (log ok : Bool)
  /-- REGISTER_WRITE (R4). A host write to a register with no row of its own takes effect under its access code. -/
  | registerWrite (host addr : Nat) (value : Word)
  /-- UNKNOWN_OPCODE_FRAME (R97). A host frame whose opcode byte names no defined opcode is checked and answered with UNKNOWN or an earlier failing status. -/
  | unknownOpcodeFrame (op : Byte) (f : Frame)
  /-- IMG_WRITE_END (R89). The flash erase, program and read-back of an IMG_WRITE end and its completion record is written with OK or CRC and fault 0x0203. -/
  | imgWriteEnd (ok : Bool)
  /-- IMG_VERIFY_END (R89). Checks 1–14 on the uncommitted slot end and the IMG_VERIFY completion is written, with the result in IMG_RES_A or IMG_RES_B and the SIGFAIL count updated. -/
  | imgVerifyEnd (profileOk : Bool) (body : List Byte) (namesCd usesAux strobeOk : Bool) (sig : List Byte)
  /-- SWITCH_RAW_TRANSITION (R306). A raw transition on LIMx_N, LIMx_P or HOMEx records the interpolated position and starts the DEB confirmation time. -/
  | switchRawTransition (x sw : Nat) (level : Bool)
  /-- SUPPLY_RETURN (R44). A low-voltage rail or VCC_G returns into its operating range and the cause of its supply fault ends. -/
  | supplyReturn (rail : Nat)
  /-- VAUX_RETURN (R296). VAUX counts as returned above 8.0 V and the cause of fault 0x0A20 ends, letting the aux axes leave FAULT once cleared. -/
  | vauxReturn (v : Nat)
  /-- AUX_BOOTSTRAP_RELEASE (R295). An aux bootstrap voltage rises 0.3 V above its 8.0 V or 7.0 V level, ending the refresh demand or the cause of fault c = 0x3. -/
  | auxBootstrapRelease (x leg : Nat) (severe : Bool)
  /-- DELAY_LINE_CAL_RETURN (R131). The delay-line calibration returns within ±40 ps, fractional compares are used again and the cause of fault 0x0309 ends. -/
  | delayLineCalReturn
  /-- SBC_SETTLE_END (R343). The brake switches have stayed in one state for T_SETTLE, RELEASED is updated and feedback supervision of that state begins. -/
  | sbcSettleEnd
  deriving DecidableEq, Repr

end Sys2Proof
end

