-- ==== Sys2Proof/Decode.lean ====
section
/-! DEFINITION. Commands from words of the table: no row of it gives bits, so no word spells a command (log entry 1). The bytes of
host frames are read in Machine/Requests.lean. -/

namespace Sys2Proof

/-- The command that a word spells by the bits of the table. -/
def decodeTableWord (_nbits _w : Nat) : Option Instr := none

end Sys2Proof
end

