-- ==== Sys2Proof/Config.lean ====
section
/-! DEFINITION. What an implementation fixes and the spec leaves open: free values without a body. Nothing in Lean can
evaluate them, so a statement holds for every value of them. -/

namespace Sys2Proof

/-- A value the spec leaves open at the place `site`, for the `n`-th time it is asked for. Log entry 7. -/
opaque Config.freeNat (site n : Nat) : Nat

/-- A value the spec leaves open as a function of operands at the place `site`. Log entry 7. -/
opaque Config.freeFun (site : Nat) (args : List Int) : Int

/-- Which way a quotient that is no whole number is rounded where the spec names no rounding. Log entry 8. -/
opaque Config.roundUp (site : Nat) (num : Int) (den : Nat) : Bool

end Sys2Proof
end

