-- ==== Sys2Proof/Machine/Bits.lean ====
section
/-! DEFINITION. Bit fields, byte order, saturating counts, fixed tables and the CRCs of the spec
(R95 CRC-32C, R350 the safety PDU CRC): the helpers every family of commands uses. -/

namespace Sys2Proof.Machine

/-- Bits `lo + width - 1` to `lo` of a register, as a number. -/
def fget (v : Word) (lo width : Nat) : Nat := v.toNat / 2 ^ lo % 2 ^ width

/-- The mask of the `width` bits from `lo` up. -/
def fmask (lo width : Nat) : Nat := (2 ^ width - 1) * 2 ^ lo

/-- A register with bits `lo + width - 1` to `lo` replaced by `x` (its low `width` bits). -/
def fset (v : Word) (lo width x : Nat) : Word :=
  BitVec.ofNat 32 (v.toNat % 2 ^ lo + x % 2 ^ width * 2 ^ lo + v.toNat / 2 ^ (lo + width) * 2 ^ (lo + width))

/-- Bit `i` of a register. -/
def bget (v : Word) (i : Nat) : Bool := v.getLsbD i

/-- A register with bit `i` set to `b`. -/
def bset (v : Word) (i : Nat) (b : Bool) : Word := fset v i 1 b.toNat

/-- The value of `n` as a two's complement number of `width` bits. -/
def toSigned (width n : Nat) : Int :=
  if 2 * (n % 2 ^ width) < 2 ^ width then ((n % 2 ^ width : Nat) : Int) else ((n % 2 ^ width : Nat) : Int) - (2 ^ width : Nat)

/-- The low `width` bits of an integer, two's complement. -/
def fromSigned (width : Nat) (i : Int) : Nat := (i % (2 ^ width : Nat)).toNat

/-- A register as a signed number. -/
def sword (v : Word) : Int := toSigned 32 v.toNat

/-- The register that holds a signed number, modulo 2^32. -/
def wordOfInt (i : Int) : Word := BitVec.ofNat 32 (fromSigned 32 i)

/-- A signed number limited to `lo` … `hi`. -/
def clampInt (lo hi i : Int) : Int := if i < lo then lo else if hi < i then hi else i

/-- A signed number limited to the 32-bit range, as a register. -/
def satWord (i : Int) : Word := wordOfInt (clampInt (-2147483648) 2147483647 i)

/-- One more, saturating at `top`. -/
def satInc (n top : Nat) : Nat := if n < top then n + 1 else top

/-- Bytes read most significant byte first. -/
def beNat : List Byte → Nat
  | [] => 0
  | b :: bs => b.toNat * 256 ^ bs.length + beNat bs

/-- The `k` bytes of `n`, most significant byte first. -/
def beBytes : Nat → Nat → List Byte
  | 0, _ => []
  | k + 1, n => BitVec.ofNat 8 (n / 256 ^ k) :: beBytes k n

/-- The bytes `i` to `i + k - 1` of a list, as a number, most significant first. -/
def beAt (bs : List Byte) (i k : Nat) : Nat := beNat ((bs.drop i).take k)

/-- Element `i` of a fixed table; a default outside it (never asked for by a well-formed command). -/
def tget {α : Type} [Inhabited α] {n : Nat} (v : Vector α n) (i : Nat) : α :=
  if h : i < n then v[i] else default

/-- A fixed table with element `i` changed by `f`; unchanged when there is no element `i`. -/
def tmod {α : Type} {n : Nat} (v : Vector α n) (i : Nat) (f : α → α) : Vector α n :=
  if h : i < n then v.set i (f v[i]) h else v

/-- A fixed table with element `i` replaced. -/
def tset {α : Type} {n : Nat} (v : Vector α n) (i : Nat) (x : α) : Vector α n := tmod v i (fun _ => x)

/-- Element `i` of a list, or the default. -/
def lget {α : Type} [Inhabited α] (l : List α) (i : Nat) : α := l.getD i default

/-- `true` at least `k` times. -/
def countTrue (l : List Bool) : Nat := (l.filter id).length

/-- One bit of a reflected CRC-32 step with the reflected polynomial `poly`. -/
def crcBit (poly : Word) (c : Word) : Word := if c.getLsbD 0 then (c >>> 1) ^^^ poly else c >>> 1

/-- `k` bits of a reflected CRC. -/
def crcBits (poly : Word) : Nat → Word → Word
  | 0, c => c
  | k + 1, c => crcBits poly k (crcBit poly c)

/-- A reflected CRC over bytes from the register value `c`. -/
def crcRun (poly : Word) : Word → List Byte → Word
  | c, [] => c
  | c, b :: bs => crcRun poly (crcBits poly 8 (c ^^^ (b.setWidth 32))) bs

/-- CRC-32C of R95: polynomial 0x1EDC_6F41 (0x82F6_3B78 reflected), initial value and final XOR 0xFFFF_FFFF. -/
def crc32c (bs : List Byte) : Word := crcRun 0x82F63B78#32 0xFFFFFFFF#32 bs ^^^ 0xFFFFFFFF#32

/-- One bit of the frame CRC-8 of R173 (polynomial 0x2F, no reflection) on the register value `c`. -/
def crc8Bit (c : Nat) (b : Bool) : Nat :=
  if decide (128 ≤ c) == b then c * 2 % 256 else Nat.xor (c * 2 % 256) 0x2F

/-- The frame CRC-8 over bits, the first one first: initial value and final XOR 0xFF (R173). -/
def crc8 (bits : List Bool) : Nat := Nat.xor (bits.foldl crc8Bit 0xFF) 0xFF

/-- The low `w` bits of a number, most significant first. -/
def msbFirst : Nat → Nat → List Bool
  | 0, _ => []
  | w + 1, n => (n / 2 ^ w % 2 == 1) :: msbFirst w n

/-- The check of a link frame of eight 10-bit words (R172): CRC-8 over the 72 bits before the low 8 bits of word 7, each word from its
most significant bit on (log entry 112). -/
def frameCrcOk (words : List Nat) : Bool :=
  crc8 ((words.flatMap (msbFirst 10)).take 72) == words.getD 7 0 % 256

/-- The safety PDU CRC of R350: polynomial 0xF4AC_FB13 (0xC8DF_352F reflected). -/
def crcPdu (bs : List Byte) : Word := crcRun 0xC8DF352F#32 0xFFFFFFFF#32 bs ^^^ 0xFFFFFFFF#32

end Sys2Proof.Machine
end

