-- ==== Sys2Proof/Machine/FltCodes.lean ====
section
/-! DEFINITION. The fault codes of the device, their Registrar slots and default classes (R442, and the fault table of
each chapter: R139, R170, R183, R196, R224, R256, R288, R310, R327, R356, R380, R399, R423, R437; R112, R106, R74). -/

namespace Sys2Proof.Machine

/-- What the fault class map may do with a code (R361): anything, not lower it, not change it, or only raise it to F3
(0x0543 + 0x10 n, R183). -/
inductive ClassRule where
  | free | notBelow | fixed
  deriving DecidableEq, Repr, Inhabited

/-- A run of codes in rising order: `reps` groups `stride` apart, each with the codes `first`, `first + 1`, …,
one per listed default class. -/
structure FaultRun where
  first : Nat
  stride : Nat
  reps : Nat
  classes : List (Nat × ClassRule)
  deriving DecidableEq, Repr

/-- Codes of free class. -/
def freeClasses (l : List Nat) : List (Nat × ClassRule) := l.map (fun c => (c, .free))

/-- Every fault code of the device in rising order (R442). -/
def faultRuns : List FaultRun := [
  ⟨0x0001, 0, 1, [(4, .fixed), (4, .fixed)]⟩,
  ⟨0x0010, 0, 1, freeClasses [1, 3]⟩,
  ⟨0x0020, 0, 1, freeClasses [3, 3, 3, 3, 3]⟩,
  ⟨0x0110, 0, 1, freeClasses [2, 2, 2, 2]⟩,
  ⟨0x0140, 0, 1, [(3, .fixed)]⟩,
  ⟨0x0201, 0, 1, [(1, .free), (4, .fixed), (1, .free)]⟩,
  ⟨0x0210, 0, 1, [(2, .notBelow), (0, .free), (2, .free), (4, .fixed), (1, .free)]⟩,
  ⟨0x0301, 0, 1, freeClasses [1, 1, 3, 3, 3, 3, 1, 1, 3, 2, 2]⟩,
  ⟨0x0401, 0x10, 4, freeClasses [1, 3, 0, 1, 3, 0]⟩,
  ⟨0x0480, 0, 1, freeClasses [3, 3, 3, 3, 3, 3]⟩,
  ⟨0x0501, 0, 1, freeClasses [3, 3, 3, 3, 0, 3, 3, 1, 1, 3, 0]⟩,
  ⟨0x0540, 0x10, 12, [(3, .free), (3, .free), (1, .free), (2, .notBelow), (3, .free), (0, .free), (3, .free), (3, .free),
    (3, .free), (0, .free), (0, .free), (3, .free), (0, .free), (1, .free), (3, .free)]⟩,
  ⟨0x0601, 0x10, 4, freeClasses [2, 3, 3, 0, 2, 2, 0, 0]⟩,
  ⟨0x0641, 0, 1, freeClasses [3, 3]⟩,
  ⟨0x0701, 0x10, 4, [(1, .free), (3, .notBelow), (2, .free), (0, .free), (3, .free)]⟩,
  ⟨0x0901, 0, 1, [(3, .notBelow), (3, .notBelow), (2, .free), (2, .free), (3, .notBelow), (2, .free), (2, .free),
    (1, .free), (3, .free), (0, .free)]⟩,
  ⟨0x0940, 0, 1, freeClasses [2, 2, 2, 2, 2, 2, 2, 2]⟩,
  ⟨0x0A01, 0x10, 2, freeClasses [2, 1, 1, 0, 1, 1, 0]⟩,
  ⟨0x0A20, 0, 1, freeClasses [2]⟩,
  ⟨0x0B01, 0, 1, freeClasses [2, 2, 2, 3, 0, 1, 3, 2, 1]⟩,
  ⟨0x0B11, 8, 2, freeClasses [1, 1, 3, 0]⟩,
  ⟨0x0B21, 0, 1, freeClasses [1, 1, 3, 2]⟩,
  ⟨0x0C01, 0, 1, freeClasses [1, 3, 3, 1]⟩,
  ⟨0x0C10, 0, 1, [(3, .notBelow), (3, .notBelow), (3, .notBelow), (3, .notBelow), (2, .free), (2, .free), (2, .free),
    (2, .free)]⟩,
  ⟨0x0C20, 0, 1, freeClasses [2, 2, 2, 1]⟩,
  ⟨0x0C30, 0, 1, [(0, .free), (3, .fixed)]⟩,
  ⟨0x0C40, 0, 1, freeClasses [2, 2, 2, 2, 2, 2, 2, 2]⟩,
  ⟨0x0D01, 0, 1, [(4, .fixed), (1, .free), (1, .free), (3, .free), (4, .fixed), (0, .free)]⟩,
  ⟨0x0E01, 0x10, 3, freeClasses [1, 0, 2, 0, 2, 0, 2, 1]⟩,
  ⟨0x0F01, 0, 1, [(3, .free), (1, .free), (4, .fixed), (2, .free)]⟩,
  ⟨0x1001, 0, 1, freeClasses [0, 1, 3, 2]⟩,
  ⟨0x1101, 0, 1, freeClasses [0, 1, 2]⟩]

/-- The number of codes of a run. -/
def FaultRun.count (r : FaultRun) : Nat := r.reps * r.classes.length

/-- The place of a code within a run. -/
def FaultRun.index (r : FaultRun) (code : Nat) : Option Nat :=
  if code < r.first then none else
  let k := if r.stride = 0 then 0 else (code - r.first) / r.stride
  let i := code - r.first - k * r.stride
  if k < r.reps ∧ i < r.classes.length then some (k * r.classes.length + i) else none

/-- The slot of a code, counting the runs from slot `base` on. -/
def slotIn : List FaultRun → Nat → Nat → Option Nat
  | [], _, _ => none
  | r :: rs, base, code =>
    match r.index code with
    | some i => some (base + i)
    | none => slotIn rs (base + r.count) code

/-- The Registrar slot of a fault code (R358, R442); `none` for a code the device does not define (R443). -/
def slotOf (code : Nat) : Option Nat := slotIn faultRuns 0 code

/-- The code of a slot, its default class and its rule, counting the runs from slot `base` on. -/
def codeIn : List FaultRun → Nat → Option (Nat × Nat × ClassRule)
  | [], _ => none
  | r :: rs, slot =>
    if slot < r.count then
      let k := slot / r.classes.length
      let i := slot % r.classes.length
      let c := r.classes.getD i (0, .free)
      some (r.first + k * r.stride + i, c.1, c.2)
    else codeIn rs (slot - r.count)

/-- The code, default class and class rule of a slot; `none` for the unused slots 429–511 (R443). -/
def codeOf (slot : Nat) : Option (Nat × Nat × ClassRule) := codeIn faultRuns slot

/-- The default class of a slot; 0 for an unused slot. -/
def defaultClass (slot : Nat) : Nat :=
  match codeOf slot with
  | some (_, c, _) => c
  | none => 0

end Sys2Proof.Machine
end

