-- ==== Sys2Proof/Machine/RegMap.lean ====
section
/-! DEFINITION. The register map (R438): the address of every register and one row per register table line of
spec/, with its access code (R4), its Reset value (R5), the bits a write changes (reserved bits are written 0 and
read 0, R6) and the ranges its fields are limited to (check 15 of R81). -/

namespace Sys2Proof.Machine

/-- Access codes of R4. -/
inductive Access where
  | ro | rw | w1c | wo | rws | rwl | prs
  deriving DecidableEq, Repr

/-- A limit on one field: bits `lo` to `lo + width - 1` hold a value from `min` to `max`. -/
structure FieldLim where
  lo : Nat
  width : Nat
  min : Nat
  max : Nat
  deriving DecidableEq, Repr

/-- One line of a register table: the registers `base + i * stride + …` for the dimensions `dims` (count, stride),
widest stride first. `wmask` are the bits a write sets, `cmask` the bits that writing 1 clears, `image` says that the
structure image loads it. -/
structure RegRow where
  name : String
  base : Nat
  dims : List (Nat × Nat)
  access : Access
  reset : Nat
  wmask : Nat
  cmask : Nat
  image : Bool
  lims : List FieldLim
  deriving DecidableEq, Repr

/-- `SYS_ID`, RO. -/
def Reg.SYS_ID : Nat := 0x000000
/-- `SYS_STATE`, RO. -/
def Reg.SYS_STATE : Nat := 0x000004
/-- `SYS_AXSTATE`, RO. -/
def Reg.SYS_AXSTATE : Nat := 0x000008
/-- `IMG_STATUS`, RO. -/
def Reg.IMG_STATUS : Nat := 0x020000
/-- `IMG_CAUSE`, RO. -/
def Reg.IMG_CAUSE : Nat := 0x020004
/-- `IMG_ACTIVE`, RO. -/
def Reg.IMG_ACTIVE : Nat := 0x020008
/-- `IMG_VERSION`, RO. -/
def Reg.IMG_VERSION : Nat := 0x02000C
/-- `IMG_ARB`, RO. -/
def Reg.IMG_ARB : Nat := 0x020010
/-- `IMG_RES_A`, RO. -/
def Reg.IMG_RES_A : Nat := 0x020014
/-- `IMG_RES_B`, RO. -/
def Reg.IMG_RES_B : Nat := 0x020018
/-- `IMG_READY_T`, RO. -/
def Reg.IMG_READY_T : Nat := 0x02001C
/-- `HOSTh_TEN`, RO. -/
def Reg.HOST_TEN (h : Nat) : Nat := 0x010000 + h * 0x100
/-- `HOSTh_TKT`, RO. -/
def Reg.HOST_TKT (h : Nat) : Nat := 0x010004 + h * 0x100
/-- `HOSTh_CQ`, RO. -/
def Reg.HOST_CQ (h : Nat) : Nat := 0x010008 + h * 0x100
/-- `HOSTh_IRQ`, W1C. -/
def Reg.HOST_IRQ (h : Nat) : Nat := 0x01000C + h * 0x100
/-- `HOSTh_IRQEN`, RW. -/
def Reg.HOST_IRQEN (h : Nat) : Nat := 0x010010 + h * 0x100
/-- `HOSTh_HB`, RO. -/
def Reg.HOST_HB (h : Nat) : Nat := 0x010014 + h * 0x100
/-- `HOSTh_ERR`, RO. -/
def Reg.HOST_ERR (h : Nat) : Nat := 0x010018 + h * 0x100
/-- `HOSTh_ERRCLR`, WO. -/
def Reg.HOST_ERRCLR (h : Nat) : Nat := 0x01001C + h * 0x100
/-- `HOST_OWN`, RO. -/
def Reg.HOST_OWN : Nat := 0x010400
/-- `HOST_OFFER`, RO. -/
def Reg.HOST_OFFER : Nat := 0x010404
/-- `HOST_POOL`, RO. -/
def Reg.HOST_POOL : Nat := 0x010408
/-- `CLK_STATUS`, RO. -/
def Reg.CLK_STATUS : Nat := 0x030000
/-- `CLK_CFG`, RWL. -/
def Reg.CLK_CFG : Nat := 0x030004
/-- `CLK_CMD`, WO. -/
def Reg.CLK_CMD : Nat := 0x030008
/-- `CLK_TBPER`, RWL. -/
def Reg.CLK_TBPER : Nat := 0x03000C
/-- `CLK_SYNCOFS`, RWL. -/
def Reg.CLK_SYNCOFS : Nat := 0x030010
/-- `CLK_SYNCLIM`, RWL. -/
def Reg.CLK_SYNCLIM : Nat := 0x030014
/-- `CLK_SYNCCAP`, RO. -/
def Reg.CLK_SYNCCAP : Nat := 0x030018
/-- `CLK_SYNCCNT`, RO. -/
def Reg.CLK_SYNCCNT : Nat := 0x03001C
/-- `CLK_PHASE`, RO. -/
def Reg.CLK_PHASE : Nat := 0x030020
/-- `PWMa_CFG`, RWL. -/
def Reg.PWM_CFG (a : Nat) : Nat := 0x040000 + a * 0x1000
/-- `PWMa_PER`, RWS. -/
def Reg.PWM_PER (a : Nat) : Nat := 0x040004 + a * 0x1000
/-- `PWMa_PHS`, RWL. -/
def Reg.PWM_PHS (a : Nat) : Nat := 0x040008 + a * 0x1000
/-- `PWMa_DT`, RWS. -/
def Reg.PWM_DT (a : Nat) : Nat := 0x04000C + a * 0x1000
/-- `PWMa_BLK`, RWS. -/
def Reg.PWM_BLK (a : Nat) : Nat := 0x040010 + a * 0x1000
/-- `PWMa_WIN`, RWS. -/
def Reg.PWM_WIN (a : Nat) : Nat := 0x040014 + a * 0x1000
/-- `PWMa_CMPpU`, RWS. -/
def Reg.PWM_CMPU (a p : Nat) : Nat := 0x040020 + a * 0x1000 + p * 0x8
/-- `PWMa_CMPpD`, RWS. -/
def Reg.PWM_CMPD (a p : Nat) : Nat := 0x040024 + a * 0x1000 + p * 0x8
/-- `PWMa_NCMPpU`, RWS. -/
def Reg.PWM_NCMPU (a p : Nat) : Nat := 0x040040 + a * 0x1000 + p * 0x8
/-- `PWMa_NCMPpD`, RWS. -/
def Reg.PWM_NCMPD (a p : Nat) : Nat := 0x040044 + a * 0x1000 + p * 0x8
/-- `PWMa_MASKi`, RWS. -/
def Reg.PWM_MASK (a i : Nat) : Nat := 0x040060 + a * 0x1000 + i * 0x4
/-- `PWMa_TRIPCFG`, RWL. -/
def Reg.PWM_TRIPCFG (a : Nat) : Nat := 0x040080 + a * 0x1000
/-- `PWMa_TRIP`, W1C. -/
def Reg.PWM_TRIP (a : Nat) : Nat := 0x040084 + a * 0x1000
/-- `PWMa_STAT`, RO. -/
def Reg.PWM_STAT (a : Nat) : Nat := 0x040088 + a * 0x1000
/-- `PWMa_FLAGS`, W1C. -/
def Reg.PWM_FLAGS (a : Nat) : Nat := 0x04008C + a * 0x1000
/-- `PWMa_CNT`, RO. -/
def Reg.PWM_CNT (a : Nat) : Nat := 0x040090 + a * 0x1000
/-- `PWM_Cj_PER`, RWS. -/
def Reg.PWM_C_PER (j : Nat) : Nat := 0x048000 + j * 0x100
/-- `PWM_Cj_CMP0`, RO. -/
def Reg.PWM_C_CMP0 (j : Nat) : Nat := 0x048004 + j * 0x100
/-- `PWM_Cj_CMP1`, RO. -/
def Reg.PWM_C_CMP1 (j : Nat) : Nat := 0x048008 + j * 0x100
/-- `PWM_Cj_MIN`, RWL. -/
def Reg.PWM_C_MIN (j : Nat) : Nat := 0x04800C + j * 0x100
/-- `PWM_Cj_DT`, RWL. -/
def Reg.PWM_C_DT (j : Nat) : Nat := 0x048010 + j * 0x100
/-- `PWM_Cj_STAT`, RO. -/
def Reg.PWM_C_STAT (j : Nat) : Nat := 0x048014 + j * 0x100
/-- `ISL_GI_CFG`, RWL. -/
def Reg.ISL_GI_CFG : Nat := 0x050000
/-- `ISL_GI_STAT`, RO. -/
def Reg.ISL_GI_STAT : Nat := 0x050004
/-- `ISL_GI_SAFE`, RO. -/
def Reg.ISL_GI_SAFE : Nat := 0x050008
/-- `ISL_GI_SUP`, RWL. -/
def Reg.ISL_GI_SUP : Nat := 0x05000C
/-- `ISL_GI_SUP2`, RWL. -/
def Reg.ISL_GI_SUP2 : Nat := 0x050010
/-- `ISL_GI_TEL`, RO. -/
def Reg.ISL_GI_TEL : Nat := 0x050014
/-- `ISL_GI_LINK`, RO. -/
def Reg.ISL_GI_LINK : Nat := 0x050018
/-- `ISL_GI_OCa`, RWL. -/
def Reg.ISL_GI_OC (a : Nat) : Nat := 0x050020 + a * 0x4
/-- `ISL_GI_DIAGa`, RO. -/
def Reg.ISL_GI_DIAG (a : Nat) : Nat := 0x050030 + a * 0x4
/-- `ISL_GCc_SEGi`, RWL. -/
def Reg.ISL_GC_SEG (c i : Nat) : Nat := 0x050100 + c * 0x40 + i * 0x4
/-- `ISL_GCc_DRV`, RWL. -/
def Reg.ISL_GC_DRV (c : Nat) : Nat := 0x050130 + c * 0x40
/-- `ISL_GCc_SC`, RWL. -/
def Reg.ISL_GC_SC (c : Nat) : Nat := 0x050134 + c * 0x40
/-- `ISL_GCc_STAT`, RO. -/
def Reg.ISL_GC_STAT (c : Nat) : Nat := 0x050138 + c * 0x40
/-- `ISL_GCc_FLAGS`, W1C. -/
def Reg.ISL_GC_FLAGS (c : Nat) : Nat := 0x05013C + c * 0x40
/-- `ISL_Hn_SEGi`, RWL. -/
def Reg.ISL_H_SEG (n i : Nat) : Nat := 0x050800 + n * 0x800 + i * 0x4
/-- `ISL_Hn_DRV`, RWL. -/
def Reg.ISL_H_DRV (n : Nat) : Nat := 0x050830 + n * 0x800
/-- `ISL_Hn_SC`, RWL. -/
def Reg.ISL_H_SC (n : Nat) : Nat := 0x050834 + n * 0x800
/-- `ISL_Hn_SUP`, RWL. -/
def Reg.ISL_H_SUP (n : Nat) : Nat := 0x050838 + n * 0x800
/-- `ISL_Hn_SUP2`, RWL. -/
def Reg.ISL_H_SUP2 (n : Nat) : Nat := 0x05083C + n * 0x800
/-- `ISL_Hn_BST`, RWL. -/
def Reg.ISL_H_BST (n : Nat) : Nat := 0x050840 + n * 0x800
/-- `ISL_Hn_STAT`, RO. -/
def Reg.ISL_H_STAT (n : Nat) : Nat := 0x050844 + n * 0x800
/-- `ISL_Hn_TEL`, RO. -/
def Reg.ISL_H_TEL (n : Nat) : Nat := 0x050848 + n * 0x800
/-- `ISL_Hn_ILK`, RO. -/
def Reg.ISL_H_ILK (n : Nat) : Nat := 0x05084C + n * 0x800
/-- `ISL_Hn_LINK`, RO. -/
def Reg.ISL_H_LINK (n : Nat) : Nat := 0x050850 + n * 0x800
/-- `ISL_Hn_FLAGS`, W1C. -/
def Reg.ISL_H_FLAGS (n : Nat) : Nat := 0x050854 + n * 0x800
/-- `ADCk_CFG`, RWL. -/
def Reg.ADC_CFG (k : Nat) : Nat := 0x060000 + k * 0x400
/-- `ADCk_SEQLEN`, RWL. -/
def Reg.ADC_SEQLEN (k : Nat) : Nat := 0x060004 + k * 0x400
/-- `ADCk_URG`, RW. -/
def Reg.ADC_URG (k : Nat) : Nat := 0x060008 + k * 0x400
/-- `ADCk_STAT`, RO. -/
def Reg.ADC_STAT (k : Nat) : Nat := 0x06000C + k * 0x400
/-- `ADCk_FLAGS`, W1C. -/
def Reg.ADC_FLAGS (k : Nat) : Nat := 0x060010 + k * 0x400
/-- `ADCk_DROP`, RO. -/
def Reg.ADC_DROP (k : Nat) : Nat := 0x060014 + k * 0x400
/-- `ADCk_LATc`, RO. -/
def Reg.ADC_LAT (k c : Nat) : Nat := 0x060040 + k * 0x400 + c * 0x4
/-- `ADC_CALk_w`, RO. -/
def Reg.ADC_CAL (k w : Nat) : Nat := 0x060080 + k * 0x400 + w * 0x4
/-- `ADCk_WINp`, RO. -/
def Reg.ADC_WIN (k p : Nat) : Nat := 0x0600C0 + k * 0x400 + p * 0x8
/-- `ADCk_WMMp`, RO. -/
def Reg.ADC_WMM (k p : Nat) : Nat := 0x0600C4 + k * 0x400 + p * 0x8
/-- `ADCk_SEQi`, RWL. -/
def Reg.ADC_SEQ (k i : Nat) : Nat := 0x060100 + k * 0x400 + i * 0x8
/-- `ADCk_SDLYi`, RWL. -/
def Reg.ADC_SDLY (k i : Nat) : Nat := 0x060104 + k * 0x400 + i * 0x8
/-- `ADC_CTRL`, RW. -/
def Reg.ADC_CTRL : Nat := 0x061000
/-- `ADC_CMD`, WO. -/
def Reg.ADC_CMD : Nat := 0x061004
/-- `ADC_RECON`, RWL. -/
def Reg.ADC_RECON : Nat := 0x061008
/-- `ADC_WBUF`, RWL. -/
def Reg.ADC_WBUF : Nat := 0x06100C
/-- `ADC_ISCALEa`, RWL. -/
def Reg.ADC_ISCALE (a : Nat) : Nat := 0x061010 + a * 0x4
/-- `ADC_BUFi_CFG`, RWL. -/
def Reg.ADC_BUF_CFG (i : Nat) : Nat := 0x061100 + i * 0x8
/-- `ADC_BUFi_WPTR`, RO. -/
def Reg.ADC_BUF_WPTR (i : Nat) : Nat := 0x061104 + i * 0x8
/-- `ADC_SARSCAN`, RWL. -/
def Reg.ADC_SARSCAN : Nat := 0x061200
/-- `ADC_SARCFG`, RWL. -/
def Reg.ADC_SARCFG : Nat := 0x061204
/-- `ADC_SARs_Di`, RO. -/
def Reg.ADC_SAR_D (s i : Nat) : Nat := 0x061240 + s * 0x40 + i * 0x4
/-- `FLDa_CFG`, RWL. -/
def Reg.FLD_CFG (a : Nat) : Nat := 0x070000 + a * 0x400
/-- `FLDa_ASRC`, RWL. -/
def Reg.FLD_ASRC (a : Nat) : Nat := 0x070004 + a * 0x400
/-- `FLDa_OBS`, RWS. -/
def Reg.FLD_OBS (a : Nat) : Nat := 0x070008 + a * 0x400
/-- `FLDa_PLL`, RWS. -/
def Reg.FLD_PLL (a : Nat) : Nat := 0x07000C + a * 0x400
/-- `FLDa_HDIV`, RWS. -/
def Reg.FLD_HDIV (a : Nat) : Nat := 0x070010 + a * 0x400
/-- `FLDa_MACH`, RWL. -/
def Reg.FLD_MACH (a : Nat) : Nat := 0x070014 + a * 0x400
/-- `FLDa_MACH2`, RWL. -/
def Reg.FLD_MACH2 (a : Nat) : Nat := 0x070018 + a * 0x400
/-- `FLDa_RATED`, RWL. -/
def Reg.FLD_RATED (a : Nat) : Nat := 0x07001C + a * 0x400
/-- `FLDa_VBASE`, RWL. -/
def Reg.FLD_VBASE (a : Nat) : Nat := 0x070020 + a * 0x400
/-- `FLDa_DTC`, RWS. -/
def Reg.FLD_DTC (a : Nat) : Nat := 0x070024 + a * 0x400
/-- `FLDa_HFI`, RWS. -/
def Reg.FLD_HFI (a : Nat) : Nat := 0x070028 + a * 0x400
/-- `FLDa_REACQ`, RWS. -/
def Reg.FLD_REACQ (a : Nat) : Nat := 0x07002C + a * 0x400
/-- `FLDa_PROBE`, RWS. -/
def Reg.FLD_PROBE (a : Nat) : Nat := 0x070030 + a * 0x400
/-- `FLDa_RAMP`, RWS. -/
def Reg.FLD_RAMP (a : Nat) : Nat := 0x070034 + a * 0x400
/-- `FLDa_BADV`, RWS. -/
def Reg.FLD_BADV (a : Nat) : Nat := 0x070038 + a * 0x400
/-- `FLDa_EXTANG`, RWS. -/
def Reg.FLD_EXTANG (a : Nat) : Nat := 0x07003C + a * 0x400
/-- `FLDa_EXTSPD`, RWS. -/
def Reg.FLD_EXTSPD (a : Nat) : Nat := 0x070040 + a * 0x400
/-- `FLDa_STAT`, RO. -/
def Reg.FLD_STAT (a : Nat) : Nat := 0x070044 + a * 0x400
/-- `FLDa_ANGLE`, RO. -/
def Reg.FLD_ANGLE (a : Nat) : Nat := 0x070048 + a * 0x400
/-- `FLDa_SPEED`, RO. -/
def Reg.FLD_SPEED (a : Nat) : Nat := 0x07004C + a * 0x400
/-- `FLDa_OBSANG`, RO. -/
def Reg.FLD_OBSANG (a : Nat) : Nat := 0x070050 + a * 0x400
/-- `FLDa_RESID`, RO. -/
def Reg.FLD_RESID (a : Nat) : Nat := 0x070054 + a * 0x400
/-- `FLDa_HELD`, RO. -/
def Reg.FLD_HELD (a : Nat) : Nat := 0x070058 + a * 0x400
/-- `FLDa_FLAGS`, W1C. -/
def Reg.FLD_FLAGS (a : Nat) : Nat := 0x07005C + a * 0x400
/-- `FLDa_STOP`, RWS. -/
def Reg.FLD_STOP (a : Nat) : Nat := 0x070060 + a * 0x400
/-- `POSa_CFG`, RWL. -/
def Reg.POS_CFG (a : Nat) : Nat := 0x080000 + a * 0x100
/-- `POSa_WRAP`, RWL. -/
def Reg.POS_WRAP (a : Nat) : Nat := 0x080004 + a * 0x100
/-- `POSa_HMAP`, RWL. -/
def Reg.POS_HMAP (a : Nat) : Nat := 0x080008 + a * 0x100
/-- `POSa_OFS`, RWS. -/
def Reg.POS_OFS (a : Nat) : Nat := 0x08000C + a * 0x100
/-- `POSa_TMO`, RWL. -/
def Reg.POS_TMO (a : Nat) : Nat := 0x080010 + a * 0x100
/-- `POSa_STAT`, RO. -/
def Reg.POS_STAT (a : Nat) : Nat := 0x080014 + a * 0x100
/-- `POSa_INT`, RO. -/
def Reg.POS_INT (a : Nat) : Nat := 0x080018 + a * 0x100
/-- `POSa_LPOS`, RO. -/
def Reg.POS_LPOS (a : Nat) : Nat := 0x08001C + a * 0x100
/-- `POSa_LTS`, RO. -/
def Reg.POS_LTS (a : Nat) : Nat := 0x080020 + a * 0x100
/-- `POSa_TIME`, RO. -/
def Reg.POS_TIME (a : Nat) : Nat := 0x080024 + a * 0x100
/-- `CE_CFG`, RWL. -/
def Reg.CE_CFG : Nat := 0x090000
/-- `CE_STEP`, RWL. -/
def Reg.CE_STEP : Nat := 0x090004
/-- `CE_STATUS`, RO. -/
def Reg.CE_STATUS : Nat := 0x090008
/-- `CE_FLAGS`, W1C. -/
def Reg.CE_FLAGS : Nat := 0x09000C
/-- `CE_CNT`, RO. -/
def Reg.CE_CNT : Nat := 0x090010
/-- `CE_LOAD`, RO. -/
def Reg.CE_LOAD : Nat := 0x090014
/-- `CE_PBLK`, RWS. -/
def Reg.CE_PBLK : Nat := 0x090020
/-- `CE_PBLK_SRC`, RW. -/
def Reg.CE_PBLK_SRC : Nat := 0x090024
/-- `CE_PBLK_STAT`, RO. -/
def Reg.CE_PBLK_STAT : Nat := 0x090028
/-- `CE_SWIN_SEL`, RW. -/
def Reg.CE_SWIN_SEL : Nat := 0x090030
/-- `CE_A_STICKYi`, W1C. -/
def Reg.CE_A_STICKY (i : Nat) : Nat := 0x090100 + i * 0x4
/-- `CE_B_STICKYi`, W1C. -/
def Reg.CE_B_STICKY (i : Nat) : Nat := 0x090140 + i * 0x4
/-- `CE_LANEl_CFG`, RWL. -/
def Reg.CE_LANE_CFG (l : Nat) : Nat := 0x090200 + l * 0x10
/-- `CE_LANEl_SLEW`, RWS. -/
def Reg.CE_LANE_SLEW (l : Nat) : Nat := 0x090204 + l * 0x10
/-- `CE_LANEl_TGT`, RO. -/
def Reg.CE_LANE_TGT (l : Nat) : Nat := 0x090208 + l * 0x10
/-- `CE_LANEl_OUT`, RO. -/
def Reg.CE_LANE_OUT (l : Nat) : Nat := 0x09020C + l * 0x10
/-- `CE_AGRi`, RWL. -/
def Reg.CE_AGR (i : Nat) : Nat := 0x090400 + i * 0x4
/-- `CE_CMDd_CFG`, RWL. -/
def Reg.CE_CMD_CFG (d : Nat) : Nat := 0x090500 + d * 0x20
/-- `CE_CMDd_X`, RWL. -/
def Reg.CE_CMD_X (d : Nat) : Nat := 0x090504 + d * 0x20
/-- `CE_CMDd_Y`, RWL. -/
def Reg.CE_CMD_Y (d : Nat) : Nat := 0x090508 + d * 0x20
/-- `CE_CMDd_DB`, RWL. -/
def Reg.CE_CMD_DB (d : Nat) : Nat := 0x09050C + d * 0x20
/-- `CE_CMDd_LIM`, RWL. -/
def Reg.CE_CMD_LIM (d : Nat) : Nat := 0x090510 + d * 0x20
/-- `CE_CMDd_VAL`, RO. -/
def Reg.CE_CMD_VAL (d : Nat) : Nat := 0x090514 + d * 0x20
/-- `CE_PGg_CFG`, RWS. -/
def Reg.CE_PG_CFG (g : Nat) : Nat := 0x090600 + g * 0x10
/-- `CE_PGg_V`, RWS. -/
def Reg.CE_PG_V (g : Nat) : Nat := 0x090604 + g * 0x10
/-- `CE_PGg_A`, RWS. -/
def Reg.CE_PG_A (g : Nat) : Nat := 0x090608 + g * 0x10
/-- `CE_PGg_J`, RWS. -/
def Reg.CE_PG_J (g : Nat) : Nat := 0x09060C + g * 0x10
/-- `CE_INJg_TGT`, RWS. -/
def Reg.CE_INJ_TGT (g : Nat) : Nat := 0x090700 + g * 0x20
/-- `CE_INJg_CFG`, RWS. -/
def Reg.CE_INJ_CFG (g : Nat) : Nat := 0x090704 + g * 0x20
/-- `CE_INJg_AMP`, RWS. -/
def Reg.CE_INJ_AMP (g : Nat) : Nat := 0x090708 + g * 0x20
/-- `CE_INJg_F0`, RWS. -/
def Reg.CE_INJ_F0 (g : Nat) : Nat := 0x09070C + g * 0x20
/-- `CE_INJg_F1`, RWS. -/
def Reg.CE_INJ_F1 (g : Nat) : Nat := 0x090710 + g * 0x20
/-- `CE_INJg_DUR`, RWS. -/
def Reg.CE_INJ_DUR (g : Nat) : Nat := 0x090714 + g * 0x20
/-- `CE_INJg_CTL`, RWS. -/
def Reg.CE_INJ_CTL (g : Nat) : Nat := 0x090718 + g * 0x20
/-- `CE_INJg_STAT`, RO. -/
def Reg.CE_INJ_STAT (g : Nat) : Nat := 0x09071C + g * 0x20
/-- `CE_CAPSTAT`, RO. -/
def Reg.CE_CAPSTAT : Nat := 0x090800
/-- `CE_CAPPOS`, RO. -/
def Reg.CE_CAPPOS : Nat := 0x090804
/-- `CE_PARi`, RWS or RWL. -/
def Reg.CE_PAR (i : Nat) : Nat := 0x094000 + i * 0x4
/-- `CE_SWINw`, RO. -/
def Reg.CE_SWIN (w : Nat) : Nat := 0x09C000 + w * 0x4
/-- `AUXx_CFG`, RWL. -/
def Reg.AUX_CFG (x : Nat) : Nat := 0x0A0000 + x * 0x100
/-- `AUXx_CUR`, RWS. -/
def Reg.AUX_CUR (x : Nat) : Nat := 0x0A0004 + x * 0x100
/-- `AUXx_CHOP`, RWL. -/
def Reg.AUX_CHOP (x : Nat) : Nat := 0x0A0008 + x * 0x100
/-- `AUXx_BST`, RWL. -/
def Reg.AUX_BST (x : Nat) : Nat := 0x0A000C + x * 0x100
/-- `AUXx_SW`, RWL. -/
def Reg.AUX_SW (x : Nat) : Nat := 0x0A0010 + x * 0x100
/-- `AUXx_SPDENT`, RWS. -/
def Reg.AUX_SPDENT (x : Nat) : Nat := 0x0A0014 + x * 0x100
/-- `AUXx_SPDEXT`, RWS. -/
def Reg.AUX_SPDEXT (x : Nat) : Nat := 0x0A0018 + x * 0x100
/-- `AUXx_SPDKNEE`, RWS. -/
def Reg.AUX_SPDKNEE (x : Nat) : Nat := 0x0A001C + x * 0x100
/-- `AUXx_SPDTOP`, RWS. -/
def Reg.AUX_SPDTOP (x : Nat) : Nat := 0x0A0020 + x * 0x100
/-- `AUXx_ACCLO`, RWS. -/
def Reg.AUX_ACCLO (x : Nat) : Nat := 0x0A0024 + x * 0x100
/-- `AUXx_ACCHI`, RWS. -/
def Reg.AUX_ACCHI (x : Nat) : Nat := 0x0A0028 + x * 0x100
/-- `AUXx_DECLO`, RWS. -/
def Reg.AUX_DECLO (x : Nat) : Nat := 0x0A002C + x * 0x100
/-- `AUXx_DECHI`, RWS. -/
def Reg.AUX_DECHI (x : Nat) : Nat := 0x0A0030 + x * 0x100
/-- `AUXx_GRIDk`, RWS. -/
def Reg.AUX_GRID (x k : Nat) : Nat := 0x0A0034 + x * 0x100 + (k - 1) * 0x4
/-- `AUXx_GRIDHYS`, RWS. -/
def Reg.AUX_GRIDHYS (x : Nat) : Nat := 0x0A0044 + x * 0x100
/-- `AUXx_PMIN`, RWS. -/
def Reg.AUX_PMIN (x : Nat) : Nat := 0x0A0048 + x * 0x100
/-- `AUXx_PMAX`, RWS. -/
def Reg.AUX_PMAX (x : Nat) : Nat := 0x0A004C + x * 0x100
/-- `AUXx_TGT`, RWS. -/
def Reg.AUX_TGT (x : Nat) : Nat := 0x0A0050 + x * 0x100
/-- `AUXx_CMD`, RWS. -/
def Reg.AUX_CMD (x : Nat) : Nat := 0x0A0054 + x * 0x100
/-- `AUXx_HV1`, RWS. -/
def Reg.AUX_HV1 (x : Nat) : Nat := 0x0A0058 + x * 0x100
/-- `AUXx_HV2`, RWS. -/
def Reg.AUX_HV2 (x : Nat) : Nat := 0x0A005C + x * 0x100
/-- `AUXx_HBACK`, RWS. -/
def Reg.AUX_HBACK (x : Nat) : Nat := 0x0A0060 + x * 0x100
/-- `AUXx_HOFS`, RWS. -/
def Reg.AUX_HOFS (x : Nat) : Nat := 0x0A0064 + x * 0x100
/-- `AUXx_HMAX`, RWS. -/
def Reg.AUX_HMAX (x : Nat) : Nat := 0x0A0068 + x * 0x100
/-- `AUXx_DUTY`, RWS. -/
def Reg.AUX_DUTY (x : Nat) : Nat := 0x0A006C + x * 0x100
/-- `AUXx_DSLEW`, RWS. -/
def Reg.AUX_DSLEW (x : Nat) : Nat := 0x0A0070 + x * 0x100
/-- `AUXx_POS`, RO. -/
def Reg.AUX_POS (x : Nat) : Nat := 0x0A0080 + x * 0x100
/-- `AUXx_VEL`, RO. -/
def Reg.AUX_VEL (x : Nat) : Nat := 0x0A0084 + x * 0x100
/-- `AUXx_STAT`, RO. -/
def Reg.AUX_STAT (x : Nat) : Nat := 0x0A0088 + x * 0x100
/-- `AUXx_FLAGS`, W1C. -/
def Reg.AUX_FLAGS (x : Nat) : Nat := 0x0A008C + x * 0x100
/-- `AUXx_HLAT`, RO. -/
def Reg.AUX_HLAT (x : Nat) : Nat := 0x0A0090 + x * 0x100
/-- `AUXx_ILAT`, RO. -/
def Reg.AUX_ILAT (x : Nat) : Nat := 0x0A0094 + x * 0x100
/-- `AUX_VAUX`, RO. -/
def Reg.AUX_VAUX : Nat := 0x0A0800
/-- `DCL_CFG`, RWL. -/
def Reg.DCL_CFG : Nat := 0x0B0000
/-- `DCL_SCALE_A`, RWL. -/
def Reg.DCL_SCALE_A : Nat := 0x0B0004
/-- `DCL_SCALE_B`, RWL. -/
def Reg.DCL_SCALE_B : Nat := 0x0B0008
/-- `DCL_PLAUS`, RWL. -/
def Reg.DCL_PLAUS : Nat := 0x0B000C
/-- `DCL_TIME`, RWL. -/
def Reg.DCL_TIME : Nat := 0x0B0010
/-- `DCL_VCHOP`, RWS. -/
def Reg.DCL_VCHOP : Nat := 0x0B0014
/-- `DCL_VFULL`, RWS. -/
def Reg.DCL_VFULL : Nat := 0x0B0018
/-- `DCL_VOV`, RWL. -/
def Reg.DCL_VOV : Nat := 0x0B001C
/-- `DCL_VOV3`, RWL. -/
def Reg.DCL_VOV3 : Nat := 0x0B0020
/-- `DCL_VNOM`, RWL. -/
def Reg.DCL_VNOM : Nat := 0x0B0024
/-- `DCL_FBK`, RWL. -/
def Reg.DCL_FBK : Nat := 0x0B0028
/-- `DCL_CHi_CFG`, RWL. -/
def Reg.DCL_CH_CFG (i : Nat) : Nat := 0x0B0040 + i * 0x20
/-- `DCL_CHi_BCS`, RWL. -/
def Reg.DCL_CH_BCS (i : Nat) : Nat := 0x0B0044 + i * 0x20
/-- `DCL_CHi_CHK`, RWL. -/
def Reg.DCL_CH_CHK (i : Nat) : Nat := 0x0B0048 + i * 0x20
/-- `DCL_CHi_STAT`, RO. -/
def Reg.DCL_CH_STAT (i : Nat) : Nat := 0x0B004C + i * 0x20
/-- `DCL_SELa`, RWL. -/
def Reg.DCL_SEL (a : Nat) : Nat := 0x0B0080 + a * 0x4
/-- `DCL_SELSTAT`, RO. -/
def Reg.DCL_SELSTAT : Nat := 0x0B0090
/-- `DCL_DCFG`, RWL. -/
def Reg.DCL_DCFG : Nat := 0x0B00A0
/-- `DCL_DLIM`, RWL. -/
def Reg.DCL_DLIM : Nat := 0x0B00A4
/-- `DCL_DISCH`, RWS. -/
def Reg.DCL_DISCH : Nat := 0x0B00A8
/-- `DCL_DSTAT`, RO. -/
def Reg.DCL_DSTAT : Nat := 0x0B00AC
/-- `DCL_VDC`, RO. -/
def Reg.DCL_VDC : Nat := 0x0B00C0
/-- `DCL_VAB`, RO. -/
def Reg.DCL_VAB : Nat := 0x0B00C4
/-- `DCL_STAT`, RO. -/
def Reg.DCL_STAT : Nat := 0x0B00C8
/-- `DCL_FLAGS`, W1C. -/
def Reg.DCL_FLAGS : Nat := 0x0B00CC
/-- `SAFE_CFG`, RWL. -/
def Reg.SAFE_CFG : Nat := 0x0C0000
/-- `SAFE_STO`, RO. -/
def Reg.SAFE_STO : Nat := 0x0C0004
/-- `SAFE_DRIVE`, RO. -/
def Reg.SAFE_DRIVE : Nat := 0x0C0008
/-- `SAFE_FLAGS`, W1C. -/
def Reg.SAFE_FLAGS : Nat := 0x0C000C
/-- `SAFE_TMa_CFG`, RWL. -/
def Reg.SAFE_TM_CFG (a : Nat) : Nat := 0x0C0010 + a * 0x20
/-- `SAFE_TMa_LIM`, RWL. -/
def Reg.SAFE_TM_LIM (a : Nat) : Nat := 0x0C0014 + a * 0x20
/-- `SAFE_TMa_ISC`, RWL. -/
def Reg.SAFE_TM_ISC (a : Nat) : Nat := 0x0C0018 + a * 0x20
/-- `SAFE_TMa_OFS`, RWL. -/
def Reg.SAFE_TM_OFS (a : Nat) : Nat := 0x0C001C + a * 0x20
/-- `SAFE_TMa_STAT`, RO. -/
def Reg.SAFE_TM_STAT (a : Nat) : Nat := 0x0C0020 + a * 0x20
/-- `SAFE_SBC_CFG`, RWL. -/
def Reg.SAFE_SBC_CFG : Nat := 0x0C0090
/-- `SAFE_SBC_LIM`, RWL. -/
def Reg.SAFE_SBC_LIM : Nat := 0x0C0094
/-- `SAFE_SBC_APPLY`, RWL. -/
def Reg.SAFE_SBC_APPLY : Nat := 0x0C0098
/-- `SAFE_SBC_CTL`, RWS. -/
def Reg.SAFE_SBC_CTL : Nat := 0x0C009C
/-- `SAFE_SBC_STAT`, RO. -/
def Reg.SAFE_SBC_STAT : Nat := 0x0C00A0
/-- `SAFE_DEG`, RWL. -/
def Reg.SAFE_DEG : Nat := 0x0C00A4
/-- `SAFE_CONNc_CFG`, RWL. -/
def Reg.SAFE_CONN_CFG (c : Nat) : Nat := 0x0C0100 + c * 0x20
/-- `SAFE_CONNc_ID`, RWL. -/
def Reg.SAFE_CONN_ID (c : Nat) : Nat := 0x0C0104 + c * 0x20
/-- `SAFE_CONNc_AGE`, RWL. -/
def Reg.SAFE_CONN_AGE (c : Nat) : Nat := 0x0C0108 + c * 0x20
/-- `SAFE_CONNc_STAT`, RO. -/
def Reg.SAFE_CONN_STAT (c : Nat) : Nat := 0x0C010C + c * 0x20
/-- `SAFE_CONNc_ERR`, RO. -/
def Reg.SAFE_CONN_ERR (c : Nat) : Nat := 0x0C0110 + c * 0x20
/-- `FLT_CFG`, RWL. -/
def Reg.FLT_CFG : Nat := 0x0D0000
/-- `FLT_STAT`, RO. -/
def Reg.FLT_STAT : Nat := 0x0D0004
/-- `FLT_LOOKUP`, RW. -/
def Reg.FLT_LOOKUP : Nat := 0x0D0008
/-- `FLT_CMD`, WO. -/
def Reg.FLT_CMD : Nat := 0x0D000C
/-- `FLT_LOGHEAD`, RO. -/
def Reg.FLT_LOGHEAD : Nat := 0x0D0010
/-- `FLT_LOGLOST`, RO. -/
def Reg.FLT_LOGLOST : Nat := 0x0D0014
/-- `FLT_INJSTAT`, RO. -/
def Reg.FLT_INJSTAT : Nat := 0x0D0018
/-- `FLT_OPENm`, RO. -/
def Reg.FLT_OPEN (m : Nat) : Nat := 0x0D0040 + m * 0x4
/-- `FLT_MAPi`, RWL. -/
def Reg.FLT_MAP (i : Nat) : Nat := 0x0D0800 + i * 0x4
/-- `FLT_RECi_ST`, RO. -/
def Reg.FLT_REC_ST (i : Nat) : Nat := 0x0D1000 + i * 0x10
/-- `FLT_RECi_CNT`, RO. -/
def Reg.FLT_REC_CNT (i : Nat) : Nat := 0x0D1004 + i * 0x10
/-- `FLT_RECi_FIRST`, RO. -/
def Reg.FLT_REC_FIRST (i : Nat) : Nat := 0x0D1008 + i * 0x10
/-- `FLT_RECi_LAST`, RO. -/
def Reg.FLT_REC_LAST (i : Nat) : Nat := 0x0D100C + i * 0x10
/-- `HLTm_CFG`, RW. -/
def Reg.HLT_CFG (m : Nat) : Nat := 0x0D8000 + m * 0x80
/-- `HLTm_LO`, RW. -/
def Reg.HLT_LO (m : Nat) : Nat := 0x0D8004 + m * 0x80
/-- `HLTm_MIN`, RO. -/
def Reg.HLT_MIN (m : Nat) : Nat := 0x0D8008 + m * 0x80
/-- `HLTm_MAX`, RO. -/
def Reg.HLT_MAX (m : Nat) : Nat := 0x0D800C + m * 0x80
/-- `HLTm_COUNT`, RO. -/
def Reg.HLT_COUNT (m : Nat) : Nat := 0x0D8010 + m * 0x80
/-- `HLTm_LAST`, RO. -/
def Reg.HLT_LAST (m : Nat) : Nat := 0x0D8014 + m * 0x80
/-- `HLTm_BINk`, RO. -/
def Reg.HLT_BIN (m k : Nat) : Nat := 0x0D8020 + m * 0x80 + k * 0x4
/-- `HLT_FRZ`, RW. -/
def Reg.HLT_FRZ : Nat := 0x0D9000
/-- `HLT_CLR`, WO. -/
def Reg.HLT_CLR : Nat := 0x0D9004
/-- `EVT_VECv_SRCw`, RWL. -/
def Reg.EVT_VEC_SRC (v w : Nat) : Nat := 0x120000 + v * 0x20 + w * 0x4
/-- `EVT_VOWNk`, RWL. -/
def Reg.EVT_VOWN (k : Nat) : Nat := 0x120800 + k * 0x4
/-- `EVT_SINKs_SRC`, RWL. -/
def Reg.EVT_SINK_SRC (s : Nat) : Nat := 0x120900 + s * 0x8
/-- `EVT_SINKs_EN`, RWL. -/
def Reg.EVT_SINK_EN (s : Nat) : Nat := 0x120904 + s * 0x8
/-- `EVT_PENDk`, W1C. -/
def Reg.EVT_PEND (k : Nat) : Nat := 0x120A00 + k * 0x4
/-- `EVT_OVRk`, W1C. -/
def Reg.EVT_OVR (k : Nat) : Nat := 0x120A08 + k * 0x4
/-- `EVT_ENk`, RW. -/
def Reg.EVT_EN (k : Nat) : Nat := 0x120A10 + k * 0x4
/-- `EVT_VCNTv`, RO. -/
def Reg.EVT_VCNT (v : Nat) : Nat := 0x120B00 + v * 0x4
/-- `CANc_CFG`, RWL. -/
def Reg.CAN_CFG (c : Nat) : Nat := 0x0E0000 + c * 0x4000
/-- `CANc_NBT`, RWL. -/
def Reg.CAN_NBT (c : Nat) : Nat := 0x0E0004 + c * 0x4000
/-- `CANc_DBT`, RWL. -/
def Reg.CAN_DBT (c : Nat) : Nat := 0x0E0008 + c * 0x4000
/-- `CANc_RESTR`, RWL. -/
def Reg.CAN_RESTR (c : Nat) : Nat := 0x0E000C + c * 0x4000
/-- `CANc_BO`, RWL. -/
def Reg.CAN_BO (c : Nat) : Nat := 0x0E0010 + c * 0x4000
/-- `CANc_STAT`, RO. -/
def Reg.CAN_STAT (c : Nat) : Nat := 0x0E0014 + c * 0x4000
/-- `CANc_ERR`, RO. -/
def Reg.CAN_ERR (c : Nat) : Nat := 0x0E0018 + c * 0x4000
/-- `CANc_CMD`, WO. -/
def Reg.CAN_CMD (c : Nat) : Nat := 0x0E001C + c * 0x4000
/-- `CANc_EVT`, W1C. -/
def Reg.CAN_EVT (c : Nat) : Nat := 0x0E0020 + c * 0x4000
/-- `CANc_EVTEN`, RW. -/
def Reg.CAN_EVTEN (c : Nat) : Nat := 0x0E0024 + c * 0x4000
/-- `CANc_TXREQ`, RW. -/
def Reg.CAN_TXREQ (c : Nat) : Nat := 0x0E0028 + c * 0x4000
/-- `CANc_TXCAN`, WO. -/
def Reg.CAN_TXCAN (c : Nat) : Nat := 0x0E002C + c * 0x4000
/-- `CANc_TXDONE`, W1C. -/
def Reg.CAN_TXDONE (c : Nat) : Nat := 0x0E0030 + c * 0x4000
/-- `CANc_TXCNC`, W1C. -/
def Reg.CAN_TXCNC (c : Nat) : Nat := 0x0E0034 + c * 0x4000
/-- `CANc_RXNEWk`, RO. -/
def Reg.CAN_RXNEW (c k : Nat) : Nat := 0x0E0038 + c * 0x4000 + k * 0x4
/-- `CANc_RXLOSTk`, W1C. -/
def Reg.CAN_RXLOST (c k : Nat) : Nat := 0x0E0040 + c * 0x4000 + k * 0x4
/-- `CANc_DROP`, RO. -/
def Reg.CAN_DROP (c : Nat) : Nat := 0x0E0048 + c * 0x4000
/-- `CANc_OBJi_ID`, RWL. -/
def Reg.CAN_OBJ_ID (c i : Nat) : Nat := 0x0E1000 + c * 0x4000 + i * 0x50
/-- `CANc_OBJi_TMO`, RWL. -/
def Reg.CAN_OBJ_TMO (c i : Nat) : Nat := 0x0E1004 + c * 0x4000 + i * 0x50
/-- `CANc_OBJi_HDR`, RO. -/
def Reg.CAN_OBJ_HDR (c i : Nat) : Nat := 0x0E1008 + c * 0x4000 + i * 0x50
/-- `CANc_OBJi_TS`, RO. -/
def Reg.CAN_OBJ_TS (c i : Nat) : Nat := 0x0E100C + c * 0x4000 + i * 0x50
/-- `CANc_OBJi_Dw`, RO. -/
def Reg.CAN_OBJ_D (c i w : Nat) : Nat := 0x0E1010 + c * 0x4000 + i * 0x50 + w * 0x4
/-- `CANc_TXj_ID`, RW. -/
def Reg.CAN_TX_ID (c j : Nat) : Nat := 0x0E2800 + c * 0x4000 + j * 0x50
/-- `CANc_TXj_CTL`, RW. -/
def Reg.CAN_TX_CTL (c j : Nat) : Nat := 0x0E2804 + c * 0x4000 + j * 0x50
/-- `CANc_TXj_TS`, RO. -/
def Reg.CAN_TX_TS (c j : Nat) : Nat := 0x0E2808 + c * 0x4000 + j * 0x50
/-- `CANc_TXj_Dw`, RW. -/
def Reg.CAN_TX_D (c j w : Nat) : Nat := 0x0E2810 + c * 0x4000 + j * 0x50 + w * 0x4
/-- `CAN_PORTp_CFG`, RWL. -/
def Reg.CAN_PORT_CFG (p : Nat) : Nat := 0x0EC000 + p * 0x10
/-- `CAN_PORTp_CMDID`, RWL. -/
def Reg.CAN_PORT_CMDID (p : Nat) : Nat := 0x0EC004 + p * 0x10
/-- `CAN_PORTp_RPLID`, RWL. -/
def Reg.CAN_PORT_RPLID (p : Nat) : Nat := 0x0EC008 + p * 0x10
/-- `CAN_PORTp_STAT`, RO. -/
def Reg.CAN_PORT_STAT (p : Nat) : Nat := 0x0EC00C + p * 0x10
/-- `SEC_STAT`, RO. -/
def Reg.SEC_STAT : Nat := 0x021000
/-- `SEC_TAMPER`, W1C. -/
def Reg.SEC_TAMPER : Nat := 0x021004
/-- `SEC_TPOL`, RO. -/
def Reg.SEC_TPOL : Nat := 0x021008
/-- `SEC_TCNT`, RO. -/
def Reg.SEC_TCNT : Nat := 0x02100C
/-- `SEC_UIDw`, RO. -/
def Reg.SEC_UID (w : Nat) : Nat := 0x021010 + w * 0x4
/-- `SEC_KEYHASHw`, RO. -/
def Reg.SEC_KEYHASH (w : Nat) : Nat := 0x021020 + w * 0x4
/-- `SEC_IDPKw`, RO. -/
def Reg.SEC_IDPK (w : Nat) : Nat := 0x021040 + w * 0x4
/-- `SEC_ATT`, RO. -/
def Reg.SEC_ATT : Nat := 0x021060
/-- `SEC_KSw`, RO. -/
def Reg.SEC_KS (w : Nat) : Nat := 0x021100 + w * 0x4
/-- `BIST_STAT`, RO. -/
def Reg.BIST_STAT : Nat := 0x0F0000
/-- `BIST_FUSE`, RO. -/
def Reg.BIST_FUSE : Nat := 0x0F0004
/-- `BIST_Uu_RES`, RO. -/
def Reg.BIST_U_RES (u : Nat) : Nat := 0x0F0100 + u * 0x10
/-- `BIST_Uu_SIG`, RO. -/
def Reg.BIST_U_SIG (u : Nat) : Nat := 0x0F0104 + u * 0x10
/-- `BIST_Uu_FADDR`, RO. -/
def Reg.BIST_U_FADDR (u : Nat) : Nat := 0x0F0108 + u * 0x10
/-- `BIST_Uu_FBIT`, RO. -/
def Reg.BIST_U_FBIT (u : Nat) : Nat := 0x0F010C + u * 0x10
/-- `THERM_CFG`, RWL. -/
def Reg.THERM_CFG : Nat := 0x100000
/-- `THERM_THROT`, RO. -/
def Reg.THERM_THROT : Nat := 0x100004
/-- `THERM_LVLk`, RO. -/
def Reg.THERM_LVL (k : Nat) : Nat := 0x100010 + k * 0x4
/-- `THERM_Ss_CFG`, RWL. -/
def Reg.THERM_S_CFG (s : Nat) : Nat := 0x100100 + s * 0x10
/-- `THERM_Ss_TH`, RWL. -/
def Reg.THERM_S_TH (s : Nat) : Nat := 0x100104 + s * 0x10
/-- `THERM_Ss_VAL`, RO. -/
def Reg.THERM_S_VAL (s : Nat) : Nat := 0x100108 + s * 0x10
/-- `THERM_Ss_NTC`, RWL. -/
def Reg.THERM_S_NTC (s : Nat) : Nat := 0x10010C + s * 0x10
/-- `PRES_Ww`, PRS in an owned region, otherwise RO. -/
def Reg.PRES_W (w : Nat) : Nat := 0x110000 + w * 0x4
/-- `PRES_WEARw`, RO. -/
def Reg.PRES_WEAR (w : Nat) : Nat := 0x112000 + w * 0x4
/-- `PRES_STAT`, RO. -/
def Reg.PRES_STAT : Nat := 0x114000
/-- `PRES_LANE`, RO. -/
def Reg.PRES_LANE : Nat := 0x114004
/-- `PRES_REGr`, RWL. -/
def Reg.PRES_REG (r : Nat) : Nat := 0x114040 + r * 0x4

/-- Rows of block 0x00. -/
def rows00 : List RegRow :=
 [
  ⟨"SYS_ID", 0x000000, [], .ro, 0x59419412, 0x00000000, 0x00000000, false, []⟩,
  ⟨"SYS_STATE", 0x000004, [], .ro, 0x00000001, 0x00000000, 0x00000000, false, []⟩,
  ⟨"SYS_AXSTATE", 0x000008, [], .ro, 0x00000000, 0x00000000, 0x00000000, false, []⟩]

/-- Rows of block 0x01. -/
def rows01 : List RegRow :=
 [
  ⟨"HOSTh_TEN", 0x010000, [(4, 0x100)], .ro, 0x00000000, 0x00000000, 0x00000000, false, []⟩,
  ⟨"HOSTh_TKT", 0x010004, [(4, 0x100)], .ro, 0x00000000, 0x00000000, 0x00000000, false, []⟩,
  ⟨"HOSTh_CQ", 0x010008, [(4, 0x100)], .ro, 0x00000000, 0x00000000, 0x00000000, false, []⟩,
  ⟨"HOSTh_IRQ", 0x01000C, [(4, 0x100)], .w1c, 0x00000000, 0x00000000, 0x00000001, false, []⟩,
  ⟨"HOSTh_IRQEN", 0x010010, [(4, 0x100)], .rw, 0x00000000, 0x00000003, 0x00000000, false, []⟩,
  ⟨"HOSTh_HB", 0x010014, [(4, 0x100)], .ro, 0x00000000, 0x00000000, 0x00000000, false, []⟩,
  ⟨"HOSTh_ERR", 0x010018, [(4, 0x100)], .ro, 0x00000000, 0x00000000, 0x00000000, false, []⟩,
  ⟨"HOSTh_ERRCLR", 0x01001C, [(4, 0x100)], .wo, 0x00000000, 0x0000000F, 0x00000000, false, []⟩,
  ⟨"HOST_OWN", 0x010400, [], .ro, 0x0003FFFF, 0x00000000, 0x00000000, false, []⟩,
  ⟨"HOST_OFFER", 0x010404, [], .ro, 0x0003FFFF, 0x00000000, 0x00000000, false, []⟩,
  ⟨"HOST_POOL", 0x010408, [], .ro, 0x000000C0, 0x00000000, 0x00000000, false, []⟩]

/-- Rows of block 0x02. -/
def rows02 : List RegRow :=
 [
  ⟨"IMG_STATUS", 0x020000, [], .ro, 0x00000000, 0x00000000, 0x00000000, false, []⟩,
  ⟨"IMG_CAUSE", 0x020004, [], .ro, 0x00000000, 0x00000000, 0x00000000, false, []⟩,
  ⟨"IMG_ACTIVE", 0x020008, [], .ro, 0x00000000, 0x00000000, 0x00000000, false, []⟩,
  ⟨"IMG_VERSION", 0x02000C, [], .ro, 0x00000000, 0x00000000, 0x00000000, false, []⟩,
  ⟨"IMG_ARB", 0x020010, [], .ro, 0x00000000, 0x00000000, 0x00000000, false, []⟩,
  ⟨"IMG_RES_A", 0x020014, [], .ro, 0x00000000, 0x00000000, 0x00000000, false, []⟩,
  ⟨"IMG_RES_B", 0x020018, [], .ro, 0x00000000, 0x00000000, 0x00000000, false, []⟩,
  ⟨"IMG_READY_T", 0x02001C, [], .ro, 0x00000000, 0x00000000, 0x00000000, false, []⟩,
  ⟨"SEC_STAT", 0x021000, [], .ro, 0x00000000, 0x00000000, 0x00000000, false, []⟩,
  ⟨"SEC_TAMPER", 0x021004, [], .w1c, 0x00000000, 0x00000000, 0x0000003F, false, []⟩,
  ⟨"SEC_TPOL", 0x021008, [], .ro, 0x00000000, 0x00000000, 0x00000000, false, []⟩,
  ⟨"SEC_TCNT", 0x02100C, [], .ro, 0x00000000, 0x00000000, 0x00000000, false, []⟩,
  ⟨"SEC_UIDw", 0x021010, [(2, 0x4)], .ro, 0x00000000, 0x00000000, 0x00000000, false, []⟩,
  ⟨"SEC_KEYHASHw", 0x021020, [(8, 0x4)], .ro, 0x00000000, 0x00000000, 0x00000000, false, []⟩,
  ⟨"SEC_IDPKw", 0x021040, [(8, 0x4)], .ro, 0x00000000, 0x00000000, 0x00000000, false, []⟩,
  ⟨"SEC_ATT", 0x021060, [], .ro, 0x00000000, 0x00000000, 0x00000000, false, []⟩,
  ⟨"SEC_KSw", 0x021100, [(16, 0x4)], .ro, 0x00000000, 0x00000000, 0x00000000, false, []⟩]

/-- Rows of block 0x03. -/
def rows03 : List RegRow :=
 [
  ⟨"CLK_STATUS", 0x030000, [], .ro, 0x00000000, 0x00000000, 0x00000000, false, []⟩,
  ⟨"CLK_CFG", 0x030004, [], .rwl, 0x28000000, 0xFF070001, 0x00000000, true, [⟨16, 3, 0, 2⟩]⟩,
  ⟨"CLK_CMD", 0x030008, [], .wo, 0x00000000, 0x000001FF, 0x00000000, false, []⟩,
  ⟨"CLK_TBPER", 0x03000C, [], .rwl, 0x00009C40, 0x00FFFFFF, 0x00000000, true, [⟨0, 24, 4000, 16777215⟩]⟩,
  ⟨"CLK_SYNCOFS", 0x030010, [], .rwl, 0x00000000, 0x0000FFFF, 0x00000000, true, []⟩,
  ⟨"CLK_SYNCLIM", 0x030014, [], .rwl, 0x000000A0, 0x0000FFFF, 0x00000000, true, [⟨0, 16, 1, 65535⟩]⟩,
  ⟨"CLK_SYNCCAP", 0x030018, [], .ro, 0x00000000, 0x00000000, 0x00000000, false, []⟩,
  ⟨"CLK_SYNCCNT", 0x03001C, [], .ro, 0x00000000, 0x00000000, 0x00000000, false, []⟩,
  ⟨"CLK_PHASE", 0x030020, [], .ro, 0x00000000, 0x00000000, 0x00000000, false, []⟩]

/-- Rows of block 0x04. -/
def rows04 : List RegRow :=
 [
  ⟨"PWMa_CFG", 0x040000, [(4, 0x1000)], .rwl, 0x00000400, 0x00000F3F, 0x00000000, true, [⟨8, 4, 1, 15⟩]⟩,
  ⟨"PWMa_PER", 0x040004, [(4, 0x1000)], .rws, 0x000061A8, 0x00FFFFFF, 0x00000000, true, [⟨0, 24, 4000, 200000⟩]⟩,
  ⟨"PWMa_PHS", 0x040008, [(4, 0x1000)], .rwl, 0x00000000, 0x00FFFFFF, 0x00000000, true, []⟩,
  ⟨"PWMa_DT", 0x04000C, [(4, 0x1000)], .rws, 0x00500050, 0x0FFF0FFF, 0x00000000, true, []⟩,
  ⟨"PWMa_BLK", 0x040010, [(4, 0x1000)], .rws, 0x00070078, 0x000707FF, 0x00000000, true, []⟩,
  ⟨"PWMa_WIN", 0x040014, [(4, 0x1000)], .rws, 0x402800C8, 0xCFFF07FF, 0x00000000, true, [⟨0, 11, 40, 2000⟩]⟩,
  ⟨"PWMa_CMPpU", 0x040020, [(4, 0x1000), (3, 0x8)], .rws, 0x00000000, 0x0FFFFFFF, 0x00000000, false, []⟩,
  ⟨"PWMa_CMPpD", 0x040024, [(4, 0x1000), (3, 0x8)], .rws, 0x00000000, 0x0FFFFFFF, 0x00000000, false, []⟩,
  ⟨"PWMa_NCMPpU", 0x040040, [(4, 0x1000), (3, 0x8)], .rws, 0x00000000, 0x0FFFFFFF, 0x00000000, false, []⟩,
  ⟨"PWMa_NCMPpD", 0x040044, [(4, 0x1000), (3, 0x8)], .rws, 0x00000000, 0x0FFFFFFF, 0x00000000, false, []⟩,
  ⟨"PWMa_MASKi", 0x040060, [(4, 0x1000), (6, 0x4)], .rws, 0x0000003F, 0x0000003F, 0x00000000, true, []⟩,
  ⟨"PWMa_TRIPCFG", 0x040080, [(4, 0x1000)], .rwl, 0x00040203, 0x00FF0F03, 0x00000000, true, [⟨16, 8, 1, 255⟩]⟩,
  ⟨"PWMa_TRIP", 0x040084, [(4, 0x1000)], .w1c, 0x00000000, 0x00000000, 0x0000000F, false, []⟩,
  ⟨"PWMa_STAT", 0x040088, [(4, 0x1000)], .ro, 0xF0000000, 0x00000000, 0x00000000, false, []⟩,
  ⟨"PWMa_FLAGS", 0x04008C, [(4, 0x1000)], .w1c, 0x00000000, 0x00000000, 0x0000001F, false, []⟩,
  ⟨"PWMa_CNT", 0x040090, [(4, 0x1000)], .ro, 0x00000000, 0x00000000, 0x00000000, false, []⟩,
  ⟨"PWM_Cj_PER", 0x048000, [(6, 0x100)], .rws, 0x00009C40, 0x00FFFFFF, 0x00000000, true, [⟨0, 24, 4000, 4000000⟩]⟩,
  ⟨"PWM_Cj_CMP0", 0x048004, [(6, 0x100)], .ro, 0x00000000, 0x00000000, 0x00000000, false, []⟩,
  ⟨"PWM_Cj_CMP1", 0x048008, [(6, 0x100)], .ro, 0x00000000, 0x00000000, 0x00000000, false, []⟩,
  ⟨"PWM_Cj_MIN", 0x04800C, [(6, 0x100)], .rwl, 0x00280028, 0x0FFF0FFF, 0x00000000, true, []⟩,
  ⟨"PWM_Cj_DT", 0x048010, [(6, 0x100)], .rwl, 0x00000050, 0x00000FFF, 0x00000000, true, []⟩,
  ⟨"PWM_Cj_STAT", 0x048014, [(6, 0x100)], .ro, 0x00000000, 0x00000000, 0x00000000, false, []⟩]

/-- Rows of block 0x05. -/
def rows05 : List RegRow :=
 [
  ⟨"ISL_GI_CFG", 0x050000, [], .rwl, 0x00020000, 0x000F0000, 0x00000000, true, [⟨16, 4, 1, 8⟩]⟩,
  ⟨"ISL_GI_STAT", 0x050004, [], .ro, 0x00000000, 0x00000000, 0x00000000, false, []⟩,
  ⟨"ISL_GI_SAFE", 0x050008, [], .ro, 0x00000000, 0x00000000, 0x00000000, false, []⟩,
  ⟨"ISL_GI_SUP", 0x05000C, [], .rwl, 0x008778D2, 0x00FFFFFF, 0x00000000, true, [⟨16, 8, 100, 190⟩, ⟨8, 8, 80, 180⟩, ⟨0, 8, 170, 220⟩]⟩,
  ⟨"ISL_GI_SUP2", 0x050010, [], .rwl, 0x00000005, 0x000000FF, 0x00000000, true, []⟩,
  ⟨"ISL_GI_TEL", 0x050014, [], .ro, 0x00000000, 0x00000000, 0x00000000, false, []⟩,
  ⟨"ISL_GI_LINK", 0x050018, [], .ro, 0x00000000, 0x00000000, 0x00000000, false, []⟩,
  ⟨"ISL_GI_OCa", 0x050020, [(4, 0x4)], .rwl, 0x000000E6, 0x000000FF, 0x00000000, true, [⟨0, 8, 1, 255⟩]⟩,
  ⟨"ISL_GI_DIAGa", 0x050030, [(4, 0x4)], .ro, 0x00000FFF, 0x00000000, 0x00000000, false, []⟩,
  ⟨"ISL_GCc_SEGi", 0x050100, [(16, 0x40), (12, 0x4)], .rwl, 0x00000000, 0xFFFFFF00, 0x00000000, true, [⟨29, 2, 0, 1⟩]⟩,
  ⟨"ISL_GCc_DRV", 0x050130, [(16, 0x40)], .rwl, 0x00000101, 0x00000F03, 0x00000000, true, []⟩,
  ⟨"ISL_GCc_SC", 0x050134, [(16, 0x40)], .rwl, 0x0010F207, 0x00FFF70F, 0x00000000, true, []⟩,
  ⟨"ISL_GCc_STAT", 0x050138, [(16, 0x40)], .ro, 0x00000000, 0x00000000, 0x00000000, false, []⟩,
  ⟨"ISL_GCc_FLAGS", 0x05013C, [(16, 0x40)], .w1c, 0x00000000, 0x00000000, 0x00000006, false, []⟩,
  ⟨"ISL_Hn_SEGi", 0x050800, [(12, 0x800), (12, 0x4)], .rwl, 0x00000000, 0xFFFFFF00, 0x00000000, true, [⟨29, 2, 0, 1⟩]⟩,
  ⟨"ISL_Hn_DRV", 0x050830, [(12, 0x800)], .rwl, 0x00000101, 0x00000F03, 0x00000000, true, []⟩,
  ⟨"ISL_Hn_SC", 0x050834, [(12, 0x800)], .rwl, 0x0010F207, 0x00FFF70F, 0x00000000, true, [⟨16, 8, 0, 76⟩, ⟨12, 4, 1, 15⟩]⟩,
  ⟨"ISL_Hn_SUP", 0x050838, [(12, 0x800)], .rwl, 0x008778D2, 0x80FFFFFF, 0x00000000, true, [⟨16, 8, 100, 190⟩, ⟨8, 8, 80, 180⟩, ⟨0, 8, 170, 220⟩]⟩,
  ⟨"ISL_Hn_SUP2", 0x05083C, [(12, 0x800)], .rwl, 0x00826E05, 0x00FFFFFF, 0x00000000, true, []⟩,
  ⟨"ISL_Hn_BST", 0x050840, [(12, 0x800)], .rwl, 0x00C80258, 0x03FF07FF, 0x00000000, true, [⟨16, 10, 10, 1000⟩, ⟨0, 11, 200, 2000⟩]⟩,
  ⟨"ISL_Hn_STAT", 0x050844, [(12, 0x800)], .ro, 0x00000000, 0x00000000, 0x00000000, false, []⟩,
  ⟨"ISL_Hn_TEL", 0x050848, [(12, 0x800)], .ro, 0x00000000, 0x00000000, 0x00000000, false, []⟩,
  ⟨"ISL_Hn_ILK", 0x05084C, [(12, 0x800)], .ro, 0x00000000, 0x00000000, 0x00000000, false, []⟩,
  ⟨"ISL_Hn_LINK", 0x050850, [(12, 0x800)], .ro, 0x00000000, 0x00000000, 0x00000000, false, []⟩,
  ⟨"ISL_Hn_FLAGS", 0x050854, [(12, 0x800)], .w1c, 0x00000000, 0x00000000, 0x0000001F, false, []⟩]

/-- Rows of block 0x06. -/
def rows06 : List RegRow :=
 [
  ⟨"ADCk_CFG", 0x060000, [(4, 0x400)], .rwl, 0x40000000, 0xFF000FF8, 0x00000000, true, [⟨24, 8, 1, 255⟩, ⟨3, 3, 0, 5⟩, ⟨6, 3, 0, 5⟩, ⟨9, 3, 0, 5⟩]⟩,
  ⟨"ADCk_SEQLEN", 0x060004, [(4, 0x400)], .rwl, 0x00000001, 0x0000007F, 0x00000000, true, [⟨0, 7, 1, 64⟩]⟩,
  ⟨"ADCk_URG", 0x060008, [(4, 0x400)], .rw, 0x00000000, 0x8F0000FF, 0x00000000, false, []⟩,
  ⟨"ADCk_STAT", 0x06000C, [(4, 0x400)], .ro, 0x00000000, 0x00000000, 0x00000000, false, []⟩,
  ⟨"ADCk_FLAGS", 0x060010, [(4, 0x400)], .w1c, 0x00000000, 0x00000000, 0x0000003F, false, []⟩,
  ⟨"ADCk_DROP", 0x060014, [(4, 0x400)], .ro, 0x00000000, 0x00000000, 0x00000000, false, []⟩,
  ⟨"ADCk_LATc", 0x060040, [(4, 0x400), (12, 0x4)], .ro, 0x00010000, 0x00000000, 0x00000000, false, []⟩,
  ⟨"ADC_CALk_w", 0x060080, [(4, 0x400), (16, 0x4)], .ro, 0x00000000, 0x00000000, 0x00000000, false, []⟩,
  ⟨"ADCk_WINp", 0x0600C0, [(4, 0x400), (3, 0x8)], .ro, 0x00000000, 0x00000000, 0x00000000, false, []⟩,
  ⟨"ADCk_WMMp", 0x0600C4, [(4, 0x400), (3, 0x8)], .ro, 0x00000000, 0x00000000, 0x00000000, false, []⟩,
  ⟨"ADCk_SEQi", 0x060100, [(4, 0x400), (64, 0x8)], .rwl, 0xF0010000, 0xFCFF00CF, 0x00000000, true, []⟩,
  ⟨"ADCk_SDLYi", 0x060104, [(4, 0x400), (64, 0x8)], .rwl, 0x00000000, 0x0000FFFF, 0x00000000, true, []⟩,
  ⟨"ADC_CTRL", 0x061000, [], .rw, 0x00000000, 0x0000000F, 0x00000000, false, []⟩,
  ⟨"ADC_CMD", 0x061004, [], .wo, 0x00000000, 0x0000000F, 0x00000000, false, []⟩,
  ⟨"ADC_RECON", 0x061008, [], .rwl, 0x0020080F, 0x00FFFF0F, 0x00000000, true, [⟨8, 8, 1, 255⟩]⟩,
  ⟨"ADC_WBUF", 0x06100C, [], .rwl, 0x00000000, 0x8F8F8F8F, 0x00000000, true, []⟩,
  ⟨"ADC_ISCALEa", 0x061010, [(4, 0x4)], .rwl, 0x00000000, 0xFFFFFFFF, 0x00000000, true, []⟩,
  ⟨"ADC_BUFi_CFG", 0x061100, [(16, 0x8)], .rwl, 0x00000000, 0xC00F0FFF, 0x00000000, true, [⟨16, 4, 0, 8⟩]⟩,
  ⟨"ADC_BUFi_WPTR", 0x061104, [(16, 0x8)], .ro, 0x00000000, 0x00000000, 0x00000000, false, []⟩,
  ⟨"ADC_SARSCAN", 0x061200, [], .rwl, 0x3FFF3FFF, 0xFFFFFFFF, 0x00000000, true, []⟩,
  ⟨"ADC_SARCFG", 0x061204, [], .rwl, 0x00000000, 0x00FF000F, 0x00000000, true, []⟩,
  ⟨"ADC_SARs_Di", 0x061240, [(2, 0x40), (16, 0x4)], .ro, 0x00000000, 0x00000000, 0x00000000, false, []⟩]

/-- Rows of block 0x07. -/
def rows07 : List RegRow :=
 [
  ⟨"FLDa_CFG", 0x070000, [(4, 0x400)], .rwl, 0x00E80000, 0x11FF0077, 0x00000000, true, [⟨16, 9, 232, 256⟩, ⟨0, 3, 0, 3⟩]⟩,
  ⟨"FLDa_ASRC", 0x070004, [(4, 0x400)], .rwl, 0x3C0A1E00, 0xFFFFFF33, 0x00000000, true, [⟨24, 8, 1, 255⟩, ⟨16, 8, 1, 100⟩, ⟨8, 8, 10, 200⟩, ⟨4, 2, 0, 2⟩, ⟨0, 2, 0, 2⟩]⟩,
  ⟨"FLDa_OBS", 0x070008, [(4, 0x400)], .rws, 0x0804019A, 0xFFFFFFFF, 0x00000000, true, [⟨24, 8, 1, 255⟩, ⟨16, 8, 1, 255⟩, ⟨0, 16, 1, 65535⟩]⟩,
  ⟨"FLDa_PLL", 0x07000C, [(4, 0x400)], .rws, 0x00802000, 0xFFFFFFFF, 0x00000000, true, []⟩,
  ⟨"FLDa_HDIV", 0x070010, [(4, 0x400)], .rws, 0x00000064, 0x0000FFFF, 0x00000000, true, [⟨0, 16, 1, 1000⟩]⟩,
  ⟨"FLDa_MACH", 0x070014, [(4, 0x400)], .rwl, 0x00000000, 0xFFFFFFFF, 0x00000000, true, []⟩,
  ⟨"FLDa_MACH2", 0x070018, [(4, 0x400)], .rwl, 0x00000000, 0xFFFFFFFF, 0x00000000, true, []⟩,
  ⟨"FLDa_RATED", 0x07001C, [(4, 0x400)], .rwl, 0x00000000, 0x0003FFFF, 0x00000000, true, [⟨0, 18, 1, 200000⟩]⟩,
  ⟨"FLDa_VBASE", 0x070020, [(4, 0x400)], .rwl, 0x00000000, 0x0000FFFF, 0x00000000, true, []⟩,
  ⟨"FLDa_DTC", 0x070024, [(4, 0x400)], .rws, 0x00280500, 0x0FFF0FFF, 0x00000000, true, [⟨16, 12, 1, 4095⟩]⟩,
  ⟨"FLDa_HFI", 0x070028, [(4, 0x400)], .rws, 0x004040CD, 0x00FFFFFF, 0x00000000, true, [⟨16, 8, 16, 255⟩, ⟨12, 4, 1, 15⟩]⟩,
  ⟨"FLDa_REACQ", 0x07002C, [(4, 0x400)], .rws, 0x00140084, 0x00FF03FF, 0x00000000, true, [⟨16, 8, 1, 255⟩, ⟨4, 6, 4, 32⟩]⟩,
  ⟨"FLDa_PROBE", 0x070030, [(4, 0x400)], .rws, 0x02940320, 0xFFFF1FFF, 0x00000000, true, [⟨16, 4, 3, 15⟩, ⟨0, 13, 200, 8000⟩]⟩,
  ⟨"FLDa_RAMP", 0x070034, [(4, 0x400)], .rws, 0x00000032, 0x000003FF, 0x00000000, true, [⟨0, 10, 1, 1000⟩]⟩,
  ⟨"FLDa_BADV", 0x070038, [(4, 0x400)], .rws, 0x00000000, 0x0000FFFF, 0x00000000, true, []⟩,
  ⟨"FLDa_EXTANG", 0x07003C, [(4, 0x400)], .rws, 0x00000000, 0xFFFFFFFF, 0x00000000, false, []⟩,
  ⟨"FLDa_EXTSPD", 0x070040, [(4, 0x400)], .rws, 0x00000000, 0xFFFFFFFF, 0x00000000, false, []⟩,
  ⟨"FLDa_STAT", 0x070044, [(4, 0x400)], .ro, 0x00000000, 0x00000000, 0x00000000, false, []⟩,
  ⟨"FLDa_ANGLE", 0x070048, [(4, 0x400)], .ro, 0x00000000, 0x00000000, 0x00000000, false, []⟩,
  ⟨"FLDa_SPEED", 0x07004C, [(4, 0x400)], .ro, 0x00000000, 0x00000000, 0x00000000, false, []⟩,
  ⟨"FLDa_OBSANG", 0x070050, [(4, 0x400)], .ro, 0x00000000, 0x00000000, 0x00000000, false, []⟩,
  ⟨"FLDa_RESID", 0x070054, [(4, 0x400)], .ro, 0x00000000, 0x00000000, 0x00000000, false, []⟩,
  ⟨"FLDa_HELD", 0x070058, [(4, 0x400)], .ro, 0x00000000, 0x00000000, 0x00000000, false, []⟩,
  ⟨"FLDa_FLAGS", 0x07005C, [(4, 0x400)], .w1c, 0x00000000, 0x00000000, 0x0000000F, false, []⟩,
  ⟨"FLDa_STOP", 0x070060, [(4, 0x400)], .rws, 0x00290064, 0xFFFFFFFF, 0x00000000, true, [⟨0, 16, 1, 65535⟩]⟩]

/-- Rows of block 0x08. -/
def rows08 : List RegRow :=
 [
  ⟨"POSa_CFG", 0x080000, [(4, 0x100)], .rwl, 0x00000A00, 0x00FFFF01, 0x00000000, true, []⟩,
  ⟨"POSa_WRAP", 0x080004, [(4, 0x100)], .rwl, 0x00000018, 0x0000FFFF, 0x00000000, true, [⟨0, 16, 1, 65535⟩]⟩,
  ⟨"POSa_HMAP", 0x080008, [(4, 0x100)], .rwl, 0x000EC280, 0x001FFFF8, 0x00000000, true, []⟩,
  ⟨"POSa_OFS", 0x08000C, [(4, 0x100)], .rws, 0x00000000, 0x0000FFFF, 0x00000000, true, []⟩,
  ⟨"POSa_TMO", 0x080010, [(4, 0x100)], .rwl, 0x000000C8, 0x00003FFF, 0x00000000, true, [⟨0, 14, 1, 10000⟩]⟩,
  ⟨"POSa_STAT", 0x080014, [(4, 0x100)], .ro, 0x00000000, 0x00000000, 0x00000000, false, []⟩,
  ⟨"POSa_INT", 0x080018, [(4, 0x100)], .ro, 0x00000000, 0x00000000, 0x00000000, false, []⟩,
  ⟨"POSa_LPOS", 0x08001C, [(4, 0x100)], .ro, 0x00000000, 0x00000000, 0x00000000, false, []⟩,
  ⟨"POSa_LTS", 0x080020, [(4, 0x100)], .ro, 0x00000000, 0x00000000, 0x00000000, false, []⟩,
  ⟨"POSa_TIME", 0x080024, [(4, 0x100)], .ro, 0x00000000, 0x00000000, 0x00000000, false, []⟩]

/-- Rows of block 0x09. -/
def rows09 : List RegRow :=
 [
  ⟨"CE_CFG", 0x090000, [], .rwl, 0x00080200, 0xC0FF0330, 0x00000000, true, [⟨16, 8, 1, 255⟩, ⟨8, 2, 2, 3⟩]⟩,
  ⟨"CE_STEP", 0x090004, [], .rwl, 0x000061A8, 0x0007FFFF, 0x00000000, true, [⟨0, 19, 2000, 200000⟩]⟩,
  ⟨"CE_STATUS", 0x090008, [], .ro, 0x00C00000, 0x00000000, 0x00000000, false, []⟩,
  ⟨"CE_FLAGS", 0x09000C, [], .w1c, 0x00000000, 0x00000000, 0x000000FF, false, []⟩,
  ⟨"CE_CNT", 0x090010, [], .ro, 0x00000000, 0x00000000, 0x00000000, false, []⟩,
  ⟨"CE_LOAD", 0x090014, [], .ro, 0x00000000, 0x00000000, 0x00000000, false, []⟩,
  ⟨"CE_PBLK", 0x090020, [], .rws, 0x00000000, 0x0FFF07FF, 0x00000000, false, []⟩,
  ⟨"CE_PBLK_SRC", 0x090024, [], .rw, 0x00000000, 0x0000FFFF, 0x00000000, false, []⟩,
  ⟨"CE_PBLK_STAT", 0x090028, [], .ro, 0x00000000, 0x00000000, 0x00000000, false, []⟩,
  ⟨"CE_SWIN_SEL", 0x090030, [], .rw, 0x00000000, 0x0000013F, 0x00000000, false, []⟩,
  ⟨"CE_A_STICKYi", 0x090100, [(16, 0x4)], .w1c, 0x00000000, 0x00000000, 0xFFFFFFFF, false, []⟩,
  ⟨"CE_B_STICKYi", 0x090140, [(16, 0x4)], .w1c, 0x00000000, 0x00000000, 0xFFFFFFFF, false, []⟩,
  ⟨"CE_LANEl_CFG", 0x090200, [(32, 0x10)], .rwl, 0x00000000, 0xFFE003FF, 0x00000000, true, [⟨28, 3, 0, 5⟩, ⟨24, 4, 0, 4⟩, ⟨22, 2, 0, 2⟩, ⟨0, 10, 0, 1000⟩]⟩,
  ⟨"CE_LANEl_SLEW", 0x090204, [(32, 0x10)], .rws, 0x00000000, 0xFFFFFFFF, 0x00000000, true, []⟩,
  ⟨"CE_LANEl_TGT", 0x090208, [(32, 0x10)], .ro, 0x00000000, 0x00000000, 0x00000000, false, []⟩,
  ⟨"CE_LANEl_OUT", 0x09020C, [(32, 0x10)], .ro, 0x00000000, 0x00000000, 0x00000000, false, []⟩,
  ⟨"CE_AGRi", 0x090400, [(64, 0x4)], .rwl, 0x00000000, 0xC0FFFFFF, 0x00000000, true, []⟩,
  ⟨"CE_CMDd_CFG", 0x090500, [(4, 0x20)], .rwl, 0x00FA0000, 0xFBFFFF00, 0x00000000, true, [⟨16, 10, 1, 1000⟩]⟩,
  ⟨"CE_CMDd_X", 0x090504, [(4, 0x20)], .rwl, 0x00000000, 0xFFFFFFFF, 0x00000000, true, []⟩,
  ⟨"CE_CMDd_Y", 0x090508, [(4, 0x20)], .rwl, 0x00000000, 0xFFFFFFFF, 0x00000000, true, []⟩,
  ⟨"CE_CMDd_DB", 0x09050C, [(4, 0x20)], .rwl, 0x00000000, 0xFFFFFFFF, 0x00000000, true, []⟩,
  ⟨"CE_CMDd_LIM", 0x090510, [(4, 0x20)], .rwl, 0xFFFF0000, 0xFFFFFFFF, 0x00000000, true, []⟩,
  ⟨"CE_CMDd_VAL", 0x090514, [(4, 0x20)], .ro, 0x80000000, 0x00000000, 0x00000000, false, []⟩,
  ⟨"CE_PGg_CFG", 0x090600, [(2, 0x10)], .rws, 0x00000000, 0x8000001F, 0x00000000, true, []⟩,
  ⟨"CE_PGg_V", 0x090604, [(2, 0x10)], .rws, 0x00010000, 0xFFFFFFFF, 0x00000000, true, [⟨0, 32, 1, 4294967295⟩]⟩,
  ⟨"CE_PGg_A", 0x090608, [(2, 0x10)], .rws, 0x00010000, 0xFFFFFFFF, 0x00000000, true, [⟨0, 32, 1, 4294967295⟩]⟩,
  ⟨"CE_PGg_J", 0x09060C, [(2, 0x10)], .rws, 0x00010000, 0xFFFFFFFF, 0x00000000, true, [⟨0, 32, 1, 4294967295⟩]⟩,
  ⟨"CE_INJg_TGT", 0x090700, [(2, 0x20)], .rws, 0x00000000, 0x000031FF, 0x00000000, false, []⟩,
  ⟨"CE_INJg_CFG", 0x090704, [(2, 0x20)], .rws, 0x07010202, 0xEFFFFFFF, 0x00000000, false, []⟩,
  ⟨"CE_INJg_AMP", 0x090708, [(2, 0x20)], .rws, 0x00000000, 0xFFFFFFFF, 0x00000000, false, []⟩,
  ⟨"CE_INJg_F0", 0x09070C, [(2, 0x20)], .rws, 0x00000000, 0xFFFFFFFF, 0x00000000, false, []⟩,
  ⟨"CE_INJg_F1", 0x090710, [(2, 0x20)], .rws, 0x00000000, 0xFFFFFFFF, 0x00000000, false, []⟩,
  ⟨"CE_INJg_DUR", 0x090714, [(2, 0x20)], .rws, 0x00000001, 0x00FFFFFF, 0x00000000, false, []⟩,
  ⟨"CE_INJg_CTL", 0x090718, [(2, 0x20)], .rws, 0x00000000, 0x00000001, 0x00000000, false, []⟩,
  ⟨"CE_INJg_STAT", 0x09071C, [(2, 0x20)], .ro, 0x00000000, 0x00000000, 0x00000000, false, []⟩,
  ⟨"CE_CAPSTAT", 0x090800, [], .ro, 0x00000000, 0x00000000, 0x00000000, false, []⟩,
  ⟨"CE_CAPPOS", 0x090804, [], .ro, 0x00000000, 0x00000000, 0x00000000, false, []⟩,
  ⟨"CE_PARi", 0x094000, [(4096, 0x4)], .rws, 0x00000000, 0xFFFFFFFF, 0x00000000, true, []⟩,
  ⟨"CE_SWINw", 0x09C000, [(256, 0x4)], .ro, 0x00000000, 0x00000000, 0x00000000, false, []⟩]

/-- Rows of block 0x0A. -/
def rows0A : List RegRow :=
 [
  ⟨"AUXx_CFG", 0x0A0000, [(2, 0x100)], .rwl, 0x00000000, 0xF8F80000, 0x00000000, true, [⟨22, 2, 0, 2⟩, ⟨20, 2, 0, 2⟩]⟩,
  ⟨"AUXx_CUR", 0x0A0004, [(2, 0x100)], .rws, 0x00FA1964, 0x00FFFFFF, 0x00000000, true, [⟨16, 8, 0, 250⟩, ⟨8, 8, 0, 250⟩, ⟨0, 8, 0, 250⟩]⟩,
  ⟨"AUXx_CHOP", 0x0A0008, [(2, 0x100)], .rwl, 0x01F40883, 0xFFFF0FFF, 0x00000000, true, [⟨16, 16, 0, 10000⟩, ⟨8, 4, 1, 15⟩]⟩,
  ⟨"AUXx_BST", 0x0A000C, [(2, 0x100)], .rwl, 0x00C80258, 0x03FF07FF, 0x00000000, true, [⟨16, 10, 10, 1000⟩, ⟨0, 11, 200, 2000⟩]⟩,
  ⟨"AUXx_SW", 0x0A0010, [(2, 0x100)], .rwl, 0x00140007, 0x00FF0007, 0x00000000, true, [⟨16, 8, 0, 100⟩]⟩,
  ⟨"AUXx_SPDENT", 0x0A0014, [(2, 0x100)], .rws, 0x00000000, 0x003FFFFF, 0x00000000, true, []⟩,
  ⟨"AUXx_SPDEXT", 0x0A0018, [(2, 0x100)], .rws, 0x00000000, 0x003FFFFF, 0x00000000, true, []⟩,
  ⟨"AUXx_SPDKNEE", 0x0A001C, [(2, 0x100)], .rws, 0x00000C80, 0x003FFFFF, 0x00000000, true, [⟨0, 22, 1, 4194303⟩]⟩,
  ⟨"AUXx_SPDTOP", 0x0A0020, [(2, 0x100)], .rws, 0x00006400, 0x003FFFFF, 0x00000000, true, [⟨0, 22, 1, 4194303⟩]⟩,
  ⟨"AUXx_ACCLO", 0x0A0024, [(2, 0x100)], .rws, 0x00019000, 0x00FFFFFF, 0x00000000, true, [⟨0, 24, 1, 16777215⟩]⟩,
  ⟨"AUXx_ACCHI", 0x0A0028, [(2, 0x100)], .rws, 0x00019000, 0x00FFFFFF, 0x00000000, true, [⟨0, 24, 1, 16777215⟩]⟩,
  ⟨"AUXx_DECLO", 0x0A002C, [(2, 0x100)], .rws, 0x00000000, 0x00FFFFFF, 0x00000000, true, []⟩,
  ⟨"AUXx_DECHI", 0x0A0030, [(2, 0x100)], .rws, 0x00000000, 0x00FFFFFF, 0x00000000, true, []⟩,
  ⟨"AUXx_GRIDk", 0x0A0034, [(2, 0x100), (4, 0x4)], .rws, 0x003FFFFF, 0x003FFFFF, 0x00000000, true, []⟩,
  ⟨"AUXx_GRIDHYS", 0x0A0044, [(2, 0x100)], .rws, 0x00000000, 0x003FFFFF, 0x00000000, true, []⟩,
  ⟨"AUXx_PMIN", 0x0A0048, [(2, 0x100)], .rws, 0x80000000, 0xFFFFFFFF, 0x00000000, true, []⟩,
  ⟨"AUXx_PMAX", 0x0A004C, [(2, 0x100)], .rws, 0x7FFFFFFF, 0xFFFFFFFF, 0x00000000, true, []⟩,
  ⟨"AUXx_TGT", 0x0A0050, [(2, 0x100)], .rws, 0x00000000, 0xFFFFFFFF, 0x00000000, false, []⟩,
  ⟨"AUXx_CMD", 0x0A0054, [(2, 0x100)], .rws, 0x00000000, 0x00000001, 0x00000000, false, []⟩,
  ⟨"AUXx_HV1", 0x0A0058, [(2, 0x100)], .rws, 0x00000C80, 0x003FFFFF, 0x00000000, true, []⟩,
  ⟨"AUXx_HV2", 0x0A005C, [(2, 0x100)], .rws, 0x00000320, 0x003FFFFF, 0x00000000, true, []⟩,
  ⟨"AUXx_HBACK", 0x0A0060, [(2, 0x100)], .rws, 0x00000800, 0x00FFFFFF, 0x00000000, true, []⟩,
  ⟨"AUXx_HOFS", 0x0A0064, [(2, 0x100)], .rws, 0x00000000, 0xFFFFFFFF, 0x00000000, true, []⟩,
  ⟨"AUXx_HMAX", 0x0A0068, [(2, 0x100)], .rws, 0x00000000, 0xFFFFFFFF, 0x00000000, true, []⟩,
  ⟨"AUXx_DUTY", 0x0A006C, [(2, 0x100)], .rws, 0x00000000, 0x0000FFFF, 0x00000000, false, []⟩,
  ⟨"AUXx_DSLEW", 0x0A0070, [(2, 0x100)], .rws, 0x00000000, 0x0000FFFF, 0x00000000, true, []⟩,
  ⟨"AUXx_POS", 0x0A0080, [(2, 0x100)], .ro, 0x00000000, 0x00000000, 0x00000000, false, []⟩,
  ⟨"AUXx_VEL", 0x0A0084, [(2, 0x100)], .ro, 0x00000000, 0x00000000, 0x00000000, false, []⟩,
  ⟨"AUXx_STAT", 0x0A0088, [(2, 0x100)], .ro, 0x00000080, 0x00000000, 0x00000000, false, []⟩,
  ⟨"AUXx_FLAGS", 0x0A008C, [(2, 0x100)], .w1c, 0x00000000, 0x00000000, 0x0000007F, false, []⟩,
  ⟨"AUXx_HLAT", 0x0A0090, [(2, 0x100)], .ro, 0x00000000, 0x00000000, 0x00000000, false, []⟩,
  ⟨"AUXx_ILAT", 0x0A0094, [(2, 0x100)], .ro, 0x00000000, 0x00000000, 0x00000000, false, []⟩,
  ⟨"AUX_VAUX", 0x0A0800, [], .ro, 0x00000000, 0x00000000, 0x00000000, false, []⟩]

/-- Rows of block 0x0B. -/
def rows0B : List RegRow :=
 [
  ⟨"DCL_CFG", 0x0B0000, [], .rwl, 0x00000010, 0x00000131, 0x00000000, true, [⟨4, 2, 1, 2⟩]⟩,
  ⟨"DCL_SCALE_A", 0x0B0004, [], .rwl, 0x00000000, 0x00FFFFFF, 0x00000000, true, [⟨0, 24, 1, 16777215⟩]⟩,
  ⟨"DCL_SCALE_B", 0x0B0008, [], .rwl, 0x00000000, 0x00FFFFFF, 0x00000000, true, [⟨0, 24, 1, 16777215⟩]⟩,
  ⟨"DCL_PLAUS", 0x0B000C, [], .rwl, 0x000A0314, 0x00FFFFFF, 0x00000000, true, [⟨16, 8, 1, 255⟩, ⟨8, 8, 1, 255⟩, ⟨0, 8, 5, 100⟩]⟩,
  ⟨"DCL_TIME", 0x0B0010, [], .rwl, 0x0000020A, 0x00000F7F, 0x00000000, true, [⟨8, 4, 1, 15⟩, ⟨0, 7, 2, 100⟩]⟩,
  ⟨"DCL_VCHOP", 0x0B0014, [], .rws, 0x00000000, 0xFFFFFFFF, 0x00000000, true, []⟩,
  ⟨"DCL_VFULL", 0x0B0018, [], .rws, 0x00000000, 0x0000FFFF, 0x00000000, true, []⟩,
  ⟨"DCL_VOV", 0x0B001C, [], .rwl, 0x00000000, 0xFFFFFFFF, 0x00000000, true, []⟩,
  ⟨"DCL_VOV3", 0x0B0020, [], .rwl, 0x00320000, 0xFFFFFFFF, 0x00000000, true, [⟨16, 16, 1, 1000⟩]⟩,
  ⟨"DCL_VNOM", 0x0B0024, [], .rwl, 0x00000000, 0x0000FFFF, 0x00000000, true, [⟨0, 16, 1, 65535⟩]⟩,
  ⟨"DCL_FBK", 0x0B0028, [], .rwl, 0x00000014, 0x0000001F, 0x00000000, true, [⟨0, 5, 0, 29⟩]⟩,
  ⟨"DCL_CHi_CFG", 0x0B0040, [(2, 0x20)], .rwl, 0x00000000, 0xC000FFFF, 0x00000000, true, [⟨30, 2, 0, 2⟩]⟩,
  ⟨"DCL_CHi_BCS", 0x0B0044, [(2, 0x20)], .rwl, 0x00000000, 0x00FFFFFF, 0x00000000, true, []⟩,
  ⟨"DCL_CHi_CHK", 0x0B0048, [(2, 0x20)], .rwl, 0x1414378A, 0xFFFFFFFF, 0x00000000, true, [⟨24, 8, 1, 255⟩, ⟨12, 4, 1, 15⟩, ⟨6, 6, 5, 50⟩, ⟨0, 6, 1, 50⟩]⟩,
  ⟨"DCL_CHi_STAT", 0x0B004C, [(2, 0x20)], .ro, 0x00000000, 0x00000000, 0x00000000, false, []⟩,
  ⟨"DCL_SELa", 0x0B0080, [(4, 0x4)], .rwl, 0x00000000, 0xCFFFFFFF, 0x00000000, true, [⟨30, 2, 0, 2⟩]⟩,
  ⟨"DCL_SELSTAT", 0x0B0090, [], .ro, 0x00000000, 0x00000000, 0x00000000, false, []⟩,
  ⟨"DCL_DCFG", 0x0B00A0, [], .rwl, 0x0064050A, 0xC07FFFFF, 0x00000000, true, [⟨16, 7, 1, 100⟩, ⟨8, 8, 1, 100⟩, ⟨0, 8, 1, 50⟩]⟩,
  ⟨"DCL_DLIM", 0x0B00A4, [], .rwl, 0x00140258, 0xFFFFFFFF, 0x00000000, true, [⟨16, 16, 1, 600⟩, ⟨0, 16, 200, 1200⟩]⟩,
  ⟨"DCL_DISCH", 0x0B00A8, [], .rws, 0x00000000, 0x00000003, 0x00000000, false, []⟩,
  ⟨"DCL_DSTAT", 0x0B00AC, [], .ro, 0x00000000, 0x00000000, 0x00000000, false, []⟩,
  ⟨"DCL_VDC", 0x0B00C0, [], .ro, 0x00000000, 0x00000000, 0x00000000, false, []⟩,
  ⟨"DCL_VAB", 0x0B00C4, [], .ro, 0x00000000, 0x00000000, 0x00000000, false, []⟩,
  ⟨"DCL_STAT", 0x0B00C8, [], .ro, 0x00000000, 0x00000000, 0x00000000, false, []⟩,
  ⟨"DCL_FLAGS", 0x0B00CC, [], .w1c, 0x00000000, 0x00000000, 0x0000000F, false, []⟩]

/-- Rows of block 0x0C. -/
def rows0C : List RegRow :=
 [
  ⟨"SAFE_CFG", 0x0C0000, [], .rwl, 0xD0000064, 0xF3FF03FF, 0x00000000, true, [⟨16, 10, 0, 1000⟩, ⟨0, 10, 1, 1000⟩]⟩,
  ⟨"SAFE_STO", 0x0C0004, [], .ro, 0x00000000, 0x00000000, 0x00000000, false, []⟩,
  ⟨"SAFE_DRIVE", 0x0C0008, [], .ro, 0x00000000, 0x00000000, 0x00000000, false, []⟩,
  ⟨"SAFE_FLAGS", 0x0C000C, [], .w1c, 0x00000000, 0x00000000, 0x0000000F, false, []⟩,
  ⟨"SAFE_TMa_CFG", 0x0C0010, [(4, 0x20)], .rwl, 0x0000040A, 0xC01FFFFF, 0x00000000, true, [⟨8, 8, 1, 255⟩]⟩,
  ⟨"SAFE_TMa_LIM", 0x0C0014, [(4, 0x20)], .rwl, 0x019A0333, 0xFFFFFFFF, 0x00000000, true, []⟩,
  ⟨"SAFE_TMa_ISC", 0x0C0018, [(4, 0x20)], .rwl, 0x00000000, 0xFFFFFFFF, 0x00000000, true, []⟩,
  ⟨"SAFE_TMa_OFS", 0x0C001C, [(4, 0x20)], .rwl, 0x08000800, 0x0FFF0FFF, 0x00000000, true, []⟩,
  ⟨"SAFE_TMa_STAT", 0x0C0020, [(4, 0x20)], .ro, 0x00000000, 0x00000000, 0x00000000, false, []⟩,
  ⟨"SAFE_SBC_CFG", 0x0C0090, [], .rwl, 0x40502814, 0xC0FFFFFF, 0x00000000, true, [⟨16, 8, 1, 80⟩, ⟨8, 8, 10, 80⟩, ⟨0, 8, 1, 100⟩]⟩,
  ⟨"SAFE_SBC_LIM", 0x0C0094, [], .rwl, 0x00000000, 0xFFFFFFFF, 0x00000000, true, []⟩,
  ⟨"SAFE_SBC_APPLY", 0x0C0098, [], .rwl, 0x00320000, 0x00FFFFFF, 0x00000000, true, [⟨16, 8, 1, 255⟩]⟩,
  ⟨"SAFE_SBC_CTL", 0x0C009C, [], .rws, 0x00000000, 0x00000001, 0x00000000, false, []⟩,
  ⟨"SAFE_SBC_STAT", 0x0C00A0, [], .ro, 0x00FF0000, 0x00000000, 0x00000000, false, []⟩,
  ⟨"SAFE_DEG", 0x0C00A4, [], .rwl, 0x1908003C, 0xFFDFFFFF, 0x00000000, true, [⟨22, 10, 0, 1000⟩, ⟨10, 11, 0, 1024⟩, ⟨0, 10, 1, 600⟩]⟩,
  ⟨"SAFE_CONNc_CFG", 0x0C0100, [(8, 0x20)], .rwl, 0x30000064, 0xBF0003FF, 0x00000000, true, [⟨0, 10, 1, 1000⟩]⟩,
  ⟨"SAFE_CONNc_ID", 0x0C0104, [(8, 0x20)], .rwl, 0x00000000, 0xFFFFFFFF, 0x00000000, true, []⟩,
  ⟨"SAFE_CONNc_AGE", 0x0C0108, [(8, 0x20)], .rwl, 0x00000064, 0x0000FFFF, 0x00000000, true, []⟩,
  ⟨"SAFE_CONNc_STAT", 0x0C010C, [(8, 0x20)], .ro, 0x00000000, 0x00000000, 0x00000000, false, []⟩,
  ⟨"SAFE_CONNc_ERR", 0x0C0110, [(8, 0x20)], .ro, 0x00000000, 0x00000000, 0x00000000, false, []⟩]

/-- Rows of block 0x0D. -/
def rows0D : List RegRow :=
 [
  ⟨"FLT_CFG", 0x0D0000, [], .rwl, 0x020403E8, 0x87FFFFFF, 0x00000000, true, [⟨24, 3, 1, 4⟩, ⟨16, 8, 1, 255⟩, ⟨0, 16, 10, 60000⟩]⟩,
  ⟨"FLT_STAT", 0x0D0004, [], .ro, 0x00000000, 0x00000000, 0x00000000, false, []⟩,
  ⟨"FLT_LOOKUP", 0x0D0008, [], .rw, 0x00000000, 0x0000FFFF, 0x00000000, false, []⟩,
  ⟨"FLT_CMD", 0x0D000C, [], .wo, 0x00000000, 0x00000003, 0x00000000, false, []⟩,
  ⟨"FLT_LOGHEAD", 0x0D0010, [], .ro, 0x00000000, 0x00000000, 0x00000000, false, []⟩,
  ⟨"FLT_LOGLOST", 0x0D0014, [], .ro, 0x00000000, 0x00000000, 0x00000000, false, []⟩,
  ⟨"FLT_INJSTAT", 0x0D0018, [], .ro, 0x00000000, 0x00000000, 0x00000000, false, []⟩,
  ⟨"FLT_OPENm", 0x0D0040, [(16, 0x4)], .ro, 0x00000000, 0x00000000, 0x00000000, false, []⟩,
  ⟨"FLT_MAPi", 0x0D0800, [(512, 0x4)], .rwl, 0x070003E8, 0xC7073FFF, 0x00000000, true, [⟨16, 3, 0, 4⟩, ⟨0, 14, 1, 10000⟩]⟩,
  ⟨"FLT_RECi_ST", 0x0D1000, [(512, 0x10)], .ro, 0x00000000, 0x00000000, 0x00000000, false, []⟩,
  ⟨"FLT_RECi_CNT", 0x0D1004, [(512, 0x10)], .ro, 0x00000000, 0x00000000, 0x00000000, false, []⟩,
  ⟨"FLT_RECi_FIRST", 0x0D1008, [(512, 0x10)], .ro, 0x00000000, 0x00000000, 0x00000000, false, []⟩,
  ⟨"FLT_RECi_LAST", 0x0D100C, [(512, 0x10)], .ro, 0x00000000, 0x00000000, 0x00000000, false, []⟩,
  ⟨"HLTm_CFG", 0x0D8000, [(32, 0x80)], .rw, 0x00000000, 0x8FFF00FF, 0x00000000, false, []⟩,
  ⟨"HLTm_LO", 0x0D8004, [(32, 0x80)], .rw, 0x00000000, 0xFFFFFFFF, 0x00000000, false, []⟩,
  ⟨"HLTm_MIN", 0x0D8008, [(32, 0x80)], .ro, 0x7FFFFFFF, 0x00000000, 0x00000000, false, []⟩,
  ⟨"HLTm_MAX", 0x0D800C, [(32, 0x80)], .ro, 0x80000000, 0x00000000, 0x00000000, false, []⟩,
  ⟨"HLTm_COUNT", 0x0D8010, [(32, 0x80)], .ro, 0x00000000, 0x00000000, 0x00000000, false, []⟩,
  ⟨"HLTm_LAST", 0x0D8014, [(32, 0x80)], .ro, 0x00000000, 0x00000000, 0x00000000, false, []⟩,
  ⟨"HLTm_BINk", 0x0D8020, [(32, 0x80), (16, 0x4)], .ro, 0x00000000, 0x00000000, 0x00000000, false, []⟩,
  ⟨"HLT_FRZ", 0x0D9000, [], .rw, 0x00000000, 0xFFFFFFFF, 0x00000000, false, []⟩,
  ⟨"HLT_CLR", 0x0D9004, [], .wo, 0x00000000, 0xFFFFFFFF, 0x00000000, false, []⟩]

/-- Rows of block 0x0E. -/
def rows0E : List RegRow :=
 [
  ⟨"CANc_CFG", 0x0E0000, [(3, 0x4000)], .rwl, 0x00000700, 0xE0000700, 0x00000000, true, []⟩,
  ⟨"CANc_NBT", 0x0E0004, [(3, 0x4000)], .rwl, 0x3EFC7C00, 0xFFFFFC1F, 0x00000000, true, [⟨17, 8, 1, 255⟩, ⟨10, 7, 1, 127⟩]⟩,
  ⟨"CANc_DBT", 0x0E0008, [(3, 0x4000)], .rwl, 0x9E09E480, 0xFF0FFF9F, 0x00000000, true, []⟩,
  ⟨"CANc_RESTR", 0x0E000C, [(3, 0x4000)], .rwl, 0x00642001, 0x03FFFFFF, 0x00000000, true, [⟨16, 10, 0, 1000⟩, ⟨8, 8, 1, 255⟩]⟩,
  ⟨"CANc_BO", 0x0E0010, [(3, 0x4000)], .rwl, 0x00640008, 0xFFFF00FF, 0x00000000, true, [⟨16, 16, 0, 10000⟩, ⟨0, 8, 1, 255⟩]⟩,
  ⟨"CANc_STAT", 0x0E0014, [(3, 0x4000)], .ro, 0x00000000, 0x00000000, 0x00000000, false, []⟩,
  ⟨"CANc_ERR", 0x0E0018, [(3, 0x4000)], .ro, 0x00000000, 0x00000000, 0x00000000, false, []⟩,
  ⟨"CANc_CMD", 0x0E001C, [(3, 0x4000)], .wo, 0x00000000, 0x00000003, 0x00000000, false, []⟩,
  ⟨"CANc_EVT", 0x0E0020, [(3, 0x4000)], .w1c, 0x00000000, 0x00000000, 0x0000001F, false, []⟩,
  ⟨"CANc_EVTEN", 0x0E0024, [(3, 0x4000)], .rw, 0x00000000, 0x0000001F, 0x00000000, false, []⟩,
  ⟨"CANc_TXREQ", 0x0E0028, [(3, 0x4000)], .rw, 0x00000000, 0xFFFFFFFF, 0x00000000, false, []⟩,
  ⟨"CANc_TXCAN", 0x0E002C, [(3, 0x4000)], .wo, 0x00000000, 0xFFFFFFFF, 0x00000000, false, []⟩,
  ⟨"CANc_TXDONE", 0x0E0030, [(3, 0x4000)], .w1c, 0x00000000, 0x00000000, 0xFFFFFFFF, false, []⟩,
  ⟨"CANc_TXCNC", 0x0E0034, [(3, 0x4000)], .w1c, 0x00000000, 0x00000000, 0xFFFFFFFF, false, []⟩,
  ⟨"CANc_RXNEWk", 0x0E0038, [(3, 0x4000), (2, 0x4)], .ro, 0x00000000, 0x00000000, 0x00000000, false, []⟩,
  ⟨"CANc_RXLOSTk", 0x0E0040, [(3, 0x4000), (2, 0x4)], .w1c, 0x00000000, 0x00000000, 0xFFFFFFFF, false, []⟩,
  ⟨"CANc_DROP", 0x0E0048, [(3, 0x4000)], .ro, 0x00000000, 0x00000000, 0x00000000, false, []⟩,
  ⟨"CANc_OBJi_ID", 0x0E1000, [(3, 0x4000), (64, 0x50)], .rwl, 0x00000000, 0xFFFFFFFF, 0x00000000, true, []⟩,
  ⟨"CANc_OBJi_TMO", 0x0E1004, [(3, 0x4000), (64, 0x50)], .rwl, 0x00000000, 0x0000FFFF, 0x00000000, true, []⟩,
  ⟨"CANc_OBJi_HDR", 0x0E1008, [(3, 0x4000), (64, 0x50)], .ro, 0x00000000, 0x00000000, 0x00000000, false, []⟩,
  ⟨"CANc_OBJi_TS", 0x0E100C, [(3, 0x4000), (64, 0x50)], .ro, 0x00000000, 0x00000000, 0x00000000, false, []⟩,
  ⟨"CANc_OBJi_Dw", 0x0E1010, [(3, 0x4000), (64, 0x50), (16, 0x4)], .ro, 0x00000000, 0x00000000, 0x00000000, false, []⟩,
  ⟨"CANc_TXj_ID", 0x0E2800, [(3, 0x4000), (32, 0x50)], .rw, 0x00000000, 0x5FFFFFFF, 0x00000000, false, []⟩,
  ⟨"CANc_TXj_CTL", 0x0E2804, [(3, 0x4000), (32, 0x50)], .rw, 0x00000000, 0xC00F0000, 0x00000000, false, []⟩,
  ⟨"CANc_TXj_TS", 0x0E2808, [(3, 0x4000), (32, 0x50)], .ro, 0x00000000, 0x00000000, 0x00000000, false, []⟩,
  ⟨"CANc_TXj_Dw", 0x0E2810, [(3, 0x4000), (32, 0x50), (16, 0x4)], .rw, 0x00000000, 0xFFFFFFFF, 0x00000000, false, []⟩,
  ⟨"CAN_PORTp_CFG", 0x0EC000, [(2, 0x10)], .rwl, 0x00000000, 0xF7FFFFFF, 0x00000000, true, [⟨28, 2, 0, 2⟩]⟩,
  ⟨"CAN_PORTp_CMDID", 0x0EC004, [(2, 0x10)], .rwl, 0x00000000, 0x5FFFFFFF, 0x00000000, true, []⟩,
  ⟨"CAN_PORTp_RPLID", 0x0EC008, [(2, 0x10)], .rwl, 0x00000000, 0x5FFFFFFF, 0x00000000, true, []⟩,
  ⟨"CAN_PORTp_STAT", 0x0EC00C, [(2, 0x10)], .ro, 0x00000000, 0x00000000, 0x00000000, false, []⟩]

/-- Rows of block 0x0F. -/
def rows0F : List RegRow :=
 [
  ⟨"BIST_STAT", 0x0F0000, [], .ro, 0x00000000, 0x00000000, 0x00000000, false, []⟩,
  ⟨"BIST_FUSE", 0x0F0004, [], .ro, 0x00000000, 0x00000000, 0x00000000, false, []⟩,
  ⟨"BIST_Uu_RES", 0x0F0100, [(15, 0x10)], .ro, 0xF0000000, 0x00000000, 0x00000000, false, []⟩,
  ⟨"BIST_Uu_SIG", 0x0F0104, [(15, 0x10)], .ro, 0x00000000, 0x00000000, 0x00000000, false, []⟩,
  ⟨"BIST_Uu_FADDR", 0x0F0108, [(15, 0x10)], .ro, 0x00000000, 0x00000000, 0x00000000, false, []⟩,
  ⟨"BIST_Uu_FBIT", 0x0F010C, [(15, 0x10)], .ro, 0x00000000, 0x00000000, 0x00000000, false, []⟩]

/-- Rows of block 0x10. -/
def rows10 : List RegRow :=
 [
  ⟨"THERM_CFG", 0x100000, [], .rwl, 0x01F40008, 0x3FFF001F, 0x00000000, true, [⟨16, 14, 10, 10000⟩, ⟨0, 5, 1, 16⟩]⟩,
  ⟨"THERM_THROT", 0x100004, [], .ro, 0x00000000, 0x00000000, 0x00000000, false, []⟩,
  ⟨"THERM_LVLk", 0x100010, [(3, 0x4)], .ro, 0x00000000, 0x00000000, 0x00000000, false, []⟩,
  ⟨"THERM_Ss_CFG", 0x100100, [(38, 0x10)], .rwl, 0x0000000A, 0x800F03FF, 0x00000000, true, [⟨0, 10, 0, 1000⟩]⟩,
  ⟨"THERM_Ss_TH", 0x100104, [(38, 0x10)], .rwl, 0xC8BEB405, 0xFFFFFF0F, 0x00000000, true, [⟨0, 4, 1, 15⟩]⟩,
  ⟨"THERM_Ss_VAL", 0x100108, [(38, 0x10)], .ro, 0x00000000, 0x00000000, 0x00000000, false, []⟩,
  ⟨"THERM_Ss_NTC", 0x10010C, [(30, 0x10)], .rwl, 0x00000000, 0x00000000, 0x00000000, true, []⟩,
  ⟨"THERM_Ss_NTC", 0x1002EC, [(8, 0x10)], .rwl, 0x0F8C03E8, 0xFFFFFFFF, 0x00000000, true, [⟨16, 16, 1000, 10000⟩, ⟨0, 16, 1, 65535⟩]⟩]

/-- Rows of block 0x11. -/
def rows11 : List RegRow :=
 [
  ⟨"PRES_Ww", 0x110000, [(2048, 0x4)], .prs, 0x00000000, 0xFFFFFFFF, 0x00000000, false, []⟩,
  ⟨"PRES_WEARw", 0x112000, [(2048, 0x4)], .ro, 0x00000000, 0x00000000, 0x00000000, false, []⟩,
  ⟨"PRES_STAT", 0x114000, [], .ro, 0x00000000, 0x00000000, 0x00000000, false, []⟩,
  ⟨"PRES_LANE", 0x114004, [], .ro, 0x00000000, 0x00000000, 0x00000000, false, []⟩,
  ⟨"PRES_REGr", 0x114040, [(16, 0x4)], .rwl, 0x00000000, 0xE3FF03FF, 0x00000000, true, []⟩]

/-- Rows of block 0x12. -/
def rows12 : List RegRow :=
 [
  ⟨"EVT_VECv_SRCw", 0x120000, [(64, 0x20), (8, 0x4)], .rwl, 0x00000000, 0xFFFFFFFF, 0x00000000, true, []⟩,
  ⟨"EVT_VOWNk", 0x120800, [(4, 0x4)], .rwl, 0x00000000, 0xFFFFFFFF, 0x00000000, true, []⟩,
  ⟨"EVT_SINKs_SRC", 0x120900, [(32, 0x8)], .rwl, 0x00000000, 0xFFFFFFFF, 0x00000000, true, []⟩,
  ⟨"EVT_SINKs_EN", 0x120904, [(32, 0x8)], .rwl, 0x00000000, 0x0000000F, 0x00000000, true, []⟩,
  ⟨"EVT_PENDk", 0x120A00, [(2, 0x4)], .w1c, 0x00000000, 0x00000000, 0xFFFFFFFF, false, []⟩,
  ⟨"EVT_OVRk", 0x120A08, [(2, 0x4)], .w1c, 0x00000000, 0x00000000, 0xFFFFFFFF, false, []⟩,
  ⟨"EVT_ENk", 0x120A10, [(2, 0x4)], .rw, 0x00000000, 0xFFFFFFFF, 0x00000000, false, []⟩,
  ⟨"EVT_VCNTv", 0x120B00, [(64, 0x4)], .ro, 0x00000000, 0x00000000, 0x00000000, false, []⟩]

/-- The rows of the block with number `b` (R438). -/
def blockRows (b : Nat) : List RegRow :=
  match b with
  | 0x00 => rows00
  | 0x01 => rows01
  | 0x02 => rows02
  | 0x03 => rows03
  | 0x04 => rows04
  | 0x05 => rows05
  | 0x06 => rows06
  | 0x07 => rows07
  | 0x08 => rows08
  | 0x09 => rows09
  | 0x0A => rows0A
  | 0x0B => rows0B
  | 0x0C => rows0C
  | 0x0D => rows0D
  | 0x0E => rows0E
  | 0x0F => rows0F
  | 0x10 => rows10
  | 0x11 => rows11
  | 0x12 => rows12
  | _ => []

/-- The registers of one row at the dimensions `dims`, `off` bytes above its base. -/
def dimsHave : List (Nat × Nat) → Nat → Bool
  | [], off => off == 0
  | (n, s) :: ds, off => decide (off / s < n) && dimsHave ds (off - off / s * s)

/-- The row holds a register at address `a`. -/
def RegRow.has (r : RegRow) (a : Nat) : Bool := decide (r.base ≤ a) && dimsHave r.dims (a - r.base)

/-- The row of the register at address `a`; `none` where no register lies (R7). -/
def rowAt (a : Nat) : Option RegRow := (blockRows (a / 0x10000)).find? (fun r => r.has a)

/-- A register lies at address `a`. -/
def occupied (a : Nat) : Bool := (rowAt a).isSome


end Sys2Proof.Machine
end

