-- ==== Sys2Proof/Machine/State.lean ====
section
/-! DEFINITION. The state of the device as plain data: the registers, the SRAM, the sequencers and buffers of every
block, the preserve array and fuses, and the queue of the commands that wait. Reset values are in `State.reset`. -/

namespace Sys2Proof.Machine

/-- Device states of R25, encoded by R31. -/
inductive DState where
  | dormant | boot | imageCheck | ready | armed | run | degraded | safe | service | lockout
  deriving DecidableEq, Repr, Inhabited

/-- The encoding of a device state in `SYS_STATE.DSTATE` (R31). -/
def DState.code : DState → Nat
  | .dormant => 0 | .boot => 1 | .imageCheck => 2 | .ready => 3 | .armed => 4 | .run => 5
  | .degraded => 6 | .safe => 7 | .service => 8 | .lockout => 9

/-- Traction axis states of R28, encoded by R31. -/
inductive AState where
  | idle | diag | enabled | driving | stopping | asc | freewheel
  deriving DecidableEq, Repr, Inhabited

/-- The encoding of an axis state in `SYS_AXSTATE` (R31). -/
def AState.code : AState → Nat
  | .idle => 0 | .diag => 1 | .enabled => 2 | .driving => 3 | .stopping => 4 | .asc => 5 | .freewheel => 6

/-- Cause of the last entry to BOOT (`IMG_CAUSE`). -/
inductive BootCause where
  | power | wake | nreset | self
  deriving DecidableEq, Repr, Inhabited

/-- The encoding of a boot cause in `IMG_CAUSE.CAUSE`. -/
def BootCause.code : BootCause → Nat
  | .power => 0 | .wake => 1 | .nreset => 2 | .self => 3

/-- Rails and keep-alive domain (R42, R63–R67, R447). -/
structure Power where
  /-- The three main rails are above their thresholds. -/
  railsUp : Bool
  /-- `VKA` is above its threshold. -/
  vkaUp : Bool
  /-- The power-on reset of R42 has ended. -/
  porEnded : Bool
  /-- A recognised wake is latched in the keep-alive domain (R66). -/
  wake : Bool
  /-- `VDD_IO` is below 3.0 V: no new preserve program starts (R45). -/
  vddIoLow : Bool
  /-- `VDD_IO` is present: the low-voltage pins are not in the Unpowered column of R48. -/
  ioUp : Bool
  /-- `nRESET` is held low by a pulse that R61 accepts. -/
  nResetLow : Bool
  /-- `TEST_MODE` as sampled at the latest release of reset (R48). -/
  testMode : Bool
  deriving DecidableEq, Repr, Inhabited

/-- Output pins whose level no register shows (R48, R70). -/
structure Pins where
  nPorOut : Bool
  syncOut : Bool
  alive : Bool
  sbcHs : Bool
  sbcLs : Bool
  /-- Level of each `POSOUTa` (R246). -/
  posOut : Vector Bool 4
  deriving DecidableEq, Repr, Inhabited

/-- Clock generator and timebase state beside the CLK registers. -/
structure Clk where
  /-- Tick of the latest switch-over (R136). -/
  lastSwitch : Option Nat
  /-- Tick of the latest valid `SYNC_IN` edge (R136). -/
  lastEdge : Option Nat
  /-- A snap by this many ticks is to be made (R135). -/
  snap : Option Int
  /-- Tick of the latest edge in ALIGN, once there has been one (R135). -/
  aligned : Option Nat
  /-- Epoch ticks since commit. -/
  epochs : Nat
  /-- Tick of the latest epoch tick, at which the epoch counter was 0 (R132); a snap moves it (R135). -/
  epochAt : Int
  /-- Tick from which the ÷2 and ÷5 dividers count in phase with the epoch (R135). -/
  divAt : Int
  /-- Fault 0x0301 is to be recorded at commit (R123). -/
  mdllFaultAtCommit : Bool
  /-- The monitor has declared the reference lost (R127). -/
  refLost : Bool
  /-- Tick at which `SYNC_OUT` last rose (R132), of the latest applied phase step (R137). -/
  syncAt : Nat
  stepAt : Option Nat
  deriving DecidableEq, Repr, Inhabited

/-- What a finished PWM period has applied (R232): compares after shifting, at 2p up and 2p + 1 down; the period in ticks; the high time
that refresh pulses removed from each phase, in ticks. -/
structure Applied where
  cmps : Vector Word 6
  per : Nat
  cut : Vector Nat 3
  deriving DecidableEq, Repr, Inhabited

/-- PWM generator of one traction axis, beside its registers. -/
structure Pwm where
  /-- The timebase runs (from the end of commit, R145). -/
  running : Bool
  /-- Staged period (R150). -/
  per : Option Word
  /-- Staged compares for the period in effect, at 2p up and 2p + 1 down. -/
  cmp : Vector (Option Word) 6
  /-- Staged next-period compares. -/
  ncmp : Vector (Option Word) 6
  /-- Compares, and next-period compares, that came after the cut-off of an update point and wait for the one after it (R147). -/
  lateC : Vector (Option Word) 6
  lateN : Vector (Option Word) 6
  /-- Boundaries since the half was first found alone (R151). -/
  waitAge : Nat
  /-- Compares applied to the present period, window shifts included (R164). -/
  eff : Vector Word 6
  /-- Length of the present period in ticks, and the high time that refresh pulses have removed in it. -/
  perNow : Nat
  refCut : Vector Nat 3
  /-- The previous period. -/
  prev : Applied
  /-- High request of each phase (R142). -/
  reqH : Vector Bool 3
  /-- Request after dead time of each switch: phase p high at 2p, low at 2p + 1 (R143). -/
  on : Vector Bool 6
  /-- A dead time runs before this switch turns on. -/
  dead : Vector Bool 6
  /-- Low switches on under a LOW_ON cut (R155). -/
  cutLow : Vector Bool 3
  /-- `DTL` runs before a low switch turns on under a LOW_ON cut (R155). -/
  cutWait : Vector Bool 3
  /-- An invalid mask index holds the axis off (R162). -/
  maskOff : Bool
  /-- A refresh is due since this tick (R192, R193), per phase. -/
  refresh : Vector (Option Nat) 3
  /-- A refresh pulse is under way, and holds the request low until this tick, per phase. -/
  refreshing : Vector (Option Nat) 3
  /-- Tick at which the low switch turned on, or turns on after its dead time, per phase (R192). -/
  lowFrom : Vector Nat 3
  /-- A probe pulse is under way, per phase (R252). -/
  probe : Vector Bool 3
  /-- Boundaries since commit (R19). -/
  bcount : Nat
  /-- Tick of the latest boundary. -/
  lastB : Nat
  deriving DecidableEq, Repr, Inhabited

/-- One chopper, discharge or aux channel (R167), beside its registers. -/
structure Chan where
  perSt : Option Word
  cmp0St : Option Word
  cmp1St : Option Word
  lastB : Nat
  deriving DecidableEq, Repr, Inhabited

/-- One switch: 0–11 the high switches, 12–27 the GI channels 0–15.
The `cd` fields are the CD's interlock (R182), the `isl` fields the island's own state. -/
structure Switch where
  /-- The turn-on request that reaches the interlock. -/
  cdReq : Bool
  /-- The command sent on the link. -/
  cdSent : Bool
  /-- Tick of the latest turn-on command (R183). -/
  cdAt : Nat
  /-- The turn-on is held by the interlock, since this tick. -/
  cdHeld : Option Nat
  /-- A confirmed-off status reported after the latest turn-off command, received at this tick. -/
  cdOff : Option Nat
  /-- State the island applies. -/
  islOn : Bool
  /-- Edge under way: e of R185 and the segment. -/
  edge : Option (Nat × Nat)
  /-- VGS is confirmed off, on (R182), and the tick of the latest confirmation (R321). -/
  islOff : Bool
  islOnConf : Bool
  confAt : Nat
  /-- Short-circuit indication (R189). -/
  sc : Bool
  /-- Boundaries until the CD clears the indication. -/
  scLeft : Nat
  /-- Short-circuit comparison runs (R188). -/
  scArmed : Bool
  /-- Supply refuses turn-ons (R191): VPOS trip, VB trip. -/
  vposRef : Bool
  vbRef : Bool
  deriving DecidableEq, Repr, Inhabited

/-- One lane: 0–11 the links of H0–H11, 12 and 13 the GI lanes G0 and G1. -/
structure Link where
  /-- Trained; the first valid frame has been received (R58). -/
  trained : Bool
  /-- Declared lost by the CD, by the island (R176). -/
  cdLost : Bool
  islLost : Bool
  /-- Consecutive bad frames at the CD, at the island. -/
  badCd : Nat
  badIsl : Nat
  retraining : Bool
  /-- Telemetry item of the next frame: VPOS, VNEG, VB, sense-cell level (R175). -/
  tel : Nat
  /-- Sample fields of the present frame of a GI lane that latest values have taken (R212). -/
  used : Nat
  /-- A temperature conversion of the island has ended: the next frame body carries its result, none for one outside the trimmed
  range, in place of the sense-cell level (R175, R426); a result of the GI waits at both of its lanes. -/
  temp : Option (Option Int)
  /-- Safe-state choice of each axis of the lane in the last frame the CD sent, in the last valid frame received
  (GI lanes; true is ASC). -/
  sent : Vector Bool 4
  recv : Vector Bool 4
  deriving DecidableEq, Repr, Inhabited

/-- Off-state diagnostics of one axis (R194). -/
structure Diag where
  running : Bool
  phase : Nat
  vdc : Nat
  /-- Passed since the last entry to READY. -/
  passed : Bool
  deriving DecidableEq, Repr, Inhabited

/-- What TOPOLOGY fixes (R80): the axes in use (0–3 traction, 4 X, 5 Y), the six-phase pairs 0+1 and 2+3, the 30°
offset of each pair, and the engine mode at start. -/
structure Topo where
  axes : Vector Bool 6
  pair : Vector Bool 2
  off30 : Vector Bool 2
  split : Bool
  deriving DecidableEq, Repr, Inhabited
/-- Where a sequencer stands (R208). -/
inductive SeqPhase where
  | stopped | waitWin (p : Nat) | delay | convert
  /-- GO is 0 and the conversion in progress is the last (R210). -/
  | last
  /-- Every entry of the table is being skipped (R208). -/
  | spin
  deriving DecidableEq, Repr, Inhabited

/-- A window under formation at the extractor (R214). -/
structure Win where
  isOpen : Bool
  n : Nat
  sum : Int
  /-- The least and the greatest sample, with whether that sample was saturated and came from a slice. -/
  min : Int
  minSat : Bool
  minSlice : Bool
  max : Int
  maxSat : Bool
  maxSlice : Bool
  sat : Bool
  slice : Bool
  /-- Tick of the open and, for a closed window whose last samples are on their way, of the close. -/
  openT : Nat
  closeT : Option Nat
  /-- The window has been reported EMPTY before its close and gives no result any more (R203, R204, R213). -/
  gone : Bool
  deriving DecidableEq, Repr, Inhabited

/-- A window result (R214, R220); `empty` for a phase with no sample. The mean is in quarter LSB14; `min` and `max` are sample words. -/
structure WinRes where
  empty : Bool
  mean : Int
  min : Nat
  max : Nat
  n : Nat
  sat : Bool
  slice : Bool
  recon : Bool
  deriving DecidableEq, Repr, Inhabited

/-- A current set as the assembler delivers it to the field unit (R217, R218), Q3.28 pu. -/
structure CurSet where
  valid : Bool
  i : Vector Int 3
  slice : Bool
  deriving DecidableEq, Repr, Inhabited

/-- One pipeline converter with its sequencer, extractor and transport (R202–R218). -/
structure Conv where
  phase : SeqPhase
  /-- The entry in progress as it was when it started, and the table length since the return to entry 0 (R208, R210). -/
  ent : Word
  len : Nat
  /-- Conversions left in the entry. -/
  left : Nat
  /-- Next phase of SH_ROT. -/
  rot : Nat
  /-- Consecutive checks that differed (R203, R204). -/
  chk : Nat
  /-- An urgent request is on its way to the converter, is pending there (R211). -/
  urgSent : List (Nat × Nat)
  urgHere : Option (Nat × Nat)
  /-- Unsent latest values, at most one a channel, oldest first: channel, sample word, tick (R212). -/
  lat : List (Nat × Nat × Nat)
  /-- Unsent buffer samples: buffer and sample word (R212). -/
  buf : List (Nat × Nat)
  /-- Of the first converter of a lane: the next buffer sample is the other one's (R212). -/
  turn : Bool
  /-- Tick of the last DROP fault. -/
  dropT : Option Nat
  win : Vector Win 3
  /-- Closed windows whose results have not yet left the GI. -/
  out : Vector (Option Win) 3
  /-- The current set under assembly (R217). -/
  set : Vector (Option WinRes) 3
  /-- Consecutive invalid sets (R218). -/
  inv : Nat
  /-- The last delivered set, waiting for the field unit. -/
  ready : Option CurSet
  /-- Tick of the last window close, of the last complete set (R375). -/
  winT : Nat
  setT : Nat
  /-- Tick at which the present calibration began (R206). -/
  calAt : Nat
  /-- Tick of the peak in whose half the windows of the set were sampled (R228). -/
  peakT : Nat
  deriving DecidableEq, Repr, Inhabited

/-- SAR0 and SAR1 beside `ADC_SARs_Di` (R222, R223). -/
structure Sar where
  /-- Consecutive failing reference scans. -/
  bad : Nat
  /-- A reference or ground result of the present scan fell outside its limits. -/
  scanBad : Bool
  /-- The input that the scan converts next; the synchronous pairs that wait: axis and tick of its boundary. -/
  next : Nat
  sync : List (Nat × Nat)
  deriving DecidableEq, Repr, Inhabited
/-- Paths of a re-acquisition attempt (`FLDa_STAT.ACQ`). -/
inductive AcqPath where
  | none | asc | probe | hfi
  deriving DecidableEq, Repr, Inhabited

/-- The encoding of `FLDa_STAT.ACQ`. -/
def AcqPath.code : AcqPath → Nat
  | .none => 0 | .asc => 1 | .probe => 2 | .hfi => 3

/-- A tracking loop: an angle and its speed in 2^−16 × 0.01 Hz. -/
structure Track where
  ang : Word
  w : Int
  deriving DecidableEq, Repr, Inhabited

/-- Field unit of one axis, beside its registers (R226–R255). -/
structure Fld where
  /-- The observer: PLL, flux vector in Q3.28 pu, residual in 2^−12 pu (R247, R248). -/
  obs : Track
  psiA : Int
  psiB : Int
  resid : Nat
  /-- The HFI tracking: PLL; i_d and i_q of the latest set in its frame; sets since its start; largest |Δi_d| of the positive and of the
  negative pulse; consecutive sets with an error below 5°; it has locked (R240). -/
  hfi : Track
  hfiD : Int
  hfiQ : Int
  hfiN : Nat
  hfiPos : Nat
  hfiNeg : Nat
  hfiRun : Nat
  hfiLocked : Bool
  /-- Tick and angle of the current vector of the latest valid set (R250–R252). -/
  phi : Option (Nat × Word)
  /-- The attempt: sets since its start, recorded increments of the angle with their ticks, sum of the probe currents (R251, R252). -/
  acqN : Nat
  acqIncs : List (Int × Nat)
  acqMag : Int
  /-- i_d and i_q of the latest valid set, Q3.28 pu (R235). -/
  id : Int
  iq : Int
  /-- The latest set was valid. -/
  valid : Bool
  /-- Applied voltage of the previous period, Q3.28 pu (R232). -/
  vd : Int
  vq : Int
  /-- Runs of steps beyond a loss limit (R248). -/
  resRun : Nat
  hallRun : Nat
  /-- Speed at the last step before the present run beyond the residual limit, before that beyond the hall limit (R249). -/
  wPre : Int
  wHall : Int
  /-- Speed that a re-acquisition attempt has measured (R250). -/
  acqSpeed : Option Int
  /-- Rotation rate of the short-circuit current vector (R250). -/
  ascSpeed : Int
  /-- A further attempt starts at the following set (R253). -/
  acqNext : Bool
  /-- Re-acquisition has succeeded: the axis enters DRIVING at its next commit point (R254). -/
  resume : Bool
  /-- Tick of that DRIVING entry, from which the torque limit ramps (R254). -/
  rampFrom : Option Nat
  /-- Tick to which `FLDa_ANGLE` refers: t_s of the last step (R228). -/
  angT : Nat
  /-- Tick of the commit point of the external angle (R239). -/
  extT : Nat
  /-- Phase currents of the set in use (R231), Q3.28 pu. -/
  ip : Vector Int 3
  deriving DecidableEq, Repr, Inhabited

/-- Hall interface of one axis, beside its registers (R241–R246). -/
structure Pos where
  /-- The sector kept through codes 0 and 7 (R242). -/
  sector : Nat
  /-- Tick of the last single-step edge, while the next one gives a valid interval. -/
  single : Option Nat
  /-- Tick of the last counted edge, of the last edge of any kind (R243). -/
  edgeT : Nat
  lastT : Nat
  /-- Counted edges since the last toggle of `POSOUTa` (R246). -/
  div : Nat
  /-- Copy of `POSa_LTS` that the next read of it returns (R244). -/
  hold : Option Word
  deriving DecidableEq, Repr, Inhabited
/-- One fault record of the Registrar (R360), shown in `FLT_RECi_*`. -/
structure FltRec where
  code : Nat
  isOpen : Bool
  /-- The cause of the record is present (R359). -/
  cause : Bool
  /-- Effective class, 0–4 (R362). -/
  eclass : Nat
  inj : Bool
  esc : Bool
  auto : Bool
  src : Nat
  occ : Nat
  first : Nat
  last : Nat
  /-- Device state and axis states at the opening (R373). -/
  dst : Nat
  axs : Nat
  /-- Tick of the opening, from which a reaction window counts (R363). -/
  opened : Nat
  /-- Tick of the latest report; with the cause gone, the tick since which it has been absent (R359, R366). -/
  quiet : Nat
  deriving DecidableEq, Repr, Inhabited

/-! ### Control engine, DC link, aux axes, safety, temperature -/

/-- One engine: the outputs and the state of its block instances by instance number, its samples of the asynchronous
sources of `CE_AGRi`, the lattice events since its previous step, whether its outputs of this step are withheld, the CRC over the
state words it has written in this step (R276), and the tick of the step's start. -/
structure CeEng where
  outs : List (Nat × List Word)
  st : List (Nat × List Int)
  samp : List (Nat × Int)
  seen : List Nat
  withhold : Bool
  crc : Word
  stepAt : Nat
  deriving DecidableEq, Repr, Inhabited

/-- One set-point lane beside `CE_LANEl_TGT` and `CE_LANEl_OUT`: lost (R269), and the change of its output in the last
step (R270). -/
structure CeLane where
  lost : Bool
  delta : Int
  deriving DecidableEq, Repr, Inhabited

/-- A profile generator (R270): the lane it serves, y in Q3.28 pu, v and a in 2^−28 pu/s and 2^−28 pu/s², and whether y saturated in the
latest step (R262). -/
structure CeGen where
  lane : Option Nat
  y : Int
  v : Int
  a : Int
  sat : Bool
  deriving DecidableEq, Repr, Inhabited

/-- Agreement of one asynchronous source (R277, R278): agreed value, that of the step before (R265), the two previous samples,
disagreement count. -/
structure CeAgr where
  val : Int
  old : Int
  pa : Int
  pb : Int
  cnt : Nat
  deriving DecidableEq, Repr, Inhabited

/-- One CMDIN decoder of one engine (R271): newest valid raw values first, their average, loss and range; in the ANALOG form the value
of the latest result that has arrived since the engine's last step. -/
structure CeDec where
  vals : List Int
  avg : Int
  loss : Bool
  range : Bool
  raw : Option Int
  deriving DecidableEq, Repr, Inhabited

/-- An injection unit beside its registers (R284): LFSR state and the steps the PRBS bit has been held, the present value, the
index of the sweep frequency and the steps run at it. -/
structure CeInj where
  lfsr : Nat
  hold : Nat
  val : Int
  seg : Nat
  segN : Nat
  deriving DecidableEq, Repr, Inhabited

/-- A captured signal (R286): engine, instance, output port, upper 16 bits only. -/
structure CapSig where
  eng : Nat
  inst : Nat
  port : Nat
  half : Bool
  deriving DecidableEq, Repr, Inhabited

/-- The capture in progress (R286, R287): decimation and step count, records, next index, trigger event, trigger received, acted
on, records still to write after it. -/
structure CeCap where
  sigs : List CapSig
  dec : Nat
  step : Nat
  n : Nat
  p : Nat
  idx : Nat
  event : Nat
  trig : Bool
  acted : Bool
  left : Nat
  deriving DecidableEq, Repr, Inhabited

/-- The take of a staged parameter block (R275): the writing host, first index and count, the place of the words in staging,
and the pair of the `REG_WRITE` that waits for it: label of the command and index. -/
structure CeTake where
  host : Nat
  first : Nat
  count : Nat
  base : Nat
  pair : Option (Nat × Nat)
  deriving DecidableEq, Repr, Inhabited

/-- The two engines and what they share. -/
structure Ce where
  graph : List (Nat × CeInst)
  eng : Vector CeEng 2
  lane : Vector CeLane 32
  gen : Vector CeGen 2
  /-- Agreement by entry of `CE_AGR`; 64–67 the value and 68–71 the loss of a decoder that a lane uses and no entry lists. -/
  agr : Vector CeAgr 72
  dec : Vector (Vector CeDec 4) 2
  inj : Vector CeInj 2
  cap : Option CeCap
  /-- The takes of staged blocks that run, in their order (R275). -/
  take : List CeTake
  /-- Words of an applied block, from the next step on. -/
  words : List (Nat × Word)
  /-- v_d and v_q last delivered to each field unit. -/
  vref : Vector (Int × Int) 4
  /-- The torque-current reference each AXLIM delivered last (R446). -/
  iref : Vector Int 4
  /-- Sink 0x82: target and duty of each aux axis. -/
  auxIn : Vector (Vector Word 2) 2
  /-- What the running step has written to sink 0x82, until its end (log entry 126). -/
  auxNext : Vector (Vector (Option Word) 2) 2
  /-- The speed of each axis at the start of the latest step, and at that of the step before it (R273). -/
  spd : Vector Int 4
  spdPrev : Vector Int 4
  /-- The engine that returns from BIST, while the running join is its return (R283). -/
  rejoin : Option Nat
  /-- A comparison of the running join has failed (R282). -/
  joinBad : Bool
  deriving DecidableEq, Repr, Inhabited

/-- One chopper beside its registers (R320–R323). -/
structure Chop where
  /-- Consecutive failing results of OPEN, OVERCURRENT, STUCK_ON. -/
  cnt : Vector Nat 3
  faulty : Bool
  noFall : Bool
  /-- Its marks have been cleared, and its next on-time has not begun (R321). -/
  wait : Bool
  /-- V_L when the duty became 1. -/
  fallFrom : Option Int
  /-- Mode and mark in the last valid frame that the GI received. -/
  giMode : Nat
  giFaulty : Bool
  /-- The GI runs the chopper on its own (R323). -/
  fbk : Bool
  /-- `OVREF` has reached the fallback level and has not fallen 40 mV below it since. -/
  fbkOn : Bool
  deriving DecidableEq, Repr, Inhabited

/-- DC link beside the DCL registers. Voltages in 2^−17 V. -/
structure Dcl where
  a : Int
  b : Int
  vl : Int
  vm : Int
  /-- Consecutive evaluations with disagreeing inputs (R313). -/
  dis : Nat
  /-- Persistence of the chopping, V_OV1 and V_OV2 crossings (R315). -/
  cChop : Nat
  cOv1 : Nat
  cOv2 : Nat
  /-- k in Q3.28. -/
  k : Int
  /-- The V_OV3 comparator is tripped at the GI. -/
  tripped : Bool
  chop : Vector Chop 2
  /-- Discharge: tick of its start, channel running alone in a probe, V_M at the probe start. -/
  start : Nat
  probe : Option Nat
  vmStart : Int
  deriving DecidableEq, Repr, Inhabited

/-- What a leg of an aux bridge is given: both switches off, its high switch on, its low switch on. -/
inductive LegSide where
  | off | high | low
  deriving DecidableEq, Repr, Inhabited

/-- One leg of an aux bridge (R290, R291): its side; the tick at which the switch of that side turns on, after the dead time; the
ticks at which its high and its low switch last turned off; a side that follows at a tick (R293: SLOW after FAST). -/
structure AuxLeg where
  side : LegSide
  since : Nat
  hiOff : Option Nat
  loOff : Option Nat
  next : Option (Nat × LegSide)
  deriving DecidableEq, Repr, Inhabited

/-- One aux axis beside its registers (R290–R309). Position, electrical position and target in 2^−16 µst, speed in
2^−16 µst/s, duty in 2^−31. -/
structure Aux where
  pos : Int
  /-- Where the present channel period began (R306). -/
  pos0 : Int
  el : Int
  vel : Int
  tgt : Int
  /-- The CE target last examined. -/
  ceSeen : Option Word
  duty : Int
  /-- A limit switch makes the duty 0 at the next boundary (R309). -/
  dcStop : Bool
  /-- After a stop the CE's duty has not been 0 yet (R305, R309; log entry 161). -/
  dcHeld : Bool
  /-- Consecutive periods with an open coil, per bridge. -/
  openCnt : Vector Nat 2
  /-- The shunt of the bridge has reached a quarter of its reference in this period. -/
  reached : Vector Bool 2
  /-- Present references, mV, signed. -/
  ref : Vector Int 2
  /-- The legs A1, A2, B1, B2 (R290); the bridge drives its coil (R293); the period is a refresh period, whose decay is SLOW (R295). -/
  legs : Vector AuxLeg 4
  driving : Vector Bool 2
  slow : Bool
  /-- The next period is a refresh period (R295); a bootstrap below 8.0 V demands one. -/
  refresh : Bool
  bstLow : Vector Bool 4
  /-- The coil current has dropped to `I_HOLD`. -/
  holdCur : Bool
  /-- A ramp stop ends in IDLE (R298, R305), in the SAFE_END state. -/
  toIdle : Bool
  /-- Homing: position in µst at the last raw transition of each switch, hlat, and the position where the search began. -/
  raw : Vector Int 3
  hlat : Int
  hstart : Int
  deriving DecidableEq, Repr, Inhabited

/-- A brake switch test under way (R344, R345): the brake state at its start, the switch under test (false high, true
low), the recovery wait, the tick at which the present wait began, the conditions seen so far, the open or closed times
in µs. -/
structure SbcTest where
  released : Bool
  low : Bool
  recover : Bool
  since : Nat
  vOk : Bool
  iBad : Bool
  times : Vector Nat 2
  deriving DecidableEq, Repr, Inhabited

/-- SAFE block beside its registers. -/
structure Safe where
  /-- Unfiltered levels of `nSTO_A`, `nSTO_B` and the tick of their last change. -/
  raw : Vector Bool 2
  since : Vector Nat 2
  /-- Inputs that have lasted `STO_FILT` low. -/
  low : Vector Bool 2
  /-- STO path test: pending, or the channel under test and the tick from which its field is set. -/
  ptPend : Bool
  ptChan : Option Nat
  ptAt : Nat
  ptBad : Bool
  /-- The tick at which the latest synchronous pair of each axis was sampled (R222, R338). -/
  pairAt : Vector Nat 4
  /-- T_f of the torque monitors, Q3.28 pu. -/
  tf : Vector Int 4
  /-- Brake: consecutive failing scans, tick of the last switch change, settled. -/
  sbcBad : Nat
  sbcSince : Nat
  settled : Bool
  /-- Brake switch test under way. -/
  test : Option SbcTest
  /-- Drive time in ticks since the last passing tests (R337, R346). -/
  stoT : Nat
  sbcT : Nat
  /-- Tick of the entry to DEGRADED. -/
  degAt : Nat
  /-- Tick of each connection's last accepted PDU; own sequence counters. -/
  connAt : Vector Nat 8
  connSeq : Vector Nat 8
  deriving DecidableEq, Repr, Inhabited

/-- Temperature: sensors that convert, with the tick of each demand; tick of the latest periodic demand of a sensor; step counts as
AXLIM uses them; start of each axis's throttle timer (R427, R432). -/
structure Therm where
  busy : List (Nat × Nat)
  demAt : Vector Nat 30
  eff : Vector Nat 4
  thrAt : Vector Nat 4
  deriving DecidableEq, Repr, Inhabited

/-- What the committed image fixes: the register values it loads (R5), the bounds of its tuning registers by rising address (R85) and
the owner axis of its CE parameters (R274). -/
structure Img where
  regs : List (Nat × Word)
  bounds : List (Nat × List FieldBound)
  parOwner : List (Nat × Nat)
  /-- The start value of `ADC_CTRL.GO` (R210). -/
  adcGo : Nat
  deriving DecidableEq, Repr, Inhabited

/-- A host access that waits for a commit point (R16): the host, the register and its value, the axis whose commit point
it waits for (0–3, 4 X, 5 Y); its number in the order of admission. -/
structure PortEntry where
  host : Nat
  addr : Nat
  val : Word
  axis : Nat
  seq : Nat
  deriving DecidableEq, Repr, Inhabited

/-! ### Hosts, commands in flight -/

/-- A command in flight by its host and its ticket label. -/
structure CmdId where
  host : Nat
  label : Nat
  deriving DecidableEq, Repr, Inhabited

/-- Where an admitted command stands: before the Docent has executed it, executed and waiting for its commit points or
words, or in its operation. -/
inductive CmdPhase where
  | lane | staged | running
  deriving DecidableEq, Repr, Inhabited

/-- What an admitted command books at one axis (R110): the commit point, as the count of boundaries still to come, its
entries, for a `REG_WRITE` the indices of its pairs, and the tick of its own promise (R112). -/
structure CmdGroup where
  axis : Nat
  left : Nat
  entries : Nat
  pairs : List Nat
  promise : Nat
  deriving DecidableEq, Repr, Inhabited

/-- An admitted command that has not completed (R107–R113): opcode, flags, target, payload; ticks of admission, deadline and
lane deadline; Docent work outstanding in ticks; groups to come; `REG_WRITE` pairs of the Docent lane and of the preserve
lane not yet settled; failed pairs with their status; tick of the latest effect; its number in the order of admission. -/
structure Cmd where
  id : CmdId
  op : Nat
  flags : Nat
  target : Nat
  payload : List Byte
  admitted : Nat
  deadline : Nat
  laneDl : Nat
  work : Nat
  groups : List CmdGroup
  doc : List Nat
  pres : List Nat
  fails : List (Nat × Nat)
  phase : CmdPhase
  effective : Nat
  seq : Nat
  deriving DecidableEq, Repr, Inhabited

/-- One host port beside its registers: held reply, the one held before it, and what the latest frame of an SPI port clocked out on
`SPIx_MISO` (R100); heartbeats received and tick of the latest; running count of its
records; unacknowledged records, oldest first: label, and whether the record set `CQ`. -/
structure HostPort where
  reply : Option (List Byte)
  old : Option (List Byte)
  miso : List Byte
  hb : Nat
  hbAt : Nat
  count : Nat
  recs : List (Nat × Bool)
  deriving DecidableEq, Repr, Inhabited

/-- What a sound frame asks for: the port (0 A … 3 D), the header fields and the command payload; the safety connection whose
PDU it came in. -/
structure Req where
  port : Nat
  host : Nat
  op : Nat
  ticket : Nat
  flags : Nat
  target : Nat
  payload : List Byte
  conn : Option Nat
  deriving DecidableEq, Repr, Inhabited

/-- The hosts: ports A–D, admitted commands in admission order, whether READY has been entered since BOOT entry (R106), the
frames that have ended in the present cycle of `CK_MGMT` and are not yet checked: port and bytes (R98), and the requests, with the bytes
of their frames, whose access to the SRAM waits for the end of its clear (R448); the tick of each axis's latest offer (R104); the
CAN port that the Docent has served last, 2 C or 3 D (R98); how many commands and staged register writes have been admitted. -/
structure Hosts where
  port : Vector HostPort 4
  cmds : List Cmd
  readySeen : Bool
  ended : List (Nat × List Byte)
  sram : List (Req × List Byte)
  offerAt : Vector Nat 6
  turn : Nat
  seq : Nat
  deriving DecidableEq, Repr, Inhabited

/-! ### CAN -/

/-- What a controller sends: a transmit buffer, the reply or a notice of port C (0) or D (1). -/
inductive CanSend where
  | buf (j : Nat)
  | reply (p : Nat) (bytes : List Byte)
  | notice (p : Nat) (bytes : List Byte)
  deriving DecidableEq, Repr, Inhabited

/-- One CAN controller beside its registers: tick of its entry into the present state, ACTIVE and PASSIVE taken as one; restricted
operation (R386): errors, valid frames, start of the timer, `RESTR_TIME` over, prolonged restriction reported; the read
shadow of each host (R390); the frame being sent, device messages whose sending has begun and failed so far; a cancel or a
stop that waits for the end of the frame; first entry into ACTIVE, and tick of the latest frame of each object (R391). -/
structure CanCtl where
  stAt : Nat
  errs : Nat
  rx : Nat
  restrAt : Nat
  timerDone : Bool
  prolonged : Bool
  shadow : Vector (Option (Nat × Word × List Word)) 4
  sending : Option CanSend
  begun : List CanSend
  cancel : Bool
  stopReq : Bool
  activeAt : Option Nat
  objAt : List (Nat × Nat)
  deriving DecidableEq, Repr, Inhabited

/-- Port C or D at the CAN side: command frames queued for checking, a reply message that waits, notices (R396–R398). -/
structure CanPort where
  cmdQ : List (List Byte)
  reply : Option (List Byte)
  notes : List (List Byte)
  deriving DecidableEq, Repr, Inhabited

/-! ### Preserve array, security, self-test, start-up -/

/-- A preserve write on the lane (R435): word, value, deadline, the pairs that wait for it (command and pair index), and whether
a register write by a row of its own waits for it. -/
structure PresWrite where
  word : Nat
  val : Word
  deadline : Nat
  from' : List (CmdId × Nat)
  row : Bool
  deriving DecidableEq, Repr, Inhabited

/-- The front entry of the log on the Registrar's port: words written, a program of the next one is under way, and it is the second
one (R373, R445). -/
structure LogRun where
  done : Nat
  busy : Bool
  again : Bool
  deriving DecidableEq, Repr, Inhabited

/-- The preserve array (R433–R436): stored words and wear units that are not 0, pending writes, the program under way with
its start, whether it is the second one, and the wait of its write in µs (R375); the queue of the Registrar's port with the entry at its
front under way. -/
structure Prs where
  words : List (Nat × Word)
  wear : List (Nat × Nat)
  pend : List PresWrite
  cur : Option PresWrite
  curAt : Nat
  again : Bool
  wait : Nat
  log : List (List Word)
  logRun : Option LogRun
  deriving DecidableEq, Repr, Inhabited

/-- A spare in use by a repair: the unit, the bank, and whether it is a column (R417, R421). -/
structure Spare where
  unit : Nat
  bank : Nat
  col : Bool
  deriving DecidableEq, Repr, Inhabited

/-- A `BIST_RUN` in progress: units still to run, REPAIR, units run and not passed, tick of its start, whether the engines were
split when it began. -/
structure BistRun where
  todo : List Nat
  repair : Bool
  ran : Nat
  bad : Nat
  start : Nat
  split : Bool
  deriving DecidableEq, Repr, Inhabited

/-- The test port (R412–R414): the instruction in effect, the data it shifts out, the boundary-scan cells. -/
structure Tap where
  ir : Nat
  out : List Byte
  cells : List Bool
  deriving DecidableEq, Repr, Inhabited

/-- Security and self-test. Fuses: unique id, image-key hash, tamper policy, provisioning lock, the spare of each repair
entry. The seed store: 48 bytes and their stored CRC-32C. Then what a reset clears: working key, derivation barred, derivation
under way, debug challenge, response under verification (public key and signature), attestation under way (its key and its
report), BIST run, `REPAIR_FUSE` under way, checker reports held during MGMT_L. `soft` holds the spare of each soft repair
not yet fused: only a power-on reset clears it (R421). -/
structure Sec where
  uid : Vector Word 2
  keyHash : Option (List Byte)
  policy : Option Nat
  lock : Bool
  fused : List Spare
  seed : Option (List Byte × Word)
  key : Option (List Byte)
  barred : Bool
  deriv : Bool
  chal : Option (List Byte)
  resp : Option (List Byte × List Byte)
  att : Option (List Byte × List Byte)
  bist : Option BistRun
  soft : List Spare
  fuseRun : Option Nat
  held : List Report
  deriving DecidableEq, Repr, Inhabited

/-- Start-up (R68–R92): header results, total lengths, versions, catalogue ends, entry counts and public keys of slots A and B, the
Docent has fallen back, SHA-256 of the signed bytes of the slot read last, the SRAM clear runs, an `IMG_VERIFY` of the
uncommitted slot passed with no `IMG_WRITE` since, a reset of the device is scheduled, the link of the AX is trained; the cause of the last entry to BOOT,
and of one that waits for a word program to complete (R445). -/
structure Boot where
  res : Vector Nat 2
  len : Vector Nat 2
  ver : Vector Nat 2
  catEnd : Vector Nat 2
  count : Vector Nat 2
  key : Vector (List Byte) 2
  fellBack : Bool
  hash : List Byte
  clearing : Bool
  verified : Bool
  resetDue : Bool
  axLink : Bool
  cause : BootCause
  waiting : Option BootCause
  deriving DecidableEq, Repr, Inhabited

/-! ### Registrar, liveness -/

/-- A fault injection in progress (R371, R372). -/
structure Inject where
  code : Nat
  src : Nat
  len : Nat
  start : Nat
  hit : Option Nat
  deriving DecidableEq, Repr, Inhabited

/-- What the Registrar, `ALIVE` and the lattice hold beside registers and records: injection; tick of the Docent's latest
check-in; start of the half-period of `ALIVE`, `CE_STATUS.STEPS` then, and whether the latest one toggled `ALIVE`; latest scan of R366;
recovery count, start of the present hour, 0x0D02 raised in it; tick of the last 0x0D06; sinks with the events that they have to act on; sequence number of the next log entry and the newest entry; bad
frames of each lane in the present ms and SRAM corrections in the present s (R375). -/
structure Rgr where
  inj : Option Inject
  checkIn : Nat
  halfAt : Nat
  steps0 : Nat
  aliveRun : Bool
  scanAt : Nat
  recov : Nat
  hourAt : Int
  limitHit : Bool
  lostAt : Option Nat
  sinks : List (Nat × Nat)
  logSeq : Nat
  logNew : Option Nat
  badMs : Vector Nat 14
  eccSec : Nat
  deriving DecidableEq, Repr, Inhabited
/-- The Registrar beside its registers. -/
structure Flt where
  /-- Level causes present at the checkers: code and source (R359). -/
  levels : List (Nat × Nat)
  /-- Checker reports on their way to the Registrar (R20). -/
  inbox : List Report
  recs : List FltRec
  deriving DecidableEq, Repr, Inhabited

/-- The device: everything but the queue of waiting commands. -/
structure Dev where
  /-- `CK_CTRL` ticks (2.5 ns) since the last entry to BOOT. -/
  now : Nat
  /-- Free values drawn so far: the model's own counter (log entry 7). -/
  freeCtr : Nat
  power : Power
  pins : Pins
  dstate : DState
  /-- Traction axis states. -/
  ax : Vector AState 4
  /-- The faults that led an axis to ASC or FREEWHEEL, or came while it was there (R28). -/
  axCause : Vector (List Nat) 4
  /-- The registers that differ from their Reset value, by rising address. -/
  regs : List (Nat × Word)
  /-- The same registers as they stood when the present tick began (R18). -/
  regs0 : List (Nat × Word)
  /-- The RW and RWS registers that host writes have set in the present tick (R18). -/
  written : List Nat
  /-- The register bits that the hardware has set in the present tick (R18). -/
  hwSet : List (Nat × Nat)
  /-- The SRAM bytes that are not 0, by rising address (R12, R448). -/
  sram : List Host.Cell
  /-- Poisoned SRAM words, by byte address (R14). -/
  poison : List Nat
  /-- Lattice events on their way to vectors and sinks. -/
  events : List Nat
  topo : Topo
  clk : Clk
  pwm : Vector Pwm 4
  chan : Vector Chan 6
  sw : Vector Switch 28
  link : Vector Link 14
  /-- Supply flags of each island (0–11 Hn, 12 the GI), as the island itself holds them (R191): VPOS warning, trip and overvoltage,
  VNEG, VB warning and trip. -/
  sup : Vector (Vector Bool 6) 13
  diag : Vector Diag 4
  conv : Vector Conv 4
  sar : Vector Sar 2
  fld : Vector Fld 4
  pos : Vector Pos 4
  flt : Flt
  ce : Ce
  dcl : Dcl
  aux : Vector Aux 2
  /-- Levels of `LIMx_N`, `LIMx_P` and `HOMEx`, each with the tick of its last transition (R306). -/
  swIn : Vector (Vector (Bool × Nat) 3) 2
  safe : Safe
  therm : Therm
  img : Img
  /-- Register writes that wait for their commit points, in admission order (R16). -/
  port : List PortEntry
  hosts : Hosts
  can : Vector CanCtl 3
  cport : Vector CanPort 2
  prs : Prs
  sec : Sec
  tap : Tap
  boot : Boot
  rgr : Rgr
  /-- Status of the latest register write that came by a row of its own (R4, R118): the model's own, for the answer that the
  completion record of the write carries. -/
  wstat : Nat
  deriving DecidableEq, Repr, Inhabited

/-- Why a step could stop with a fault. No meaning of this model raises one: the spec lets no command stop the device
(safe, since it never occurs). -/
inductive Fault where
  /-- Raised by nothing; safe. -/
  | none
  deriving DecidableEq, Repr

/-- Why a step could refuse a command. -/
inductive Refusal where
  /-- A command of the table without a meaning yet, rejected by name in Machine/Dispatch.lean; safe. -/
  | notModelled (mnemonic : String)
  deriving DecidableEq, Repr

/-- The whole machine: the device and the queue of the commands that wait, first in, first out. -/
structure State where
  dev : Dev
  pending : List Instr
  deriving DecidableEq, Repr

/-! ### Reset -/

/-- A high switch or GI channel before its first link frame: off, and confirmed off at the island (R58). -/
def Switch.start : Switch := { (default : Switch) with islOff := true }

/-- A command decoder that has seen no value: `CE_CMDd_VAL` reads loss. -/
def CeDec.start : CeDec := { (default : CeDec) with loss := true }

/-- An aux axis: `MSIDX` 128, the electrical position of that microstep. -/
def Aux.start : Aux := { (default : Aux) with el := 128 * 65536, ceSeen := some 0 }

/-- The engines before commit: no graph, every decoder at loss. -/
def Ce.start : Ce := { (default : Ce) with dec := Vector.replicate 2 (Vector.replicate 4 CeDec.start) }

/-- The DC-link unit before commit: clamp factor 1. -/
def Dcl.initial : Dcl := { (default : Dcl) with k := 0x10000000 }

/-- The test port at the test-logic reset: `IDCODE` is selected (R413). -/
def Tap.start : Tap := ⟨0x02, [0x19, 0x41, 0x2A, 0x5B], []⟩

/-- What every entry to BOOT leaves of the device, with the fuses blank, the preserve array and the seed store empty and the
rails present: every register at its Reset value, the SRAM as the clear of R448 leaves it, every other field 0, false,
none or empty but for those of the blocks above. The pin levels are the model's choice (log entry 3). -/
def Dev.blank : Dev :=
  { (default : Dev) with
    power := ⟨true, true, true, false, false, true, false, false⟩
    sw := Vector.replicate 28 Switch.start
    ce := Ce.start
    dcl := Dcl.initial
    aux := Vector.replicate 2 Aux.start
    tap := Tap.start
    dstate := .boot }

/-- The machine right after reset: the device has entered BOOT from the power-on reset (R25, R66), for the first time: the
Registrar has counted this boot in preserve word 0x3F0 (R374), at 4 wear units because no sensor has a valid result (R436).
`nPOR_OUT` is high. No command waits. -/
def State.reset : State :=
  { dev := { Dev.blank with
      pins := { Dev.blank.pins with nPorOut := true }
      prs := { Dev.blank.prs with words := [(0x3F0, 0x10000#32)], wear := [(0x3F0, 4)] } }
    pending := [] }

end Sys2Proof.Machine
end

