-- ==== Sys2Proof/Machine/Ops.lean ====
section
/-! DEFINITION. The named operations every command is written with: sparse tables in canonical form, registers and
their fields, the SRAM, reports to the Registrar, lattice events, time, topology and ownership. -/

namespace Sys2Proof.Machine

/-! ### Sparse tables by rising key -/

/-- The entry at key `k`. -/
def aget {β : Type} : List (Nat × β) → Nat → Option β
  | [], _ => none
  | (a, v) :: l, k => if a = k then some v else aget l k

/-- The table with `k ↦ v`, keys kept rising. -/
def aput {β : Type} : List (Nat × β) → Nat → β → List (Nat × β)
  | [], k, v => [(k, v)]
  | (a, w) :: l, k, v =>
    if k < a then (k, v) :: (a, w) :: l
    else if k = a then (k, v) :: l
    else (a, w) :: aput l k v

/-- The table without an entry at `k`. -/
def adel {β : Type} : List (Nat × β) → Nat → List (Nat × β)
  | [], _ => []
  | (a, w) :: l, k => if a = k then l else (a, w) :: adel l k

/-- Keys strictly rise and no entry holds what an unlisted key reads as. -/
def canon {β : Type} [DecidableEq β] (dflt : Nat → β) : List (Nat × β) → Bool
  | [] => true
  | [(a, v)] => v != dflt a
  | (a, v) :: (b, w) :: l => v != dflt a && decide (a < b) && canon dflt ((b, w) :: l)

/-- The canonical form of the SRAM's list: addresses rise and no byte is listed that reads as an unlisted one does. -/
def Memory.wf (l : List Host.Cell) : Bool := canon (fun _ => (0 : Byte)) l

/-! ### Registers -/

/-- The Reset value of the register at `a` (R5). `FLT_MAPi` carries the default class of its slot; `ISL_GCc_SC` of the
channels 12–15, `THERM_Ss_NTC` of s = 0–29 and `PWM_Cj_DT` of j = 0–3 read 0 (R188, chapters 06 and 17). An unoccupied address reads 0 and is never read by a host (R7). -/
def resetOf (a : Nat) : Word :=
  if Reg.FLT_MAP 0 ≤ a ∧ a < Reg.FLT_MAP 512 then
    let slot := (a - Reg.FLT_MAP 0) / 4
    if slot < 429 then BitVec.ofNat 32 (0x070003E8 + defaultClass slot * 0x10000) else 0
  else if a = Reg.ISL_GC_SC 12 ∨ a = Reg.ISL_GC_SC 13 ∨ a = Reg.ISL_GC_SC 14 ∨ a = Reg.ISL_GC_SC 15 then 0
  else if a = Reg.PWM_C_DT 0 ∨ a = Reg.PWM_C_DT 1 ∨ a = Reg.PWM_C_DT 2 ∨ a = Reg.PWM_C_DT 3 then 0
  else
    match rowAt a with
    | some r => BitVec.ofNat 32 r.reset
    | none => 0

/-- The stored value of the register at `a`. -/
def Dev.rget (d : Dev) (a : Nat) : Word := (aget d.regs a).getD (resetOf a)

/-- The device with the register at `a` holding `v`. -/
def Dev.rset (d : Dev) (a : Nat) (v : Word) : Dev :=
  { d with regs := if v = resetOf a then adel d.regs a else aput d.regs a v }

/-- Bits `lo` to `lo + w - 1` of a register. -/
def Dev.rf (d : Dev) (a lo w : Nat) : Nat := fget (d.rget a) lo w

/-- A register with bits `lo` to `lo + w - 1` replaced. -/
def Dev.wf (d : Dev) (a lo w x : Nat) : Dev := d.rset a (fset (d.rget a) lo w x)

/-- Bit `i` of a register. -/
def Dev.rb (d : Dev) (a i : Nat) : Bool := d.rf a i 1 == 1

/-- A register with bit `i` replaced; one that is set counts as set in the present tick (R18). -/
def Dev.wb (d : Dev) (a i : Nat) (b : Bool) : Dev :=
  { d.wf a i 1 b.toNat with hwSet := if b then (a, i) :: d.hwSet else d.hwSet }

/-- The control plane sets bits `lo` to `lo + w - 1` of a register that hosts also write: a host write of the same tick overwrites
it (R18). -/
def Dev.cpSet (d : Dev) (a lo w x : Nat) : Dev := if d.written.contains a then d else d.wf a lo w x

/-- The value of a register when the present tick began (R18). -/
def Dev.before (d : Dev) (a : Nat) : Word := (aget d.regs0 a).getD (resetOf a)

/-- The bits of a register that a host's write of 1 may clear: set when the present tick began, and not set again by the hardware in
it (R18). -/
def Dev.clearable (d : Dev) (a : Nat) : Word :=
  d.hwSet.foldl (fun v x => if x.1 = a then bset v x.2 false else v) (d.before a)

/-- A count field raised by one, saturating. -/
def Dev.wsat (d : Dev) (a lo w : Nat) : Dev := d.wf a lo w (satInc (d.rf a lo w) (2 ^ w - 1))

/-- A count field raised by one, modulo its width. -/
def Dev.wmod (d : Dev) (a lo w : Nat) : Dev := d.wf a lo w ((d.rf a lo w + 1) % 2 ^ w)

/-- `x` in a signed field. -/
def Dev.rfs (d : Dev) (a lo w : Nat) : Int := toSigned w (d.rf a lo w)

/-! ### SRAM -/

/-- First byte address of the SRAM and the first above it (R12). -/
def sramBase : Nat := 0x200000
def sramEnd : Nat := 0x300000

/-- The SRAM byte at address `a`: an unlisted byte reads 0, as the clear of R448 leaves it. -/
def Dev.mget (d : Dev) (a : Nat) : Byte := (aget d.sram a).getD 0

/-- One byte written. -/
def Dev.mset (d : Dev) (a : Nat) (b : Byte) : Dev :=
  { d with sram := if b = 0 then adel d.sram a else aput d.sram a b }

/-- The bytes `a` to `a + n - 1`. -/
def Dev.mread (d : Dev) (a : Nat) : Nat → List Byte
  | 0 => []
  | n + 1 => d.mget a :: d.mread (a + 1) n

/-- The bytes `bs` written from `a` up. -/
def Dev.mwrite (d : Dev) (a : Nat) : List Byte → Dev
  | [] => d
  | b :: bs => (d.mset a b).mwrite (a + 1) bs

/-- The SRAM words (8 bytes) that bytes `a` to `a + n - 1` touch are sound (R14). -/
def Dev.poisoned (d : Dev) (a n : Nat) : Bool := d.poison.any (fun w => decide (a / 8 * 8 ≤ w ∧ w < a + n))

/-- A word of the SRAM that the bytes would touch in part is poisoned (R14). -/
def Dev.poisonedPart (d : Dev) (a n : Nat) : Bool :=
  d.poison.any (fun w => decide (a / 8 * 8 ≤ w ∧ w < a + n) && !decide (a ≤ w ∧ w + 8 ≤ a + n))

/-- Whole words written with valid check bits are no longer poisoned. -/
def Dev.unpoison (d : Dev) (a n : Nat) : Dev :=
  { d with poison := d.poison.filter (fun w => !decide (a ≤ w ∧ w + 8 ≤ a + n)) }

/-! ### Free values and rounding -/

/-- A free value of the place `site` (log entry 7). -/
def Dev.free (d : Dev) (site : Nat) : Nat := Config.freeNat site d.freeCtr

/-- One free value has been drawn. -/
def Dev.tick1 (d : Dev) : Dev := { d with freeCtr := d.freeCtr + 1 }

/-- `num / den`, rounded down or up: the spec names no rounding (log entry 8). An exact quotient is exact. -/
def rdiv (site : Nat) (num : Int) (den : Nat) : Int :=
  if den = 0 then Config.freeFun site [num]
  else if num % (den : Int) = 0 then num / (den : Int)
  else num / (den : Int) + (if Config.roundUp site num den then 1 else 0)

/-- `num / den` rounded to the nearest whole number; a tie goes either way (log entry 8). -/
def rnear (site : Nat) (num : Int) (den : Nat) : Int :=
  if den = 0 then Config.freeFun site [num]
  else if 2 * (num % (den : Int)) < (den : Int) then num / (den : Int)
  else if (den : Int) < 2 * (num % (den : Int)) then num / (den : Int) + 1
  else num / (den : Int) + (if Config.roundUp site num den then 1 else 0)

/-- The unit that a BIST run tests now (R418, R419). -/
def Dev.bistUnit (d : Dev) : Option Nat := if d.rb Reg.BIST_STAT 31 then some (d.rf Reg.BIST_STAT 24 4) else none

/-! ### Time: one tick of `CK_CTRL` is 2.5 ns -/

/-- Ticks in 1 µs and in 1 ms. -/
def usTicks : Nat := 400
def msTicks : Nat := 400000

/-- µs since BOOT entry. -/
def Dev.us (d : Dev) : Nat := d.now / usTicks

/-- ms since BOOT entry. -/
def Dev.ms (d : Dev) : Nat := d.now / msTicks

/-- Ticks since the latest epoch tick: the epoch counter, before its wrap (R132). -/
def Dev.epochCount (d : Dev) : Int := (d.now : Int) - d.clk.epochAt

/-- A time stamp in µs since BOOT entry, modulo 2^32. -/
def Dev.stamp (d : Dev) : Nat := d.us % 2 ^ 32

/-! ### Reports and events -/

/-- An engine has seen an event since its previous step (R261). -/
def CeEng.see (g : CeEng) (n : Nat) : CeEng := if g.seen.contains n then g else { g with seen := g.seen ++ [n] }

/-- A lattice event fires. -/
def Dev.ev (d : Dev) (n : Nat) : Dev :=
  { d with events := d.events ++ [n], ce := { d.ce with eng := d.ce.eng.map (fun g => g.see n) } }

/-- A lattice event fires when `c` holds. -/
def Dev.evIf (d : Dev) (c : Bool) (n : Nat) : Dev := if c then d.ev n else d

/-- A checker reports an occurrence (R359). -/
def Dev.occ (d : Dev) (code src : Nat) : Dev :=
  { d with flt := { d.flt with inbox := d.flt.inbox ++ [⟨code, src, false⟩] } }

/-- An occurrence is reported when `c` holds. -/
def Dev.occIf (d : Dev) (c : Bool) (code src : Nat) : Dev := if c then d.occ code src else d

/-- The level of a checker is present. -/
def Dev.lvl (d : Dev) (code src : Nat) : Bool := d.flt.levels.contains (code, src)

/-- Some source of the code is present. -/
def Dev.lvlAny (d : Dev) (code : Nat) : Bool := d.flt.levels.any (fun p => p.1 == code)

/-- A checker's level appears: the report is on its way (R359). A level already present reports nothing new. -/
def Dev.lvlOn (d : Dev) (code src : Nat) : Dev :=
  if d.lvl code src then d
  else { d with flt := { d.flt with levels := d.flt.levels ++ [(code, src)], inbox := d.flt.inbox ++ [⟨code, src, true⟩] } }

/-- What the end of the last cause does to a record: the cause is gone, and a class F1 record closes by itself (R362). -/
def FltRec.causeGone (r : FltRec) (now : Nat) : FltRec :=
  { r with cause := false, isOpen := r.isOpen && !(r.eclass == 1), quiet := now }

/-- A checker's level ends (R359, R362). -/
def Dev.lvlOff (d : Dev) (code src : Nat) : Dev :=
  if d.lvl code src then
    let ls := d.flt.levels.filter (fun p => !(p == (code, src)))
    { d with flt := { d.flt with
        levels := ls
        recs := if ls.any (fun p => p.1 == code) then d.flt.recs
                else d.flt.recs.map (fun r => if r.code == code then r.causeGone d.now else r) } }
  else d

/-- A level set on or off. -/
def Dev.lvlSet (d : Dev) (b : Bool) (code src : Nat) : Dev := if b then d.lvlOn code src else d.lvlOff code src

/-! ### Health monitors (R375, R376) -/

/-- A register changed by `f`. -/
def Dev.rmod (d : Dev) (a : Nat) (f : Word → Word) : Dev := d.rset a (f (d.rget a))

/-- A count register raised by one, saturating at 0xFFFF_FFFF (R376). -/
def Dev.count32 (d : Dev) (a : Nat) : Dev := d.rmod a (fun v => BitVec.ofNat 32 (satInc v.toNat 0xFFFFFFFF))

/-- The bin of a sample: ⌊(x − `LO`) ÷ 2^`W`⌋ limited to 0–15 (R375). -/
def hltBin (x lo : Int) (w : Nat) : Nat := (clampInt 0 15 ((x - lo) / (2 ^ w : Nat))).toNat

/-- Monitor `m` takes the sample `x`. -/
def Dev.hltTake (d : Dev) (m : Nat) (x : Int) : Dev :=
  let b := hltBin x (sword (d.rget (Reg.HLT_LO m))) (d.rf (Reg.HLT_CFG m) 24 4)
  let d := (d.count32 (Reg.HLT_COUNT m)).rset (Reg.HLT_LAST m) (satWord x)
  let d := d.rmod (Reg.HLT_MIN m) (fun v => if x < sword v then satWord x else v)
  let d := d.rmod (Reg.HLT_MAX m) (fun v => if sword v < x then satWord x else v)
  d.count32 (Reg.HLT_BIN m b)

/-- The monitors that sample: enabled and not frozen. An enabled one has its configuration listed among the registers. -/
def Dev.hltLive (d : Dev) : List Nat :=
  let live := d.regs.filterMap (fun r =>
    if Reg.HLT_CFG 0 ≤ r.1 ∧ r.1 < Reg.HLT_CFG 32 ∧ (r.1 - Reg.HLT_CFG 0) % 128 = 0 ∧ bget r.2 31 then
      some ((r.1 - Reg.HLT_CFG 0) / 128) else none)
  live.filter (fun m => !d.rb Reg.HLT_FRZ m)

/-- The indices of a quantity of R375: 0 where the table gives none; `none` for a value outside the table. -/
def hltIndices : Nat → Option Nat
  | 0x00 | 0x03 | 0x04 | 0x0A | 0x0D | 0x0E | 0x11 => some 0
  | 0x01 | 0x05 | 0x06 | 0x0F | 0x10 => some 4
  | 0x02 | 0x07 => some 2
  | 0x08 => some 12
  | 0x09 => some 14
  | 0x0B => some 13
  | 0x0C => some 30
  | _ => none

/-- The quantity `src` of index `idx` (0 where the table gives none) has the sample `x` (R375). -/
def Dev.hlt (d : Dev) (src idx : Nat) (x : Int) : Dev :=
  d.hltLive.foldl (fun d m =>
    if d.rf (Reg.HLT_CFG m) 16 8 = src ∧ (d.rf (Reg.HLT_CFG m) 0 8 = idx ∨ hltIndices src = some 0) then d.hltTake m x
    else d) d

/-! ### Topology, axis states -/

/-- The image's topology uses axis `x` (0–3 traction, 4 X, 5 Y). -/
def Dev.inTopo (d : Dev) (x : Nat) : Bool := tget d.topo.axes x

/-- State of a traction axis. -/
def Dev.axOf (d : Dev) (a : Nat) : AState := tget d.ax a

/-- The traction axis in a state in which the PWM drives it (R144). -/
def AState.active : AState → Bool
  | .enabled | .driving | .stopping => true
  | _ => false

/-- The traction axis in its safe state. -/
def AState.safe : AState → Bool
  | .asc | .freewheel => true
  | _ => false

/-- Every traction axis of the topology is in IDLE. -/
def Dev.tractionIdle (d : Dev) : Bool :=
  (List.range 4).all (fun a => !d.inTopo a || d.axOf a == .idle)

/-- `AUXx_STAT.STATE`: 0 IDLE, 1 HOLD, 2 MOVING, 3 STOPPING, 4 HOMING, 5 FAULT. -/
def Dev.auxState (d : Dev) (x : Nat) : Nat := d.rf (Reg.AUX_STAT x) 29 3
/-- `AUXx_STAT.HPHASE`: 1 clear, 2 search, 3 brake, 4 backoff. -/
def Dev.auxPhase (d : Dev) (x : Nat) : Nat := d.rf (Reg.AUX_STAT x) 23 3
def Dev.setPhaseH (d : Dev) (x p : Nat) : Dev := d.wf (Reg.AUX_STAT x) 23 3 p
/-- DC mode. -/
def Dev.auxDc (d : Dev) (x : Nat) : Bool := d.rb (Reg.AUX_CFG x) 30
/-- A confirmed switch: 0 `LIMx_N`, 1 `LIMx_P`, 2 `HOMEx`. -/
def Dev.auxSw (d : Dev) (x s : Nat) : Bool := d.rb (Reg.AUX_STAT x) (19 + s)

/-- Every axis of the topology is IDLE, aux axes included (R119, R126, R135, R297). -/
def Dev.allIdle (d : Dev) : Bool :=
  d.tractionIdle && [0, 1].all (fun x => !d.inTopo (4 + x) || d.auxState x == 0)

/-- Axes `a` and its partner form one six-phase machine (R146). -/
def Dev.paired (d : Dev) (a : Nat) : Bool := tget d.topo.pair (a / 2)

/-- The axis whose timebase and pulses `a` uses: its leader on a six-phase machine (R146). -/
def Dev.leader (d : Dev) (a : Nat) : Nat := if d.paired a then a / 2 * 2 else a

/-- The axes that act together with `a`: both axes of a six-phase machine. -/
def Dev.group (d : Dev) (a : Nat) : List Nat := if d.paired a then [a / 2 * 2, a / 2 * 2 + 1] else [a]

/-! ### Outcomes -/

/-- The device runs: it is neither in DORMANT nor held in reset (R65, R445, R447). What its blocks would do there has no
effect; only the keep-alive domain, the preserve port and the test pins are alive. -/
def Dev.live (d : Dev) : Bool := d.dstate != .dormant && d.boot.waiting.isNone

/-- The outcome of a command at the test port whose effect is `f`: without `VDD_IO` its pins are high-Z (R48). -/
def State.runTap (s : State) (f : Dev → Dev) : Host.Outcome State Fault Refusal :=
  .next (if s.dev.power.ioUp then { s with dev := f s.dev } else s)

/-- The outcome of a command whose effect on a running device is `f`. -/
def State.run (s : State) (f : Dev → Dev) : Host.Outcome State Fault Refusal :=
  .next (if s.dev.live then { s with dev := f s.dev } else s)

/-- The outcome of a command that acts whether or not the device runs. -/
def State.runAny (s : State) (f : Dev → Dev) : Host.Outcome State Fault Refusal := .next { s with dev := f s.dev }

end Sys2Proof.Machine
end

