-- ==== Sys2Proof/Machine/Trig.lean ====
section
/-! DEFINITION. Sine, cosine and the angle of a vector over angles of 2^32 codes a turn (R226), as the field units (R227), the block
library (R260) and the aux axes (R292) use them: the mathematical functions, rounded to a code or to 2^−30 either way, since the
spec states no accuracy (log entry 32). -/

namespace Sys2Proof.Machine

/-- One in units of 2^−62. -/
def one62 : Int := 4611686018427387904

/-- 2π in units of 2^−62. -/
def twoPi62 : Int := 28976077832308491370

/-- 1 − z/(m(m+1)) · (1 − z/((m+2)(m+3)) · (…)), `n` brackets deep, in units of 2^−62: the series of cos x for z = x² and m = 1, of
sin x ÷ x for m = 2. -/
def altSeries (z : Int) : Nat → Nat → Int
  | 0, _ => one62
  | n + 1, m => one62 - z * altSeries z n (m + 2) / (one62 * (m * (m + 1) : Nat))

/-- Cosine and sine of `r` codes up to an eighth of a turn, in 2^−62. -/
def cosSinEighth (r : Nat) : Int × Int :=
  let x := r * twoPi62 / 4294967296
  let z := x * x / one62
  (altSeries z 11 1, x * altSeries z 11 2 / one62)

/-- Cosine and sine of `r` codes up to a quarter turn. -/
def cosSinQuarter (r : Nat) : Int × Int :=
  if r ≤ 536870912 then cosSinEighth r else (cosSinEighth (1073741824 - r)).swap

/-- Cosine and sine of an angle, in 2^−62: exact at the quarter turns, else to a few units. -/
def cosSin (x : Nat) : Int × Int :=
  let y := x % 4294967296
  let q := cosSinQuarter (y % 1073741824)
  match y / 1073741824 with
  | 0 => q
  | 1 => (-q.2, q.1)
  | 2 => (-q.1, -q.2)
  | _ => (q.2, -q.1)

/-- The cosine and the sine of an angle, in 2^−30. -/
def cosQ (x : Nat) : Int := rdiv 0x12C (cosSin x).1 4294967296
def sinQ (x : Nat) : Int := rdiv 0x12D (cosSin x).2 4294967296

/-- How far the vector (x, y) lies counter-clockwise of the direction of `c` codes: |v| sin(φ − c), scaled. -/
def crossDir (x y : Int) (c : Nat) : Int := y * (cosSin c).1 - x * (cosSin c).2

/-- The largest code, built from `2^(k−1)` down, whose direction the vector of the upper half plane has reached. -/
def angleBits (x y : Int) : Nat → Nat → Nat
  | 0, r => r
  | k + 1, r => angleBits x y k (if 0 ≤ crossDir x y (r + 2 ^ k) then r + 2 ^ k else r)

/-- The angle of the vector (x, y), as a code rounded either way; free for the zero vector, which has none. -/
def angleOf (site : Nat) (x y : Int) : Word :=
  if x = 0 ∧ y = 0 then wordOfInt (Config.freeFun site [])
  else
    let up := decide (0 < y) || (y == 0 && decide (0 < x))
    let u := if up then x else -x
    let v := if up then y else -y
    let r := angleBits u v 31 0
    let r := if crossDir u v r = 0 then r else r + (Config.roundUp site x y.natAbs).toNat
    BitVec.ofNat 32 (if up then r else r + 2147483648)

end Sys2Proof.Machine
end

