-- ==== Sys2Proof/Machine/Blocks.lean ====
section
/-! DEFINITION. The block library of the control engines: numbers, saturation and the function of each block type
(chapter 10, R260, R262). The spec lays out no parameter words for the filters, controllers and tables: what their words give each
coefficient is a free function of the words (log entry 32); what a block does with its coefficients follows its type. -/

namespace Sys2Proof.Machine

/-- 1.0 pu in Q3.28. -/
def pu : Int := 268435456

/-- The largest and smallest value of a signal (R262). -/
def ceMax : Int := 2147483647
def ceMin : Int := -2147483647

/-- A result as the engine writes it, and whether it saturated (R262). -/
def ceSat (i : Int) : Word × Bool := (wordOfInt (clampInt ceMin ceMax i), decide (i < ceMin) || decide (ceMax < i))

/-- A boolean output (R262). -/
def ceBool (b : Bool) : Word := if b then 0x10000000 else 0

/-- A boolean output as a number. -/
def ceB (b : Bool) : Int := if b then pu else 0

/-- The integer square root, found bit by bit from `2^k` down. -/
def isqrtGo : Nat → Nat → Nat → Nat
  | 0, _, r => r
  | k + 1, n, r => if (r + 2 ^ k) * (r + 2 ^ k) ≤ n then isqrtGo k n (r + 2 ^ k) else isqrtGo k n r

/-- The integer square root of a number below 2^128. -/
def isqrt (n : Nat) : Nat := isqrtGo 64 n 0

/-- A square root rounded either way unless it is exact (log entry 8). -/
def rsqrt (site n : Nat) : Int :=
  let r := isqrt n
  if r * r = n then (r : Int) else (r : Int) + (if Config.roundUp site n 0 then 1 else 0)

/-- A product of two Q3.28 numbers (R262). -/
def ceMul (site : Nat) (x y : Int) : Int := rdiv site (x * y) 268435456

/-- An arithmetic result as the engine writes it, with the mark that it, or what went into it (`f`), saturated (R262). -/
def satWith (f : Bool) (i : Int) : Int × Bool := (clampInt ceMin ceMax i, f || decide (i < ceMin) || decide (ceMax < i))

/-- A saturating product and a saturating sum (R262). -/
def mulS (site : Nat) (x y : Int) : Int × Bool := satWith false (ceMul site x y)
def addS (a b : Int × Bool) : Int × Bool := satWith (a.2 || b.2) (a.1 + b.1)

/-- A saturating sum of products, added to `acc` in the order of the lists. -/
def dotS (site : Nat) : List Int → List Int → Int × Bool → Int × Bool
  | c :: cs, x :: xs, acc => dotS site cs xs (addS acc (mulS site c x))
  | _, _, acc => acc

/-- What one execution of a block gives: outputs, next state, and whether an operation saturated. -/
structure BlkRes where
  outs : List Int
  st : List Int
  sat : Bool
  deriving DecidableEq, Repr

/-- Outputs and state words from arithmetic. -/
def ceArith (outs st : List (Int × Bool)) : BlkRes :=
  ⟨outs.map Prod.fst, st.map Prod.fst, outs.any Prod.snd || st.any Prod.snd⟩

/-- One output from arithmetic, the state unchanged. -/
def ceOne (r : Int × Bool) (st : List Int) : BlkRes := ⟨[r.1], st, r.2⟩

/-- A quotient in Q3.28; a zero divisor gives the saturated value with the sign of `x`, and 0 for `x` = 0 (R260). -/
def ceDiv (x y : Int) : Int × Bool :=
  if y = 0 then (if x = 0 then 0 else if 0 < x then ceMax else ceMin, true)
  else satWith false (rdiv 0x06 (if 0 < y then x * pu else -(x * pu)) y.natAbs)

/-- The signed sum of the inputs, saturating at each addition; bit `i` of the parameter subtracts input `i`. -/
def ceSum : Nat → Nat → List Int → Int × Bool → Int × Bool
  | _, _, [], acc => acc
  | p, i, x :: xs, acc => ceSum p (i + 1) xs (addS acc (if p / 2 ^ i % 2 = 1 then -x else x, false))

/-- Element `i` of a list of numbers, 0 beyond its end. -/
def nth (l : List Int) (i : Nat) : Int := l.getD i 0

/-- What the parameter words of a block of type `t` give for its role `k` (a gain, a coefficient, a bound): the spec gives the words
no places, so each role is a free function of all of them (log entry 32). -/
def coef (t : Nat) (p : List Int) (k : Nat) : Int := Config.freeFun (0x30000 + 16 * t + k) p

/-- The clamp between two limits in either order. -/
def between (p q x : Int) : Int := clampInt (min p q) (max p q) x

/-- A controller with back-calculation anti-windup: error, limit and reset on the inputs, integral `i`, derivative term `dt`. The
output is proportional, integral and derivative part clamped to the limit; the integral takes the error and, by back-calculation,
what the clamp has cut off; reset holds it at 0. Output and next integral. -/
def ceLaw (t : Nat) (x p : List Int) (i : Int) (dt : Int × Bool) : (Int × Bool) × (Int × Bool) :=
  let lim : Int := (nth x 1).natAbs
  let i := if nth x 2 ≠ 0 then 0 else i
  let u := addS (addS (mulS t (coef t p 0) (nth x 0)) (i, false)) dt
  let y := clampInt (-lim) lim u.1
  let i' := addS (addS (i, false) (mulS t (coef t p 1) (nth x 0))) (mulS t (coef t p 2) (y - u.1))
  ((y, u.2), if nth x 2 ≠ 0 then (0, false) else i')

/-- PID: PI, and a derivative of the error behind a first-order filter; the states are integral, filter and last error. -/
def cePid (x p st : List Int) : BlkRes :=
  let e := addS (nth x 0, false) (-(nth st 2), false)
  let f := dotS 0x0B [coef 0x0B p 3, coef 0x0B p 4] [nth st 1, e.1] (0, e.2)
  let r := ceLaw 0x0B x p (nth st 0) f
  ceArith [r.1] [r.2, f, (nth x 0, false)]

/-- The second-order section in direct form II transposed: y = b0 x + s1, s1 ← b1 x − a1 y + s2, s2 ← b2 x − a2 y; roles b0, b1,
b2, a1, a2. -/
def ceBiquad (x p st : List Int) : BlkRes :=
  let c := coef 0x0D p
  let x := nth x 0
  let y := addS (mulS 0x0D (c 0) x) (nth st 0, false)
  ceArith [y] [dotS 0x0D [c 1, -(c 3)] [x, y.1] (nth st 1, false), dotS 0x0D [c 2, -(c 4)] [x, y.1] (0, false)]

/-- A place among `n` equally spaced points from `x0` on: the point below, how far beyond it, and the spacing; clamped at the
ends. -/
def gridPos (n : Nat) (x0 step x : Int) : Nat × Nat × Nat :=
  let h := max 1 step.natAbs
  let k := ((x - x0) / h).toNat
  if x ≤ x0 then (0, 0, h) else if n ≤ k + 1 then (n - 1, 0, h) else (k, ((x - x0) % h).toNat, h)

/-- LUT: linear interpolation among the points that follow the first two parameter words (log entry 32); roles first input and
spacing. -/
def ceLut (x p : List Int) : Int × Bool :=
  let q := gridPos (p.length - 2) (coef 0x10 p 0) (coef 0x10 p 1) (nth x 0)
  let y (i : Nat) : Int := nth p (2 + i)
  satWith false (if q.2.1 = 0 then y q.1 else rdiv 0x10 (y q.1 * (q.2.2 - q.2.1 : Nat) + y (q.1 + 1) * q.2.1) q.2.2)

/-- LUT2: bilinear interpolation among the points that follow the first six parameter words, row by row (log entry 32); roles
points per row, first input and spacing of either input. -/
def ceLut2 (x p : List Int) : Int × Bool :=
  let nx := max 1 (min 32 (coef 0x11 p 0).natAbs)
  let a := gridPos nx (coef 0x11 p 1) (coef 0x11 p 2) (nth x 0)
  let b := gridPos ((p.length - 6) / nx) (coef 0x11 p 3) (coef 0x11 p 4) (nth x 1)
  let z (i j : Nat) : Int := if 6 + (b.1 + j) * nx + a.1 + i < p.length then nth p (6 + (b.1 + j) * nx + a.1 + i) else 0
  let ra := a.2.1; let rb := b.2.1; let ha := a.2.2; let hb := b.2.2
  satWith false (rdiv 0x11 (z 0 0 * ((ha - ra) * (hb - rb) : Nat) + z 1 0 * (ra * (hb - rb) : Nat) + z 0 1 * ((ha - ra) * rb : Nat) +
    z 1 1 * (ra * rb : Nat)) (ha * hb))

/-- Sine and cosine of an angle in Q3.28. -/
def ceSin (x : Int) : Int := rdiv 0x12 (cosSin (fromSigned 32 x)).2 17179869184
def ceCos (x : Int) : Int := rdiv 0x12 (cosSin (fromSigned 32 x)).1 17179869184

/-- ROT: (x, y) turned by an angle. -/
def ceRot (x y t : Int) : List (Int × Bool) :=
  let c := cosSin (fromSigned 32 t)
  [satWith false (rdiv 0x16 (x * c.1 - y * c.2) 4611686018427387904),
   satWith false (rdiv 0x16 (x * c.2 + y * c.1) 4611686018427387904)]

/-- A number in units of 2^−28 of a word in a format (0 Q3.28, 1 Q15.16, 2 integer), and back. -/
def formatIn (f : Nat) (x : Int) : Int := if f = 0 then x else if f = 1 then x * 4096 else x * 268435456
def formatOut (f : Nat) (x : Int) : Int :=
  if f = 0 then x else if f = 1 then rdiv 0x1B x 4096 else rdiv 0x1B x 268435456

/-- FORMAT: the parameter names the formats (roles from and to, 3 the angle); the number that an angle stands for outside its own
format is free (log entry 32). -/
def ceFormat (x : Int) (p : List Int) : Int × Bool :=
  let f := (coef 0x1B p 0).natAbs % 4
  let t := (coef 0x1B p 1).natAbs % 4
  if f = t then (x, false)
  else if f = 3 ∨ t = 3 then satWith false (Config.freeFun 0x1B [f, t, x])
  else satWith false (formatOut t (formatIn f x))

/-- MONITOR: the value (one input, or a free function of two) lies outside its window; the state counts the steps in a row, and the
check fires when they reach the persistence count. Roles lower and upper bound, count. -/
def ceMonitor (x p st : List Int) : Int × Bool :=
  let v := match x with | [a] => a | _ => Config.freeFun 0x1F x
  let n := max 1 (coef 0x1F p 2).natAbs
  let k : Nat := if v < coef 0x1F p 0 ∨ coef 0x1F p 1 < v then min ((nth st 0).toNat + 1) (n + 1) else 0
  ((k : Int), k == n)

/-- CMP: x > y with the hysteresis of the parameter. An output that x > y agrees with stays; inside the hysteresis the spec does not fix
where one that it contradicts changes: free (log entry 32). -/
def ceCmp (x y h prev : Int) : Bool :=
  if h = 0 ∨ h.natAbs < (x - y).natAbs ∨ (decide (prev ≠ 0) = decide (y < x)) then decide (y < x)
  else Config.freeFun 0x17 [x, y, h, prev] != 0

/-- LOGIC: the parameter chooses AND, OR, XOR or NOT; the spec does not say with which value (log entry 32). -/
def ceLogic (p : Int) (bs : List Bool) : Bool :=
  match (Config.freeFun 0x19 [p]).natAbs % 4 with
  | 0 => bs.all id
  | 1 => bs.any id
  | 2 => bs.foldl (fun a b => a != b) false
  | _ => !(bs.getD 0 false)

/-- TIMER: on-delay and off-delay in steps; the state is the level and the steps before the present one for which the input has
differed. -/
def ceTimer (x : Bool) (onD offD lvl cnt : Int) : Int × Int :=
  if x == decide (lvl ≠ 0) then (lvl, 0)
  else if (if x then onD else offD) ≤ cnt then (if x then 1 else 0, 0) else (lvl, cnt + 1)

/-- One execution of a block whose function needs nothing but its inputs, parameters and state (R260). -/
def ceBlock (t : Nat) (x p st : List Int) : BlkRes :=
  match t with
  | 0x00 => ⟨[nth p 0], st, false⟩
  | 0x03 => ceOne (ceSum (fromSigned 32 (nth p 0)) 0 x (0, false)) st
  | 0x04 => ceOne (mulS 0x04 (nth x 0) (nth p 0)) st
  | 0x05 => ceOne (mulS 0x05 (nth x 0) (nth x 1)) st
  | 0x06 => ceOne (ceDiv (nth x 0) (nth x 1)) st
  | 0x07 => ⟨[between (x.getD 1 (nth p 0)) (x.getD 2 (nth p 1)) (nth x 0)], st, false⟩
  | 0x08 =>
    let e := addS (nth x 0, false) (-(nth st 0), false)
    let y := addS (nth st 0, e.2) (clampInt (-(nth p 1)) (nth p 0) e.1, false)
    ceArith [y] [y]
  | 0x09 =>
    if nth x 1 ≠ 0 then ⟨[0], [0], false⟩
    else
      let s := addS (nth st 0, false) (mulS 0x09 (nth x 0) (nth p 0))
      let y := between (nth p 1) (nth p 2) s.1
      ⟨[y], [y], s.2⟩
  | 0x0A => let r := ceLaw 0x0A x p (nth st 0) (0, false); ceArith [r.1] [r.2]
  | 0x0B => cePid x p st
  | 0x0C =>
    let y := dotS 0x0C [coef 0x0C p 0, coef 0x0C p 1, coef 0x0C p 2] [nth x 0, nth st 0, nth st 1] (0, false)
    ceArith [y] [(nth x 0, false), y]
  | 0x0D => ceBiquad x p st
  | 0x0E => let w := (nth x 0 :: st).take 16; ceOne (dotS 0x0E p w (0, false)) w
  | 0x0F =>
    let n := min st.length (nth p 0).toNat
    ⟨[if n = 0 then nth x 0 else nth st (n - 1)], (nth x 0 :: st).take st.length, false⟩
  | 0x10 => ceOne (ceLut x p) st
  | 0x11 => ceOne (ceLut2 x p) st
  | 0x12 => ⟨[ceSin (nth x 0), ceCos (nth x 0)], st, false⟩
  | 0x13 => ⟨[sword (angleOf 0x13 (nth x 1) (nth x 0))], st, false⟩
  | 0x14 => if nth x 0 < 0 then ⟨[0], st, true⟩ else ⟨[rsqrt 0x14 (nth x 0 * pu).toNat], st, false⟩
  | 0x15 => ceOne (satWith false (rsqrt 0x15 (nth x 0 * nth x 0 + nth x 1 * nth x 1).toNat)) st
  | 0x16 => ceArith (ceRot (nth x 0) (nth x 1) (nth x 2)) (st.map (fun v => (v, false)))
  | 0x17 => let b := ceB (ceCmp (nth x 0) (nth x 1) (nth p 0) (nth st 0)); ⟨[b], [b], false⟩
  | 0x18 => ⟨[if nth x 2 ≠ 0 then nth x 0 else nth x 1], st, false⟩
  | 0x19 => ⟨[ceB (ceLogic (nth p 0) (x.map (fun v => v != 0)))], st, false⟩
  | 0x1A =>
    let r := ceTimer (nth x 0 != 0) (nth p 0) (nth p 1) (nth st 0 % 2) (nth st 0 / 2)
    ⟨[ceB (r.1 != 0)], [r.1 + 2 * r.2], false⟩
  | 0x1B => ceOne (ceFormat (nth x 0) p) st
  | _ => ⟨[], st, false⟩

/-! ### The repetitive controller (R273) -/

/-- One execution of REPCTL: `st` holds the 256 bins; `b` is the bin of the angle. Parameters in the order of R273. -/
def repctl (b : Nat) (frozen reset : Bool) (e : Int) (p st : List Int) : BlkRes :=
  let lim := nth p 4
  let k := (nth p 2).toNat
  let f := (nth p 3).toNat
  let bins := if reset then List.replicate 256 0 else st.take 256
  let c := nth bins b
  let decay := if f = 0 then 0 else rdiv 0x1C c (2 ^ f)
  let s := satWith false (c - decay + rdiv 0x2C e (2 ^ k))
  let bins := if frozen then bins else bins.set b (clampInt (-lim) lim s.1)
  ⟨[nth bins ((b + (nth p 5).toNat) % 256)], bins, !frozen && s.2⟩

/-! ### CMDIN decoders (R271) -/

/-- The mapping of an averaged raw value: dead band, line through (x0, y0) and (x1, y1), clamp; y in 2^−12 pu, the result
in Q3.28. -/
def cmdMap (x0 x1 y0 y1 dbc db x : Int) : Int :=
  let xd := if (x - dbc).natAbs ≤ db.natAbs then dbc else if dbc < x then x - db else x + db
  let num := (xd - x0) * (y1 - y0) * 65536
  let y := y0 * 65536 + rdiv 271 (if x0 < x1 then num else -num) (x1 - x0).natAbs
  between (y0 * 65536) (y1 * 65536) y

/-! ### The profile generator (R270) -/

/-- sign(i). -/
def sgn (i : Int) : Int := if 0 < i then 1 else if i < 0 then -1 else 0

/-- One step of a generator: `r` the target, limits in Q15.16 pu/s, pu/s² and pu/s³, `n` the step length in cycles of
2.5 ns; y in Q3.28, saturating (R262), v and a in 2^−28 pu/s and pu/s². Whether the target is reached comes with it. -/
def genStep (g : CeGen) (r : Int) (vl al jl n : Nat) : CeGen × Bool :=
  let e := r - g.y
  let v28 : Int := vl * 4096
  let a28 : Int := al * 4096
  let jdt := rdiv 0x2D (jl * 4096 * n) 400000000
  let vt := sgn e * min v28 (rsqrt 0x1D (2 * al * 4096 * e.natAbs))
  let at' := clampInt (-a28) a28 (rdiv 0x3D ((vt - g.v) * jl) al)
  let a := g.a + clampInt (-jdt) jdt (at' - g.a)
  let v := clampInt (-v28) v28 (g.v + rdiv 0x4D (a * n) 400000000)
  let y := satWith false (g.y + rdiv 0x5D (v * n) 400000000)
  if (r - y.1).natAbs < 16 ∧ (v.natAbs : Int) * 400000000 ≤ jdt * n then (⟨g.lane, r, 0, 0, y.2⟩, true)
  else (⟨g.lane, y.1, v, a, y.2⟩, false)

end Sys2Proof.Machine
end

