-- ==== Sys2Proof/Machine/Gate.lean ====
section
/-! DEFINITION. Switches, the confirmed-off interlock, staged gate drive and short-circuit detection
(chapter 07, R182–R189). Switch 0–11 is the high switch of half-bridge n, switch 12 + c GI channel c. -/

namespace Sys2Proof.Machine

/-! ### Numbering -/

/-- The other switch of the half-bridge; the choppers and discharge switches have none (R183). -/
def partner (sw : Nat) : Option Nat := if sw < 12 then some (sw + 12) else if sw < 24 then some (sw - 12) else none

/-- High (`true`) or low switch of phase `p` of axis `a` (R1). -/
def swOf (a p : Nat) (high : Bool) : Nat := if high then 3 * a + p else 12 + 3 * a + p

/-- The lane of a switch: 0–11 the island links, 12 G0, 13 G1 (R172). -/
def laneOf (sw : Nat) : Nat :=
  if sw < 12 then sw else if sw < 18 ∨ sw = 24 ∨ sw = 26 then 12 else 13

/-- Registers of a switch. -/
def statReg (sw : Nat) : Nat := if sw < 12 then Reg.ISL_H_STAT sw else Reg.ISL_GC_STAT (sw - 12)
def flagsReg (sw : Nat) : Nat := if sw < 12 then Reg.ISL_H_FLAGS sw else Reg.ISL_GC_FLAGS (sw - 12)
def segReg (sw i : Nat) : Nat := if sw < 12 then Reg.ISL_H_SEG sw i else Reg.ISL_GC_SEG (sw - 12) i
def drvReg (sw : Nat) : Nat := if sw < 12 then Reg.ISL_H_DRV sw else Reg.ISL_GC_DRV (sw - 12)
def scReg (sw : Nat) : Nat := if sw < 12 then Reg.ISL_H_SC sw else Reg.ISL_GC_SC (sw - 12)

/-- The fault of a switch: `hc` is the high-side code's c, `gi` the GI code, which names the channel (R196). -/
def swFault (sw hc gi : Nat) : Nat × Nat := if sw < 12 then (0x0540 + 0x10 * sw + hc, 0) else (gi, sw - 12)

/-- A switch. -/
def Dev.swi (d : Dev) (sw : Nat) : Switch := tget d.sw sw

/-- A switch changed. -/
def Dev.swMod (d : Dev) (sw : Nat) (f : Switch → Switch) : Dev := { d with sw := tmod d.sw sw f }

/-! ### The confirmed-off interlock (R182, R183) -/

/-- A turn-off request: it is sent at once; a new confirmed-off status is then needed (R182). -/
def Dev.ilkOff (d : Dev) (sw : Nat) : Dev :=
  d.swMod sw (fun x =>
    { x with cdReq := false, cdHeld := none, cdSent := false, cdOff := if x.cdSent then none else x.cdOff })

/-- The CD holds the confirmed-off status of the switch that R182 asks for, and 40 ns (16 ticks) have passed. -/
def Switch.offFor40ns (x : Switch) (now : Nat) : Bool :=
  !x.cdSent && match x.cdOff with | some t => decide (t + 16 ≤ now) | none => false

/-- The extension of a turn-on beyond its request, in `ISL_Hn_ILK` (R182), saturating. -/
def Dev.ilkExt (d : Dev) (sw ticks : Nat) : Dev :=
  let d := d.hlt 0x08 (sw % 12) (min ticks 65535 : Nat)
  if sw < 12 then d.wf (Reg.ISL_H_ILK sw) 0 16 (min ticks 65535)
  else d.wf (Reg.ISL_H_ILK (sw - 12)) 16 16 (min ticks 65535)

/-- R183: a both-on request of half-bridge `n` is refused: flag, event 0x6C + n and fault 0x0543 + 0x10 n. -/
def Dev.shootReq (d : Dev) (n : Nat) : Dev :=
  ((d.wb (Reg.ISL_H_FLAGS n) 0 true).ev (0x6C + n)).occ (0x0543 + 0x10 * n) 0

/-- The CD sends on the lane of a switch: it has not declared the lane lost (R177). -/
def Dev.sends (d : Dev) (sw : Nat) : Bool := !(tget d.link (laneOf sw)).cdLost

/-- The turn-on of a switch is commanded now. -/
def Dev.ilkSend (d : Dev) (sw : Nat) : Dev :=
  d.swMod sw (fun x => { x with cdReq := true, cdSent := true, cdAt := d.now, cdHeld := none })

/-- The turn-on of a switch is held. -/
def Dev.ilkHold (d : Dev) (sw : Nat) : Dev := d.swMod sw (fun x => { x with cdReq := true, cdHeld := some (x.cdHeld.getD d.now) })

/-- Requests for both switches of a half-bridge have come in one tick: the one that seemed alone is not sent either (R183). -/
def Dev.ilkRecall (d : Dev) (sw : Nat) : Dev :=
  if (d.swi sw).cdSent && (d.swi sw).cdAt == d.now then
    d.swMod sw (fun x => { x with cdSent := false, cdHeld := some d.now })
  else d

/-- The turn-on of a switch may be sent under R182: the other switch is commanded off, its confirmed-off status was received 40 ns ago,
and the lane carries frames. -/
def Dev.ilkFree (d : Dev) (sw q : Nat) : Bool := d.sends sw && !(d.swi q).cdReq && (d.swi q).offFor40ns d.now

/-- A turn-on request reaches the interlock (R182, R183). On a lost lane it waits for the retraining (R181). Under the test of CTRL_L
the frames carry all switches off (R419). That a partner's earlier request counts while it is only held is a DESIGN CHOICE: R183 names
the same tick and a partner commanded on (log entry 148). -/
def Dev.ilkOn (d : Dev) (sw : Nat) : Dev :=
  if d.bistUnit = some 4 then d else
  match partner sw with
  | none => if d.sends sw then d.ilkSend sw else d.ilkHold sw
  | some q =>
    if (d.swi q).cdReq || (d.swi q).cdSent then ((d.ilkHold sw).ilkRecall q).shootReq (sw % 12)
    else if d.ilkFree sw q then (d.ilkSend sw).ilkExt sw 0
    else d.ilkHold sw

/-- The held turn-on of a switch is sent once both conditions of R182 hold. -/
def Dev.ilkRelease (d : Dev) (sw : Nat) : Dev :=
  match partner sw, (d.swi sw).cdHeld with
  | some q, some t => if (d.swi sw).cdReq && d.ilkFree sw q then (d.ilkSend sw).ilkExt sw (d.now - t) else d
  | none, some _ => if (d.swi sw).cdReq && d.sends sw then d.ilkSend sw else d
  | _, _ => d

/-- INTERLOCK_RELEASE. -/
def execInterlockRelease (sw : Nat) (s : State) : Host.Outcome State Fault Refusal := s.run (·.ilkRelease sw)

/-! ### What an island does with its switch -/

/-- The switch begins its turn-off edge with the turn-off segments (R185, R187): a soft turn-off that runs goes on. -/
def Switch.islTurnOff (x : Switch) : Switch :=
  if x.islOn then { x with islOn := false, edge := some (1, 0), islOnConf := false, scArmed := false } else x

/-- The switch begins its turn-on edge, unless its short-circuit indication or its supply refuses it (R187, R189, R191). -/
def Switch.islTurnOn (x : Switch) : Switch :=
  if x.islOn || x.sc || x.vposRef || x.vbRef then x
  else { x with islOn := true, edge := some (0, 0), islOff := false, scArmed := false }

/-- R173: the island applies the commanded state of a switch. -/
def Switch.islApply (x : Switch) : Switch := if x.cdSent then x.islTurnOn else x.islTurnOff

/-- The link of a lane carries frames both ways. -/
def Dev.laneUp (d : Dev) (lane : Nat) : Bool :=
  (tget d.link lane).trained && !(tget d.link lane).cdLost && !(tget d.link lane).islLost

/-- The die of a lane is under its BIST unit: its link carries test traffic (R419). -/
def Dev.laneTest (d : Dev) (lane : Nat) : Bool := d.bistUnit == some (if lane < 12 then 0xC else 0xB)

/-- The switches of a lane. -/
def laneSwitches (lane : Nat) : List Nat := (List.range 28).filter (fun sw => laneOf sw == lane)

/-- Every switch of a lane changed. -/
def Dev.laneMod (d : Dev) (lane : Nat) (f : Switch → Switch) : Dev :=
  (laneSwitches lane).foldl (fun d sw => d.swMod sw f) d

/-- The GI holds a chopper on while the comparator is tripped: its mode is not OFF and it is not marked faulty (R319). -/
def Dev.giMayChop (d : Dev) (i : Nat) : Bool := (tget d.dcl.chop i).giMode != 0 && !(tget d.dcl.chop i).giFaulty

/-- The comparator holds the switch of a chopper on, whatever is commanded (R319). -/
def Dev.heldOn (d : Dev) (sw : Nat) : Bool := (sw == 24 || sw == 25) && d.dcl.tripped && d.giMayChop (sw - 24)

/-- The STO field of a command word holds the switch off (R333): high switches; with OFF every low switch, with ASC_SPEED those of
axes whose choice is FREEWHEEL. -/
def Dev.stoBars (d : Dev) (sw : Nat) : Bool :=
  d.rb Reg.SAFE_STO 31 && decide (sw < 24) &&
    (decide (sw < 12) || !d.rb Reg.SAFE_CFG 29 || !d.rb Reg.DCL_SELSTAT (4 * (sw % 12 / 3)))

/-- R173, R58: a downstream command field arrives and the island acts on every switch of the lane, if its check bits agree. Without a
valid frame so far, or with the lane lost, nothing arrives; a die under its BIST unit holds its switches off (R419). -/
def Dev.commandWord (d : Dev) (lane : Nat) (checksOk : Bool) : Dev :=
  if checksOk && d.laneUp lane && !d.laneTest lane then
    (laneSwitches lane).foldl (fun d sw => d.swMod sw
      (if d.heldOn sw then Switch.islTurnOn else if d.stoBars sw then Switch.islTurnOff else Switch.islApply)) d
  else d

/-- ISLAND_COMMAND_WORD. -/
def execIslandCommandWord (lane : Nat) (checksOk : Bool) (s : State) : Host.Outcome State Fault Refusal :=
  s.run (·.commandWord lane checksOk)

/-- R182: the gate monitor of the island confirms the switch on or off. -/
def Dev.vgsConfirm (d : Dev) (sw : Nat) (on : Bool) : Dev :=
  d.swMod sw (fun x => { x with islOnConf := on, islOff := !on, confAt := d.now })

/-- VGS_CONFIRM. -/
def execVgsConfirm (sw : Nat) (on : Bool) (s : State) : Host.Outcome State Fault Refusal := s.run (·.vgsConfirm sw on)

/-- R185, R186: a segment ends; after the one with `LAST` = 1 the hold stage follows. `timeout`: an `END` = VGS segment
ran its `DUR` without a crossing. -/
def Dev.segmentEnd (d : Dev) (sw : Nat) (timeout : Bool) : Dev :=
  match (d.swi sw).edge with
  | none => d
  | some (e, i) =>
    let seg := d.rget (segReg sw (4 * e + i))
    let tmo := timeout && fget seg 29 2 == 1
    let d := if tmo then (d.wb (flagsReg sw) 2 true).occ (swFault sw 0xC 0x050B).1 (swFault sw 0xC 0x050B).2 else d
    d.swMod sw (fun x => { x with edge := if bget seg 31 || decide (3 ≤ i) then none else some (e, i + 1) })

/-- SEGMENT_END. -/
def execSegmentEnd (sw : Nat) (timeout : Bool) (s : State) : Host.Outcome State Fault Refusal :=
  s.run (·.segmentEnd sw timeout)

/-- What drives a gate (R186): the rail (true VPOS, false VNEG); the strength code of the internal output, none while it is high-Z; the
booster output drives; the Miller clamp holds. -/
structure GateDrive where
  rail : Bool
  strength : Option Nat
  booster : Bool
  clamp : Bool
  deriving DecidableEq, Repr

/-- The gate drive of a switch (R185, R186): during a segment the internal output, or with `BOOST` = 1 the booster, drives toward the
rail of the edge; outside edges the hold stage drives, and with `BOOST_EN` = 1 the booster as well. In the off state the clamp engages
while VGS is below the level at which the switch is confirmed off, with `CLMP_EN` = 1 (log entry 113). -/
def Dev.gateDrive (d : Dev) (sw : Nat) : GateDrive :=
  let x := d.swi sw
  let clamp := !x.islOn && x.islOff && d.rb (drvReg sw) 0
  match x.edge with
  | some (e, i) =>
    let seg := d.rget (segReg sw (4 * e + i))
    ⟨e == 0, if bget seg 28 then none else some (fget seg 24 4), bget seg 28, clamp⟩
  | none => ⟨x.islOn, some (d.rf (drvReg sw) 8 4), d.rb (drvReg sw) 1, clamp⟩

/-- R184: the switch was not confirmed within T_GM of its command. -/
def Dev.gateMonitor (d : Dev) (sw : Nat) : Dev :=
  let x := d.swi sw
  if x.islOn && !x.islOnConf || !x.islOn && !x.islOff then
    d.occ (swFault sw 0xB 0x050A).1 (swFault sw 0xB 0x050A).2
  else d

/-- R188: the blanking time after a turn-on ends and comparison starts. Channels 12–15 have no detection. -/
def Dev.scBlankEnd (d : Dev) (sw : Nat) : Dev :=
  if sw < 24 then d.swMod sw (fun x => { x with scArmed := x.islOn }) else d

/-- SC_BLANK_END. -/
def execScBlankEnd (sw : Nat) (s : State) : Host.Outcome State Fault Refusal := s.run (·.scBlankEnd sw)

/-- R188, R189: the sense level stays above its threshold while compared: soft turn-off, indication for `SC_HOLD`
boundaries, sticky flag, event 0x60 + n and the short-circuit fault. -/
def Dev.shortDetected (d : Dev) (sw : Nat) : Dev :=
  if sw < 24 && (d.swi sw).scArmed then
    let d := d.swMod sw (fun x =>
      { x with islOn := false, islOnConf := false, edge := some (2, 0), sc := true, scArmed := false,
               scLeft := d.rf (scReg sw) 12 4 })
    let d := d.wb (flagsReg sw) 1 true
    let d := d.ev (0x60 + sw % 12)
    d.occ (swFault sw 0x2 0x0508).1 (swFault sw 0x2 0x0508).2
  else d

/-- SHORT_DETECTED. -/
def execShortDetected (sw : Nat) (s : State) : Host.Outcome State Fault Refusal := s.run (·.shortDetected sw)

end Sys2Proof.Machine
end

