-- ==== Sys2Proof/Machine/Pwm.lean ====
section
/-! DEFINITION. PWM generation, trips, masks, pair lock and shunt windows (chapter 06, R141–R171), and the one place
where a traction axis changes state (R28, R144). -/

namespace Sys2Proof.Machine

/-- The PWM generator of axis `a`. -/
def Dev.pw (d : Dev) (a : Nat) : Pwm := tget d.pwm a

/-- The PWM generator of axis `a` changed. -/
def Dev.pwMod (d : Dev) (a : Nat) (f : Pwm → Pwm) : Dev := { d with pwm := tmod d.pwm a f }

/-! ### From requests to gate commands (R143, R144, R155, R161) -/

/-- Index of a switch in the tables of one axis: 2p high, 2p + 1 low. -/
def swIx (p : Nat) (high : Bool) : Nat := if high then 2 * p else 2 * p + 1

/-- The mask passes the switch (R161, R162). `MIDX` = 0xF is no mask. -/
def Dev.maskPass (d : Dev) (a p : Nat) (high : Bool) : Bool :=
  if (d.pw a).maskOff then false
  else
    let m := d.rf (Reg.PWM_STAT a) 28 4
    if m < 6 then d.rb (Reg.PWM_MASK a m) (if high then p else p + 3) else true

/-- Pulses of the axis are cut (`PWMa_TRIP.CUT`). -/
def Dev.isCut (d : Dev) (a : Nat) : Bool := d.rb (Reg.PWM_TRIP a) 24

/-- `PWMa_CFG.TRIP_ACT` = LOW_ON. -/
def Dev.lowOn (d : Dev) (a : Nat) : Bool := d.rb (Reg.PWM_CFG a) 3

/-- An attempt at re-acquisition is on the probe path, on the HFI path (R252). -/
def Dev.probing (d : Dev) (a : Nat) : Bool := d.rf (Reg.FLD_STAT (d.leader a)) 10 2 == 2
def Dev.hfiPath (d : Dev) (a : Nat) : Bool := d.rf (Reg.FLD_STAT (d.leader a)) 10 2 == 3

/-- The gate command that the state, the cut and the mask of an axis give one of its switches (R144, R155, R161); the pattern of
FREEWHEEL includes the probe pulses of an attempt (R252), and on its HFI path the injection of R240 (log entry 121), which cuts and
masks do not change (R144, R160). -/
def Dev.gateWant (d : Dev) (a p : Nat) (high : Bool) : Bool :=
  match d.axOf a with
  | .idle | .diag => false
  | .freewheel => !d.rb Reg.SAFE_STO 31 &&
      ((!high && tget (d.pw a).probe p && d.probing a) ||
        (d.hfiPath a && tget (d.pw a).on (swIx p high)))
  | .asc => !high
  | .enabled | .driving | .stopping =>
    if d.isCut a then !high && d.lowOn a && tget (d.pw a).cutLow p && d.maskPass a p high
    else tget (d.pw a).on (swIx p high) && d.maskPass a p high

/-- The blanking timer starts (R159); `BLK_W` = 0 disables it. A six-phase machine has one timer, its leader's, which the switches of
both axes start (R146; log entry 111); each axis shows it. -/
def Dev.startBlank (d : Dev) (a : Nat) : Dev :=
  if d.rf (Reg.PWM_BLK (d.leader a)) 0 11 = 0 then d
  else (d.group a).foldl (fun d x => d.wb (Reg.PWM_STAT x) 11 true) d

/-- One switch follows its gate command; a new command starts the blanking timer. -/
def Dev.syncSw (d : Dev) (a p : Nat) (high : Bool) (on : Bool) : Dev :=
  let sw := swOf a p high
  if d.gateWant a p high = on ∧ (d.swi sw).cdReq ≠ on then
    (if on then d.ilkOn sw else d.ilkOff sw).startBlank a
  else d

/-- Every switch of the axis follows its gate command, turn-offs first. -/
def Dev.syncGates (d : Dev) (a : Nat) : Dev :=
  let offs := [0, 1, 2].foldl (fun d p => (d.syncSw a p true false).syncSw a p false false) d
  [0, 1, 2].foldl (fun d p => (d.syncSw a p true true).syncSw a p false true) offs

/-- A traction axis takes a state: event 0x01 when it changes, and its gates follow (R28, R144, R444). -/
def Dev.setAx (d : Dev) (a : Nat) (st : AState) : Dev :=
  if d.axOf a = st then d
  else ({ d with ax := tset d.ax a st }.ev 0x01).syncGates a

/-! ### Trips (R154–R160) -/

/-- A trip source of an axis: filtered state and enable (R154). 0 TRIP0, 1 TRIP1, 2 SC, 3 OC. -/
def Dev.srcActive (d : Dev) (a src : Nat) : Bool := d.rb (Reg.PWM_TRIP a) (8 + src)
def Dev.srcEnabled (d : Dev) (a src : Nat) : Bool := if src < 2 then d.rb (Reg.PWM_TRIPCFG a) src else true

/-- Blanking holds the source back (R159): TRIP0, TRIP1 and OC can be selected, SC cannot. -/
def Dev.srcBlanked (d : Dev) (a src : Nat) : Bool :=
  d.rb (Reg.PWM_STAT (d.leader a)) 11 &&
  match src with
  | 0 => d.rb (Reg.PWM_BLK (d.leader a)) 16
  | 1 => d.rb (Reg.PWM_BLK (d.leader a)) 17
  | 3 => d.rb (Reg.PWM_BLK (d.leader a)) 18
  | _ => false

/-- An enabled source is active, blanking aside; on a six-phase machine the sources of both axes count (R160). -/
def Dev.tripAny (d : Dev) (a : Nat) : Bool :=
  (d.group a).any (fun x => [0, 1, 2, 3].any (fun s => d.srcEnabled x s && d.srcActive x s))

/-- An enabled source that is not blanked is active. -/
def Dev.tripNow (d : Dev) (a : Nat) : Bool :=
  (d.group a).any (fun x => [0, 1, 2, 3].any (fun s => d.srcEnabled x s && d.srcActive x s && !d.srcBlanked x s))

/-- The pulses of one axis are cut (R155, R156): under LOW_ON each low switch that is not on turns on after `DTL`. The requests
and their dead times run on behind the cut, for the boundary that lifts it (log entry 94). -/
def Dev.cutAxis (d : Dev) (a : Nat) : Dev :=
  if d.isCut a then d else
  let low := d.lowOn a
  let noDt := d.rf (Reg.PWM_DT (d.leader a)) 0 12 == 0
  let d := d.pwMod a (fun w =>
    let wait := Vector.ofFn (fun p : Fin 3 => low && !tget w.on (2 * p.val + 1) && !noDt)
    { w with
      dead := Vector.ofFn (fun i : Fin 6 => w.dead[i] && !(i.val % 2 == 1 && tget wait (i.val / 2)))
      cutWait := wait
      cutLow := Vector.ofFn (fun p : Fin 3 => low && (tget w.on (2 * p.val + 1) || noDt)) })
  ((d.wb (Reg.PWM_TRIP a) 24 true).ev (0x32 + 10 * a)).syncGates a

/-- The pulses of the axis, and of its six-phase partner, are cut (R155, R160). -/
def Dev.cutPulses (d : Dev) (a : Nat) : Dev := (d.group a).foldl Dev.cutAxis d

/-- R154, R155: a trip source changes after its filter. -/
def Dev.tripInput (d : Dev) (a src : Nat) (active : Bool) : Dev :=
  let d := d.wb (Reg.PWM_TRIP a) (8 + src) active
  if active && d.srcEnabled a src && !d.srcBlanked a src then d.cutPulses a else d

/-- TRIP_INPUT_CHANGE. -/
def execTripInputChange (a src : Nat) (active : Bool) (s : State) : Host.Outcome State Fault Refusal :=
  s.run (·.tripInput a src active)

/-- R190: a fast overcurrent becomes the OC trip source of the axis; fault 0x0509 names axis and phase. -/
def Dev.ocDetected (d : Dev) (a p : Nat) : Dev := (d.tripInput a 3 true).occ 0x0509 (3 * a + p)

/-- OC_DETECTED. -/
def execOcDetected (a p : Nat) (s : State) : Host.Outcome State Fault Refusal := s.run (·.ocDetected a p)

/-- R159: blanking ends; a selected source that is still active acts now. -/
def Dev.blankingEnd (d : Dev) (a : Nat) : Dev :=
  let d := (d.group a).foldl (fun d x => d.wb (Reg.PWM_STAT x) 11 false) d
  if d.tripNow a then d.cutPulses a else d

/-- BLANKING_END. -/
def execBlankingEnd (a : Nat) (s : State) : Host.Outcome State Fault Refusal := s.run (·.blankingEnd a)

/-! ### Compare edges and dead times (R142, R143) -/

/-- The period in effect of an axis, in ticks: its leader's (R146). -/
def Dev.perOf (d : Dev) (a : Nat) : Nat := d.rf (Reg.PWM_PER (d.leader a)) 0 24

/-- A compare as the edges use it: a fraction is rounded down while the delay line is uncalibrated (R131). -/
def Dev.edgeCmp (d : Dev) (x : Nat) : Nat := if d.rb Reg.CLK_STATUS 5 then x else x / 16 * 16

/-- Compare `i` of the present period as its edges use it (R131, R164). -/
def Dev.effCmp (d : Dev) (a i : Nat) : Nat := d.edgeCmp (tget (d.pw a).eff i).toNat

/-- The carrier requests the high switch of phase `p` in the present tick (R142): from the boundary until the up compare, and from
the down compare before the next boundary on. -/
def Dev.carrierHigh (d : Dev) (a p : Nat) : Bool :=
  let t := min (d.now - (d.pw (d.leader a)).lastB) (d.perOf a - 1)
  decide (t < d.effCmp a (2 * p) / 16 ∨ (16 * d.perOf a - d.effCmp a (2 * p + 1)) / 16 ≤ t)

/-- The next peak of the carrier of an axis, at or after now (R141). -/
def Dev.nextPeak (d : Dev) (a : Nat) : Nat :=
  let p := (d.pw (d.leader a)).lastB + d.perOf a / 2
  if d.now ≤ p then p else p + d.perOf a

/-- t_REFRESH of phase `p` of an axis, in ticks. -/
def Dev.refreshLen (d : Dev) (a p : Nat) : Nat := d.rf (Reg.ISL_H_BST (3 * a + p)) 0 11

/-- Half of it; an odd one is rounded (log entry 8). -/
def Dev.refreshHalf (d : Dev) (a p : Nat) : Nat := (rdiv 192 (d.refreshLen a p) 2).toNat

/-- A fall of the request now is the begin of the refresh that is due: it lies t_REFRESH/2 + `DTL` before the next peak, and that is
the first peak at least t_REFRESH/2 + `DTL` + 50 ns after the limit. Only a driven axis gets one (R192, R193). -/
def Dev.isRefresh (d : Dev) (a p : Nat) : Bool :=
  match tget (d.pw a).refresh p with
  | none => false
  | some t =>
    let dtl := d.rf (Reg.PWM_DT (d.leader a)) 0 12
    let half := d.refreshHalf a p
    (d.axOf a).active && d.now + dtl + half == d.nextPeak a && decide (t + half + dtl + 20 ≤ d.nextPeak a)

/-- The refresh is inserted: flag, event and fault; `REFRESH_NOLOW` where the mask keeps the low switch off (R192, R193). -/
def Dev.refreshBegin (d : Dev) (a p : Nat) : Dev :=
  let n := 3 * a + p
  let e := d.nextPeak a + d.refreshHalf a p
  let noLow := !d.maskPass a p false
  let d := d.pwMod a (fun w =>
    { w with refresh := tset w.refresh p none, refreshing := tset w.refreshing p (some e), refCut := tmod w.refCut p (· + (e - d.now)) })
  let d := if noLow then d.wb (Reg.ISL_H_FLAGS n) 4 true else d
  ((d.wb (Reg.ISL_H_FLAGS n) 3 true).ev (0x78 + n)).occ (0x054A + 0x10 * n) 0

/-- The PWM itself has turned the low switch of phase `p` on for at least t_REFRESH: no refresh is needed (R192). -/
def Dev.refreshMet (d : Dev) (a p : Nat) : Dev :=
  if !d.isCut a && d.maskPass a p false && (d.axOf a).active && decide (tget (d.pw a).lowFrom p + d.refreshLen a p ≤ d.now) then
    d.pwMod a (fun w => { w with refresh := tset w.refresh p none })
  else d

/-- A change of the request of phase `p`: the switch that loses its request turns off at once; the other turns on after its dead
time, unless that is 0 (R143). -/
def Dev.reqEdge (d : Dev) (a p : Nat) (rise : Bool) : Dev :=
  let dt := d.rf (Reg.PWM_DT (d.leader a)) (if rise then 16 else 0) 12
  let onIx := swIx p rise
  let offIx := swIx p (!rise)
  (d.pwMod a (fun w =>
    { w with
      reqH := tset w.reqH p rise
      on := tset (tset w.on offIx false) onIx (dt == 0)
      dead := tset (tset w.dead offIx false) onIx (dt != 0)
      lowFrom := if rise then w.lowFrom else tset w.lowFrom p (d.now + dt)
      refreshing := if rise then tset w.refreshing p none else w.refreshing })).syncGates a

/-- A refresh pulse holds the request of phase `p` low now. -/
def Dev.refreshHolds (d : Dev) (a p : Nat) : Bool :=
  match tget (d.pw a).refreshing p with | some e => decide (d.now < e) | none => false

/-- The high switch of phase `p` is requested in the present tick: the carrier gives it, and no refresh pulse holds it low (R142,
R192). -/
def Dev.requestHigh (d : Dev) (a p : Nat) : Bool := d.carrierHigh a p && !d.refreshHolds a p

/-- R142, R143, R192, R193: the scheduled edges of phase `p` in the present tick, `rise` when the last one is a rise, or the begin or
end of a refresh pulse, which holds the request low. An edge that the compares do not give now does nothing. -/
def Dev.pwmEdge (d : Dev) (a p : Nat) (rise : Bool) : Dev :=
  let d := if !rise && d.isRefresh a p then d.refreshBegin a p else d
  if d.requestHigh a p != rise || tget (d.pw a).reqH p == rise then d
  else (if rise then d.refreshMet a p else d).reqEdge a p rise

/-- A probe pulse begins now: in FREEWHEEL on the probe path, half of `PROBE_W` before the peak, in the first `PROBE_N` periods (R252). -/
def Dev.probeDue (d : Dev) (a : Nat) : Bool :=
  let pr := d.rget (Reg.FLD_PROBE (d.leader a))
  d.axOf a == .freewheel && d.probing a && d.now + fget pr 0 13 / 2 == d.nextPeak a &&
    decide ((tget d.fld (d.leader a)).acqN < fget pr 16 4)

/-- R252: a probe pulse of phase `p` begins or ends. -/
def Dev.probeEdge (d : Dev) (a p : Nat) (begins : Bool) : Dev :=
  (d.pwMod a (fun w => { w with probe := tset w.probe p (begins && d.probeDue a) })).syncGates a

/-- `DTL` of a LOW_ON cut has run (R155): the low switch of phase `p` turns on. Its request is then past its dead time too, unless
a later one still runs. -/
def Dev.cutLowOn (d : Dev) (a p : Nat) : Dev :=
  (d.pwMod a (fun w =>
    { w with cutWait := tset w.cutWait p false, cutLow := tset w.cutLow p true,
             on := tset w.on (2 * p + 1) (tget w.on (2 * p + 1) || (!tget w.reqH p && !tget w.dead (2 * p + 1))) })).syncGates a

/-- R143, R155, R156: a dead time runs out. An enabled source that is not blanked cuts the pulses, so the gate does not turn on. -/
def Dev.deadTimeEnd (d : Dev) (a p : Nat) (high : Bool) : Dev :=
  let ix := swIx p high
  let turnOn (d : Dev) : Dev := d.pwMod a (fun w => { w with on := tset w.on ix true })
  if !high && tget (d.pw a).cutWait p then d.cutLowOn a p
  else if tget (d.pw a).dead ix then
    let d := d.pwMod a (fun w => { w with dead := tset w.dead ix false })
    if d.isCut a then turnOn d
    else if d.tripNow a then turnOn (d.cutPulses a)
    else (turnOn d).syncGates a
  else d

/-- DEAD_TIME_END. -/
def execDeadTimeEnd (a p : Nat) (high : Bool) (s : State) : Host.Outcome State Fault Refusal :=
  s.run (·.deadTimeEnd a p high)

/-! ### Masks (R161–R163) -/

/-- The switches of an axis whose mask bit turned from 0 to 1 wait their dead time; the low switches that a LOW_ON cut has on as
well (R163). -/
def Dev.maskDelay (d old : Dev) (a : Nat) : Dev :=
  let opens (p : Nat) (high : Bool) : Bool := !old.maskPass a p high && d.maskPass a p high &&
    d.rf (Reg.PWM_DT (d.leader a)) (if high then 16 else 0) 12 != 0
  let open' (i : Nat) : Bool := opens (i / 2) (i % 2 == 0)
  let cutOpen (w : Pwm) (p : Nat) : Bool := d.isCut a && opens p false && tget w.cutLow p
  d.pwMod a (fun w =>
    { w with on := Vector.ofFn (fun i : Fin 6 => w.on[i] && !open' i)
             dead := Vector.ofFn (fun i : Fin 6 => w.dead[i] ||
               (open' i && w.on[i] && !(i.val % 2 == 1 && cutOpen w (i.val / 2))))
             cutWait := Vector.ofFn (fun p : Fin 3 => w.cutWait[p] || cutOpen w p)
             cutLow := Vector.ofFn (fun p : Fin 3 => w.cutLow[p] && !cutOpen w p) })

/-- R162, R163: an event gives mask index `idx`; 6 and 7 force all six switches off. The leader reports the fault of a six-phase
machine (R170). DESIGN CHOICE: event 6 (mask entry changed) is raised by an invalid index and by the entry already in use as well
(log entry 147). -/
def Dev.maskIndex (d : Dev) (a idx : Nat) : Dev :=
  if 6 ≤ idx then
    let d1 := (d.pwMod a (fun w => { w with maskOff := true })).wf (Reg.PWM_STAT a) 28 4 0xF
    (((d1.wb (Reg.PWM_FLAGS a) 3 true).occ (0x0404 + 0x10 * d.leader a) 0).ev (0x36 + 10 * a)).syncGates a
  else
    let d1 := (d.pwMod a (fun w => { w with maskOff := false })).wf (Reg.PWM_STAT a) 28 4 idx
    ((d1.maskDelay d a).ev (0x36 + 10 * a)).syncGates a

/-- `PWMa_CFG.MASK_SRC` (R162). -/
def Dev.maskSrc (d : Dev) (a : Nat) : Nat := d.rf (Reg.PWM_CFG a) 4 2

/-- A commutation event of source `src` (1 hall, 2 field unit) gives the entry of an axis that selects it. -/
def Dev.commutate (d : Dev) (a src idx : Nat) : Dev := if d.maskSrc a = src then d.maskIndex a idx else d

/-- The lattice sink of an axis advances its entry by 1, modulo 6 (R162). From an invalid index it starts at entry 0
(log entry 31). -/
def Dev.maskAdvance (d : Dev) (a : Nat) : Dev :=
  if d.maskSrc a = 3 then
    let m := d.rf (Reg.PWM_STAT a) 28 4
    d.maskIndex a (if m < 5 then m + 1 else 0)
  else d

/-! ### Staging (R147–R152) -/

/-- Staged marks of `PWMa_STAT`. -/
def Dev.stagedMarks (d : Dev) (a : Nat) : Dev :=
  let w := d.pw a
  (d.wb (Reg.PWM_STAT a) 9 w.per.isSome).wb (Reg.PWM_STAT a) 10 (w.ncmp.toList.any Option.isSome)

/-- A period is staged. -/
def Dev.stagePer (d : Dev) (a : Nat) (v : Word) : Dev :=
  (d.pwMod a (fun w => { w with per := some v })).stagedMarks a

/-- Compare `i` (2p up, 2p + 1 down) is staged. -/
def Dev.stageCmp (d : Dev) (a i : Nat) (v : Word) : Dev := d.pwMod a (fun w => { w with cmp := tset w.cmp i (some v) })

/-- The next update point of an axis, after now: a boundary, with `UPD` = 1 also a peak (R147). -/
def Dev.nextUpdate (d : Dev) (a : Nat) : Nat :=
  let l := d.leader a
  let b := (d.pw l).lastB + d.perOf a
  let p := (d.pw l).lastB + d.perOf a / 2
  if d.rb (Reg.PWM_CFG l) 0 && decide (d.now < p) then p else b

/-- A value that reaches the staging of an axis now comes within 4 ticks of the next update point, or after it: it waits for the one
after that (R147). -/
def Dev.pastCutoff (d : Dev) (a : Nat) : Bool := decide (d.nextUpdate a < d.now + 4)

/-- The update point at which what the field unit stages now applies (R147). -/
def Dev.applyAt (d : Dev) (a : Nat) : Nat :=
  if !d.pastCutoff a then d.nextUpdate a
  else d.nextUpdate a + (if d.rb (Reg.PWM_CFG (d.leader a)) 0 then d.perOf a / 2 else d.perOf a)

/-- What has missed an update point is staged for the next one, in place of what was staged for it before (R147). -/
def Pwm.promote (w : Pwm) : Pwm :=
  { w with cmp := Vector.ofFn (fun i : Fin 6 => w.lateC[i].or w.cmp[i]), lateC := Vector.replicate 6 none
           ncmp := Vector.ofFn (fun i : Fin 6 => w.lateN[i].or w.ncmp[i]), lateN := Vector.replicate 6 none }

/-- Next-period compare `i` is staged; with `PAIR_MODE` = INDEPENDENT it is a compare for the period in effect (R152). DESIGN CHOICE:
its register has no value in effect and always reads 0 (R4; log entry 141). -/
def Dev.stageNcmp (d : Dev) (a i : Nat) (v : Word) : Dev :=
  if d.rb (Reg.PWM_CFG (d.leader a)) 2 then d.stageCmp a i v
  else (d.pwMod a (fun w => { w with ncmp := tset w.ncmp i (some v) })).stagedMarks a

/-- The field unit stages compare `i`, or next-period compare `i` (R147, R152). -/
def Dev.fieldCmp (d : Dev) (a i : Nat) (v : Word) (late : Bool) : Dev :=
  if late then d.pwMod a (fun w => { w with lateC := tset w.lateC i (some v) }) else d.stageCmp a i v
def Dev.fieldNcmp (d : Dev) (a i : Nat) (v : Word) (late : Bool) : Dev :=
  if late && !d.rb (Reg.PWM_CFG (d.leader a)) 2 then d.pwMod a (fun w => { w with lateN := tset w.lateN i (some v) })
  else if late then d.fieldCmp a i v true
  else d.stageNcmp a i v

/-- Register of compare `i` of an axis. -/
def cmpReg (a i : Nat) : Nat := if i % 2 = 0 then Reg.PWM_CMPU a (i / 2) else Reg.PWM_CMPD a (i / 2)

/-- The compares of one axis that are staged in `l` come into effect. -/
def Dev.applyCmps (d : Dev) (a : Nat) (l : Vector (Option Word) 6) : Dev :=
  (List.range 6).foldl (fun d i => match tget l i with | some v => d.rset (cmpReg a i) v | none => d) d

/-- Staged compares for the period in effect apply. -/
def Dev.takeCmps (d : Dev) (a : Nat) : Dev :=
  (d.applyCmps a (d.pw a).cmp).pwMod a (fun w => { w with cmp := Vector.replicate 6 none })

/-- No next-period compare and no period is staged any more. -/
def Dev.dropHalves (d : Dev) (a : Nat) : Dev :=
  (d.pwMod a (fun w => { w with per := none, ncmp := Vector.replicate 6 none })).stagedMarks a

/-- One axis takes its next-period compares; the compares not written keep their values (R150). -/
def Dev.takeNcmps (d : Dev) (a : Nat) : Dev :=
  ((d.applyCmps a (d.pw a).ncmp).pwMod a (fun w => { w with cmp := Vector.replicate 6 none })).dropHalves a

/-- A next-period compare of the axis is staged. -/
def Dev.hasNcmp (d : Dev) (a : Nat) : Bool := (d.pw a).ncmp.toList.any Option.isSome

/-- Every axis of the group changed in turn. -/
def Dev.each (d : Dev) (a : Nat) (f : Dev → Nat → Dev) : Dev := (d.group a).foldl f d

/-- The present tick is an epoch tick plus `PWMa_PHS` (R145). -/
def Dev.onEpoch (d : Dev) (a : Nat) : Bool :=
  (d.epochCount - (d.rf (Reg.PWM_PHS a) 0 24 : Int)) % (d.rf Reg.CLK_TBPER 0 24 : Int) == 0

/-- The period and compares of axis `a`, a leader or alone, under pair lock at a boundary (R145, R150–R152). -/
def Dev.pairLock (d : Dev) (a : Nat) : Dev :=
  let per := (d.pw a).per
  let nAny := (d.group a).any d.hasNcmp
  let nAll := (d.group a).all d.hasNcmp
  let epochHold := d.rb (Reg.PWM_CFG a) 1 && !d.onEpoch a
  if d.rb (Reg.PWM_CFG a) 2 then
    let d := d.each a Dev.takeCmps
    match per with
    | some v => if epochHold then d else (d.rset (Reg.PWM_PER a) v).dropHalves a
    | none => d
  else if epochHold then d.each a Dev.takeCmps
  else
    match per, nAll with
    | some v, true =>
      ((d.rset (Reg.PWM_PER a) v).each a Dev.takeNcmps).wb (Reg.PWM_STAT a) 8 false
    | _, _ =>
      let d := d.each a Dev.takeCmps
      if per.isNone && !nAny then d
      else if !d.rb (Reg.PWM_STAT a) 8 then
        let d := (d.wb (Reg.PWM_STAT a) 8 true).wf (Reg.PWM_STAT a) 4 4 1
        (d.pwMod a (fun w => { w with waitAge := 0 })).ev (0x34 + 10 * a)
      else if (d.pw a).waitAge + 1 < d.rf (Reg.PWM_CFG a) 8 4 then
        (d.pwMod a (fun w => { w with waitAge := w.waitAge + 1 })).wsat (Reg.PWM_STAT a) 4 4
      else
        let d := d.each a Dev.dropHalves
        let d := (d.wb (Reg.PWM_STAT a) 8 false).wb (Reg.PWM_FLAGS a) 0 true
        (d.ev (0x35 + 10 * a)).occ (0x0401 + 0x10 * a) 0

/-! ### Clamp and shunt windows (R153, R164, R165) -/

/-- H in 24.4 format. -/
def Dev.hOf (d : Dev) (a : Nat) : Nat := d.perOf a * 8

/-- Every compare of the axis above H is clamped to H (R153). -/
def Dev.clampCmps (d : Dev) (a : Nat) : Dev :=
  (List.range 6).foldl (fun d i =>
    if d.hOf a < (d.rget (cmpReg a i)).toNat then
      (d.rset (cmpReg a i) (BitVec.ofNat 32 (d.hOf a))).wb (Reg.PWM_FLAGS a) 1 true
    else d) d

/-- The result of R164 for one phase: compares up and down, shifted, narrow. All in 1/16 tick. -/
def shiftPhase (per dtl settle wmin h cu cd : Int) (down canShift : Bool) : Int × Int × Bool × Bool :=
  let wtot := per - cu - cd - dtl - settle
  let w := if down then min (h - cd) wtot else h - cu - dtl - settle
  if wmin ≤ w then (cu, cd, false, false)
  else if !canShift || decide (wtot < wmin) || (!down && decide (h < wmin + dtl + settle)) then (cu, cd, false, true)
  else
    let s := wmin - w
    if down then (cu + s, cd - s, true, false) else (cu - s, cd + s, true, false)

/-- R164 for phase `p` of an axis with its settings. -/
def Dev.shiftOf (d : Dev) (a p : Nat) : Int × Int × Bool × Bool :=
  let win := d.rget (Reg.PWM_WIN a)
  shiftPhase (16 * d.perOf a) (16 * d.rf (Reg.PWM_DT (d.leader a)) 0 12) (16 * fget win 16 12) (16 * fget win 0 11)
    (d.hOf a) (d.rget (Reg.PWM_CMPU a p)).toNat (d.rget (Reg.PWM_CMPD a p)).toNat (bget win 30)
    (bget win 31 && !d.rb (Reg.PWM_CFG (d.leader a)) 0)

/-- R164, R165: the windows of one axis for the coming period: shifted compares, marks and events. DESIGN CHOICE: event 8 (phase
narrow) is raised where nothing is shifted, too (log entry 146). -/
def Dev.windows (d : Dev) (a : Nat) : Dev :=
  let r := Vector.ofFn (fun p : Fin 3 => d.shiftOf a p)
  let bits (f : Int × Int × Bool × Bool → Bool) : Nat :=
    (f r[0]).toNat + 2 * (f r[1]).toNat + 4 * (f r[2]).toNat
  let sh := bits (fun x => x.2.2.1)
  let na := bits (fun x => x.2.2.2)
  let d := (d.wf (Reg.PWM_STAT a) 16 3 sh).wf (Reg.PWM_STAT a) 12 3 na
  let d := d.pwMod a (fun w => { w with eff := Vector.ofFn (fun i : Fin 6 =>
    let x := tget r (i.val / 2)
    BitVec.ofNat 32 (if i.val % 2 = 0 then x.1 else x.2.1).toNat) })
  (d.evIf (sh != 0) (0x37 + 10 * a)).evIf (na != 0) (0x38 + 10 * a)

/-! ### The boundary and the peak (R148, R157) -/

/-- A level that reports again although it is present: the latched trip (R157). -/
def Dev.lvlAgain (d : Dev) (code src : Nat) : Dev :=
  if d.lvl code src then { d with flt := { d.flt with inbox := d.flt.inbox ++ [⟨code, src, true⟩] } }
  else d.lvlOn code src

/-- `PWMa_TRIP.LATCH`. -/
def Dev.latch (d : Dev) (a : Nat) : Nat := d.rf (Reg.PWM_TRIP a) 0 4

/-- The enabled active sources of one axis latch (R157). -/
def Dev.latchAxis (d : Dev) (a : Nat) : Dev :=
  [0, 1, 2, 3].foldl (fun d s => if d.srcEnabled a s && d.srcActive a s then d.wb (Reg.PWM_TRIP a) s true else d) d

/-- The cut of one axis is lifted: its gates follow the requests that are past their dead time (R157, R161). -/
def Dev.liftAxis (d : Dev) (a : Nat) : Dev :=
  let d := d.wb (Reg.PWM_TRIP a) 24 false
  (d.pwMod a (fun w =>
    { w with dead := Vector.ofFn (fun i : Fin 6 =>
               w.dead[i] || (i.val % 2 == 1 && tget w.cutWait (i.val / 2) && !tget w.reqH (i.val / 2) && !w.on[i]))
             cutWait := Vector.replicate 3 false, cutLow := Vector.replicate 3 false })).syncGates a

/-- Trips at period start (R157): `a` is a leader or alone. DESIGN CHOICE: a source that blanking has held back, active while no cut
stands, newly cuts the pulses, with event 0x32 + 10a; the rule speaks of the cut that stays (log entry 110). -/
def Dev.tripsAtBoundary (d : Dev) (a : Nat) : Dev :=
  if d.tripAny a then
    let d := (d.wsat (Reg.PWM_TRIP a) 16 8).cutPulses a
    if d.rf (Reg.PWM_TRIPCFG a) 16 8 ≤ d.rf (Reg.PWM_TRIP a) 16 8 then
      let d1 := d.each a Dev.latchAxis
      if (d.group a).any (fun x => d1.latch x != d.latch x) then
        (d1.ev (0x33 + 10 * a)).lvlAgain (0x0402 + 0x10 * a) 0
      else d1
    else d
  else
    let d := d.wf (Reg.PWM_TRIP a) 16 8 0
    if (d.group a).all (fun x => d.latch x == 0) then d.each a Dev.liftAxis else d

/-- R158: a host write of 1 to latch bits clears those whose source is inactive; a denied bit sets `CLR_DENIED`, event
and fault, which the leader reports (R170). With every latch bit of the machine clear, the latched-trip fault has no cause. -/
def Dev.tripClear (d : Dev) (a bits : Nat) : Dev :=
  let want (s : Nat) : Bool := bits / 2 ^ s % 2 == 1 && d.rb (Reg.PWM_TRIP a) s
  let denied := [0, 1, 2, 3].any (fun s => want s && d.srcActive a s)
  let d1 := [0, 1, 2, 3].foldl (fun e s => if want s && !d.srcActive a s then e.wb (Reg.PWM_TRIP a) s false else e) d
  let d1 := if denied then
      ((d1.wb (Reg.PWM_FLAGS a) 2 true).ev (0x39 + 10 * a)).occ (0x0403 + 0x10 * d.leader a) 0
    else d1
  if (d1.group a).all (fun x => d1.latch x == 0) then d1.lvlOff (0x0402 + 0x10 * d.leader a) 0 else d1

/-- R189: the CD clears the short-circuit indication of a switch at the `SC_HOLD`-th boundary after detection. -/
def Dev.scBoundary (d : Dev) (sw : Nat) : Dev :=
  let x := d.swi sw
  if x.sc then
    if x.scLeft ≤ 1 then
      (d.swMod sw (fun x => { x with sc := false, scLeft := 0 })).wb (statReg sw) 11 false
    else d.swMod sw (fun x => { x with scLeft := x.scLeft - 1 })
  else d

/-- The SC trip source of an axis follows the indications the CD holds (R154, R189). -/
def Dev.scSource (d : Dev) (a : Nat) : Bool :=
  [0, 1, 2].any (fun p => d.rb (statReg (swOf a p true)) 11 || d.rb (statReg (swOf a p false)) 11)

/-- Short-circuit indications of one axis at its boundary, after the trip logic has read them. -/
def Dev.scHold (d : Dev) (a : Nat) : Dev :=
  let d := [0, 1, 2].foldl (fun d p => (d.scBoundary (swOf a p true)).scBoundary (swOf a p false)) d
  d.wb (Reg.PWM_TRIP a) 10 (d.scSource a)

/-- The PWM part of a boundary of one axis after the decisions of its leader (R148). -/
def Dev.boundaryAxis (d : Dev) (a : Nat) : Dev :=
  let per := d.perOf a
  let d := d.pwMod a (fun w => { w with prev := ⟨w.eff.map (fun c => BitVec.ofNat 32 (d.edgeCmp c.toNat)), w.perNow, w.refCut⟩, perNow := per, refCut := Vector.replicate 3 0 })
  let d := ((d.clampCmps a).windows a).scHold a
  let d := (d.pwMod a (fun w => { w.promote with bcount := w.bcount + 1, lastB := d.now })).stagedMarks a
  (d.wmod (Reg.PWM_CNT a) 24 8).ev (0x30 + 10 * a)

/-- The PWM part of a boundary of axis `a` (a leader or alone), after the commit-port entries (R148). -/
def Dev.pwmBoundary (d : Dev) (a : Nat) : Dev :=
  (((d.tripsAtBoundary a).pairLock a).each a Dev.boundaryAxis)

/-- R147, R148: the peak is an update point with `UPD` = 1: staged down-count compares apply unless a pair is forming. DESIGN CHOICE:
a pair is forming while `PAIR_WAIT` is set, thus from the boundary that finds a half alone (log entry 145). -/
def Dev.peakAxis (d : Dev) (a : Nat) : Dev :=
  let l := (d.pw a).cmp
  let down : Vector (Option Word) 6 := Vector.ofFn (fun i : Fin 6 => if i.val % 2 = 1 then l[i] else none)
  let up : Vector (Option Word) 6 := Vector.ofFn (fun i : Fin 6 => if i.val % 2 = 0 then l[i] else none)
  let d := if d.rb (Reg.PWM_STAT (d.leader a)) 8 then d
    else (d.applyCmps a down).pwMod a (fun w => { w with cmp := up })
  (((d.clampCmps a).windows a).pwMod a Pwm.promote).ev (0x31 + 10 * a)

/-- PEAK_UPDATE of axis `a`. -/
def Dev.peakUpdate (d : Dev) (a : Nat) : Dev :=
  if d.rb (Reg.PWM_CFG (d.leader a)) 0 then d.each a Dev.peakAxis else d

/-- PEAK_UPDATE. -/
def execPeakUpdate (a : Nat) (s : State) : Host.Outcome State Fault Refusal := s.run (·.peakUpdate a)

/-! ### Chopper, discharge and aux channels (R167–R169) -/

/-- The on-time of a channel after R131, R167 and R168, in 1/16 tick: clamped to the period, dropped below `MINON`, and near
the period raised to it (channels 0–3) or limited to the period less `MINOFF` (4, 5). -/
def Dev.onTime (d : Dev) (j cmp : Nat) : Nat :=
  let per := 16 * d.rf (Reg.PWM_C_PER j) 0 24
  let c := min (d.edgeCmp cmp) per
  let minOn := 16 * d.rf (Reg.PWM_C_MIN j) 0 12
  let minOff := 16 * d.rf (Reg.PWM_C_MIN j) 16 12
  if c < minOn then 0
  else if j < 4 then (if per - c < minOff then per else c)
  else min c (per - minOff)

/-- A staged value or the present one. -/
def orReg (o : Option Word) (w : Word) : Word := o.getD w

/-- R167: a channel boundary applies the staged period and compares; event 0x58 + j. -/
def Dev.chanBoundary (d : Dev) (j : Nat) : Dev :=
  let c := tget d.chan j
  let d := d.rset (Reg.PWM_C_PER j) (orReg c.perSt (d.rget (Reg.PWM_C_PER j)))
  let d := d.rset (Reg.PWM_C_CMP0 j) (orReg c.cmp0St (d.rget (Reg.PWM_C_CMP0 j)))
  let d := d.rset (Reg.PWM_C_CMP1 j) (orReg c.cmp1St (d.rget (Reg.PWM_C_CMP1 j)))
  let d := { d with chan := tset d.chan j { perSt := none, cmp0St := none, cmp1St := none, lastB := d.now } }
  d.ev (0x58 + j)

end Sys2Proof.Machine
end

