-- ==== Sys2Proof/Machine/Position.lean ====
section
/-! DEFINITION. The hall interface POS and the angles it gives (chapter 09, R241–R246). -/

namespace Sys2Proof.Machine

/-- The hall unit of axis `a`. -/
def Dev.hall (d : Dev) (a : Nat) : Pos := tget d.pos a
def Dev.hallMod (d : Dev) (a : Nat) (f : Pos → Pos) : Dev := { d with pos := tmod d.pos a f }

/-- The index of a hall code (R241): `POSa_HMAP` for 1–6, 6 for code 0, 7 for code 7. -/
def Dev.hallIndex (d : Dev) (a code : Nat) : Nat :=
  if code = 0 then 6 else if code = 7 then 7 else d.rf (Reg.POS_HMAP a) (3 * code) 3

/-- The code is one of a sector. -/
def codeValid (code : Nat) : Bool := decide (1 ≤ code) && decide (code ≤ 6)

/-- The interval speed of the hall unit is valid (`POSa_STAT.SVALID`). -/
def Dev.hallValid (d : Dev) (a : Nat) : Bool := d.rb (Reg.POS_CFG a) 0 && d.rb (Reg.POS_STAT a) 8

/-- R246: `POSOUTa` toggles at every `DIV`-th counted edge. -/
def Dev.posOut (d : Dev) (a steps : Nat) : Dev :=
  let n := (d.hall a).div + steps
  let div := d.rf (Reg.POS_CFG a) 16 8 + 1
  let lvl := if n / div % 2 = 1 then !d.rb (Reg.POS_STAT a) 9 else d.rb (Reg.POS_STAT a) 9
  let d := d.hallMod a (fun h => { h with div := n % div })
  { d.wb (Reg.POS_STAT a) 9 lvl with pins := { d.pins with posOut := tset d.pins.posOut a lvl } }

/-- R242: the position count moves by `k` of `POS_WRAP`, wrapping in both directions. -/
def Dev.posCount (d : Dev) (a : Nat) (k : Int) : Dev :=
  let wrap := max 1 (d.rf (Reg.POS_WRAP a) 0 16)
  d.wf (Reg.POS_STAT a) 16 16 (((d.rf (Reg.POS_STAT a) 16 16 : Int) + k) % (wrap : Int)).toNat

/-- R244: position and time-stamp of a counted edge are latched together; event 0xB0 + 6a. -/
def Dev.latchEdge (d : Dev) (a : Nat) : Dev :=
  let d := (d.wmod (Reg.POS_LPOS a) 16 16).wf (Reg.POS_LPOS a) 0 16 (d.rf (Reg.POS_STAT a) 16 16)
  let d := d.rset (Reg.POS_LTS a) (BitVec.ofNat 32 d.now)
  (d.hallMod a (fun h => { h with edgeT := d.now })).ev (0xB0 + 6 * a)

/-- R242, R243: a single step in direction `rev` (0 forward, 1 reverse). `POSa_INT` is the time since the single step before it, and the
speed is valid unless there was none or the step is against `DIR`. -/
def Dev.singleStep (d : Dev) (a : Nat) (rev : Bool) : Dev :=
  let same := d.rb (Reg.POS_STAT a) 7 == rev
  let d1 := (d.posCount a (if rev then -1 else 1)).wb (Reg.POS_STAT a) 7 rev
  let d1 := match (d.hall a).single with
    | some t => ((d1.hlt 0x0F a (d.now - t : Nat)).rset (Reg.POS_INT a) (BitVec.ofNat 32 (d.now - t))).wb (Reg.POS_STAT a) 8 same
    | none => d1.wb (Reg.POS_STAT a) 8 false
  ((d1.hallMod a (fun h => { h with single := some d.now })).latchEdge a).posOut a 1

/-- R242: a step over several sectors makes the speed invalid until the next single step. -/
def Dev.noInterval (d : Dev) (a : Nat) : Dev := d.wb (Reg.POS_STAT a) 8 false

/-- R242: the sector difference `k` of an edge between two valid codes. -/
def Dev.sectorStep (d : Dev) (a k : Nat) : Dev :=
  match k with
  | 1 => d.singleStep a false
  | 5 => d.singleStep a true
  | 2 => (((d.posCount a 2).wb (Reg.POS_STAT a) 7 false).noInterval a).latchEdge a |>.posOut a 2
  | 4 => (((d.posCount a (-2)).wb (Reg.POS_STAT a) 7 true).noInterval a).latchEdge a |>.posOut a 2
  | 3 => d.noInterval a
  | _ => d

/-- R241, R242, R244, R246, R162: a filtered change of the hall code. With `MASK_SRC` = HALL the index goes to the masks. -/
def Dev.hallEdge (d : Dev) (a code : Nat) : Dev :=
  if !d.rb (Reg.POS_CFG a) 0 then d else
  let old := d.rf (Reg.POS_STAT a) 0 3
  let idx := d.hallIndex a code
  let d1 := (d.wf (Reg.POS_STAT a) 0 3 code).hallMod a (fun h => { h with lastT := d.now })
  let d1 :=
    if codeValid old && codeValid code then
      let d2 := d1.sectorStep a ((idx + 6 - (d.hall a).sector) % 6)
      (d2.hallMod a (fun h => { h with sector := idx })).wf (Reg.POS_STAT a) 4 3 idx
    else if codeValid code then d1.wf (Reg.POS_STAT a) 4 3 (d.hall a).sector
    else d1.wf (Reg.POS_STAT a) 4 3 idx
  d1.commutate a 1 idx

/-- R243: no hall edge arrived for `POSa_TMO`: the speed is invalid, until the second single step from then on (R242). -/
def Dev.hallTimeout (d : Dev) (a : Nat) : Dev :=
  if d.rb (Reg.POS_CFG a) 0 && decide ((d.hall a).lastT + d.rf (Reg.POS_TMO a) 0 14 * msTicks ≤ d.now) then
    (d.hallMod a (fun h => { h with single := none })).noInterval a
  else d

/-- HALL_TIMEOUT. -/
def execHallTimeout (a : Nat) (s : State) : Host.Outcome State Fault Refusal := s.run (·.hallTimeout a)

/-- R244: a host read of `POSa_LPOS` copies `POSa_LTS` into the holding register. -/
def Dev.lposRead (d : Dev) (a : Nat) : Dev := d.hallMod a (fun h => { h with hold := some (d.rget (Reg.POS_LTS a)) })

/-- R244: a read of `POSa_LTS` uses the held copy up. -/
def Dev.ltsRead (d : Dev) (a : Nat) : Dev := d.hallMod a (fun h => { h with hold := none })

/-- LPOS_READ. -/
def execLposRead (a : Nat) (s : State) : Host.Outcome State Fault Refusal := s.run (·.lposRead a)

/-- R243: the interval speed in 0.01 Hz, 60° per `POSa_INT` ticks of 2.5 ns, signed by `DIR`; 0 while invalid. -/
def Dev.hallSpeed (d : Dev) (a : Nat) : Int :=
  if d.hallValid a then
    let w := rdiv 243 40000000000 (6 * (d.rget (Reg.POS_INT a)).toNat)
    if d.rb (Reg.POS_STAT a) 7 then -w else w
  else 0

/-- One turn of an electrical angle (R226). -/
def turn : Int := 4294967296

/-- The code of an angle modulo one turn. -/
def angleWord (i : Int) : Word := wordOfInt i

/-- R245: the hall angle at tick `t`, which may lie before the edge: the entered boundary of the sector extrapolated with the interval speed up to 1° before
the next boundary, or the centre of the sector while the speed is invalid; plus `POSa_OFS`. -/
def Dev.hallAngle (d : Dev) (a : Nat) (t : Int) : Word :=
  let s : Int := (d.hall a).sector
  let rev := d.rb (Reg.POS_STAT a) 7
  let ofs : Int := (d.rf (Reg.POS_OFS a) 0 16 : Int) * 65536
  if d.hallValid a then
    let run := rdiv 245 (turn * (t - (d.hall a).edgeT)) (6 * max 1 (d.rget (Reg.POS_INT a)).toNat)
    let adv := min run (rdiv 245 (turn * 59) 360)
    let e := rdiv 245 (turn * (if rev then s + 1 else s)) 6
    angleWord ((if rev then e - adv else e + adv) + ofs)
  else angleWord (rdiv 245 (turn * (2 * s + 1)) 12 + ofs)

end Sys2Proof.Machine
end

