-- ==== Sys2Proof/Machine/Records.lean ====
section
/-! DEFINITION. Tenants, tickets in flight, completion records and notices (chapter 04, R93, R101–R104, R107, R113–R115;
R398). -/

namespace Sys2Proof.Machine

/-! ### Status codes (R118) -/

def stOk : Nat := 0x00
def stNotReady : Nat := 0x01
def stBusy : Nat := 0x02
def stState : Nat := 0x03
def stPriv : Nat := 0x04
def stLen : Nat := 0x05
def stCrc : Nat := 0x06
def stRange : Nat := 0x07
def stTrunc : Nat := 0x08
def stLimit : Nat := 0x09
def stWorn : Nat := 0x0A
def stUnknown : Nat := 0x0B
def stSeq : Nat := 0x0C

/-! ### Tenants (R101, R104) -/

/-- Privileges of host `h` in `HOSTh_TEN`: ARM, SERVICE, injection, TAKEOVER; its clear limit; an axis of its set. -/
def Dev.privArm (d : Dev) (h : Nat) : Bool := d.rb (Reg.HOST_TEN h) 8
def Dev.privService (d : Dev) (h : Nat) : Bool := d.rb (Reg.HOST_TEN h) 9
def Dev.privInject (d : Dev) (h : Nat) : Bool := d.rb (Reg.HOST_TEN h) 10
def Dev.privTakeover (d : Dev) (h : Nat) : Bool := d.rb (Reg.HOST_TEN h) 11
def Dev.clearLimit (d : Dev) (h : Nat) : Nat := d.rf (Reg.HOST_TEN h) 16 4
def Dev.inAxisSet (d : Dev) (h x : Nat) : Bool := decide (x < 6) && d.rb (Reg.HOST_TEN h) x

/-- The owning host of axis `x` (0–3, 4 X, 5 Y), 7 for none (R102). -/
def Dev.owner (d : Dev) (x : Nat) : Nat := d.rf Reg.HOST_OWN (3 * x) 3

/-- The recipient of the standing offer of axis `x`, 7 for none. -/
def Dev.offer (d : Dev) (x : Nat) : Nat := d.rf Reg.HOST_OFFER (3 * x) 3

/-- The 100 ms of the latest offer of axis `x` are over (R104). -/
def Dev.offerOver (d : Dev) (x : Nat) : Bool := decide (tget d.hosts.offerAt x + 100 * msTicks ≤ d.now)

/-! ### Ports and tickets -/

def Dev.hp (d : Dev) (h : Nat) : HostPort := tget d.hosts.port h
def Dev.hpMod (d : Dev) (h : Nat) (f : HostPort → HostPort) : Dev :=
  { d with hosts := { d.hosts with port := tmod d.hosts.port h f } }
def Dev.setCmds (d : Dev) (l : List Cmd) : Dev := { d with hosts := { d.hosts with cmds := l } }

/-- Tickets that host `h` holds: its commands in flight and its records not yet acknowledged (R107). -/
def Dev.held (d : Dev) (h : Nat) : Nat :=
  (d.hosts.cmds.filter (fun c => c.id.host == h)).length + (d.hp h).recs.length

/-- Free tickets of the pool of 192. -/
def Dev.poolFree (d : Dev) : Nat := 192 - (d.held 0 + d.held 1 + d.held 2 + d.held 3)

/-- The label is that of a ticket the host holds (check 13). -/
def Dev.labelHeld (d : Dev) (h label : Nat) : Bool :=
  d.hosts.cmds.any (fun c => c.id == ⟨h, label⟩) || (d.hp h).recs.any (fun r => r.1 == label)

/-- The command in flight with a host and label. -/
def Dev.cmdOf (d : Dev) (i : CmdId) : Option Cmd := d.hosts.cmds.find? (fun c => c.id == i)

/-- A command in flight changed. -/
def Dev.cmdMod (d : Dev) (i : CmdId) (f : Cmd → Cmd) : Dev :=
  d.setCmds (d.hosts.cmds.map (fun c => if c.id == i then f c else c))

/-! ### Notices of ports C and D (R398) -/

/-- Controller of port C (0) or D (1); its state; the port is in use. -/
def Dev.portCtl (d : Dev) (p : Nat) : Nat := d.rf (Reg.CAN_PORT_CFG p) 28 2
def Dev.canState (d : Dev) (c : Nat) : Nat := d.rf (Reg.CAN_STAT c) 29 3
def Dev.portUp (d : Dev) (p : Nat) : Bool :=
  d.rb (Reg.CAN_PORT_CFG p) 31 && (d.canState (d.portCtl p) == 3 || d.canState (d.portCtl p) == 4)
def Dev.cpMod (d : Dev) (p : Nat) (f : CanPort → CanPort) : Dev := { d with cport := tmod d.cport p f }

/-- A notice is queued for port C or D: at most 16 wait; one more is lost and counted. Where the controller sends no device
message, none is queued (R386, R387). -/
def Dev.notice (d : Dev) (p : Nat) (bs : List Byte) : Dev :=
  if !d.portUp p then d
  else if 16 ≤ (tget d.cport p).notes.length then d.wsat (Reg.CAN_PORT_STAT p) 0 16
  else d.cpMod p (fun q => { q with notes := q.notes ++ [bs] })

/-! ### Completion records (R113, R115) -/

/-- First address of the ring of host `h`; address of record `i`. -/
def ringBase (h : Nat) : Nat := 0x240000 + h * 0x4000
def recAddr (h i : Nat) : Nat := ringBase h + i * 32

def Dev.head (d : Dev) (h : Nat) : Nat := d.rf (Reg.HOST_CQ h) 16 9
def Dev.tail (d : Dev) (h : Nat) : Nat := d.rf (Reg.HOST_CQ h) 0 9

/-- A list of bytes cut or filled with 0 to `n` bytes. -/
def padTo (n : Nat) (bs : List Byte) : List Byte := (bs ++ List.replicate n 0).take n

/-- The 32 bytes of a record. -/
def recBytes (c : Cmd) (status count : Nat) (result : List Byte) : List Byte :=
  [BitVec.ofNat 8 c.id.label, BitVec.ofNat 8 c.op, BitVec.ofNat 8 status, BitVec.ofNat 8 (c.flags % 8)] ++
  beBytes 4 count ++ beBytes 4 (c.admitted / usTicks) ++ beBytes 4 (c.effective / usTicks) ++ padTo 16 result

/-- The record of a command is written into its host's ring, and the command is no longer in flight. Event 0x10 + h. -/
def Dev.complete (d : Dev) (c : Cmd) (status : Nat) (result : List Byte) : Dev :=
  let h := c.id.host
  let i := d.head h
  let n := ((d.hp h).count + 1) % 2 ^ 32
  let irq := decide (c.flags / 4 % 2 = 1)
  let d := (d.mwrite (recAddr h i) (recBytes c status n result)).unpoison (recAddr h i) 32
  let d := d.wf (Reg.HOST_CQ h) 16 9 ((i + 1) % 512)
  let d := d.hpMod h (fun p => { p with count := n, recs := p.recs ++ [(c.id.label, irq)] })
  let d := d.setCmds (d.hosts.cmds.filter (fun x => !(x.id == c.id)))
  let d := if irq then d.wb (Reg.HOST_IRQ h) 0 true else d
  let d := if irq && decide (2 ≤ h) then
      d.notice (h - 2) ([0x5B, BitVec.ofNat 8 (h + 1), BitVec.ofNat 8 c.id.label, BitVec.ofNat 8 c.op, BitVec.ofNat 8 status] ++
        beBytes 2 i ++ [0])
    else d
  d.ev (0x10 + h)

/-- A command takes effect now: health-monitor source 0x01 (R375). -/
def Dev.effectNow (d : Dev) (c : Cmd) : Dev := d.hlt 0x01 c.id.host ((d.now - c.admitted) / 4 : Nat)

/-- A command takes effect at this moment and completes. -/
def Dev.finish (d : Dev) (c : Cmd) (status : Nat) (result : List Byte) : Dev :=
  (d.effectNow c).complete { c with effective := d.now } status result

/-- A command completes without an effect (R105, R111). Its Effective field is the time of completion: DESIGN CHOICE, R113 names only a
time of effect (log entry 115). -/
def Dev.lapse (d : Dev) (c : Cmd) (status : Nat) (result : List Byte) : Dev := d.complete { c with effective := d.now } status result

/-- Every command in operation that `p` picks completes; its Effective field names its start. -/
def Dev.completeRun (d : Dev) (p : Cmd → Bool) (status : Nat) (result : List Byte) : Dev :=
  (d.hosts.cmds.filter (fun c => c.phase == .running && p c)).foldl (fun d c => d.complete c status result) d

/-- The `start` of a command: its operation runs from now. -/
def Dev.startCmd (d : Dev) (c : Cmd) : Dev :=
  (d.effectNow c).cmdMod c.id (fun x => { x with phase := .running, effective := d.now, work := 0, groups := [] })

end Sys2Proof.Machine
end

