-- ==== Sys2Proof/Machine/Temp.lean ====
section
/-! DEFINITION. Temperature sources: levels, throttling, results and their way to the CD, the NTC sources (chapter 17,
R426–R432; R175). -/

namespace Sys2Proof.Machine

def Dev.thermMod (d : Dev) (f : Therm → Therm) : Dev := { d with therm := f d.therm }

/-! ### Levels (R430, R431) -/

/-- Level of source `s`: 0 NORMAL, 1 WARN, 2 THROT, 3 SHUT. -/
def Dev.level (d : Dev) (s : Nat) : Nat := d.rf (Reg.THERM_LVL (s / 16)) (2 * (s % 16)) 2

/-- The threshold of level `l` of source `s` in 0.1 °C; none when it is off. -/
def Dev.threshold (d : Dev) (s l : Nat) : Option Int :=
  let c := d.rf (Reg.THERM_S_TH s) (8 * l) 8
  if c = 0xFF then none else some (((c : Int) - 55) * 10)

/-- The highest level whose threshold the temperature reaches, 0 for none. -/
def Dev.reached (d : Dev) (s : Nat) (t : Int) : Nat :=
  ([3, 2, 1].find? (fun l => match d.threshold s l with | some th => decide (th ≤ t) | none => false)).getD 0

/-- The level falls while the temperature lies below the threshold of the level less the hysteresis. A level whose
threshold is off has nothing to hold it. -/
def Dev.fallen (d : Dev) (s : Nat) (t : Int) : Nat → Nat
  | 0 => 0
  | l + 1 =>
    let hys : Int := d.rf (Reg.THERM_S_TH s) 0 4 * 10
    if (match d.threshold s (l + 1) with | some th => decide (t < th - hys) | none => true) then d.fallen s t l else l + 1

/-- The level that a valid result gives (R431). -/
def Dev.levelOf (d : Dev) (s : Nat) (t : Int) : Nat :=
  let up := d.reached s t
  if d.level s < up then up else d.fallen s t (d.level s)

/-! ### Throttling (R432) -/

/-- The step count of axis `a`; it is throttled. -/
def Dev.steps (d : Dev) (a : Nat) : Nat := d.rf Reg.THERM_THROT (8 * a) 5
def Dev.throttled (d : Dev) (a : Nat) : Bool := d.rb Reg.THERM_THROT (8 * a + 7)

/-- A new step count: event 0xFB when it changes. -/
def Dev.setSteps (d : Dev) (a n : Nat) : Dev :=
  if d.steps a = n then d else (d.wf Reg.THERM_THROT (8 * a) 5 n).ev 0xFB

/-- Some source mapped to axis `a` stands at THROT or SHUT. -/
def Dev.hotAxis (d : Dev) (a : Nat) : Bool :=
  (List.range 38).any (fun s => d.rb (Reg.THERM_S_CFG s) (16 + a) && decide (2 ≤ d.level s))

/-- The throttle timer of axis `a` restarts. -/
def Dev.throttleRestart (d : Dev) (a : Nat) : Dev := d.thermMod (fun t => { t with thrAt := tset t.thrAt a d.now })

/-- The throttling of axis `a` follows the levels: with the first source at THROT its step count rises by 1. -/
def Dev.throttle (d : Dev) (a : Nat) : Dev :=
  let was := d.throttled a
  let now := d.hotAxis a
  let d := d.wb Reg.THERM_THROT (8 * a + 7) now
  if now && !was then (d.throttleRestart a).setSteps a (min (d.steps a + 1) (d.rf Reg.THERM_CFG 0 5)) else d

/-- THROTTLE_INTERVAL of axis `a`: its timer reaches `THROT_INTERVAL` and restarts; it does not run while the axis is unthrottled at
step count 0. -/
def Dev.throttleTimer (d : Dev) (a : Nat) : Dev :=
  if tget d.therm.thrAt a + d.rf Reg.THERM_CFG 16 14 * msTicks ≤ d.now then
    (d.throttleRestart a).setSteps a (if d.throttled a then min (d.steps a + 1) (d.rf Reg.THERM_CFG 0 5) else d.steps a - 1)
  else d

/-- THROTTLE_INTERVAL. -/
def execThrottleInterval (a : Nat) (s : State) : Host.Outcome State Fault Refusal := s.run (·.throttleTimer a)

/-- A level changes: event 0xFA, the causes of 0x1002 and 0x1003, and the throttling of every axis. -/
def Dev.setLevel (d : Dev) (s l : Nat) : Dev :=
  let old := d.level s
  if old = l then d
  else
    let d := (d.wf (Reg.THERM_LVL (s / 16)) (2 * (s % 16)) 2 l).ev 0xFA
    let d := d.occIf (decide (old = 0)) 0x1001 s
    let d := (d.lvlSet (decide (2 ≤ l)) 0x1002 s).lvlSet (decide (3 ≤ l)) 0x1003 s
    [0, 1, 2, 3].foldl Dev.throttle d

/-! ### Results (R427, R429) -/

/-- The link that the result of a sensor needs is up: of the GI either lane (log entry 51), of island Hn its own. -/
def Dev.sensorLink (d : Dev) (s : Nat) : Bool :=
  if s = 16 then d.laneUp 12 || d.laneUp 13 else if 17 ≤ s ∧ s ≤ 28 then d.laneUp (s - 17) else true

/-- A result of source `s`, in 0.1 °C; none for an invalid one. -/
def Dev.tempResult (d : Dev) (s : Nat) (t : Option Int) : Dev :=
  let d := d.wmod (Reg.THERM_S_VAL s) 16 8
  match t with
  | none => (d.wb (Reg.THERM_S_VAL s) 31 false).occ 0x1004 s
  | some t =>
    let d := (d.wb (Reg.THERM_S_VAL s) 31 true).wf (Reg.THERM_S_VAL s) 0 16 (fromSigned 16 t)
    let d := if s < 30 then d.hlt 0x0C s t else d
    d.setLevel s (d.levelOf s t)

/-- Result bytes of `THERM_MEASURE` (R428). -/
def Dev.thermBytes (d : Dev) (s : Nat) : List Byte :=
  let ok := d.rb (Reg.THERM_S_VAL s) 31
  [BitVec.ofNat 8 s, if ok then 0 else if d.sensorLink s then 2 else 1] ++
  beBytes 2 (if ok then d.rf (Reg.THERM_S_VAL s) 0 16 else 0) ++ [BitVec.ofNat 8 (d.level s)]

/-! ### The way of a result (R175, R426) -/

/-- The lanes whose frame bodies carry the result of sensor `s`: both of the GI, the one of island Hn (R426). -/
def sensorLanes (s : Nat) : List Nat := if s = 16 then [12, 13] else if 17 ≤ s ∧ s ≤ 28 then [s - 17] else []

/-- The sensor whose results the frames of a lane carry. -/
def laneSensor (lane : Nat) : Nat := if lane < 12 then 17 + lane else 16

/-- The result of sensor `s` that waits for a frame, if any. -/
def Dev.tempOnWay (d : Dev) (s : Nat) : Option (Option Int) :=
  (sensorLanes s).findSome? (fun l => (tget d.link l).temp)

/-- The result of sensor `s` waits for the next frame, or no longer. -/
def Dev.tempSet (d : Dev) (s : Nat) (t : Option (Option Int)) : Dev :=
  (sensorLanes s).foldl (fun d l => { d with link := tmod d.link l (fun x => { x with temp := t }) }) d

/-- The result of sensor `s` has reached the CD: every `THERM_MEASURE` of the sensor that waits completes. -/
def Dev.tempHere (d : Dev) (s : Nat) (t : Option Int) : Dev :=
  let d := d.tempResult s t
  d.completeRun (fun c => c.op == 0x32 && beAt c.payload 0 1 == s) stOk (d.thermBytes s)

/-- A good frame of a lane brings the result that its island holds. -/
def Dev.tempFrame (d : Dev) (lane : Nat) : Dev :=
  match (tget d.link lane).temp with
  | some t => (d.tempSet (laneSensor lane) none).tempHere (laneSensor lane) t
  | none => d

/-- With its link lost, the result of a conversion is invalid (R427). -/
def Dev.tempLost (d : Dev) (lane : Nat) : Dev :=
  let s := laneSensor lane
  if (d.tempOnWay s).isSome && !d.sensorLink s then (d.tempSet s none).tempHere s none else d

/-! ### NTC sources (R429) -/

/-- Σ z^(2i+1) / (2i+1) of the series of the inverse hyperbolic tangent, z = p / q, in units of 2^−64; `pw` is the power at
hand. -/
def atanhSum (p q : Nat) : Nat → Nat → Nat → Nat
  | 0, _, _ => 0
  | n + 1, i, pw => pw / (2 * i + 1) + atanhSum p q n (i + 1) (pw * p * p / (q * q))

/-- ln of p / q with 1 ≤ p / q < 2, in units of 2^−64. -/
def lnUnit (p q : Nat) : Nat := 2 * atanhSum (p - q) (p + q) 32 0 ((p - q) * 2 ^ 64 / (p + q))

/-- ln n in units of 2^−64. -/
def lnNat (n : Nat) : Int := (n.log2 * lnUnit 4 2 + lnUnit n (2 ^ n.log2) : Nat)

/-- The temperature of an NTC input in 0.1 °C from its 14-bit code (R429), with 2.500 V at code 16,384 (log entry 52):
R ÷ R26 = 1000 code ÷ ((16384 − code) R26); invalid above 2.450 V and below 0.050 V. -/
def ntcTemp (code beta r26 : Nat) : Option Int :=
  if 2450 * 16384 < 2500 * code ∨ 2500 * code < 50 * 16384 then none
  else
    let l := lnNat (1000 * code) - lnNat ((16384 - code) * r26)
    let den : Int := 100 * (beta : Int) * 2 ^ 64 + 29815 * l
    let num : Int := 2 * 298150 * (beta : Int) * 2 ^ 64 - 5463 * den
    let t := rdiv 0x429 (if 0 < den then num else -num) (2 * den).natAbs
    some (if den ≠ 0 ∧ -32768 ≤ t ∧ t ≤ 32767 then t else Config.freeFun 0x42900 [code, beta, r26])

/-- The NTC source on channel `c` of converter `k`, if it is enabled. -/
def Dev.ntcSource (d : Dev) (k c : Nat) : Option Nat :=
  let s := 30 + 4 * (k - 2) + (c - 5)
  if decide (2 ≤ k) && decide (5 ≤ c) && decide (c ≤ 8) && d.rb (Reg.THERM_S_CFG s) 31 then some s else none

/-- R429: an update of a latest value evaluates the NTC source on its channel. -/
def Dev.ntcEval (d : Dev) (k c : Nat) : Dev :=
  match d.ntcSource k c with
  | some s =>
    d.tempResult s (ntcTemp (d.rf (Reg.ADC_LAT k c) 2 14) (d.rf (Reg.THERM_S_NTC s) 16 16) (d.rf (Reg.THERM_S_NTC s) 0 16))
  | none => d

end Sys2Proof.Machine
end

