-- ==== Sys2Proof/Machine/Sensing.lean ====
section
/-! DEFINITION. Current and voltage sensing: converters, sequencers, windows, current sets, buffers and the SARs
(chapter 08, R198–R225). -/

namespace Sys2Proof.Machine

/-- Converter `k`. -/
def Dev.cv (d : Dev) (k : Nat) : Conv := tget d.conv k

/-- Converter `k` changed. -/
def Dev.cvMod (d : Dev) (k : Nat) (f : Conv → Conv) : Dev := { d with conv := tmod d.conv k f }

/-- `ADCk_STAT.MODE` (R202): 0 PIPE, 1 SLICE, 2 CAL, 3 FAILED. -/
def Dev.adcMode (d : Dev) (k : Nat) : Nat := d.rf (Reg.ADC_STAT k) 30 2
def Dev.setAdcMode (d : Dev) (k m : Nat) : Dev := d.wf (Reg.ADC_STAT k) 30 2 m

/-- A channel code that a converter has (R207); IDLE (0xF) belongs to sequencer entries only. -/
def chanValid (k c : Nat) : Bool :=
  decide (c ≤ 3) || (c == 4 && decide (k < 2)) || (decide (5 ≤ c ∧ c ≤ 9) && decide (2 ≤ k)) || c == 10 || c == 11

/-- The GI lane of a converter (R198). -/
def adcLane (k : Nat) : Nat := if k < 2 then 12 else 13

/-- A window result without samples (R214). -/
def emptyRes : WinRes := ⟨true, 0, 0, 0, 0, false, false, false⟩

/-! ### Circular buffers (R219, R220) -/

/-- The bytes of one record go to buffer `i` (R220); under CTRL_L and SRAM_M they are discarded (R419). -/
def Dev.bufWrite (d : Dev) (i : Nat) (bs : List Byte) : Dev :=
  if d.rb (Reg.ADC_BUF_CFG i) 31 && d.bistUnit != some 4 && d.bistUnit != some 5 then
    let ofs := d.rf (Reg.ADC_BUF_WPTR i) 0 16
    let size := 2 ^ (d.rf (Reg.ADC_BUF_CFG i) 16 4 + 8)
    let at' := 0x270000 + 256 * d.rf (Reg.ADC_BUF_CFG i) 0 12 + ofs
    let d := (d.mwrite at' bs).unpoison at' bs.length
    let next := (ofs + bs.length) % size
    let d := d.wf (Reg.ADC_BUF_WPTR i) 0 16 next
    if next = 0 then (d.wmod (Reg.ADC_BUF_WPTR i) 16 16).ev (0xA0 + i) else d
  else d

/-- A sample word (R220, `TYPE` 0): code, SLICE mark, saturated mark. -/
def sampleWord (code : Nat) (slice sat : Bool) : Nat := code % 16384 * 4 + 2 * slice.toNat + sat.toNat

/-- A signed 14-bit code as a sample word, limited to its range (log entry 125). -/
def sampleOf (i : Int) (slice sat : Bool) : Nat := sampleWord (fromSigned 14 (clampInt (-8192) 8191 i)) slice sat

/-- The window record of a phase (R220, `TYPE` 1). -/
def windowRecord (p : Nat) (r : WinRes) : List Byte :=
  beBytes 2 (fromSigned 16 r.mean) ++ beBytes 2 r.min ++ beBytes 2 r.max ++
  [BitVec.ofNat 8 (min r.n 255),
   BitVec.ofNat 8 (p + 4 * r.empty.toNat + 8 * r.sat.toNat + 16 * r.slice.toNat + 32 * r.recon.toNat)]

/-! ### Current sets (R217, R218) -/

/-- The flags byte of `ADCk_WINp` (R220). -/
def winFlags (p : Nat) (r : WinRes) : Nat :=
  p + 4 * r.empty.toNat + 8 * r.sat.toNat + 16 * r.slice.toNat + 32 * r.recon.toNat

/-- A mean in quarter LSB14 scaled by `ADC_ISCALEa` to Q3.28 pu (R217). -/
def Dev.scaleCur (d : Dev) (a : Nat) (mean : Int) : Int := rdiv 217 (mean * sword (d.rget (Reg.ADC_ISCALE a))) 4

/-- The set with its empty phase reconstructed from the other two (R218). -/
def reconstruct (r : Vector WinRes 3) : Vector WinRes 3 :=
  let sum := r[0].mean + r[1].mean + r[2].mean
  Vector.ofFn (fun p : Fin 3 =>
    if r[p].empty then { emptyRes with empty := false, mean := r[p].mean - sum, recon := true } else r[p])

/-- The window records of a completed set go to the buffer that `ADC_WBUF` names (R220). -/
def Dev.windowDma (d : Dev) (a : Nat) (r : Vector WinRes 3) : Dev :=
  if d.rb Reg.ADC_WBUF (8 * a + 7) then
    [0, 1, 2].foldl (fun d p => d.bufWrite (d.rf Reg.ADC_WBUF (8 * a) 4) (windowRecord p (tget r p))) d
  else d

/-- `ADCk_WINp` and `ADCk_WMMp` show the last result of a phase. -/
def Dev.winStore (d : Dev) (k p : Nat) (r : WinRes) : Dev :=
  let d := ((d.wf (Reg.ADC_WIN k p) 16 16 (fromSigned 16 r.mean)).wf (Reg.ADC_WIN k p) 8 8 (min r.n 255)).wf
    (Reg.ADC_WIN k p) 0 8 (winFlags p r)
  (d.wf (Reg.ADC_WMM k p) 16 16 r.min).wf (Reg.ADC_WMM k p) 0 16 r.max

/-- The set of axis `a` is delivered to its field unit; the registers show it with its empty and reconstructed phases. -/
def Dev.deliver (d : Dev) (a : Nat) (valid : Bool) (r : Vector WinRes 3) : Dev :=
  let cs : CurSet :=
    { valid := valid, i := Vector.ofFn (fun p : Fin 3 => d.scaleCur a r[p].mean), slice := r.toList.any (·.slice) }
  let d := [0, 1, 2].foldl (fun d p => d.winStore a p (tget r p)) d
  (d.windowDma a r).cvMod a (fun c => { c with set := Vector.replicate 3 none, ready := some cs })

/-- R218: the assembler judges a complete set. -/
def Dev.judgeSet (d : Dev) (a : Nat) (r : Vector WinRes 3) : Dev :=
  let m := (r.toList.filter (fun x => !x.empty)).length
  let d := (d.ev (0x98 + a)).hlt 0x05 a (d.now - (d.cv a).winT : Nat)
  let d := d.cvMod a (fun c => { c with setT := d.now })
  if m = 3 then
    let tol := d.rf Reg.ADC_RECON 16 8
    let sum := r[0].mean + r[1].mean + r[2].mean
    let d := d.cvMod a (fun c => { c with inv := 0 })
    let d :=
      if 0 < tol ∧ 64 * tol < sum.natAbs then
        let n := d.rf (Reg.ADC_STAT a) 0 2
        let d := d.wsat (Reg.ADC_STAT a) 0 2
        if n = 2 then (d.wb (Reg.ADC_FLAGS a) 3 true).occ (0x0606 + 0x10 * a) 0 else d
      else d.wf (Reg.ADC_STAT a) 0 2 0
    d.deliver a true r
  else if m = 2 ∧ d.rb Reg.ADC_RECON a then
    (d.cvMod a (fun c => { c with inv := 0 })).deliver a true (reconstruct r)
  else
    let d := (d.wb (Reg.ADC_FLAGS a) 4 true).cvMod a (fun c => { c with inv := c.inv + 1 })
    let d := if (d.cv a).inv = d.rf Reg.ADC_RECON 8 8 then d.occ (0x0605 + 0x10 * a) 0 else d
    d.deliver a false r

/-- R217: a phase of the set of axis `a` has its result; the set is judged when every phase has one. -/
def Dev.setPhase (d : Dev) (a p : Nat) (r : WinRes) : Dev :=
  let d := d.cvMod a (fun c => { c with set := tset c.set p (some r) })
  match tget (d.cv a).set 0, tget (d.cv a).set 1, tget (d.cv a).set 2 with
  | some x, some y, some z => d.judgeSet a #v[x, y, z]
  | _, _, _ => d

/-- The peak to which the windows of the present tick belong (R228): one that ends on the boundary belongs to the period before. -/
def Dev.peakNow (d : Dev) (a : Nat) : Nat :=
  let w := d.pw (d.leader a)
  if d.now ≤ w.lastB then w.lastB - w.prev.per / 2 else w.lastB + d.perOf a / 2

/-- The set under assembly belongs to the period whose peak is at `t`. -/
def Dev.markPeak (d : Dev) (a t : Nat) : Dev := d.cvMod a (fun c => { c with peakT := t })

/-- Nothing of a set of axis `a` is here, on its way or waiting for the field unit. -/
def Dev.noSet (d : Dev) (a : Nat) : Bool :=
  (d.cv a).ready.isNone && [0, 1, 2].all (fun p => (tget (d.cv a).set p).isNone && (tget (d.cv a).out p).isNone)

/-- The given phases of an axis are EMPTY unless they have their result already; a set that begins with them is the present period's. -/
def Dev.emptyPhases (d : Dev) (a : Nat) (ps : List Nat) : Dev :=
  let d := if d.noSet a then d.markPeak a ((d.pw (d.leader a)).lastB + d.perOf a / 2) else d
  (ps.filter (fun p => (tget (d.cv a).set p).isNone)).foldl (fun d p => d.setPhase a p emptyRes) d

/-- Results that have not left the GI are discarded, and an open window gives none any more. -/
def Dev.cutWindows (d : Dev) (k : Nat) : Dev :=
  d.cvMod k (fun c => { c with win := c.win.map (fun w => { w with gone := w.gone || w.isOpen }), out := Vector.replicate 3 none })

/-- The phase has a window open, or a result that has not left the GI. -/
def Dev.hasWindow (d : Dev) (k p : Nat) : Bool :=
  ((tget (d.cv k).win p).isOpen && !(tget (d.cv k).win p).gone) || (tget (d.cv k).out p).isSome

/-- The windows of a converter end EMPTY (R203, R204). -/
def Dev.dropWindows (d : Dev) (k : Nat) : Dev := (d.cutWindows k).emptyPhases k ([0, 1, 2].filter (d.hasWindow k))

/-- Latest values of a converter become stale, those that have not been sent too (R204, R205, R213). -/
def Dev.staleAll (d : Dev) (k : Nat) : Dev :=
  (List.range 12).foldl (fun d c => d.wb (Reg.ADC_LAT k c) 16 true) (d.cvMod k (fun c => { c with lat := [] }))

/-- At the boundary: a phase reported narrow has no window, and neither has any phase while the lane is lost (R213, R214, R217). -/
def Dev.narrowEmpty (d : Dev) (a : Nat) : Dev :=
  let lost := d.inTopo a && (tget d.link (adcLane a)).cdLost
  d.emptyPhases a ([0, 1, 2].filter (fun p => lost || d.rb (Reg.PWM_STAT a) (12 + p)))

/-! ### Converter modes (R203–R206) -/

/-- R203: the converter enters SLICE mode; `fault` unless forced for test (R204). -/
def Dev.enterSlice (d : Dev) (k : Nat) (fault : Bool) : Dev :=
  let d := (d.setAdcMode k 1).cvMod k (fun c => { c with chk := 0 })
  let d := (d.dropWindows k).ev (0x9C + k)
  d.occIf fault (0x0601 + 0x10 * k) 0

/-- The sequencer of a converter stands still. -/
def Dev.seqStop (d : Dev) (k : Nat) : Dev :=
  (d.cvMod k (fun c => { c with phase := .stopped, left := 0 })).wb (Reg.ADC_STAT k) 7 false

/-- GO returns to 0: the sequencer stops after the conversion in progress; delays and repetitions are abandoned (R210). -/
def Dev.seqFinish (d : Dev) (k : Nat) : Dev :=
  if (d.cv k).phase = .convert then d.cvMod k (fun c => { c with phase := .last, left := 1 }) else d.seqStop k

/-- R204: the bank has failed. -/
def Dev.enterFailed (d : Dev) (k : Nat) : Dev :=
  let d := ((d.setAdcMode k 3).seqStop k).cvMod k (fun c => { c with chk := 0 })
  ((d.staleAll k).dropWindows k).occ (0x0602 + 0x10 * k) 0

/-- R204: `ADC_CMD.SLICE` forces SLICE mode for test; in CAL it does nothing: DESIGN CHOICE (log entry 150). -/
def Dev.forceSlice (d : Dev) (bits : Nat) : Dev :=
  [0, 1, 2, 3].foldl (fun d k => if bits / 2 ^ k % 2 = 1 ∧ d.adcMode k = 0 then d.enterSlice k false else d) d

/-! ### The sequencer (R207–R210) -/

/-- Entry `i` starts and its fields are read; `LEN` is read at entry 0 (R208, R210); `fuel` bounds the entries skipped in a row. -/
def Dev.seqEntry (d : Dev) (k : Nat) : Nat → Nat → Dev
  | 0, i => (d.wf (Reg.ADC_STAT k) 8 6 i).cvMod k (fun c => { c with phase := .spin })
  | fuel + 1, i =>
    let e := d.rget (Reg.ADC_SEQ k i)
    let len := if i = 0 then d.rf (Reg.ADC_SEQLEN k) 0 7 else (d.cv k).len
    let d := (d.wf (Reg.ADC_STAT k) 8 6 i).cvMod k (fun c => { c with ent := e, len := len })
    if fget e 26 2 = 0 then d.cvMod k (fun c => { c with phase := .delay, rot := 0 })
    else if (d.axOf k).active then d.cvMod k (fun c => { c with phase := .waitWin (fget e 26 2 - 1), rot := 0 })
    else if i + 1 < len then d.seqEntry k fuel (i + 1)
    else (d.ev (0x90 + k)).seqEntry k fuel 0

/-- The sequencer goes on to the entry after `i`, and to entry 0 after the last, with event 0x90 + k. -/
def Dev.seqNext (d : Dev) (k i : Nat) : Dev :=
  if i + 1 < (d.cv k).len then d.seqEntry k 64 (i + 1) else (d.ev (0x90 + k)).seqEntry k 64 0

/-- The sequencer starts at entry 0 when GO bit k is 1, the converter converts and its lane is up (R205, R210, R213). -/
def Dev.seqStart (d : Dev) (k : Nat) : Dev :=
  if d.rb Reg.ADC_CTRL k && decide (d.adcMode k < 2) && d.laneUp (adcLane k) then
    (d.wb (Reg.ADC_STAT k) 7 true).seqEntry k 64 0
  else d

/-- R210: a write of `ADC_CTRL.GO`. -/
def Dev.seqGo (d : Dev) (bits : Nat) : Dev :=
  let old := d.rf Reg.ADC_CTRL 0 4
  let d := d.wf Reg.ADC_CTRL 0 4 bits
  [0, 1, 2, 3].foldl (fun d k =>
    let was := old / 2 ^ k % 2
    let is := bits / 2 ^ k % 2
    if was = 0 ∧ is = 1 then d.seqStart k else if was = 1 ∧ is = 0 then d.seqFinish k else d) d

/-- R208: the delay of the entry ends and its conversions begin; a table whose entries are all skipped is tried again. -/
def Dev.seqDelayEnd (d : Dev) (k : Nat) : Dev :=
  match (d.cv k).phase with
  | .delay =>
    let rep := fget (d.cv k).ent 16 8
    d.cvMod k (fun c => { c with phase := .convert, left := if rep = 0 then 256 else rep })
  | .spin => d.seqNext k (d.rf (Reg.ADC_STAT k) 8 6)
  | _ => d

/-- SEQ_DELAY_END. -/
def execSeqDelayEnd (k : Nat) (s : State) : Host.Outcome State Fault Refusal := s.run (·.seqDelayEnd k)

/-- R208: the window of a WIN entry does not open in time; the entry is skipped and counted. -/
def Dev.seqWaitExpiry (d : Dev) (k : Nat) : Dev :=
  match (d.cv k).phase with
  | .waitWin _ => (d.wsat (Reg.ADC_STAT k) 16 8).seqNext k (d.rf (Reg.ADC_STAT k) 8 6)
  | _ => d

/-- SEQ_WINDOW_WAIT_EXPIRY. -/
def execSeqWindowWaitExpiry (k : Nat) (s : State) : Host.Outcome State Fault Refusal := s.run (·.seqWaitExpiry k)

/-! ### Conversion results (R200, R203, R204, R209, R211, R212) -/

/-- A result ready at `now` belongs to a window: its sample instant, 112.5 ns earlier or in SLICE mode 212.5 ns (R202), lies in the
window, and in SLICE mode at least 100 ns before the close (R214, R216). -/
def Win.holds (w : Win) (now : Nat) (slice : Bool) : Bool :=
  let lat := if slice then 85 else 45
  (w.isOpen || w.closeT.isSome) && decide (w.openT + lat ≤ now) &&
    (match w.closeT with | some t => decide (now + (if slice then 40 else 0) ≤ t + lat) | none => true)

/-- A result joins a window that holds it (R214): `v` in quarter LSB14 after the amplifier's offset. -/
def Win.take (w : Win) (now : Nat) (v : Int) (sat slice : Bool) : Win :=
  if w.holds now slice then
    let lo := w.n == 0 || decide (v < w.min)
    let hi := w.n == 0 || decide (w.max < v)
    { w with
      n := w.n + 1, sum := w.sum + v
      min := if lo then v else w.min, minSat := if lo then sat else w.minSat, minSlice := if lo then slice else w.minSlice
      max := if hi then v else w.max, maxSat := if hi then sat else w.maxSat, maxSlice := if hi then slice else w.maxSlice
      sat := w.sat || sat, slice := w.slice || slice }
  else w

/-- The amplifier offset of phase `p` of converter `k` at its gain, quarter LSB14: words 6–11 of `ADC_CALk` (R199, R205, R214). -/
def Dev.ampOffset (d : Dev) (k p : Nat) : Int :=
  d.rfs (Reg.ADC_CAL k (6 + d.rf (Reg.ADC_CFG k) (3 + 3 * p) 3)) (10 * p) 10

/-- A shunt result of phase `c` goes to the window extractor (R208, R214), a saturated one sets the flag and reports. -/
def Dev.toExtractor (d : Dev) (k c code : Nat) (sat slice : Bool) : Dev :=
  if c < 3 then
    let v := 4 * toSigned 14 code - d.ampOffset k c
    let d := d.cvMod k (fun x =>
      { x with win := tmod x.win c (fun w => w.take d.now v sat slice)
               out := tmod x.out c (fun o => o.map (fun w => w.take d.now v sat slice)) })
    if sat then (d.wb (Reg.ADC_FLAGS k) 2 true).occ (0x0607 + 0x10 * k) 0 else d
  else d

/-- R212: a latest value waits for the lane behind the older ones; it replaces an unsent one of its channel. -/
def Dev.latQueue (d : Dev) (k c w : Nat) : Dev :=
  let d := if (d.cv k).lat.any (fun x => x.1 == c) then d.wsat (Reg.ADC_DROP k) 16 16 else d
  d.cvMod k (fun x => { x with lat := x.lat.filter (fun y => y.1 != c) ++ [(c, w, d.now)] })

/-- R212: a buffer sample waits for the lane; with 32 waiting it is dropped, counted and reported once per ms. -/
def Dev.bufQueue (d : Dev) (k i w : Nat) : Dev :=
  if (d.cv k).buf.length < 32 then d.cvMod k (fun x => { x with buf := x.buf ++ [(i, w)] })
  else
    let d := (d.wsat (Reg.ADC_DROP k) 0 16).wb (Reg.ADC_FLAGS k) 1 true
    if (match (d.cv k).dropT with | some t => decide (d.now < t + msTicks) | none => false) then d
    else (d.cvMod k (fun x => { x with dropT := some d.now })).occ (0x0604 + 0x10 * k) 0

/-- The channel that the present conversion of an entry converts: SH_ROT takes the phases in turn (R207). -/
def Dev.entryChan (d : Dev) (k : Nat) : Nat :=
  let ch := fget (d.cv k).ent 28 4
  if ch = 3 then (d.cv k).rot else ch

/-- A latest value lands in `ADCk_LATc` (R209, R212). -/
def Dev.latWrite (d : Dev) (k c w : Nat) : Dev :=
  ((d.wmod (Reg.ADC_LAT k c) 24 8).wb (Reg.ADC_LAT k c) 16 false).wf (Reg.ADC_LAT k c) 0 16 w

/-- R203, R204: the check of a conversion, `diff` being the difference where it was checked. -/
def Dev.adcCheck (d : Dev) (k : Nat) (diff : Option Nat) (residue : Bool) : Dev :=
  let tol := d.rf (Reg.ADC_CFG k) 24 8
  if d.adcMode k = 0 then
    if residue then d.enterSlice k true
    else
      match diff with
      | none => d
      | some x =>
        if tol < x then
          let d := (d.wb (Reg.ADC_FLAGS k) 5 true).cvMod k (fun c => { c with chk := c.chk + 1 })
          if 3 ≤ (d.cv k).chk then d.enterSlice k true else d
        else d.cvMod k (fun c => { c with chk := 0 })
  else if d.adcMode k = 1 then
    match diff with
    | none => d
    | some x =>
      if (tol + 3) / 4 < x then
        let d := d.cvMod k (fun c => { c with chk := c.chk + 1 })
        if 3 ≤ (d.cv k).chk then d.enterFailed k else d
      else d.cvMod k (fun c => { c with chk := 0 })
  else d

/-- The code of a result: in SLICE mode its two low bits read 0 (R202). -/
def Dev.resCode (d : Dev) (k code : Nat) : Nat := if d.adcMode k = 1 then code / 4 * 4 else code

/-- A result lies at an end of its range (R200): −8,192 and +8,191 of a shunt (and of the shorted amplifier ZERO), 0 and 16,383 of a
single-ended input; a slice's highest code has its two low bits 0. -/
def atEnd (c code : Nat) (slice : Bool) : Bool :=
  let low := if slice then 3 else 0
  if c < 4 ∨ c = 11 then code == 8192 || code == 8191 - low else code == 0 || code == 16383 - low

/-- One result of channel `c` goes to the extractor, to `LATEST` and to a buffer (R209). -/
def Dev.sampleOut (d : Dev) (k c dest code : Nat) : Dev :=
  let slice := d.adcMode k == 1
  let code := d.resCode k code
  let sat := atEnd c code slice
  let w := sampleWord code slice sat
  let d := d.toExtractor k c code sat slice
  let d := if dest / 128 % 2 = 1 then d.latQueue k c w else d
  if dest / 64 % 2 = 1 then d.bufQueue k (dest % 16) w else d

/-- The present conversion of the sequence gives its result. -/
def Dev.entryResult (d : Dev) (k code : Nat) : Dev :=
  let c := d.entryChan k
  if c = 15 then d else d.sampleOut k c (fget (d.cv k).ent 0 8) code

/-- R209: a result of the sequence; the last one after GO has returned to 0 ends it (R210). -/
def Dev.seqResult (d : Dev) (k code : Nat) : Dev :=
  match (d.cv k).phase with
  | .convert =>
    let i := d.rf (Reg.ADC_STAT k) 8 6
    let d := (d.entryResult k code).cvMod k (fun x => { x with left := x.left - 1, rot := (x.rot + 1) % 3 })
    if (d.cv k).left = 0 then d.seqNext k i else d
  | .last => (d.entryResult k code).seqStop k
  | _ => d

/-- R211, R214: the result of an urgent conversion; a shunt's goes to the extractor too. It reaches `ADCk_LATc` at once with event 0x94 + k. -/
def Dev.urgResult (d : Dev) (k code : Nat) : Dev :=
  match (d.cv k).urgHere with
  | none => d
  | some (c, dest) =>
    let slice := d.adcMode k == 1
    let c := if c = 3 then 0 else c
    let sat := atEnd c (d.resCode k code) slice
    let w := sampleWord (d.resCode k code) slice sat
    let u := (d.cvMod k (fun x => { x with urgHere := none })).wb (Reg.ADC_STAT k) 6 false
    let d := u.toExtractor k c (d.resCode k code) sat slice
    let d := if dest / 64 % 2 = 1 then d.bufQueue k (dest % 16) w else d
    let d := if dest / 128 % 2 = 1 then (d.latWrite k c w).ntcEval k c else d
    d.ev (0x94 + k)

/-- CONVERSION_RESULT of converter `k`: the code of the urgent request or of the sequence, with the check of R203 and R204 where this
conversion was checked. Without its lane a converter stands still (R213). -/
def Dev.conversion (d : Dev) (k code : Nat) (urgent : Bool) (diff : Option Nat) (residue : Bool) : Dev :=
  if d.adcMode k < 2 && d.laneUp (adcLane k) then (if urgent then d.urgResult k code else d.seqResult k code).adcCheck k diff residue else d

/-- CONVERSION_RESULT. -/
def execConversionResult (k code : Nat) (urgent : Bool) (diff : Option Nat) (residue : Bool) (s : State) :
    Host.Outcome State Fault Refusal := s.run (·.conversion k code urgent diff residue)

/-- R211: an urgent request for a channel and destination travels to the converter. -/
def Dev.urgSend (d : Dev) (k chan dest : Nat) : Dev :=
  d.cvMod k (fun x => { x with urgSent := x.urgSent ++ [(chan, dest)] })

/-- R211: the oldest urgent request under way reaches the converter; it is lost while another is pending or in CAL or
FAILED. Over a lost lane it does not arrive (R213, log entry 155). -/
def Dev.urgArrive (d : Dev) (k : Nat) : Dev :=
  match (d.cv k).urgSent with
  | [] => d
  | r :: rs =>
    let d := d.cvMod k (fun x => { x with urgSent := rs })
    if !d.laneUp (adcLane k) then d
    else if (d.cv k).urgHere.isSome || decide (2 ≤ d.adcMode k) then
      (d.wb (Reg.ADC_FLAGS k) 0 true).occ (0x0608 + 0x10 * k) 0
    else (d.cvMod k (fun x => { x with urgHere := some r })).wb (Reg.ADC_STAT k) 6 true

/-- URGENT_ARRIVAL. -/
def execUrgentArrival (k : Nat) (s : State) : Host.Outcome State Fault Refusal := s.run (·.urgArrive k)

/-- The oldest unsent latest value of a lane: converter, channel, sample word. -/
def Dev.oldestLat (d : Dev) (g : Nat) : Option (Nat × Nat × Nat) :=
  match (d.cv (2 * g)).lat, (d.cv (2 * g + 1)).lat with
  | [], [] => none
  | x :: _, [] => some (2 * g, x.1, x.2.1)
  | [], y :: _ => some (2 * g + 1, y.1, y.2.1)
  | x :: _, y :: _ => if y.2.2 < x.2.2 then some (2 * g + 1, y.1, y.2.1) else some (2 * g, x.1, x.2.1)

/-- The unsent latest value of channel `c` that may leave now: it is the oldest of its lane, which is up and has carried fewer than two
sample fields in the present frame (R212, R213). -/
def Dev.latDue (d : Dev) (k c : Nat) : Option Nat :=
  match d.oldestLat (adcLane k - 12) with
  | some (k', c', w) => if k' = k ∧ c' = c ∧ d.laneUp (adcLane k) ∧ (tget d.link (adcLane k)).used < 2 then some w else none
  | none => none

/-- R212: the unsent latest value of channel `c` reaches its register. -/
def Dev.latArrive (d : Dev) (k c w : Nat) : Dev :=
  let d := { d with link := tmod d.link (adcLane k) (fun l => { l with used := l.used + 1 }) }
  (d.cvMod k (fun x => { x with lat := x.lat.drop 1 })).latWrite k c w

/-- R212, R220: one sample field of a lane takes a buffer sample, alternately from converters `k0` and `k0 + 1`. -/
def Dev.popSample (d : Dev) (k0 : Nat) : Dev :=
  let first := if (d.cv k0).turn then k0 + 1 else k0
  let k := if (d.cv first).buf.isEmpty then 2 * k0 + 1 - first else first
  match (d.cv k).buf with
  | [] => d
  | (i, w) :: r =>
    ((d.cvMod k (fun x => { x with buf := r })).cvMod k0 (fun x => { x with turn := k == k0 })).bufWrite i (beBytes 2 w)

/-- `n` sample fields of a lane take buffer samples. -/
def Dev.popSamples (d : Dev) (k0 : Nat) : Nat → Dev
  | 0 => d
  | n + 1 => (d.popSample k0).popSamples k0 n

/-- R212: a frame of a GI lane has ended with up to two sample fields: latest values come first, those that still wait too, and buffer
samples take the room they leave. -/
def Dev.frameSamples (d : Dev) (g : Nat) : Dev :=
  let k0 := 2 * g
  let waits := (d.cv k0).lat.length + (d.cv (k0 + 1)).lat.length
  let room := 2 - ((tget d.link (12 + g)).used + waits)
  let d := { d with link := tmod d.link (12 + g) (fun l => { l with used := 0 }) }
  d.popSamples k0 room

/-! ### Windows (R214–R217) -/

/-- R214: the extractor opens the window of phase `p`; a WIN entry that waits for it goes on (R208). -/
def Dev.windowOpen (d : Dev) (k p : Nat) : Dev :=
  let d := d.cvMod k (fun c => { c with win := tset c.win p { (default : Win) with isOpen := true, openT := d.now } })
  if (d.cv k).phase = .waitWin p then d.cvMod k (fun c => { c with phase := .delay }) else d

/-- WINDOW_OPEN. -/
def execWindowOpen (k p : Nat) (s : State) : Host.Outcome State Fault Refusal := s.run (·.windowOpen k p)

/-- The result of a closed window: the mean rounded to a quarter LSB14 (R214); EMPTY with no sample. -/
def Win.result (w : Win) : WinRes :=
  if w.n = 0 then emptyRes
  else ⟨false, rnear 214 w.sum w.n, sampleOf (rnear 0x214 w.min 4) w.minSlice w.minSat, sampleOf (rnear 0x215 w.max 4) w.maxSlice w.maxSat,
    w.n, w.sat, w.slice, false⟩

/-- R214, R215: the window closes; the samples still on their way join it before its result leaves for the CD. A window that never
opened in the period holds no sample (R217, log entry 96). -/
def Dev.windowClose (d : Dev) (k p : Nat) : Dev :=
  let w := tget (d.cv k).win p
  if w.gone then d.cvMod k (fun c => { c with win := tset c.win p default })
  else if w.isOpen then
    (d.markPeak k (d.peakNow k)).cvMod k (fun c =>
      { c with winT := d.now, out := tset c.out p (some { w with isOpen := false, closeT := some d.now }), win := tset c.win p default })
  else if (tget (d.cv k).out p).isNone ∧ (tget (d.cv k).set p).isNone ∧ d.laneUp (adcLane k) then
    (d.markPeak k (d.peakNow k)).cvMod k (fun c => { c with winT := d.now, out := tset c.out p (some default) })
  else d

/-- WINDOW_CLOSE. -/
def execWindowClose (k p : Nat) (s : State) : Host.Outcome State Fault Refusal := s.run (·.windowClose k p)

/-- R217: a window result reaches the assembler: `ADCk_WINp`, `ADCk_WMMp`, and the set of the axis. -/
def Dev.windowReceived (d : Dev) (k p : Nat) : Dev :=
  match tget (d.cv k).out p with
  | none => d
  | some w => ((d.cvMod k (fun c => { c with out := tset c.out p none })).winStore k p w.result).setPhase k p w.result

/-- WINDOW_RESULT_RECEIVED. -/
def execWindowResultReceived (k p : Nat) (s : State) : Host.Outcome State Fault Refusal := s.run (·.windowReceived k p)

/-! ### Calibration and lane loss (R205, R206, R213) -/

/-- R205: self-calibration of converter `k` begins: CAL, sequencer paused, latest values stale. An urgent request that is pending already
stays so and is served after it: DESIGN CHOICE (log entry 151). -/
def Dev.calStart (d : Dev) (k : Nat) : Dev :=
  (((d.setAdcMode k 2).seqStop k).staleAll k).cvMod k (fun c => { c with calAt := d.now })

/-- The outcome of a calibration (R205, R206): 0 PASS with every difference of step 4 within `CHK_TOL`, 1 PIPE_FAIL when only step 1
passes, 2 SLICE_FAIL. -/
def Dev.calCode (d : Dev) (k : Nat) (step1 : Bool) (diff : Nat) : Nat :=
  if !step1 then 2 else if diff ≤ d.rf (Reg.ADC_CFG k) 24 8 then 0 else 1

/-- The bits of calibration word `w`: byte 0 of word 5 and bits 31:30 of words 6–11 read 0. -/
def calMask (w : Nat) : Word := if w = 5 then 0xFFFFFF00 else if 6 ≤ w ∧ w ≤ 11 then 0x3FFFFFFF else 0xFFFFFFFF

/-- R205: calibration ends, `diff` being the largest difference of step 4: PIPE, SLICE or FAILED; the factors are
written and the sequencer starts again at entry 0 if GO bit k is 1. -/
def Dev.calEnd (d : Dev) (k : Nat) (step1 : Bool) (diff : Nat) (words : List Word) : Dev :=
  let res := d.calCode k step1 diff
  let d := (List.range 13).foldl (fun d w => d.rset (Reg.ADC_CAL k w) (words.getD w 0 &&& calMask w)) d
  let d := d.rset (Reg.ADC_CAL k 13) (BitVec.ofNat 32 (res * 0x10000 + diff))
  let d := d.rset (Reg.ADC_CAL k 14) (BitVec.ofNat 32 d.ms)
  let d := d.cvMod k (fun c => { c with chk := 0 })
  let d := d.setAdcMode k (if res = 0 then 0 else if res = 1 then 1 else 3)
  let d := d.evIf (res == 1) (0x9C + k)
  let d := d.occIf (res != 0) (0x0603 + 0x10 * k) 0
  d.seqStart k

/-- R213: the GI lane of converters `2g` and `2g + 1` is lost: they stop, stale values, EMPTY windows. -/
def Dev.adcLaneLost (d : Dev) (g : Nat) : Dev :=
  let d := { d with link := tmod d.link (12 + g) (fun l => { l with used := 0 }) }
  [2 * g, 2 * g + 1].foldl (fun d k => (((d.seqStop k).staleAll k).cutWindows k).emptyPhases k [0, 1, 2]) d

/-- R213: after retraining each converter of the lane restarts its sequencer at entry 0 if GO bit k is 1. -/
def Dev.adcLaneBack (d : Dev) (g : Nat) : Dev := (d.seqStart (2 * g)).seqStart (2 * g + 1)

/-! ### SAR0 and SAR1 (R221–R223) -/

/-- Input `i` of SAR `s` is enabled in `ADC_SARSCAN`. -/
def Dev.sarEnabled (d : Dev) (s i : Nat) : Bool := d.rb Reg.ADC_SARSCAN (16 * s + i)

/-- The first enabled input of SAR `s` from `i` on, in the loop of the scan. -/
def Dev.sarFrom (d : Dev) (s i : Nat) : Option Nat :=
  ((List.range 16).map (fun j => (i + j) % 16)).find? (d.sarEnabled s)

/-- What the slot that ends now has converted on SAR `s` (R222): the pair of an axis whose boundary lies `SYNC_DLY` ticks before the
slot's start (200 ns ago), else the next enabled input of the scan; and whether it was of a pair. -/
def Dev.sarSlot (d : Dev) (s : Nat) : Option (Nat × Bool) :=
  match (tget d.sar s).sync with
  | (a, t) :: _ => if t + d.rf Reg.ADC_SARCFG 16 8 + 80 ≤ d.now then some (a, true) else (d.sarFrom s (tget d.sar s).next).map (·, false)
  | [] => (d.sarFrom s (tget d.sar s).next).map (·, false)

/-- The boundary of axis `a` asks both SARs for its pair (R222). -/
def Dev.sarSync (d : Dev) (a : Nat) : Dev :=
  if d.rb Reg.ADC_SARCFG a then { d with sar := d.sar.map (fun x => { x with sync := x.sync ++ [(a, d.now)] }) } else d

/-- R222, R223: a SAR result is stored, of a synchronous pair with the tick of its slot's start; the references are judged once per scan, after input 13. -/
def Dev.sarStore (d : Dev) (s i v : Nat) (pair : Bool) : Dev :=
  let d := (d.wmod (Reg.ADC_SAR_D s i) 16 16).wf (Reg.ADC_SAR_D s i) 0 12 v
  if pair then
    { d with
      sar := tmod d.sar s (fun x => { x with sync := x.sync.drop 1 })
      safe := { d.safe with pairAt := tset d.safe.pairAt i (d.now - 80) } }
  else
    let bad := (i == 11 && (decide (v < 2028) || decide (2068 < v))) || (i == 13 && decide (8 < v))
    let d := { d with sar := tmod d.sar s (fun x => { x with scanBad := x.scanBad || bad, next := i + 1 }) }
    if i = 13 then
      let n := if (tget d.sar s).scanBad then (tget d.sar s).bad + 1 else 0
      let d := { d with sar := tmod d.sar s (fun x => { x with bad := n, scanBad := false }) }
      d.lvlSet (decide (2 ≤ n)) (0x0641 + s) 0
    else d

end Sys2Proof.Machine
end

