-- ==== Sys2Proof/Machine/Engine.lean ====
section
/-! DEFINITION. The control engines: sources and agreement, steps, lanes, generators, decoders, the graph, checkpoints,
joins, parameter blocks, injections and capture (chapter 10, R258–R289). -/

namespace Sys2Proof.Machine

/-! ### Access to the state of the engines -/

def Dev.ceMod (d : Dev) (f : Ce → Ce) : Dev := { d with ce := f d.ce }
/-- Engine `e` (0 CE-A, 1 CE-B). -/
def Dev.engine (d : Dev) (e : Nat) : CeEng := tget d.ce.eng e
def Dev.engMod (d : Dev) (e : Nat) (f : CeEng → CeEng) : Dev := d.ceMod (fun c => { c with eng := tmod c.eng e f })
def Dev.laneMod' (d : Dev) (l : Nat) (f : CeLane → CeLane) : Dev := d.ceMod (fun c => { c with lane := tmod c.lane l f })

/-- `CE_STATUS.MODE`: 0 PAIRED, 1 SPLIT, 2 JOINING, 3 SOLO_A, 4 SOLO_B. -/
def Dev.ceMode (d : Dev) : Nat := d.rf Reg.CE_STATUS 29 3
def Dev.joinStep (d : Dev) : Nat := d.rf Reg.CE_STATUS 24 4

/-- The engine whose half serves an axis, or no axis (R259): 0 for 0, 1, X and none, 1 for 2, 3 and Y. -/
def halfOf : Option Nat → Nat
  | none => 0
  | some x => if x = 2 ∨ x = 3 ∨ x = 5 then 1 else 0

/-- Engine `e` executes an instance that serves `axis` (R280, R282, R283). -/
def Dev.ceRuns (d : Dev) (e : Nat) (axis : Option Nat) : Bool :=
  match d.ceMode with
  | 0 => true
  | 1 => halfOf axis == e
  | 2 => if d.joinStep < 4 then (match d.ce.rejoin with | some r => e != r | none => halfOf axis == e) else true
  | 3 => e == 0
  | _ => e == 1

/-- The engine whose results for `axis` count outside the engines (R276, R280, R282, R283). -/
def Dev.ceDriver (d : Dev) (axis : Option Nat) : Nat :=
  match d.ceMode with
  | 0 => 0
  | 1 => halfOf axis
  | 2 => match d.ce.rejoin with | some r => 1 - r | none => halfOf axis
  | 3 => 0
  | _ => 1

/-- The engines that make a step together with engine `e`: each its own in split mode, both from the same start in paired mode and
in a join, the one in service alone under BIST (R264, R282, R283). -/
def Dev.stepping (d : Dev) (e : Nat) : List Nat :=
  match d.ceMode with
  | 1 => [e]
  | 3 => if e = 0 then [0] else []
  | 4 => if e = 1 then [1] else []
  | _ => if e = 0 then [0, 1] else []

/-- The engine that the record of a fault names (R288): the one whose results for `axis` count, and where both engines run the same
half, one of the two, free (log entry 127). -/
def Dev.ceNames (d : Dev) (code : Nat) (axis : Option Nat) : Nat :=
  if d.ceMode = 0 then (Config.freeFun 0x288 [code]).natAbs % 2 else d.ceDriver axis

/-- The outputs of this step for `axis` are withheld: of the engine that drives it, and in paired mode of either (R258, R267). -/
def Dev.ceHeld (d : Dev) (axis : Option Nat) : Bool :=
  (d.engine (d.ceDriver axis)).withhold || (d.ceMode == 0 && ((d.engine 0).withhold || (d.engine 1).withhold))

/-- The state words of every instance as the image initialises them (R283, R420). -/
def ceInit (graph : List (Nat × CeInst)) : List (Nat × List Int) := graph.map (fun g => (g.1, g.2.init))

/-- The engines agree their asynchronous sources: in paired mode and in the shadow steps of a join (R265, R282). -/
def Dev.ceAgrees (d : Dev) : Bool := d.ceMode == 0 || (d.ceMode == 2 && decide (4 ≤ d.joinStep))

/-! ### Limits of an axis (R272, R254, R347, R432) -/

/-- The parameter limit of the AXLIM instance of an axis; its two words are not laid out (log entry 32). -/
def Dev.paramLimit (d : Dev) (a : Nat) : Int :=
  match d.ce.graph.find? (fun g => g.2.type == 0x1E && g.2.axis == some a) with
  | some g => max 0 (Config.freeFun 0x1E (g.2.pars.map (fun i => sword (d.rget (Reg.CE_PAR i)))))
  | none => 0

/-- The DEGRADED limit: from 1 pu at the entry down to `DEG_LIMIT` over `DEG_RAMP` (R347). -/
def Dev.degLimit (d : Dev) : Int :=
  let dl : Int := d.rf Reg.SAFE_DEG 10 11 * 262144
  let ramp := d.rf Reg.SAFE_DEG 22 10 * msTicks
  let t := d.now - d.safe.degAt
  if ramp ≤ t then dl else pu - rdiv 347 ((pu - dl) * t) ramp

/-- L_mot: the smallest of the parameter limit, the DEGRADED limit, the re-acquisition ramp, whose length is the leader's (R255), and the
throttle limit. -/
def Dev.lMot (d : Dev) (a : Nat) : Int :=
  let p := d.paramLimit a
  let thr := rdiv 432 (p * (16 - tget d.therm.eff a : Int)) 16
  let l := min p thr
  let l := if d.dstate = .degraded then min l d.degLimit else l
  match (tget d.fld a).rampFrom with
  | some t =>
    let len := d.rf (Reg.FLD_RAMP (d.leader a)) 0 10 * msTicks
    if len ≤ d.now - t then l else min l (rdiv 254 (p * ((d.now - t : Nat) : Int)) len)
  | none => l

/-- L_reg = k × L_mot (R316). -/
def Dev.lReg (d : Dev) (a : Nat) : Int := ceMul 316 d.dcl.k (d.lMot a)

/-- R272: a torque-current reference of an axis limited to −L_reg … +L_mot, the sides by the sign of its speed. -/
def Dev.axlim (d : Dev) (a : Nat) (x : Int) : Int :=
  if 0 ≤ sword (d.rget (Reg.FLD_SPEED a)) then clampInt (-(d.lReg a)) (d.lMot a) x
  else clampInt (-(d.lMot a)) (d.lReg a) x

/-! ### Sources (R261) -/

/-- Decoder `c` is the source of a lane. -/
def Dev.laneUses (d : Dev) (c : Nat) : Bool :=
  (List.range 32).any (fun l => d.rb (Reg.CE_LANE_CFG l) 31 && d.rf (Reg.CE_LANE_CFG l) 24 4 == c + 1)

/-- The `CE_AGRi` entry that lists an asynchronous source, by class and index. -/
def Dev.agrListed (d : Dev) (cls idx : Nat) : Option Nat :=
  (List.range 64).find? (fun i =>
    d.rb (Reg.CE_AGR i) 31 && d.rf (Reg.CE_AGR i) 16 8 == cls && d.rf (Reg.CE_AGR i) 8 8 == idx)

/-- The agreement of an asynchronous source: its `CE_AGRi` entry, or for a lane's decoder without one its own (log entry 95). -/
def Dev.agrOf (d : Dev) (cls idx : Nat) : Option Nat :=
  match d.agrListed cls idx with
  | some i => some i
  | none =>
    if idx < 4 ∧ d.laneUses idx then
      if cls = 0x07 then some (64 + idx) else if cls = 0x0A then some (68 + idx) else none
    else none

/-- The agreements in use. -/
def Dev.agrEntries (d : Dev) : List Nat :=
  (List.range 64).filter (fun i => d.rb (Reg.CE_AGR i) 31) ++
  (List.range 4).filterMap (fun c => if d.agrOf 0x07 c = some (64 + c) then some (64 + c) else none) ++
  (List.range 4).filterMap (fun c => if d.agrOf 0x0A c = some (68 + c) then some (68 + c) else none)

/-- Class and index, kind (true for digital) and tolerance in 2^−12 pu of an agreement. -/
def Dev.agrSrc (d : Dev) (i : Nat) : Nat × Nat :=
  if i < 64 then (d.rf (Reg.CE_AGR i) 16 8, d.rf (Reg.CE_AGR i) 8 8) else if i < 68 then (0x07, i - 64) else (0x0A, i - 68)
def Dev.agrDig (d : Dev) (i : Nat) : Bool := if i < 64 then d.rb (Reg.CE_AGR i) 30 else decide (68 ≤ i)
def Dev.agrTol (d : Dev) (i : Nat) : Nat := if i < 64 then d.rf (Reg.CE_AGR i) 0 8 else d.rf (Reg.CE_CMD_CFG (i - 64)) 8 8

/-- The mapped value of decoder `c` of engine `e` (R271), Q3.28. -/
def Dev.cmdValue (d : Dev) (e c : Nat) : Int :=
  cmdMap (d.rf (Reg.CE_CMD_X c) 0 16) (d.rf (Reg.CE_CMD_X c) 16 16) (d.rfs (Reg.CE_CMD_Y c) 0 16)
    (d.rfs (Reg.CE_CMD_Y c) 16 16) (d.rf (Reg.CE_CMD_DB c) 16 16) (d.rf (Reg.CE_CMD_DB c) 0 16)
    (tget (tget d.ce.dec e) c).avg

/-- The decoder of engine `e` reports loss or range (R271). -/
def Dev.cmdLost (d : Dev) (e c : Nat) : Bool := (tget (tget d.ce.dec e) c).loss || (tget (tget d.ce.dec e) c).range

/-- An asynchronous source as engine `e` sees it at this moment: analogue classes as numbers, digital ones as 0 or 1.
The index of a SAR result is 16 s + input (log entry 33). -/
def Dev.liveSample (d : Dev) (e cls idx : Nat) : Int :=
  match cls with
  | 0x07 => d.cmdValue e idx
  | 0x08 => Config.freeFun 0x108 [d.rf (Reg.ADC_SAR_D (idx / 16) (idx % 16)) 0 12]
  | 0x09 => ((d.engine e).seen.contains idx).toNat
  | _ => (d.cmdLost e idx).toNat

/-- The value of an asynchronous source in a step: the agreed one, or engine `e`'s own sample (R277, R278, R280). A current section
(`cur`) before cycle 120 uses the agreement of the step before (R265). -/
def Dev.asyncVal (d : Dev) (e : Nat) (cur : Bool) (cls idx : Nat) : Int :=
  match d.agrOf cls idx with
  | some i =>
    if d.ceAgrees then
      if cur && decide (d.now < (d.engine e).stepAt + 120) then (tget d.ce.agr i).old else (tget d.ce.agr i).val
    else (aget (d.engine e).samp i).getD (d.liveSample e cls idx)
  | none => d.liveSample e cls idx

/-- The lane's AXIS field (R268). -/
def Dev.laneAxis (d : Dev) (l : Nat) : Nat := d.rf (Reg.CE_LANE_CFG l) 28 3

/-- A speed in 0.01 Hz as a signal: Q3.28 pu of the axis's rated speed (R261, R262; log entry 33). -/
def Dev.speedPu (d : Dev) (a : Nat) (w : Int) : Int := clampInt ceMin ceMax (rdiv 0x101 (w * pu) (d.rf (Reg.FLD_RATED a) 0 18))

/-- A source value (R261), read in a current section where `cur`. The scales of positions and SAR results in a Q3.28 word are not
stated: free. -/
def Dev.ceSource (d : Dev) (e : Nat) (cur : Bool) : CeSrc → Int
  | .fld a 0 => (tget d.fld a).id
  | .fld a 1 => (tget d.fld a).iq
  | .fld a 2 => d.speedPu a (sword (d.rget (Reg.FLD_SPEED a)))
  | .fld a 3 => sword (d.rget (Reg.FLD_ANGLE a))
  | .fld a 4 => (tget d.fld a).vd
  | .fld a 5 => (tget d.fld a).vq
  | .fld a _ => ceB (!(tget d.fld a).valid)
  | .lane l => sword (d.rget (Reg.CE_LANE_OUT l))
  | .laneLoss l => ceB (tget d.ce.lane l).lost
  | .dev => d.dstate.code
  | .axis a => (d.axOf a).code
  | .mode => d.ceMode
  | .pos a 0 => d.speedPu a (d.hallSpeed a)
  | .pos a 1 => Config.freeFun 0x105 [d.rf (Reg.POS_STAT a) 16 16]
  | .pos a _ => ceB (d.hallValid a)
  | .dcl 0 => rdiv 0x314 (d.dcl.vm * 10 * 2048) (d.rf Reg.DCL_VNOM 0 16)
  | .dcl 1 => rdiv 0x315 (d.dcl.vl * 10 * 2048) (d.rf Reg.DCL_VNOM 0 16)
  | .dcl 2 => d.dcl.k
  | .dcl 3 => rdiv 0x316 (d.rf (Reg.PWM_C_CMP0 0) 0 28 * pu) (16 * d.rf (Reg.PWM_C_PER 0) 0 24)
  | .dcl 4 => rdiv 0x317 (d.rf (Reg.PWM_C_CMP0 1) 0 28 * pu) (16 * d.rf (Reg.PWM_C_PER 1) 0 24)
  | .dcl 5 => ceB (d.rb Reg.DCL_STAT 24)
  | .dcl 6 => ceB (d.rb Reg.DCL_STAT 23)
  | .dcl _ => ceB (d.rb Reg.DCL_DSTAT 31)
  | .par i => sword (d.rget (Reg.CE_PAR i))
  | .cmdin c => d.asyncVal e cur 0x07 c
  | .sar s i => d.asyncVal e cur 0x08 (16 * s + i)
  | .event n => ceB (d.asyncVal e cur 0x09 n != 0)
  | .cmdLoss c => ceB (d.asyncVal e cur 0x0A c != 0)

/-! ### The graph (R259, R260, R263) -/

/-- Output `port` of instance `n` as engine `e` holds it. -/
def Dev.ceOut (d : Dev) (e n port : Nat) : Int :=
  match aget (d.engine e).outs n with
  | some l => sword (l.getD port 0)
  | none => 0

/-- R263: the sticky bit of an instance; its first setting raises event 0xD3. -/
def Dev.ceSticky (d : Dev) (e n : Nat) : Dev :=
  let r := if e = 0 then Reg.CE_A_STICKY (n / 32) else Reg.CE_B_STICKY (n / 32)
  if d.rb r (n % 32) then d else (d.wb r (n % 32) true).ev 0xD3

/-- The injected signal on input `j` of instance `n` (R284). -/
def Dev.injected (d : Dev) (n j : Nat) : Int :=
  [0, 1].foldl (fun (s : Int) g =>
    if d.rb (Reg.CE_INJ_CTL g) 0 && d.rf (Reg.CE_INJ_TGT g) 0 9 == n && d.rf (Reg.CE_INJ_TGT g) 12 2 == j
    then s + (tget d.ce.inj g).val else s) 0

/-- The inputs of an instance with the injected signals, each sum saturating (R284). -/
def Dev.ceInputs (d : Dev) (e n : Nat) : Nat → List (Nat × Nat) → List (Int × Bool)
  | _, [] => []
  | j, (m, port) :: r =>
    (let i := d.injected n j
     if i = 0 then (d.ceOut e m port, false) else satWith false (d.ceOut e m port + i)) :: d.ceInputs e n (j + 1) r

/-- The state words of an instance. -/
def Dev.ceState (d : Dev) (e n : Nat) (init : List Int) : List Int := (aget (d.engine e).st n).getD init

/-- A CRC-32C register after further state words, each most significant byte first (R276, log entry 128). -/
def crcWords (c : Word) (ws : List Int) : Word := crcRun 0x82F63B78#32 c (ws.flatMap (fun w => beBytes 4 (fromSigned 32 w)))

/-- The result of a block is written: outputs, state, sticky bit; the state words `wr` that the execution writes join the CRC of the
step (R263, R276). -/
def Dev.ceWriteW (d : Dev) (e n : Nat) (r : BlkRes) (wr : List Int) : Dev :=
  let d := d.engMod e (fun g =>
    { g with outs := aput g.outs n (r.outs.map wordOfInt), st := aput g.st n r.st, crc := crcWords g.crc wr })
  if r.sat then d.ceSticky e n else d

/-- The result of a block that writes every state word it has. -/
def Dev.ceWrite (d : Dev) (e n : Nat) (r : BlkRes) : Dev := d.ceWriteW e n r r.st

/-- The bin of the repetitive controller (R273): the fraction of a turn of the axis, or of `PP` turns, of which `turns` have
passed. -/
def Dev.repBin (d : Dev) (a : Nat) (p : List Int) (turns : Int) : Nat :=
  let ang := (d.rget (Reg.FLD_ANGLE a)).toNat
  if nth p 0 = 0 then ang / 16777216
  else
    let pp := max 1 (nth p 1).toNat
    ((turns % pp).toNat * 4294967296 + ang) * 256 / (pp * 4294967296)

/-- The axis's speed has changed by more than `ACC_LIM` (0.1 Hz/s) over the last step, between the starts of the latest two steps
(R273, log entry 129). -/
def Dev.repAcc (d : Dev) (a : Nat) (lim : Int) : Bool :=
  decide (lim * 10 * (d.rf Reg.CE_STEP 0 19 : Nat) < (tget d.ce.spd a - tget d.ce.spdPrev a).natAbs * 400000000)

/-- REPCTL (R273): inputs error, (unused), reset; frozen by acceleration, low speed, an invalid set, an axis that is not DRIVING, or
reset. State words 256 and 257 keep turn count and last angle. The words it writes come with the result: one bin when it learns,
every bin on reset. -/
def Dev.runRep (d : Dev) (a : Nat) (x p st : List Int) : BlkRes × List Int :=
  let w := sword (d.rget (Reg.FLD_SPEED a))
  let ang : Int := (d.rget (Reg.FLD_ANGLE a)).toNat
  let reset := nth x 2 != 0
  let frozen := d.repAcc a (nth p 6) || decide ((w.natAbs : Int) < nth p 7) || !(tget d.fld a).valid || d.axOf a != .driving || reset
  let dAng := toSigned 32 (fromSigned 32 (ang - nth st 257))
  let turns := nth st 256 + (if 0 < dAng ∧ ang < nth st 257 then 1 else if dAng < 0 ∧ nth st 257 < ang then -1 else 0)
  let pos := [turns % max 1 (nth p 1), ang]
  let b := d.repBin a p turns
  let r := repctl b frozen reset (nth x 0) p st
  (⟨r.outs, r.st ++ pos, r.sat⟩, (if reset then r.st else if frozen then [] else [nth r.st b]) ++ pos)

/-- One execution of instance `n` in engine `e`; `e`'s effects outside the engine count only when it drives (R260). -/
def Dev.runInst (d : Dev) (e n : Nat) (i : CeInst) : Dev :=
  let inp := d.ceInputs e n 0 i.ins
  let x := inp.map Prod.fst
  let d := if inp.any Prod.snd then d.ceSticky e n else d
  let p := i.pars.map (fun k => sword (d.rget (Reg.CE_PAR k)))
  let st := d.ceState e n i.init
  let drives := d.ceDriver i.axis == e
  match i.type with
  | 0x01 => d.ceWrite e n ⟨[match i.src with | some s => d.ceSource e i.cur.isSome s | none => 0], st, false⟩
  | 0x02 =>
    match i.sink with
    | some (.aux ax item) =>
      if drives then
        d.ceMod (fun c => { c with auxNext := tmod c.auxNext ax (fun v => tset v item (some (wordOfInt (nth x 0)))) })
      else d
    | _ => d
  | 0x1C =>
    match i.axis with
    | some a =>
      let r := d.runRep a x p (if st.length = 258 then st else List.replicate 258 0)
      d.ceWriteW e n r.1 r.2
    | none => d
  | 0x1D =>
    let g := tget d.ce.gen i.unit
    d.ceWrite e n (ceArith [(g.y, g.sat), satWith false g.v, satWith false g.a] (st.map (·, false)))
  | 0x1E =>
    match i.axis with
    | some a =>
      let y := d.axlim a (nth x 0)
      let d := if drives then d.ceMod (fun c => { c with iref := tset c.iref a y }) else d
      d.ceWrite e n ⟨[y], st, false⟩
    | none => d.ceWrite e n ⟨[nth x 0], st, false⟩
  | 0x1F =>
    let r := ceMonitor x p st
    let d := d.ceWrite e n ⟨[], [r.1], false⟩
    if drives && r.2 then (d.ev (0xD8 + i.unit)).occ (0x0940 + i.unit) (d.ceNames (0x0940 + i.unit) i.axis) else d
  | t => d.ceWrite e n (ceBlock t x p st)

/-- Engine `e` executes the instances of a section in the static order: the background (`none`) or the current section of
an axis (R265). -/
def Dev.runSection (d : Dev) (e : Nat) (sec : Option Nat) : Dev :=
  d.ce.graph.foldl (fun d g => if g.2.cur = sec && d.ceRuns e g.2.axis then d.runInst e g.1 g.2 else d) d

/-! ### Agreement (R277, R278) -/

/-- One agreement from the samples `x` of CE-A and `y` of CE-B; the value before it is kept for the current sections of R265. -/
def Dev.agree (d : Dev) (i : Nat) (x y : Int) : Dev :=
  let g := tget d.ce.agr i
  if d.agrDig i then
    let val := if x = y ∧ g.pa = x ∧ g.pb = x then x else g.val
    let cnt := if x = y then 0 else g.cnt + 1
    let d := d.ceMod (fun c => { c with agr := tset c.agr i ⟨val, g.val, x, y, cnt⟩ })
    if x = y then d
    else
      let d := d.wsat Reg.CE_CNT 0 8
      if cnt = d.rf Reg.CE_CFG 16 8 then (d.wb Reg.CE_FLAGS 3 true).occ 0x0904 (d.ceNames 0x0904 none) else d
  else
    let tol : Int := d.agrTol i * 65536
    if (x - y).natAbs ≤ tol.natAbs then d.ceMod (fun c => { c with agr := tset c.agr i ⟨x, g.val, x, y, 0⟩ })
    else
      let d := d.ceMod (fun c => { c with agr := tset c.agr i { g with old := g.val } })
      ((d.wsat Reg.CE_CNT 8 8).wb Reg.CE_FLAGS 2 true).occ 0x0903 (d.ceNames 0x0903 none)

/-- Each engine samples the sources that are agreed (R265); `skew` gives the samples of CE-B that differ from those of CE-A. -/
def Dev.sampleAsync (d : Dev) (e : Nat) (skew : List (Nat × Int)) : Dev :=
  let entries := d.agrEntries
  let live (k i : Nat) : Int := d.liveSample k (d.agrSrc i).1 (d.agrSrc i).2
  let sa := entries.map (fun i => (i, live 0 i))
  let sb := entries.map (fun i => (i, (skew.find? (fun k => k.1 == i)).elim (live 1 i) Prod.snd))
  if d.ceMode = 1 then d.engMod e (fun g => { g with samp := if e = 0 then sa else sb })
  else
    let d := (d.engMod 0 (fun g => { g with samp := sa })).engMod 1 (fun g => { g with samp := sb })
    if d.ceAgrees then
      entries.foldl (fun d i => d.agree i ((aget sa i).getD 0) ((aget sb i).getD 0)) d
    else d

/-! ### Lanes (R268, R269) -/

/-- The largest change of a lane's output in a step for a slew code in 2^−4 pu/s; `none` when unlimited. -/
def Dev.slewStep (d : Dev) (code : Nat) : Option Int :=
  if code = 0 then none else some (rdiv 268 (code * 16777216 * d.rf Reg.CE_STEP 0 19) 400000000)

/-- An output follows a target within rising and falling limits. -/
def follow (up down : Option Int) (y r : Int) : Int :=
  if y ≤ r then match up with | some u => min r (y + u) | none => r
  else match down with | some u => max r (y - u) | none => r

/-- A lane is lost: flag, and under FAULT the fault 0x0907; under ZERO and FAULT the target becomes 0 (R269). -/
def Dev.laneLose (d : Dev) (l : Nat) : Dev :=
  if (tget d.ce.lane l).lost then d else
  let mode := d.rf (Reg.CE_LANE_CFG l) 22 2
  let d := (d.laneMod' l (fun x => { x with lost := true })).wb Reg.CE_FLAGS 6 true
  let d := if mode = 0 then d else d.rset (Reg.CE_LANE_TGT l) 0
  d.occIf (mode == 2) 0x0907 (d.ceNames 0x0907 (some (d.laneAxis l)))

/-- A SETPOINT for a lane takes effect: the target, and any loss ends (R268, R269). -/
def Dev.laneSet (d : Dev) (l : Nat) (v : Word) : Dev :=
  (d.rset (Reg.CE_LANE_TGT l) v).laneMod' l (fun x => { x with lost := false })

/-- The engine whose decoder a CMDIN lane uses. -/
def Dev.laneEngine (d : Dev) (l : Nat) : Nat := d.ceDriver (some (d.laneAxis l))

/-- The decoder loss or range that a CMDIN lane sees: agreed in paired mode (R269, R278). -/
def Dev.laneDecoderLost (d : Dev) (l c : Nat) : Bool := d.asyncVal (d.laneEngine l) false 0x0A c != 0

/-- The target of a lane at a step (R268, R269). -/
def Dev.laneTarget (d : Dev) (l : Nat) : Dev :=
  let src := d.rf (Reg.CE_LANE_CFG l) 24 4
  if src = 0 ∨ 4 < src then d
  else if d.laneDecoderLost l (src - 1) then d.laneLose l
  else d.laneSet l (wordOfInt (d.asyncVal (d.laneEngine l) false 0x07 (src - 1)))

/-- The generator that serves a lane. -/
def Dev.laneGen (d : Dev) (l : Nat) : Option Nat := [0, 1].find? (fun g => (tget d.ce.gen g).lane == some l)

/-- One step of a lane: target, then output under slew limits or its generator (R268, R270). -/
def Dev.laneStep (d : Dev) (l : Nat) : Dev :=
  if !d.rb (Reg.CE_LANE_CFG l) 31 then d else
  let d := d.laneTarget l
  let y := sword (d.rget (Reg.CE_LANE_OUT l))
  let r := sword (d.rget (Reg.CE_LANE_TGT l))
  match d.laneGen l with
  | some g =>
    let res := genStep (tget d.ce.gen g) r (d.rget (Reg.CE_PG_V g)).toNat (d.rget (Reg.CE_PG_A g)).toNat
      (d.rget (Reg.CE_PG_J g)).toNat (d.rf Reg.CE_STEP 0 19)
    let d := d.ceMod (fun c => { c with gen := tset c.gen g res.1 })
    let d := (d.rset (Reg.CE_LANE_OUT l) (ceSat res.1.y).1).laneMod' l (fun x => { x with delta := res.1.y - y })
    d.evIf res.2 (0xD1 + g)
  | none =>
    let slew := d.rget (Reg.CE_LANE_SLEW l)
    let y' := follow (d.slewStep (fget slew 0 16)) (d.slewStep (fget slew 16 16)) y r
    (d.rset (Reg.CE_LANE_OUT l) (wordOfInt y')).laneMod' l (fun x => { x with delta := y' - y })

/-- R269: a HOST lane has had no SETPOINT for `TMO` while its axis is supervised. -/
def Dev.axisSupervised (d : Dev) (x : Nat) : Bool :=
  if x < 4 then (d.axOf x).active else decide (1 ≤ d.rf (Reg.AUX_STAT (x - 4)) 29 3 ∧ d.rf (Reg.AUX_STAT (x - 4)) 29 3 ≤ 4)

/-- LANE_TIMEOUT (R269). -/
def Dev.laneTimeout (d : Dev) (l : Nat) : Dev :=
  let cfg := d.rget (Reg.CE_LANE_CFG l)
  if bget cfg 31 && fget cfg 24 4 == 0 && fget cfg 0 10 != 0 && d.axisSupervised (d.laneAxis l) then d.laneLose l else d

/-- LANE_TIMEOUT. -/
def execLaneTimeout (l : Nat) (s : State) : Host.Outcome State Fault Refusal := s.run (·.laneTimeout l)

/-- R269: a host-lane loss ends when its axis leaves ENABLED, DRIVING and STOPPING. -/
def Dev.lanesUnsupervised (d : Dev) (x : Nat) : Dev :=
  (List.range 32).foldl (fun d l =>
    if d.laneAxis l = x ∧ d.rf (Reg.CE_LANE_CFG l) 24 4 = 0 then d.laneMod' l (fun y => { y with lost := false }) else d) d

/-! ### Generators (R270) -/

/-- The lane that `CE_PGg_CFG` gives generator `g`. -/
def pgLane (v : Word) : Option Nat := if bget v 31 then some (fget v 0 5) else none

/-- R270: a change of `LANE` or `EN` takes effect: the newly served lane starts from its output, with its rate of change in
the last step clamped to V, and acceleration 0. -/
def Dev.pgApply (d : Dev) (g : Nat) (v : Word) : Dev :=
  let d := d.rset (Reg.CE_PG_CFG g) v
  if pgLane v = (tget d.ce.gen g).lane then d
  else
    match pgLane v with
    | none => d.ceMod (fun c => { c with gen := tmod c.gen g (fun x => { x with lane := none }) })
    | some l =>
      let n := d.rf Reg.CE_STEP 0 19
      let v28 : Int := (d.rget (Reg.CE_PG_V g)).toNat * 4096
      let vel := clampInt (-v28) v28 (rdiv 270 ((tget d.ce.lane l).delta * 400000000) n)
      d.ceMod (fun c => { c with gen := tset c.gen g ⟨some l, sword (d.rget (Reg.CE_LANE_OUT l)), vel, 0, false⟩ })

/-! ### CMDIN decoders (R271) -/

/-- A valid raw value joins the average of decoder `c` of engine `e`. -/
def Dev.cmdTake (d : Dev) (e c : Nat) (x : Int) : Dev :=
  let old := tget (tget d.ce.dec e) c
  let n := 2 ^ d.rf (Reg.CE_CMD_CFG c) 27 3
  let vals := (x :: old.vals).take n
  let avg := rdiv 0x271 (vals.foldl (· + ·) 0) vals.length
  let lim := d.rget (Reg.CE_CMD_LIM c)
  let range := decide (avg < (fget lim 0 16 : Nat)) || decide (((fget lim 16 16 : Nat) : Int) < avg)
  let d := d.ceMod (fun s => { s with dec := tmod s.dec e (fun v => tset v c ⟨vals, avg, false, range, none⟩) })
  if e = 0 then
    ((d.wb (Reg.CE_CMD_VAL c) 31 false).wb (Reg.CE_CMD_VAL c) 30 range).wf (Reg.CE_CMD_VAL c) 0 16 (fromSigned 16 avg)
  else d

/-- The raw value of a DUTY or FREQ edge, when it is valid: period and high time in ticks of 2.5 ns. -/
def Dev.cmdRaw (d : Dev) (c per high : Nat) : Option Int :=
  match d.rf (Reg.CE_CMD_CFG c) 30 2 with
  | 2 => if 40000 ≤ per ∧ per ≤ 40000000 then some (rdiv 0x272 (high * 10000) per) else none
  | 3 => if 20000 ≤ per ∧ per ≤ 400000000 then some (rdiv 0x273 800000000 per) else none
  | _ => none

/-- CMDIN_EDGE: a rising edge gives each engine's decoder a period and a high time, in ticks of 2.5 ns. -/
def Dev.cmdEdge (d : Dev) (c perA highA perB highB : Nat) : Dev :=
  let take (d : Dev) (e per high : Nat) : Dev := match d.cmdRaw c per high with | some x => d.cmdTake e c x | none => d
  take (take d 0 perA highA) 1 perB highB

/-- CMDIN_EDGE. -/
def execCmdinEdge (d perA highA perB highB : Nat) (s : State) : Host.Outcome State Fault Refusal :=
  s.run (·.cmdEdge d perA highA perB highB)

/-- ANALOG: a SAR result of a command input in mV, rounded, waits for the step of each engine (R271); of several in a step the latest
counts (log entry 160). -/
def Dev.cmdAnalog (d : Dev) (c v : Nat) : Dev :=
  if d.rf (Reg.CE_CMD_CFG c) 30 2 = 1 then
    let x := rnear 0x274 (v * 6000) 4096
    d.ceMod (fun s => { s with dec := s.dec.map (fun v => tmod v c (fun y => { y with raw := some x })) })
  else d

/-- ANALOG: at its step engine `e` takes the value of each input of which a result arrived in the step (R271). -/
def Dev.cmdStep (d : Dev) (e : Nat) : Dev :=
  [0, 1, 2, 3].foldl (fun d c => match (tget (tget d.ce.dec e) c).raw with | some x => d.cmdTake e c x | none => d) d

/-- DECODER_LOSS: no valid value reached decoder `c` of engine `e` for `LOSS_T`; event 0xD4 + c. -/
def Dev.decoderLoss (d : Dev) (e c : Nat) : Dev :=
  if (tget (tget d.ce.dec e) c).loss then d else
  let d := d.ceMod (fun s => { s with dec := tmod s.dec e (fun v => tmod v c (fun x => { x with loss := true })) })
  let d := if e = 0 then d.wb (Reg.CE_CMD_VAL c) 31 true else d
  d.ev (0xD4 + c)

/-- DECODER_LOSS. -/
def execDecoderLoss (e d : Nat) (s : State) : Host.Outcome State Fault Refusal := s.run (·.decoderLoss e d)

/-! ### Injection (R284, R285) -/

/-- The axis that an instance serves. -/
def Dev.instAxis (d : Dev) (n : Nat) : Option Nat := match aget d.ce.graph n with | some i => i.axis | none => none

/-- The axis of the target of injection unit `g`. -/
def Dev.injAxis (d : Dev) (g : Nat) : Option Nat := d.instAxis (d.rf (Reg.CE_INJ_TGT g) 0 9)

/-- An injection ends with a cause (1 DONE, 2 STOPPED, 3 AXIS_STATE, 4 DEVICE_STATE, 5 MODE): `RUN` clears, event
0xCF + g, and for the last three fault 0x090A. -/
def Dev.injEnd (d : Dev) (g cause : Nat) : Dev :=
  if d.rb (Reg.CE_INJ_CTL g) 0 then
    let d := ((d.wb (Reg.CE_INJ_CTL g) 0 false).wf (Reg.CE_INJ_STAT g) 28 4 cause).ev (0xCF + g)
    let d := d.ceMod (fun c => { c with inj := tmod c.inj g (fun x => { x with val := 0 }) })
    d.occIf (decide (3 ≤ cause)) 0x090A (d.ceNames 0x090A (d.injAxis g))
  else d

/-- A write of `CE_INJg_CTL.RUN` takes effect at its commit point (R285). -/
def Dev.injRun (d : Dev) (g : Nat) (run : Bool) : Dev :=
  if run then
    if d.rb (Reg.CE_INJ_CTL g) 0 then d
    else
      let ok := match d.injAxis g with | some x => d.axisSupervised x | none => true
      if ok then
        let d := (d.rset (Reg.CE_INJ_STAT g) 0).wb (Reg.CE_INJ_CTL g) 0 true
        d.ceMod (fun c => { c with inj := tset c.inj g ⟨2 ^ d.rf (Reg.CE_INJ_CFG g) 24 4 - 1, 0, 0, 0, 0⟩ })
      else (d.wb (Reg.CE_INJ_CTL g) 0 true).injEnd g 3
  else d.injEnd g 2

/-- The injections of an axis that leaves ENABLED, DRIVING and STOPPING end (R285). -/
def Dev.injAxisLeft (d : Dev) (x : Nat) : Dev :=
  [0, 1].foldl (fun d g => if d.injAxis g = some x then d.injEnd g 3 else d) d

/-- The XOR taps of the PRBS register of `n` bits (R284). -/
def prbsTaps : Nat → List Nat
  | 7 => [7, 6] | 8 => [8, 6, 5, 4] | 9 => [9, 5] | 10 => [10, 7] | 11 => [11, 9]
  | 12 => [12, 11, 10, 4] | 13 => [13, 12, 11, 8] | 14 => [14, 13, 12, 2] | 15 => [15, 14] | _ => []

/-- One shift of the Fibonacci LFSR of `n` bits. -/
def prbsNext (n s : Nat) : Nat :=
  let fb := (prbsTaps n).foldl (fun x t => (x + s / 2 ^ (t - 1)) % 2) 0
  (s * 2 + fb) % 2 ^ n

/-- The largest number `r` below `2^k` above the bits already found with `r^n ≤ m`. -/
def irootGo (n m : Nat) : Nat → Nat → Nat
  | 0, r => r
  | k + 1, r => irootGo n m k (if (r + 2 ^ k) ^ n ≤ m then r + 2 ^ k else r)

/-- Frequency `i` of `n` spaced logarithmically from `f0` to `f1`, in 2^−16 of their unit, rounded either way (R284, log entry 8). -/
def logFreq (f0 f1 n i : Nat) : Nat :=
  let m := (f0 * 65536) ^ (n - 1 - i) * (f1 * 65536) ^ i
  let r := irootGo (n - 1) m 50 0
  if r ^ (n - 1) = m then r else r + (Config.roundUp 0x284 r n).toNat

/-- The frequency of the sweep at which injection unit `g` is, in 2^−16 × 0.01 Hz. -/
def Dev.sweepFreq (d : Dev) (g : Nat) : Nat :=
  logFreq (d.rget (Reg.CE_INJ_F0 g)).toNat (d.rget (Reg.CE_INJ_F1 g)).toNat (max 2 (d.rf (Reg.CE_INJ_CFG g) 8 8)) (tget d.ce.inj g).seg

/-- The steps that `DWELL` whole cycles of a frequency take, rounded either way; a frequency of 0 has no cycles: free. -/
def Dev.dwellSteps (d : Dev) (g : Nat) : Nat :=
  (rdiv 0x2840 (d.rf (Reg.CE_INJ_CFG g) 0 8 * 40000000000 * 65536) (d.sweepFreq g * d.rf Reg.CE_STEP 0 19)).natAbs

/-- A sine of amplitude `amp` at a phase of `num ÷ den` turns (R284). -/
def sineAt (amp : Int) (num den : Nat) : Int := rdiv 0x286 (amp * sinQ (rdiv 0x287 (num * 4294967296) den).toNat) 1073741824

/-- The value of an injection in its next step (R284): which stage of the LFSR is the bit, and which level adds `AMP`, is free (log
entry 32). The phase of a chirp is the integral of its linear frequency from the start. -/
def Dev.injValue (d : Dev) (g : Nat) : Int :=
  let amp := sword (d.rget (Reg.CE_INJ_AMP g))
  let x := tget d.ce.inj g
  let n := d.rf (Reg.CE_INJ_CFG g) 24 4
  let step := d.rf Reg.CE_STEP 0 19
  match d.rf (Reg.CE_INJ_CFG g) 29 3 with
  | 1 => amp
  | 2 => if x.lfsr / 2 ^ ((Config.freeFun 0x285 [n]).natAbs % n) % 2 = (Config.freeFun 0x2850 []).natAbs % 2 then amp else -amp
  | 3 => sineAt amp (x.segN * d.sweepFreq g * step) (40000000000 * 65536)
  | 4 =>
    let k := d.rf (Reg.CE_INJ_STAT g) 0 24
    let dur := d.rf (Reg.CE_INJ_DUR g) 0 24
    let f0 := (d.rget (Reg.CE_INJ_F0 g)).toNat
    let f1 := (d.rget (Reg.CE_INJ_F1 g)).toNat
    sineAt amp ((2 * f0 * k * dur + f1 * k * k - f0 * k * k) * step) (2 * dur * 40000000000)
  | _ => 0

/-- The injection has come to its natural end (R284): `DUR` steps, and for SWEEP the last of its frequencies. -/
def Dev.injDone (d : Dev) (g : Nat) : Bool :=
  if d.rf (Reg.CE_INJ_CFG g) 29 3 = 3 then decide (d.rf (Reg.CE_INJ_CFG g) 8 8 ≤ (tget d.ce.inj g).seg)
  else decide (d.rf (Reg.CE_INJ_DUR g) 0 24 ≤ d.rf (Reg.CE_INJ_STAT g) 0 24)

/-- One step of a running injection: its natural end, or its next value (R284, R285). -/
def Dev.injStep (d : Dev) (g : Nat) : Dev :=
  if !d.rb (Reg.CE_INJ_CTL g) 0 then d
  else if d.injDone g then d.injEnd g 1
  else
    let x := tget d.ce.inj g
    let adv := decide (d.rf (Reg.CE_INJ_CFG g) 16 8 ≤ x.hold + 1)
    let next := decide (d.dwellSteps g ≤ x.segN + 1)
    let x' : CeInj := ⟨if adv then prbsNext (d.rf (Reg.CE_INJ_CFG g) 24 4) x.lfsr else x.lfsr, if adv then 0 else x.hold + 1,
      d.injValue g, if next then x.seg + 1 else x.seg, if next then 0 else x.segN + 1⟩
    (d.ceMod (fun c => { c with inj := tset c.inj g x' })).wsat (Reg.CE_INJ_STAT g) 0 24

/-! ### The step (R264, R265, R267, R276, R282) -/

/-- Words of an applied parameter block reach both engines from this step on (R275). -/
def Dev.takeWords (d : Dev) : Dev :=
  (d.ce.words.foldl (fun d w => d.rset (Reg.CE_PAR w.1) w.2) d).ceMod (fun c => { c with words := [] })

/-- Which lanes and injections a step of engine `e` moves: its own half in split mode, all otherwise. -/
def Dev.stepsAxis (d : Dev) (e : Nat) (axis : Option Nat) : Bool := if d.ceMode = 1 then halfOf axis == e else true

/-- The engines start a step: no output withheld, the CRC at its initial value, the speeds of their axes sampled. -/
def Dev.stepFresh (d : Dev) (e : Nat) (es : List Nat) : Dev :=
  let d := es.foldl (fun d k => d.engMod k (fun g => { g with withhold := false, crc := 0xFFFFFFFF#32, stepAt := d.now })) d
  [0, 1, 2, 3].foldl (fun d a => if d.stepsAxis e (some a) then
    d.ceMod (fun c => { c with spdPrev := tset c.spdPrev a (tget c.spd a), spd := tset c.spd a (sword (d.rget (Reg.FLD_SPEED a))) })
    else d) d

/-- CE_STEP_START of engine `e`, with the engines that step with it (R264). The background section runs here as a whole (log
entry 34). -/
def Dev.ceStepStart (d : Dev) (e : Nat) (skew : List (Nat × Int)) : Dev :=
  let es := d.stepping e
  if es = [] then d else
  let d := es.foldl (fun d k => d.ev (0xC8 + k)) d
  let d := if es.contains 0 then d.wmod Reg.CE_STATUS 0 16 else d
  let d := es.foldl Dev.cmdStep (d.takeWords.stepFresh e es)
  let d := d.sampleAsync e skew
  let d := es.foldl (fun d k => d.engMod k (fun g => { g with seen := [] })) d
  let d := (List.range 32).foldl (fun d l => if d.stepsAxis e (some (d.laneAxis l)) then d.laneStep l else d) d
  let d := [0, 1].foldl (fun d g => if d.stepsAxis e (d.injAxis g) then d.injStep g else d) d
  es.foldl (fun d k => d.runSection k none) d

/-- CE_STEP_START. -/
def execCeStepStart (e : Nat) (skew : List (Nat × Int)) (s : State) : Host.Outcome State Fault Refusal :=
  s.run (·.ceStepStart e skew)

/-- The v_d and v_q that the current section of axis `a` gives in engine `e`. -/
def Dev.ceVref (d : Dev) (e a : Nat) : Int × Int :=
  match d.ce.graph.find? (fun g => g.2.type == 0x02 && g.2.sink == some (.vref a)) with
  | some g =>
    match d.ceInputs e g.1 0 g.2.ins with
    | x :: y :: _ => (x.1, y.1)
    | [x] => (x.1, 0)
    | [] => (0, 0)
  | none => (0, 0)

/-- The axis has a voltage sink in the graph. -/
def Dev.hasVref (d : Dev) (a : Nat) : Bool := d.ce.graph.any (fun g => g.2.type == 0x02 && g.2.sink == some (.vref a))

/-- The engines compare the results of axis `a`: in paired mode, and in the shadow steps of a join (R276, R282). -/
def Dev.ceCompares (d : Dev) : Bool := d.ceMode == 0 || (d.ceMode == 2 && decide (4 ≤ d.joinStep))

/-- A checkpoint fails (R276; in a join R282): `bit` of `CE_FLAGS`, count field, fault code. Which engine the record names is free (log
entry 127). -/
def Dev.ceMismatch (d : Dev) (bit lo code : Nat) : Dev :=
  let d := (d.wsat Reg.CE_CNT lo 8).wb Reg.CE_FLAGS bit true
  if d.ceMode = 2 then d.ceMod (fun c => { c with joinBad := true })
  else (d.ev 0xCA).occ code (d.ceNames code none)

/-- The current section of axis `a` runs in the engines (R265); the answer holds the voltage that reaches the field unit,
if one does (R276). `upset`: a computation fault changed one engine's output. -/
def Dev.ceCurrent (d : Dev) (a : Nat) (upset : Bool) : Dev × Option (Int × Int) :=
  let d := if d.ceRuns 0 (some a) then d.runSection 0 (some a) else d
  let d := if d.ceRuns 1 (some a) then d.runSection 1 (some a) else d
  let v := d.ceVref (d.ceDriver (some a)) a
  let differ := d.ceCompares && (upset || d.ceVref 0 a != d.ceVref 1 a)
  let d := if differ then d.ceMismatch 0 24 0x0901 else d
  if d.ceHeld (some a) || !d.hasVref a || (differ && d.ceMode == 0) then (d, none)
  else (d.ceMod (fun c => { c with vref := tset c.vref a v }), some v)

/-- STEP_OVERRUN of engine `e`: fault 0x0905, and its outputs of this step are withheld (R267). -/
def Dev.overrun (d : Dev) (e : Nat) : Dev :=
  ((d.engMod e (fun g => { g with withhold := true })).wb Reg.CE_FLAGS 4 true).occ 0x0905 e

/-- STEP_OVERRUN. -/
def execStepOverrun (e : Nat) (s : State) : Host.Outcome State Fault Refusal := s.run (·.overrun e)

/-! ### Capture (R286, R287) -/

/-- Bytes of one record: the widths rounded up to a multiple of 4. -/
def capSize (sigs : List CapSig) : Nat := ((sigs.map (fun s => if s.half then 2 else 4)).foldl (· + ·) 0 + 3) / 4 * 4

/-- The bytes of a record, each signal most significant byte first (log entry 35). -/
def Dev.capRecord (d : Dev) (sigs : List CapSig) : List Byte :=
  sigs.foldl (fun bs s =>
    let w := fromSigned 32 (d.ceOut s.eng s.inst s.port)
    bs ++ (if s.half then beBytes 2 (w / 65536) else beBytes 4 w)) []

/-- The state of the capture unit in `CE_CAPSTAT` (0 IDLE, 1 FILLING, 2 TRIGGERED, 3 DONE). -/
def Dev.setCap (d : Dev) (st : Nat) : Dev := d.wf Reg.CE_CAPSTAT 30 2 st

/-- The unit acts on its trigger once it has written `P` records (R287). -/
def Dev.capAct (d : Dev) : Dev :=
  match d.ce.cap with
  | some c =>
    if c.trig && !c.acted && decide (c.p ≤ d.rf Reg.CE_CAPSTAT 0 17) then
      ((d.ceMod (fun s => { s with cap := some { c with acted := true, left := c.n - c.p } })).setCap 2).ev 0xCD
    else d
  | none => d

/-- The capture-trigger sink has received the events `ns` (R286, R287): the armed unit takes its own trigger event alone. -/
def Dev.capTrigger (d : Dev) (ns : List Nat) : Dev :=
  match d.ce.cap with
  | some c => if ns.contains c.event then (d.ceMod (fun s => { s with cap := some { c with trig := true } })).capAct else d
  | none => d

/-- R287: at the end of a step of the named engine, which steps with `e`, every D-th one, a record is written; under SRAM_M none is
(R419). -/
def Dev.capStep (d : Dev) (e : Nat) : Dev :=
  match d.ce.cap with
  | none => d
  | some c =>
    if d.bistUnit = some 5 then d
    else if !(c.sigs.head?.any (fun s => (d.stepping e).contains s.eng)) then d
    else if c.step + 1 < c.dec then d.ceMod (fun s => { s with cap := some { c with step := c.step + 1 } })
    else
      let size := capSize c.sigs
      let at' := 0x200000 + c.idx * size
      let d := (d.mwrite at' (d.capRecord c.sigs)).unpoison at' size
      let idx := (c.idx + 1) % c.n
      let w := min (d.rf Reg.CE_CAPSTAT 0 17 + 1) 65536
      let d := d.wf Reg.CE_CAPSTAT 0 17 w
      let d := d.rset Reg.CE_CAPPOS (BitVec.ofNat 32 (size * 65536 + (if w < c.n then 0 else idx)))
      let left := if c.acted then c.left - 1 else 0
      if c.acted && decide (left = 0) then ((d.ceMod (fun s => { s with cap := none })).setCap 3).ev 0xCE
      else (d.ceMod (fun s => { s with cap := some { c with step := 0, idx := idx, left := left } })).capAct

/-- R286: the capture unit is armed, or cancelled by `none`. A capture in progress ends with `CANCELLED`. -/
def Dev.capArm (d : Dev) (c : Option CeCap) : Dev :=
  let was := d.ce.cap.isSome
  match c with
  | none => if was then ((d.ceMod (fun s => { s with cap := none })).setCap 0).wb Reg.CE_CAPSTAT 29 true else d
  | some c =>
    let d := d.rset Reg.CE_CAPSTAT (BitVec.ofNat 32 (1 * 0x40000000 + was.toNat * 0x20000000))
    let d := d.rset Reg.CE_CAPPOS (BitVec.ofNat 32 (capSize c.sigs * 65536))
    (d.ceMod (fun s => { s with cap := some c })).capAct

/-! ### The end of a step -/

/-- The CRCs over the state words that the two engines have written in the step differ (R276, R282). -/
def Dev.stateDiffers (d : Dev) : Bool := (d.engine 0).crc != (d.engine 1).crc

/-- The copy of a join is complete: each engine holds the other's half as well (R282); an engine that returns from BIST holds a copy
of both halves (R283). -/
def Dev.joinCopy (d : Dev) : Dev :=
  match d.ce.rejoin with
  | some r => d.engMod r (fun g => { g with outs := (d.engine (1 - r)).outs, st := (d.engine (1 - r)).st })
  | none =>
  let isA (n : Nat) : Bool := halfOf (d.instAxis n) == 0
  let pick {β : Type} (x y : List (Nat × β)) : List (Nat × β) :=
    (y.filter (fun p => !isA p.1)).foldl (fun l p => aput l p.1 p.2) (x.filter (fun p => isA p.1))
  let outs := pick (d.engine 0).outs (d.engine 1).outs
  let st := pick (d.engine 0).st (d.engine 1).st
  (d.engMod 0 (fun g => { g with outs := outs, st := st })).engMod 1 (fun g => { g with outs := outs, st := st })

/-- The mode of the engines with the join step; an engine under BIST is not in service (R283). -/
def Dev.setCeMode (d : Dev) (m j : Nat) : Dev :=
  let d := if m = 2 then d else d.ceMod (fun c => { c with rejoin := none })
  (((d.wf Reg.CE_STATUS 29 3 m).wf Reg.CE_STATUS 24 4 j).wb Reg.CE_STATUS 23 (m != 4)).wb Reg.CE_STATUS 22 (m != 3)

/-- R282: a join step ends: the copy after step 3, failure in steps 4–11, success after step 11. The fault of a failed return names
the engine that returns; after it the mode is SPLIT, as R282 says of a join (log entry 130). -/
def Dev.joinEnd (d : Dev) : Dev :=
  if d.ce.joinBad then
    let names := d.ce.rejoin.getD ((Config.freeFun 0x288 [0x0906]).natAbs % 2)
    let d := (d.setCeMode 1 0).ceMod (fun c => { c with joinBad := false })
    ((d.wb Reg.CE_FLAGS 5 true).ev 0xCC).occ 0x0906 names
  else if d.joinStep = 3 then (d.setCeMode 2 4).joinCopy
  else if 11 ≤ d.joinStep then (d.setCeMode 0 0).ev 0xCB
  else d.setCeMode 2 (d.joinStep + 1)

/-- What the step wrote to sink 0x82 of aux axis `x` reaches the axis, unless it is withheld (R258, R267; log entry 126). -/
def Dev.auxDeliver (d : Dev) (x : Nat) : Dev :=
  let held := d.ceHeld (some (4 + x))
  d.ceMod (fun c =>
    let n := tget c.auxNext x
    { c with
      auxNext := tset c.auxNext x (Vector.replicate 2 none)
      auxIn := if held then c.auxIn
        else tmod c.auxIn x (fun v => tset (tset v 0 ((tget n 0).getD (tget v 0))) 1 ((tget n 1).getD (tget v 1))) })

/-- `CE_LOAD` and its monitor keep the longest use of engine `k` (R376). -/
def Dev.ceUse (d : Dev) (k use : Nat) : Dev :=
  (d.hlt 0x07 k use).wf Reg.CE_LOAD (16 * k) 16 (max (d.rf Reg.CE_LOAD (16 * k) 16) (min 65535 (use / 8)))

/-- CE_STEP_END: the state CRCs are compared where both engines run the graph, aux outputs are delivered, capture records are
written, `CE_LOAD` keeps the longest use (R276, R287). `upset`: a computation fault changed a state word of one engine. -/
def Dev.ceStepEnd (d : Dev) (e : Nat) (upset : Bool) (useA useB : Nat) : Dev :=
  let es := d.stepping e
  if es = [] then d else
  let d := if d.ceCompares && (upset || d.stateDiffers) then d.ceMismatch 1 16 0x0902 else d
  let d := es.foldl (fun d k => d.ceUse k (if k = 0 then useA else useB)) d
  let d := [0, 1].foldl (fun d x => if es.contains (d.ceDriver (some (4 + x))) then d.auxDeliver x else d) d
  let d := d.capStep e
  if d.ceMode = 2 then d.joinEnd else d

/-- CE_STEP_END. -/
def execCeStepEnd (e : Nat) (upset : Bool) (useA useB : Nat) (s : State) : Host.Outcome State Fault Refusal :=
  s.run (·.ceStepEnd e upset useA useB)

/-- R281, R282: a mode change at the common boundary: `split` or a join. The answer is whether it takes effect (STATE
otherwise). Running injections end with cause MODE (R285). -/
def Dev.ceModeChange (d : Dev) (split : Bool) : Dev × Bool :=
  if d.ceMode = (if split then 1 else 0) ∨ 2 ≤ d.ceMode then (d, false)
  else
    let d := [0, 1].foldl (fun d g => d.injEnd g 5) d
    if split then ((d.setCeMode 1 0).ev 0xCB, true)
    else ((d.setCeMode 2 1).ceMod (fun c => { c with joinBad := false }), true)

/-! ### Parameter blocks (R275) -/

/-- Word `k` of a block whose words start at byte `base` of staging. -/
def Dev.blockWord (d : Dev) (base k : Nat) : Word := BitVec.ofNat 32 (beNat (d.mread (0x250000 + base + 4 * k) 4))

/-- A value lies within the bounds of every field of a tuning register (R85). -/
def inBounds (v : Word) (bs : List FieldBound) : Bool :=
  bs.all (fun b =>
    let x := if b.signed then toSigned b.width (fget v b.lo b.width) else ((fget v b.lo b.width : Nat) : Int)
    decide (b.min ≤ x) && decide (x ≤ b.max))

/-- The axis whose commit point a parameter word belongs to (R274). -/
def Dev.parAxis (d : Dev) (i : Nat) : Nat := (aget d.img.parOwner i).getD 0

/-- The verdict on one word of a block: 1 applied, 2 RANGE, 3 PRIV; host 4 stands for the debug port. A word without bounds is refused; the spec does not say
with which of the two (log entry 36). -/
def Dev.blockVerdict (d : Dev) (host i : Nat) (v : Word) : Nat :=
  match aget d.img.bounds (Reg.CE_PAR i) with
  | none => 2 + (Config.freeFun 0x275 [i]).natAbs % 2
  | some bs =>
    if !inBounds v bs then 2
    else match aget d.img.parOwner i with
      | some x => if d.owner x = host ∨ 4 ≤ host then 1 else 3
      | none => 1

/-- Word `k` of a block lies in the staging region and is poisoned (R14). -/
def Dev.blockPoison (d : Dev) (x : CeTake) (k : Nat) : Bool :=
  decide (x.base + 4 * k + 4 ≤ 65536) && d.poisoned (0x250000 + x.base + 4 * k) 4

/-- A consumer of the control plane takes a poisoned word as a sensing fault (R14): one of the 34 codes of R224, slots 254–287 (log
entry 103). -/
def Dev.senseFault (d : Dev) : Dev :=
  match codeOf (254 + d.free 14 % 34) with
  | some c => (d.occ c.1 0).tick1
  | none => d.tick1

/-- The first failing word of a block from word `k` on, with its verdict; one beyond the staging region is out of range. A poisoned
word is not applied (R14): which of the two refusals shows it, and under which code of R224 its sensing fault is reported, the spec
does not say (log entry 103). -/
def Dev.blockFail (d : Dev) (x : CeTake) : Nat → Nat → Option (Nat × Nat)
  | 0, _ => none
  | n + 1, k =>
    let v := if 65536 < x.base + 4 * k + 4 then 2
      else if d.blockPoison x k then 2 + (Config.freeFun 0x14 [(k : Int)]).natAbs % 2
      else d.blockVerdict x.host (x.first + k) (d.blockWord x.base k)
    if v = 1 then d.blockFail x n (k + 1) else some (x.first + k, v)

/-- A write of `CE_PBLK` takes effect at its commit point: the take begins. -/
def Dev.blockStart (d : Dev) (host : Nat) (v : Word) (pair : Option (Nat × Nat)) : Dev :=
  (d.rset Reg.CE_PBLK v).ceMod (fun c =>
    { c with take := c.take ++ [⟨host, fget v 16 12, fget v 0 11, d.rf Reg.CE_PBLK_SRC 0 16, pair⟩] })

/-- The take at the front ends: the whole block is applied from the next step on, or none of it (R275). -/
def Dev.blockEnd (d : Dev) (x : CeTake) : Dev :=
  let d := d.ceMod (fun c => { c with take := c.take.drop 1 })
  let d := if (List.range x.count).any (d.blockPoison x) then d.senseFault else d
  match d.blockFail x x.count 0 with
  | none =>
    let ws := (List.range x.count).map (fun k => (x.first + k, d.blockWord x.base k))
    (d.ceMod (fun c => { c with words := c.words ++ ws })).rset Reg.CE_PBLK_STAT (BitVec.ofNat 32 (0x40000000 + x.count))
  | some (i, v) =>
    (d.rset Reg.CE_PBLK_STAT (BitVec.ofNat 32 (v * 0x40000000 + i * 65536 + x.count))).wb Reg.CE_FLAGS 7 true

/-- The status that the completion of a block's write carries (R275): 0 OK, 1 RANGE, 2 PRIV. -/
def Dev.blockResult (d : Dev) : Nat := d.rf Reg.CE_PBLK_STAT 30 2 - 1

end Sys2Proof.Machine
end

