-- ==== Sys2Proof/Machine/DcLink.lean ====
section
/-! DEFINITION. The DC link: measuring, threshold ladder, choppers, the safe-state selector with the axis transitions it
causes, and discharge (chapter 12, R312–R328; R28, R180, R250, R335). -/

namespace Sys2Proof.Machine

def Dev.dclMod (d : Dev) (f : Dcl → Dcl) : Dev := { d with dcl := f d.dcl }
def Dev.chopMod (d : Dev) (i : Nat) (f : Chop → Chop) : Dev := d.dclMod (fun x => { x with chop := tmod x.chop i f })
/-- Chopper `i`. -/
def Dev.chopper (d : Dev) (i : Nat) : Chop := tget d.dcl.chop i

/-- A threshold in 0.1 V is reached by a voltage in 2^−17 V. -/
def reaches (v : Int) (thr : Nat) : Bool := decide ((thr : Int) * 131072 ≤ v * 10)

/-- A voltage in 2^−17 V as a 16-bit count of 0.1 V. -/
def decivolt (v : Int) : Nat := min 65535 (rdiv 312 (v * 10) 131072).toNat

/-! ### The selector (R324, R250, R333, R335) -/

/-- STO with `STO_ACT` = OFF is in effect. -/
def Dev.stoOff (d : Dev) : Bool := d.rb Reg.SAFE_STO 31 && !d.rb Reg.SAFE_CFG 29

/-- The GI lane of an axis is up at the CD (R180). -/
def Dev.axisLaneUp (d : Dev) (a : Nat) : Bool := !(tget d.link (if a < 2 then 12 else 13)).cdLost

/-- The speed that the selector takes from the field unit (R250, R255), 0.01 Hz. -/
def Dev.selSpeed (d : Dev) (a : Nat) : Int :=
  let l := d.leader a
  let f := tget d.fld l
  if d.rf (Reg.FLD_STAT l) 10 2 != 0 then
    match f.acqSpeed with
    | some w => w
    | none => sword (d.rget (Reg.FLD_HELD l))
  else
    match d.axOf a with
    | .asc => f.ascSpeed
    | .freewheel => if d.hallValid l then d.hallSpeed l else sword (d.rget (Reg.FLD_HELD l))
    | _ => sword (d.rget (Reg.FLD_SPEED l))

/-- E ≥ V_M for an axis at speed `w` (R324): squares are compared, so √3 needs no rounding. With both inputs stale it counts as met
(R313). -/
def Dev.emfAbove (d : Dev) (a : Nat) (w : Int) : Bool :=
  let l := d.leader a
  let e : Int := (d.rf (Reg.FLD_MACH2 l) 0 16 : Int) * w.natAbs * d.rf (Reg.FLD_VBASE l) 0 16 * 131072
  let v : Int := d.dcl.vm * 40960 * d.rf (Reg.FLD_RATED l) 0 18
  (d.rb Reg.DCL_STAT 31 && d.rb Reg.DCL_STAT 30) || decide (v * v ≤ 3 * e * e)

/-- The present choice of an axis: `true` is ASC. -/
def Dev.choice (d : Dev) (a : Nat) : Bool := d.rb Reg.DCL_SELSTAT (4 * a)

/-- R324, R333: what the selector decides for an axis at speed `w`. -/
def Dev.selWant (d : Dev) (a : Nat) (w : Int) : Bool :=
  if d.axOf a = .idle ∨ d.axOf a = .diag then false
  else if d.stoOff then false
  else
    match d.rf (Reg.DCL_SEL a) 30 2 with
    | 1 => false
    | 2 => true
    | _ =>
      let w' := w.natAbs
      let on := 10 * d.rf (Reg.DCL_SEL a) 0 16
      let hys := 10 * d.rf (Reg.DCL_SEL a) 16 12
      let base := if on ≤ w' then true else if w' + hys < on then false else d.choice a
      base || (d.rb Reg.DCL_STAT 23 && d.emfAbove a w)

/-- The selector decides again at speed `w`; a changed choice raises event 0xEF. -/
def Dev.selDecideAt (d : Dev) (a : Nat) (w : Int) : Dev :=
  let c := d.selWant a w
  let nib := c.toNat + 2 * (d.rb Reg.DCL_STAT 23).toNat + 4 * (d.emfAbove a w).toNat
  (d.wf Reg.DCL_SELSTAT (4 * a) 4 nib).evIf (c != d.choice a) 0xEF

/-- The selector decides again at the speed of R250. -/
def Dev.selDecide (d : Dev) (a : Nat) : Dev := d.selDecideAt a (d.selSpeed a)

/-- The torque monitor of an axis makes no checks: its counts are 0 and T_f follows the lane `SAFE_TMa_CFG.LANE` (R339). -/
def Dev.tmRest (d : Dev) (a : Nat) : Dev :=
  let x := sword (d.rget (Reg.CE_LANE_OUT (d.rf (Reg.SAFE_TM_CFG a) 16 5)))
  let d := (d.wf (Reg.SAFE_TM_STAT a) 0 16 0).lvlOff (0x0C14 + a) 0
  { d with safe := { d.safe with tf := tset d.safe.tf a x } }

/-- A traction axis takes a state, with what ends when it leaves ENABLED, DRIVING and STOPPING (R269, R285); the torque monitor's checks
begin or end there (R339). -/
def Dev.axMove (d : Dev) (a : Nat) (st : AState) : Dev :=
  let d1 := d.setAx a st
  let d1 := if (d.axOf a).active != st.active then d1.tmRest a else d1
  let d1 := if (d.axOf a).active && !st.active then (d1.injAxisLeft a).lanesUnsupervised a else d1
  if st.safe then d1 else { d1 with axCause := tset d1.axCause a [] }

/-- A traction axis takes a state, and the selector decides again (R324). -/
def Dev.axGo (d : Dev) (a : Nat) (st : AState) : Dev := (d.axMove a st).selDecide a

/-- The state that the selector's choice gives. -/
def choiceState (asc : Bool) : AState := if asc then .asc else .freewheel

/-- The choice that the GI applies to an axis: the present one, or the last sent while the lane is down (R180). -/
def Dev.applies (d : Dev) (a : Nat) : Bool :=
  if d.axisLaneUp a then d.choice a else tget (tget d.link (if a < 2 then 12 else 13)).sent a

/-- R28: an axis that is ENABLED, DRIVING or STOPPING goes at once to its selector's choice. -/
def Dev.toSafe (d : Dev) (a : Nat) : Dev :=
  if (d.axOf a).active then
    let d := d.selDecide a
    d.axGo a (choiceState (d.applies a))
  else d

/-- R249: the axis goes at once to the choice for a held speed; the speed of R250 decides from the next evaluation on. -/
def Dev.toSafeAt (d : Dev) (a : Nat) (w : Int) : Dev :=
  if (d.axOf a).active then
    let d := d.selDecideAt a w
    d.axMove a (choiceState (d.applies a))
  else d

/-- A fault has led the axis to its safe state, or holds it there (R28). -/
def Dev.blame (d : Dev) (code a : Nat) : Dev :=
  if (d.axOf a).safe && !(tget d.axCause a).contains code then
    { d with axCause := tset d.axCause a (tget d.axCause a ++ [code]) }
  else d

/-- R317: while the overvoltage demand stands, an axis that is, or becomes, ENABLED, DRIVING or STOPPING goes at once to its selector's
choice. -/
def Dev.heed (d : Dev) (a : Nat) : Dev :=
  if d.rb Reg.DCL_STAT 23 && d.axisLaneUp a then
    (d.toSafe a).blame (if d.rb Reg.DCL_STAT 26 then 0x0B06 else 0x0B07) a
  else d

/-- The path of an attempt at re-acquisition (R251, R252); a probe pulse under way ends with its path. -/
def Dev.setAcq (d : Dev) (a : Nat) (p : AcqPath) : Dev :=
  let d := d.wf (Reg.FLD_STAT a) 10 2 p.code
  if p = .probe then d
  else (d.group a).foldl (fun d x => (d.pwMod x (fun w => { w with probe := Vector.replicate 3 false })).syncGates x) d

/-- Re-acquisition of axis `a` ends: the attempt under way, further ones, and the way back to DRIVING. -/
def Dev.acqEnd (d : Dev) (a : Nat) : Dev :=
  let d := if d.rf (Reg.FLD_STAT a) 10 2 = 0 then d else d.setAcq a .none
  { d with fld := tmod d.fld a (fun f => { f with acqNext := false, resume := false }) }

/-- R250: an attempt restarts on the ASC path when its axis goes from FREEWHEEL to ASC. What it has measured stays the selectors' speed
until that path has measured its own: DESIGN CHOICE (log entry 156). -/
def Dev.acqToAsc (d : Dev) (a : Nat) : Dev :=
  if 2 ≤ d.rf (Reg.FLD_STAT a) 10 2 ∧ d.axOf a = .asc then
    let d := d.setAcq a .asc
    { d with fld := tmod d.fld a (fun f => { f with acqN := 0, acqIncs := [], acqMag := 0 }) }
  else d

/-- R28, R180, R335: ASC and FREEWHEEL follow the choice while the axis's GI lane is up. -/
def Dev.followChoice (d : Dev) (a : Nat) : Dev :=
  if (d.axOf a).safe && d.axisLaneUp a && d.axOf a != choiceState (d.choice a) then (d.axGo a (choiceState (d.choice a))).acqToAsc a
  else d

/-- The selector of an axis decides and the axis follows. -/
def Dev.select (d : Dev) (a : Nat) : Dev := (d.selDecide a).followChoice a

/-- The selectors of all axes. -/
def Dev.selectAll (d : Dev) : Dev := [0, 1, 2, 3].foldl Dev.select d

/-! ### Choppers (R318–R322) -/

/-- `DCL_CHi_CFG.MODE`: 0 OFF, 1 MAIN, 2 STANDBY. -/
def Dev.chopMode (d : Dev) (i : Nat) : Nat := d.rf (Reg.DCL_CH_CFG i) 30 2

/-- R320: the chopper works. -/
def Dev.works (d : Dev) (i : Nat) : Bool := d.chopMode i != 0 && !(d.chopper i).faulty && !(d.chopper i).noFall

/-- `CHOP_NEED`. -/
def Dev.chopNeed (d : Dev) : Nat := d.rf Reg.DCL_CFG 4 2

/-- The working MAIN choppers. -/
def Dev.mainWorking (d : Dev) : Nat := (([0, 1]).filter (fun i => d.chopMode i == 1 && d.works i)).length

/-- R320: the chopper may chop. -/
def Dev.mayChop (d : Dev) (i : Nat) : Bool :=
  !(d.chopper i).faulty && (d.chopMode i == 1 || (d.chopMode i == 2 && decide (d.mainWorking < d.chopNeed)))

/-- R322: the ladder is escalated. -/
def Dev.escNow (d : Dev) : Bool :=
  decide ((([0, 1]).filter d.works).length < d.chopNeed) || ([0, 1]).all (fun i => d.chopMode i != 1)

/-- The on-time of a chopper in 1/16 tick (R318). -/
def Dev.chopOn (d : Dev) (i : Nat) : Nat :=
  let per := 16 * d.rf (Reg.PWM_C_PER i) 0 24
  if !(d.rb Reg.DCL_STAT 28 && d.mayChop i) then 0
  else if d.rb Reg.DCL_CFG 0 then
    let off : Int := d.rf Reg.DCL_VCHOP 0 16 * 131072
    let full : Int := d.rf Reg.DCL_VFULL 0 16 * 131072
    (clampInt 0 per (rdiv 318 ((d.dcl.vl * 10 - off) * per) (full - off).toNat)).toNat
  else per

/-- R318, R321: the DCL writes the compare of chopper `i` for the channel's next boundary, and starts or stops the time of
full duty. -/
def Dev.chopWrite (d : Dev) (i : Nat) : Dev :=
  let on := d.chopOn i
  let per := 16 * d.rf (Reg.PWM_C_PER i) 0 24
  let d := { d with chan := tmod d.chan i (fun c => { c with cmp0St := some (BitVec.ofNat 32 on) }) }
  let full := on == per && decide (0 < per)
  let d := d.chopMod i (fun c => { c with fallFrom := if full then some (c.fallFrom.getD d.dcl.vl) else none })
  let d := (d.wb (Reg.DCL_CH_STAT i) 31 (d.rb Reg.DCL_STAT 28 && d.mayChop i)).wb (Reg.DCL_CH_STAT i) 30 (d.works i)
  d.wf (Reg.DCL_CH_STAT i) 16 8 (rdiv 0x318 (on * 100) per).toNat

/-- Escalation follows the working choppers: fault 0x0B09 and event 0xED at each change (R322). -/
def Dev.escalate (d : Dev) : Dev :=
  let e := d.escNow
  if e = d.rb Reg.DCL_STAT 24 then d else ((d.wb Reg.DCL_STAT 24 e).ev 0xED).lvlSet e 0x0B09 0

/-- k of R316 in Q3.28, and in `DCL_STAT.KREG`; it follows V_L at every evaluation, without persistence (DEDUCED, log entry 133). -/
def Dev.clampFactor (d : Dev) : Dev :=
  let vc := if d.rb Reg.DCL_STAT 24 then d.rf Reg.DCL_VCHOP 16 16 else d.rf Reg.DCL_VOV 0 16
  let ov2 := d.rf Reg.DCL_VOV 16 16
  let v := d.dcl.vl * 10
  let num := (ov2 : Int) * 131072 - v
  let den := (ov2 - vc) * 131072
  let k := if v ≤ (vc : Int) * 131072 then pu else if num ≤ 0 then 0 else rdiv 0x3160 (num * pu) den
  let kr := if v ≤ (vc : Int) * 131072 then 32768 else if num ≤ 0 then 0 else (rdiv 0x3161 (num * 32768) den).toNat
  (d.dclMod (fun x => { x with k := k })).wf Reg.DCL_STAT 0 16 kr

/-- What follows from the choppers' marks and the ladder state. -/
def Dev.dclOutputs (d : Dev) : Dev := ((d.escalate).clampFactor.chopWrite 0).chopWrite 1

/-! ### Measuring and the ladder (R313, R315–R317) -/

/-- The demand of R317; its end clears fault 0x0B06. While it stands, driven axes go to their choices. -/
def Dev.demand (d : Dev) : Dev :=
  let now := d.rb Reg.DCL_STAT 26 || d.rb Reg.DCL_STAT 25
  let d := d.wb Reg.DCL_STAT 23 now
  if now then [0, 1, 2, 3].foldl Dev.heed d else d.lvlOff 0x0B06 0

/-- One crossing with persistence (R315): the counter goes on while the condition holds; the answer is the new counter and
whether it takes effect. -/
def persist (n filt : Nat) (c : Bool) : Nat × Bool :=
  if c then if filt ≤ n + 1 then (0, true) else (n + 1, false) else (0, false)

/-- The crossings of V_CHOP, V_OV1 and V_OV2 at one evaluation (R315). -/
def Dev.ladder (d : Dev) : Dev :=
  let filt := d.rf Reg.DCL_TIME 8 4
  let v := d.dcl.vl
  let hys := d.rf Reg.DCL_VOV3 16 16
  let chop := d.rb Reg.DCL_STAT 28
  let c := persist d.dcl.cChop filt
    (if chop then !reaches v (d.rf Reg.DCL_VCHOP 0 16) else reaches v (d.rf Reg.DCL_VCHOP 16 16))
  let d1 := (d.dclMod (fun x => { x with cChop := c.1 })).wb Reg.DCL_STAT 28 (chop != c.2)
  let d1 := d1.evIf (c.2 && !chop) 0xE8
  let o1 := d.rb Reg.DCL_STAT 27
  let c1 := persist d.dcl.cOv1 filt
    (if o1 then !reaches v (d.rf Reg.DCL_VOV 0 16 - hys) else reaches v (d.rf Reg.DCL_VOV 0 16))
  let d1 := ((d1.dclMod (fun x => { x with cOv1 := c1.1 })).wb Reg.DCL_STAT 27 (o1 != c1.2)).evIf (c1.2 && !o1) 0xE9
  let d1 := if c1.2 then d1.lvlSet (!o1) 0x0B05 0 else d1
  let o2 := d.rb Reg.DCL_STAT 26
  let c2 := persist d.dcl.cOv2 filt
    (if o2 then !reaches v (d.rf Reg.DCL_VOV 16 16 - hys) else reaches v (d.rf Reg.DCL_VOV 16 16))
  let d1 := ((d1.dclMod (fun x => { x with cOv2 := c2.1 })).wb Reg.DCL_STAT 26 (o2 != c2.2)).evIf (c2.2 && !o2) 0xEA
  let d1 := if c2.2 && !o2 then d1.lvlOn 0x0B06 0 else d1
  d1.demand

/-- A link input is stale at this moment: marked STALE in its latest value, or timed out. -/
def Dev.vdcStale (d : Dev) (c : Nat) : Bool := d.rb (Reg.ADC_LAT c 4) 16 || d.rb Reg.DCL_STAT (31 - c)

/-- R313: fresh inputs that disagree. -/
def Dev.vdcDisagree (d : Dev) : Bool :=
  let a := d.dcl.a
  let b := d.dcl.b
  let lim := max ((d.rf Reg.DCL_PLAUS 0 8 : Int) * max a b) ((d.rf Reg.DCL_PLAUS 16 8 : Int) * 131072000)
  decide (lim < ((a - b).natAbs : Int) * 1000)

/-- V_L, V_M and the input faults from the newest values (R313). -/
def Dev.linkVolts (d : Dev) : Dev :=
  let sa := d.vdcStale 0
  let sb := d.vdcStale 1
  let dis := if !sa && !sb && d.vdcDisagree then d.dcl.dis + 1 else 0
  let impl := !sa && !sb && decide (d.rf Reg.DCL_PLAUS 8 8 ≤ dis)
  let d := ((d.wb Reg.DCL_STAT 31 sa).wb Reg.DCL_STAT 30 sb).wb Reg.DCL_STAT 29 impl
  let d := if impl then d.wb Reg.DCL_FLAGS 3 true else d
  let d := d.dclMod (fun x => { x with dis := dis })
  let d := ((d.lvlSet impl 0x0B01 0).lvlSet (sa && !sb) 0x0B02 0).lvlSet (sb && !sa) 0x0B03 0
  let d := d.lvlSet (sa && sb) 0x0B04 0
  let a := d.dcl.a
  let b := d.dcl.b
  let v : Int × Int :=
    if sa && sb then (d.dcl.vl, d.dcl.vm)
    else if sa then (b, b) else if sb then (a, a)
    else (max a b, if impl then (if d.rb Reg.DCL_CFG 8 then b else a) else (a + b) / 2)
  let d := d.dclMod (fun x => { x with vl := v.1, vm := v.2 })
  (d.wf Reg.DCL_VDC 16 16 (decivolt v.2)).wf Reg.DCL_VDC 0 16 (decivolt v.1)

/-- V_M below V_SAFE for the first time in a discharge: event 0xEE (R326). -/
def Dev.dischBelow (d : Dev) : Dev :=
  if d.rb Reg.DCL_DSTAT 31 && !d.rb Reg.DCL_DSTAT 30 && !reaches d.dcl.vm (d.rf Reg.DCL_DLIM 0 16) then
    (d.wb Reg.DCL_DSTAT 30 true).ev 0xEE
  else d

/-- One evaluation of the DCL with the values as they are (R313–R318, R324). -/
def Dev.dclEval (d : Dev) : Dev :=
  let d := d.linkVolts
  let frozen := d.rb Reg.DCL_STAT 31 && d.rb Reg.DCL_STAT 30
  let d := if frozen then d else d.ladder
  ((d.dclOutputs.dischBelow).selectAll).hlt 0x0A 0 (decivolt d.dcl.vl)

/-- DCL_EVALUATION: input `c` (0 `VDC_A`, 1 `VDC_B`) has been updated (R312, R313). -/
def Dev.dclUpdate (d : Dev) (c : Nat) : Dev :=
  let code : Int := d.rf (Reg.ADC_LAT c 4) 2 14
  if c = 0 then
    let v := code * d.rf Reg.DCL_SCALE_A 0 24 * 2
    let d := (d.dclMod (fun x => { x with a := v })).wf Reg.DCL_VAB 0 16 (decivolt v)
    (d.wb Reg.DCL_STAT 31 false).dclEval
  else
    let v := code * d.rf Reg.DCL_SCALE_B 0 24 * 2
    let d := (d.dclMod (fun x => { x with b := v })).wf Reg.DCL_VAB 16 16 (decivolt v)
    (d.wb Reg.DCL_STAT 30 false).dclEval

/-- DCL_EVALUATION. -/
def execDclEvaluation (c : Nat) (s : State) : Host.Outcome State Fault Refusal := s.run (·.dclUpdate c)

/-- VDC_STALE: input `c` has not been updated for `VDC_TMO`. -/
def Dev.vdcTimeout (d : Dev) (c : Nat) : Dev := (d.wb Reg.DCL_STAT (31 - c) true).dclEval

/-- VDC_STALE. -/
def execVdcStale (c : Nat) (s : State) : Host.Outcome State Fault Refusal := s.run (·.vdcTimeout c)

/-! ### The V_OV3 comparator (R319, R55) -/

/-- The status of the GI reaches the CD on one of its lanes. -/
def Dev.giHeard (d : Dev) : Bool := d.laneUp 12 || d.laneUp 13

/-- The CD has the comparator's state from a status field (R175, R319): flag, event 0xEB, fault 0x0B07 and the demand. -/
def Dev.ov3Seen (d : Dev) : Dev :=
  if d.rb Reg.DCL_STAT 25 = d.dcl.tripped then d
  else if d.dcl.tripped then
    let d := ((d.wb Reg.DCL_STAT 25 true).wb Reg.DCL_FLAGS 2 true).ev 0xEB
    ((d.lvlOn 0x0B07 0).demand).selectAll
  else (((d.wb Reg.DCL_STAT 25 false).lvlOff 0x0B07 0).demand).selectAll

/-- OV3_TRIP: the GI holds the choppers on; the CD sets the demand, event 0xEB and fault 0x0B07. -/
def Dev.ov3Trip (d : Dev) : Dev :=
  let d := d.dclMod (fun x => { x with tripped := true })
  let d := [0, 1].foldl (fun d i => if d.giMayChop i then d.swMod (24 + i) Switch.islTurnOn else d) d
  if d.giHeard then d.ov3Seen else d

/-- OV3_TRIP. -/
def execOv3Trip (s : State) : Host.Outcome State Fault Refusal := s.run Dev.ov3Trip

/-- The fallback holds chopper `i` on (R323): `OVREF` stands at or above its level, and the last valid frame carried a mode other than OFF
and no mark. -/
def Dev.fbkHolds (d : Dev) (i : Nat) : Bool := (d.chopper i).fbk && (d.chopper i).fbkOn && d.giMayChop i

/-- OV3_RELEASE: the comparator releases; the choppers follow the DCL, or the fallback, again. -/
def Dev.ov3Release (d : Dev) : Dev :=
  let d := d.dclMod (fun x => { x with tripped := false })
  let d := [0, 1].foldl (fun d i =>
    let on := if (d.chopper i).fbk then d.fbkHolds i else (d.swi (24 + i)).cdSent
    d.swMod (24 + i) (if on then Switch.islTurnOn else Switch.islTurnOff)) d
  if d.giHeard then d.ov3Seen else d

/-- OV3_RELEASE. -/
def execOv3Release (s : State) : Host.Outcome State Fault Refusal := s.run Dev.ov3Release

/-- OV3_PLAUSIBILITY_TIMER: comparator and ADC path have disagreed for 10 µs while both inputs are fresh (R319). -/
def Dev.ov3Plausible (d : Dev) : Dev :=
  let lvl : Int := d.rf Reg.DCL_VOV3 0 16 * 131072
  let v := d.dcl.vl * 10
  let bad := if d.rb Reg.DCL_STAT 25 then decide (v * 100 < lvl * 95) else decide (lvl * 103 < v * 100)
  d.occIf (!d.vdcStale 0 && !d.vdcStale 1 && bad) 0x0B08 0

/-- OV3_PLAUSIBILITY_TIMER. -/
def execOv3PlausibilityTimer (s : State) : Host.Outcome State Fault Refusal := s.run Dev.ov3Plausible

/-! ### Chopper health (R321) -/

/-- A chopper is marked: cause 1 OPEN, 2 OVERCURRENT, 3 STUCK_ON, 4 NO_FALL, 5 GATE; event 0xEC, and the fault of the
first four. A faulty chopper is commanded off at once and its compare is 0. -/
def Dev.chopMark (d : Dev) (i cause : Nat) : Dev :=
  let d := ((d.wb Reg.DCL_FLAGS i true).wf (Reg.DCL_CH_STAT i) 27 3 cause).ev 0xEC
  let d := if cause < 5 then d.lvlOn (0x0B10 + cause + 8 * i) 0 else d
  let d :=
    if cause = 4 then d.chopMod i (fun c => { c with noFall := true })
    else
      let d := d.chopMod i (fun c => { c with faulty := true })
      (d.rset (Reg.PWM_C_CMP0 i) 0).ilkOff (24 + i)
  d.dclOutputs

/-- The tag of a BCS result (R321): ON or OFF once the switch of chopper `i` has been confirmed so for `BCS_SETTLE`. -/
def Dev.bcsTag (d : Dev) (i : Nat) : Option Bool :=
  let x := d.swi (24 + i)
  if d.now < x.confAt + 20 * d.rf (Reg.DCL_CH_CHK i) 16 8 then none
  else if x.islOnConf then some true else if x.islOff then some false else none

/-- A result with a tag (`on` says ON or OFF) is judged. A chopper in mode OFF is not, as its `R_BR` has no effect (R320), nor one whose
marks have been cleared before its next on-time. -/
def Dev.bcsJudge (d : Dev) (i code : Nat) (on : Bool) : Dev :=
  let scale := d.rf (Reg.DCL_CH_BCS i) 0 24
  let r := d.rf (Reg.DCL_CH_CFG i) 0 16
  let chk := d.rget (Reg.DCL_CH_CHK i)
  let x : Int := (code * scale * 2 * r * 100 : Nat)
  let e : Int := d.dcl.vl * 1000
  let d := d.wf (Reg.DCL_CH_STAT i) 0 16 (min 65535 (rdiv 321 (code * scale : Nat) 65536).toNat)
  let used := d.chopMode i != 0 && !(d.chopper i).wait
  let bad : List Bool :=
    [used && on && decide (x < e * (100 - (fget chk 6 6 : Int))), used && on && decide (e * (100 + (fget chk 6 6 : Int)) < x),
     used && !on && decide (e * (fget chk 0 6 : Int) < x)]
  let cnt := Vector.ofFn (fun j : Fin 3 => if bad.getD j.val false then (d.chopper i).cnt[j] + 1 else 0)
  let d := d.chopMod i (fun c => { c with cnt := cnt })
  let n := fget chk 12 4
  match [0, 1, 2].find? (fun j => decide (n ≤ tget cnt j) && bad.getD j false) with
  | some j => if (d.chopper i).faulty then d else d.chopMark i (j + 1)
  | none => d

/-- BCS_RESULT: the latest value of channel BCS of converter 2 + i has come (R207, R209, R321); a result without a tag is ignored. The
tag is judged as the result comes (log entry 131). -/
def Dev.bcsResult (d : Dev) (i : Nat) : Dev :=
  match d.bcsTag i with
  | none => d
  | some on => d.bcsJudge i (d.rf (Reg.ADC_LAT (2 + i) 9) 2 14) on

/-- BCS_RESULT. -/
def execBcsResult (i : Nat) (s : State) : Host.Outcome State Fault Refusal := s.run (·.bcsResult i)

/-- NO_FALL_TIMER: d has been 1 for `T_FALL`; without a fall of V_L the chopper is marked NO_FALL (R321). -/
def Dev.noFallEnd (d : Dev) (i : Nat) : Dev :=
  match (d.chopper i).fallFrom with
  | none => d
  | some v =>
    let d1 := d.chopMod i (fun c => { c with fallFrom := some d.dcl.vl })
    if v ≤ d.dcl.vl && !(d.chopper i).noFall && !(d.chopper i).faulty then d1.chopMark i 4 else d1

/-- NO_FALL_TIMER. -/
def execNoFallTimer (i : Nat) (s : State) : Host.Outcome State Fault Refusal := s.run (·.noFallEnd i)

/-- A write of 1 to `DCL_FLAGS.FAULTYi` clears both marks; the checks judge the chopper again (R321). -/
def Dev.chopClear (d : Dev) (i : Nat) : Dev :=
  let d := (d.wb Reg.DCL_FLAGS i false).wf (Reg.DCL_CH_STAT i) 27 3 0
  let d := d.chopMod i (fun c => { c with faulty := false, noFall := false, wait := true, fallFrom := none, cnt := Vector.replicate 3 0 })
  let d := [1, 2, 3, 4].foldl (fun d c => d.lvlOff (0x0B10 + c + 8 * i) 0) d
  d.dclOutputs

/-- FALLBACK_LEVEL_CROSS: `OVREF` reaches the fallback level of chopper `i`, or falls 40 mV below it; during the fallback the chopper
follows (R323). Outside it the GI holds the side alone, so that a fallback that begins finds it (log entry 149). -/
def Dev.fallbackCross (d : Dev) (i : Nat) (above : Bool) : Dev :=
  let d := d.chopMod i (fun c => { c with fbkOn := above })
  if (d.chopper i).fbk && d.giMayChop i then
    if above then d.swMod (24 + i) Switch.islTurnOn
    else if d.dcl.tripped then d else d.swMod (24 + i) Switch.islTurnOff
  else d

/-- FALLBACK_LEVEL_CROSS. -/
def execFallbackLevelCross (i : Nat) (above : Bool) (s : State) : Host.Outcome State Fault Refusal :=
  s.run (·.fallbackCross i above)

/-! ### Discharge (R325, R326) -/

/-- Discharge channel `i` is failed, on. -/
def Dev.adFailed (d : Dev) (i : Nat) : Bool := d.rb Reg.DCL_DSTAT (26 + i)
def Dev.adOn (d : Dev) (i : Nat) : Bool := d.rb Reg.DCL_DSTAT (28 + i)

/-- Discharge channel `i` runs at `DUTY`, or stops. -/
def Dev.setAd (d : Dev) (i : Nat) (on : Bool) : Dev :=
  let per := 16 * d.rf (Reg.PWM_C_PER (2 + i)) 0 24
  let v := if on then (rdiv 326 (per * d.rf Reg.DCL_DCFG 16 7 : Nat) 100).toNat else 0
  let d := d.wb Reg.DCL_DSTAT (28 + i) on
  let d := { d with chan := tmod d.chan (2 + i) (fun c => { c with cmp0St := some (BitVec.ofNat 32 v) }) }
  if on then d else d.ilkOff (26 + i)

/-- The channels that run are those of `l`. -/
def Dev.setAds (d : Dev) (l : List Nat) : Dev :=
  [0, 1].foldl (fun d i => if d.adOn i != l.contains i then d.setAd i (l.contains i) else d) d

/-- A probe begins with channel `i` alone. -/
def Dev.probeStart (d : Dev) (i : Nat) : Dev :=
  (d.setAds [i]).dclMod (fun x => { x with probe := some i, vmStart := x.vm })

/-- The usable channels run together; a channel that is the only one runs alone, in probes. -/
def Dev.runAll (d : Dev) : Dev :=
  match [0, 1].filter (fun i => !d.adFailed i) with
  | [i] => d.probeStart i
  | l => (d.setAds l).dclMod (fun x => { x with probe := none })

/-- What runs after the probe of channel `i`, or at the start with `i` = 2 (R326): fault 0x0B23 with no usable channel. Once V_M has been
below V_SAFE the channels that are on stay on, and a usable one that is off comes on only where none is left. -/
def Dev.nextProbe (d : Dev) (i : Nat) : Dev :=
  if d.adFailed 0 && d.adFailed 1 then ((d.setAds []).dclMod (fun x => { x with probe := none })).occ 0x0B23 0
  else if d.rb Reg.DCL_DSTAT 30 && [0, 1].any (fun i => d.adOn i && !d.adFailed i) then
    (d.setAds ([0, 1].filter (fun i => d.adOn i && !d.adFailed i))).dclMod (fun x => { x with probe := none })
  else if d.rb Reg.DCL_DCFG 30 then d.probeStart (if d.adFailed 0 then 1 else 0)
  else if i = 2 ∧ !d.adFailed 0 then d.probeStart 0
  else if (i = 2 ∨ i = 0) ∧ !d.adFailed 1 then d.probeStart 1
  else d.runAll

/-- A discharge starts: failed marks clear, first probe (R325, R326). -/
def Dev.dischargeStart (d : Dev) : Dev :=
  if d.rb Reg.DCL_DSTAT 31 then d
  else
    let d := d.rset Reg.DCL_DSTAT 0x80000000
    let d := d.dclMod (fun x => { x with start := d.now })
    let d := [0, 1].foldl (fun d i =>
      if (tget d.link (12 + i)).cdLost then (d.wb Reg.DCL_DSTAT (26 + i) true).occ (0x0B21 + i) 0 else d) d
    (d.nextProbe 2).dischBelow

/-- A discharge ends; the channels stop. -/
def Dev.dischargeEnd (d : Dev) : Dev :=
  if d.rb Reg.DCL_DSTAT 31 then
    let el := min 65535 ((d.now - d.dcl.start) / (10 * msTicks))
    (((d.setAds []).wb Reg.DCL_DSTAT 31 false).wf Reg.DCL_DSTAT 0 16 el).dclMod (fun x => { x with probe := none })
  else d

/-- Channel `i` fails: fault 0x0B21 + i, off, and the next usable channel starts at once (R326). -/
def Dev.adFail (d : Dev) (i : Nat) : Dev :=
  if d.rb Reg.DCL_DSTAT 31 && !d.adFailed i then
    let d1 := (d.wb Reg.DCL_DSTAT (26 + i) true).occ (0x0B21 + i) 0
    match d.dcl.probe with
    | some j => if j = i then d1.nextProbe i else d1
    | none => d1.nextProbe 1
  else d

/-- DISCHARGE_PROBE_END: a channel that ran alone is judged (R326). After `BELOW` the channels stay on and none is. -/
def Dev.probeEnd (d : Dev) : Dev :=
  match d.rb Reg.DCL_DSTAT 31 && !d.rb Reg.DCL_DSTAT 30, d.dcl.probe with
  | true, some i =>
    let v := d.dcl.vmStart
    let low := reaches v (d.rf Reg.DCL_DLIM 0 16) &&
      decide ((v - d.dcl.vm) * 100 < (d.rf Reg.DCL_DCFG 0 8 : Int) * v)
    if low then d.adFail i else d.nextProbe i
  | _, _ => d

/-- DISCHARGE_PROBE_END. -/
def execDischargeProbeEnd (s : State) : Host.Outcome State Fault Refusal := s.run Dev.probeEnd

/-- DISCHARGE_TARGET_TIMEOUT: V_M is still at or above V_SAFE after `TARGET` (R326). -/
def Dev.targetTimeout (d : Dev) : Dev :=
  d.occIf (d.rb Reg.DCL_DSTAT 31 && reaches d.dcl.vm (d.rf Reg.DCL_DLIM 0 16)) 0x0B24 0

/-- DISCHARGE_TARGET_TIMEOUT. -/
def execDischargeTargetTimeout (s : State) : Host.Outcome State Fault Refusal := s.run Dev.targetTimeout

end Sys2Proof.Machine
end

