-- ==== Sys2Proof/Machine/AuxAxes.lean ====
section
/-! DEFINITION. The auxiliary actuator axes: coil current, profile, microsteps, targets, stopping, homing and DC mode
(chapter 11, R290–R311). Aux axis x (0 X, 1 Y) uses PWM channel 4 + x; its commit point is axis number 4 + x. -/

namespace Sys2Proof.Machine

/-- Aux axis `x`. -/
def Dev.auxOf (d : Dev) (x : Nat) : Aux := tget d.aux x
def Dev.auxMod (d : Dev) (x : Nat) (f : Aux → Aux) : Dev := { d with aux := tmod d.aux x f }

/-- A fault of aux axis `x` (R310). -/
def auxFault (x c : Nat) : Nat := 0x0A00 + 0x10 * x + c

/-! ### The legs of a bridge (R290, R291, R293) -/

/-- A leg is given side `s` at tick `t`: the other switch turns off at once, and the switch of `s` turns on `dt` ticks after it. -/
def AuxLeg.turn (l : AuxLeg) (dt t : Nat) (s : LegSide) : AuxLeg :=
  if l.side = s then { l with next := none }
  else
    let hi := if l.side = .high ∧ l.since ≤ t then some t else l.hiOff
    let lo := if l.side = .low ∧ l.since ≤ t then some t else l.loOff
    let apart (o : Option Nat) : Nat := match o with | some u => max t (u + dt) | none => t
    { side := s, since := (match s with | .high => apart lo | .low => apart hi | .off => t), hiOff := hi, loOff := lo, next := none }

/-- The leg at tick `t`: a side that was to follow by then has followed. -/
def AuxLeg.settle (l : AuxLeg) (dt t : Nat) : AuxLeg :=
  match l.next with
  | some (u, s) => if u ≤ t then l.turn dt u s else l
  | none => l

/-- `PWM_Cj_DT` of the axis's channel, ticks. -/
def Dev.auxDt (d : Dev) (x : Nat) : Nat := d.rf (Reg.PWM_C_DT (4 + x)) 0 12

/-- Legs 1 and 2 of bridge `b` are given sides now, and with `next` both their low switches at that tick; while the AX is under its BIST
unit it holds every switch off (R419). -/
def Dev.bridgeGive (d : Dev) (x b : Nat) (s1 s2 : LegSide) (next : Option Nat) : Dev :=
  let held := d.bistUnit == some 0xD
  let s1 := if held then .off else s1
  let s2 := if held then .off else s2
  let next := if held then none else next
  let give (s : LegSide) (l : AuxLeg) : AuxLeg :=
    { (l.settle (d.auxDt x) d.now).turn (d.auxDt x) d.now s with next := next.map (·, .low) }
  d.auxMod x (fun a => { a with legs := tmod (tmod a.legs (2 * b) (give s1)) (2 * b + 1) (give s2) })

/-- Both legs on the diagonal of a sign: a positive drive places `SH1` at `VAUX` and `SH2` at ground (R290). -/
def Dev.bridgeDiag (d : Dev) (x b : Nat) (pos : Bool) (next : Option Nat) : Dev :=
  if pos then d.bridgeGive x b .high .low next else d.bridgeGive x b .low .high next

/-- Both low switches on: SLOW decay. -/
def Dev.bridgeSlow (d : Dev) (x b : Nat) : Dev := d.bridgeGive x b .low .low none

/-- Every switch of the axis turns off. -/
def Dev.bridgesOff (d : Dev) (x : Nat) : Dev :=
  ((d.bridgeGive x 0 .off .off none).bridgeGive x 1 .off .off none).auxMod x (fun a => { a with driving := Vector.replicate 2 false })

/-- Whether the high (`hi`) or the low switch of leg `leg` (0 A1, 1 A2, 2 B1, 3 B2) of axis `x` is on now: `AUXx_A_H1` and the other
gate lands. -/
def Dev.auxGate (d : Dev) (x leg : Nat) (hi : Bool) : Bool :=
  let l := (tget (d.auxOf x).legs leg).settle (d.auxDt x) d.now
  l.side == (if hi then .high else .low) && decide (l.since ≤ d.now)

/-- Aux axis `x` takes a state: event 0x01; `HOMED` clears on entry to IDLE or FAULT (R297), and every switch turns off. Entry
to them also ends what depends on a driven axis (R269, R285). -/
def Dev.setAux (d : Dev) (x st : Nat) : Dev :=
  if d.auxState x = st then d
  else
    let d := (d.wf (Reg.AUX_STAT x) 29 3 st).ev 0x01
    if st = 0 ∨ st = 5 then
      let d := ((d.wb (Reg.AUX_STAT x) 22 false).setPhaseH x 0).auxMod x (fun a =>
        { a with vel := 0, duty := 0, dcStop := false, dcHeld := false, toIdle := false, holdCur := false })
      ((d.bridgesOff x).injAxisLeft (4 + x)).lanesUnsupervised (4 + x)
    else d

/-! ### The profile (R299, R300) -/

/-- The channel period of an aux axis in ticks. -/
def Dev.auxPer (d : Dev) (x : Nat) : Nat := d.rf (Reg.PWM_C_PER (4 + x)) 0 24

/-- `ACC_LO`, `ACC_HI`, and the effective `DEC_LO`, `DEC_HI` (R299). -/
def Dev.accLo (d : Dev) (x : Nat) : Nat := d.rf (Reg.AUX_ACCLO x) 0 24
def Dev.accHi (d : Dev) (x : Nat) : Nat := d.rf (Reg.AUX_ACCHI x) 0 24
def Dev.decLo (d : Dev) (x : Nat) : Nat := let v := d.rf (Reg.AUX_DECLO x) 0 24; if v = 0 then d.accLo x else v
def Dev.decHi (d : Dev) (x : Nat) : Nat := let v := d.rf (Reg.AUX_DECHI x) 0 24; if v = 0 then d.accHi x else v

/-- A speed register in 2^−16 µst/s. -/
def Dev.auxSpd (d : Dev) (r : Nat) : Int := (d.rf r 0 22 : Int) * 65536

/-- What an acceleration adds in one channel period, 2^−16 µst/s. -/
def Dev.auxDv (d : Dev) (x acc : Nat) : Int := rdiv 299 (acc * 65536 * d.auxPer x : Nat) 400000000

/-- What a speed covers in one channel period, 2^−16 µst. -/
def Dev.auxDx (d : Dev) (x : Nat) (v : Int) : Int := rdiv 300 (v * d.auxPer x) 400000000

/-- The effective entry and exit speeds v_e and v_x (R299). -/
def Dev.vEntry (d : Dev) (x : Nat) : Int :=
  min (d.auxSpd (Reg.AUX_SPDKNEE x)) (max (d.auxSpd (Reg.AUX_SPDENT x)) (d.auxDv x (d.accLo x)))
def Dev.vExit (d : Dev) (x : Nat) : Int :=
  min (d.auxSpd (Reg.AUX_SPDKNEE x)) (max (d.auxSpd (Reg.AUX_SPDEXT x)) (d.auxDv x (d.decLo x)))

/-- The braking distance from a speed to v_x, 2^−16 µst (R300). -/
def Dev.auxBrake (d : Dev) (x : Nat) (v : Int) : Int :=
  let vx := d.vExit x
  let knee := d.auxSpd (Reg.AUX_SPDKNEE x)
  let part (p q : Int) (dec : Nat) : Int := rdiv 0x300 (p * p - q * q) (2 * dec * 65536)
  if v ≤ vx then 0
  else if v ≤ knee then part v vx (d.decLo x)
  else part v knee (d.decHi x) + part knee vx (d.decLo x)

/-- The stopping point s from the present state (R303). -/
def Dev.stopPoint (d : Dev) (x : Nat) : Int :=
  let a := d.auxOf x
  a.pos + sgn a.vel * d.auxBrake x a.vel.natAbs

/-- The top speed of the present motion: `HV1` or `HV2` in homing (R307). -/
def Dev.auxTop (d : Dev) (x : Nat) : Int :=
  if d.auxState x = 4 then
    if d.auxPhase x = 2 ∨ d.auxPhase x = 3 then d.auxSpd (Reg.AUX_HV1 x) else d.auxSpd (Reg.AUX_HV2 x)
  else d.auxSpd (Reg.AUX_SPDTOP x)

/-- The speed of the coming channel period (R300). -/
def Dev.auxSpeed (d : Dev) (x : Nat) : Int :=
  let a := d.auxOf x
  let dir := sgn (a.tgt - a.pos)
  let r : Int := (a.tgt - a.pos).natAbs
  let v := a.vel
  let av : Int := v.natAbs
  let vx := d.vExit x
  if v = 0 then dir * min (d.vEntry x) (rdiv 0x301 (r * 400000000) (d.auxPer x))
  else
    let knee := d.auxSpd (Reg.AUX_SPDKNEE x)
    let top := d.auxTop x
    let dec := d.auxDv x (if knee < av then d.decHi x else d.decLo x)
    if sgn v ≠ dir ∨ r - d.auxDx x av ≤ d.auxBrake x av then
      let n := max vx (av - dec)
      if n = vx ∧ sgn v ≠ dir then 0 else sgn v * n
    else if top < av then sgn v * max top (av - dec)
    else
      let n := min top (av + d.auxDv x (if av < knee then d.accLo x else d.accHi x))
      if d.auxBrake x n + d.auxDx x n < r then sgn v * n else v

/-! ### Microsteps (R301, R302) -/

/-- Spacing and offset of the grid of a resolution code, µst. -/
def gridOf : Nat → Int × Int
  | 0 => (1, 0) | 1 => (4, 0) | 2 => (16, 0) | 3 => (64, 0) | _ => (256, 128)

/-- The resolution that a speed asks for, from the present one (R301): coarser at a threshold, finer below it less
`GRID_HYS`. -/
def Dev.resWant (d : Dev) (x : Nat) (v : Int) : Nat → Nat → Nat
  | 0, r => r
  | n + 1, r =>
    if r < 4 ∧ d.auxSpd (Reg.AUX_GRID x (r + 1)) ≤ v then d.resWant x v n (r + 1)
    else if 0 < r ∧ v < d.auxSpd (Reg.AUX_GRID x r) - d.auxSpd (Reg.AUX_GRIDHYS x) then d.resWant x v n (r - 1)
    else r

/-- The last grid point that a movement from `p` to `q` has passed, if it passed one (2^−16 µst, point in µst). -/
def lastPoint (res : Nat) (p q : Int) : Option Int :=
  let s := (gridOf res).1 * 65536
  let o := (gridOf res).2 * 65536
  if p < q then
    let k := (q - o) / s * s + o
    if p < k then some (k / 65536) else none
  else if q < p then
    let k := -((-(q - o)) / s) * s + o
    if k < p then some (k / 65536) else none
  else none

/-- The microstep index after the electrical position has moved (R301, R302): a change of resolution waits for a point of
the coarser grid. -/
def Dev.microstep (d : Dev) (x : Nat) (p q v : Int) : Dev :=
  let res := d.rf (Reg.AUX_STAT x) 26 3
  let want := d.resWant x v 8 res
  let d := if want ≠ res ∧ (lastPoint (max want res) p q).isSome then d.wf (Reg.AUX_STAT x) 26 3 want else d
  match lastPoint (d.rf (Reg.AUX_STAT x) 26 3) p q with
  | some k => d.wf (Reg.AUX_STAT x) 0 10 (k % 1024).toNat
  | none => d

/-! ### Ends of motion (R300, R305, R307, R308) -/

/-- Homing fails with a code (R308): `HOME_ERR`, `HOME_FAIL`, fault c = 0x6, event 0xE3 + 4x. -/
def Dev.homeFail (d : Dev) (x code : Nat) : Dev :=
  let d := ((d.wf (Reg.AUX_STAT x) 16 3 code).wb (Reg.AUX_FLAGS x) 2 true).setPhaseH x 0
  (d.occ (auxFault x 6) 0).ev (0xE3 + 4 * x)

/-- The duty reference of a DC axis ends: the host's register becomes 0 (log entry 57), and the CE's is not followed until it has been 0
(log entry 161). -/
def Dev.dutyEnd (d : Dev) (x : Nat) : Dev := (d.cpSet (Reg.AUX_DUTY x) 0 32 0).auxMod x (fun a => { a with dcHeld := true })

/-- A ramp stop: the target becomes the stopping point (R305); DC mode slews the duty to 0 (R309). -/
def Dev.rampStop (d : Dev) (x : Nat) : Dev :=
  let d := if d.auxDc x then d.dutyEnd x else d.auxMod x (fun a => { a with tgt := d.stopPoint x })
  d.setAux x 3

/-- The direction of the homing search. -/
def Dev.homeDir (d : Dev) (x : Nat) : Int := if d.rb (Reg.AUX_CFG x) 19 then 1 else -1

/-- The input that is the home switch: 0 `LIMx_N`, 1 `LIMx_P`, 2 `HOMEx`. -/
def Dev.homeSw (d : Dev) (x : Nat) : Nat := match d.rf (Reg.AUX_CFG x) 20 2 with | 0 => 2 | 1 => 0 | _ => 1

/-- A target beyond every position: motion without an end. -/
def farAway : Int := 2 ^ 60

/-- The search phase begins (R307). -/
def Dev.homeSearch (d : Dev) (x : Nat) : Dev :=
  (d.setPhaseH x 2).auxMod x (fun a => { a with tgt := a.pos + d.homeDir x * farAway, hstart := a.pos })

/-- The limit inputs on the sides of −d and of d (R308): 0 `LIMx_N`, 1 `LIMx_P`. -/
def Dev.limNear (d : Dev) (x : Nat) : Nat := if d.homeDir x = 1 then 0 else 1
def Dev.limFar (d : Dev) (x : Nat) : Nat := 1 - d.limNear x

/-- R308: the limit switches that fail a homing: the one on the side of −d, or the one on the side of d unless it is the home
switch. -/
def Dev.homeLimits (d : Dev) (x : Nat) : Dev :=
  if d.auxSw x (d.limNear x) then (d.homeFail x 1).rampStop x
  else if d.auxSw x (d.limFar x) && d.limFar x != d.homeSw x then (d.homeFail x 2).rampStop x
  else d

/-- A write of 1 to `AUXx_CMD.HOME` at its commit point; the answer is whether it is accepted (R307, R305). A limit switch that
is active already fails the homing at once (R308). -/
def Dev.homeStart (d : Dev) (x : Nat) : Dev × Bool :=
  if d.auxState x = 1 ∧ !d.auxDc x ∧ d.dstate ≠ .safe then
    let d := (d.setAux x 4).auxMod x (fun a => { a with holdCur := false })
    let d := d.wf (Reg.AUX_STAT x) 16 3 0
    let d := if d.auxSw x (d.homeSw x) then (d.setPhaseH x 1).auxMod x (fun a => { a with tgt := a.pos - d.homeDir x * farAway })
      else d.homeSearch x
    (d.homeLimits x, true)
  else (d, false)

/-- A motion ends on its target (R300): the next homing phase, or HOLD with event 0xE0 + 4x, or IDLE after a stop that ends
there (R298, R305). -/
def Dev.motionEnd (d : Dev) (x : Nat) : Dev :=
  let dir := d.homeDir x
  if d.auxState x = 4 then
    match d.auxPhase x with
    | 1 => d.homeSearch x
    | 3 =>
      let t := (d.auxOf x).hlat - dir * d.rf (Reg.AUX_HBACK x) 0 24
      (d.setPhaseH x 4).auxMod x (fun a => { a with tgt := t * 65536 })
    | 4 =>
      if d.auxSw x (d.homeSw x) then (d.homeFail x 4).setAux x 1
      else
        let ofs := sword (d.rget (Reg.AUX_HOFS x))
        let d := d.auxMod x (fun a =>
          { a with pos := a.pos - a.hlat * 65536 + ofs * 65536, pos0 := a.pos0 - a.hlat * 65536 + ofs * 65536 })
        (((d.setPhaseH x 0).wb (Reg.AUX_STAT x) 22 true).setAux x 1).ev (0xE2 + 4 * x)
    | _ => d
  else
    let d := d.ev (0xE0 + 4 * x)
    if (d.auxOf x).toIdle then d.setAux x 0 else d.setAux x 1

/-- Every fault of the aux axis is cleared and has no cause (R297). -/
def Dev.auxClean (d : Dev) (x : Nat) : Bool :=
  let mine (c : Nat) : Bool := (decide (auxFault x 1 ≤ c) && decide (c ≤ auxFault x 7)) || c == 0x0A20
  !(d.flt.recs.any (fun r => r.isOpen && mine r.code)) && !(d.flt.levels.any (fun p => mine p.1)) &&
    !(d.flt.inbox.any (fun p => mine p.code))

/-- Aux axis `x` turns every switch off and enters FAULT, from IDLE too; a homing fails with FAULT (R294, R295, R308). -/
def Dev.auxTrip (d : Dev) (x : Nat) : Dev := (if d.auxState x = 4 then d.homeFail x 6 else d).setAux x 5

/-! ### Targets (R303) -/

/-- What the examination of a target at its commit point gives. -/
inductive TgtRes where
  | accepted | state | limit
  deriving DecidableEq, Repr

/-- R303: the examination. -/
def Dev.examine (d : Dev) (x : Nat) (t : Int) : TgtRes :=
  let s := d.stopPoint x
  let lo := sword (d.rget (Reg.AUX_PMIN x)) * 65536
  let hi := sword (d.rget (Reg.AUX_PMAX x)) * 65536
  if d.auxDc x || !(d.auxState x == 1 || d.auxState x == 2) || !(d.dstate == .run || d.dstate == .degraded) then .state
  else if d.rb (Reg.AUX_CFG x) 28 && !d.rb (Reg.AUX_STAT x) 22 then .state
  else if t * 65536 < lo || hi < t * 65536 || s < lo || hi < s then .limit
  else if (decide (t * 65536 < s) && d.auxSw x 0) || (decide (s < t * 65536) && d.auxSw x 1) then .limit
  else .accepted

/-- A target is examined at its commit point (R303): accepted, or refused with its events. `ce`: it came from the CE. -/
def Dev.auxTarget (d : Dev) (x : Nat) (t : Word) (ce : Bool) : Dev × TgtRes :=
  match d.examine x (sword t) with
  | .accepted =>
    let d := d.auxMod x (fun a => { a with tgt := sword t * 65536, holdCur := false })
    ((d.rset (Reg.AUX_TGT x) (if ce then d.rget (Reg.AUX_TGT x) else t)).setAux x 2, .accepted)
  | r =>
    let d := d.evIf (r == .limit) (0xE1 + 4 * x)
    (if ce then (d.wb (Reg.AUX_FLAGS x) 0 true).occ (auxFault x 7) 0 else d, r)

/-- A CE target is examined when it differs from the one last examined (R303); 0 counts as examined at the start (log entry 98). -/
def Dev.ceTarget (d : Dev) (x : Nat) : Dev :=
  if !d.rb (Reg.AUX_CFG x) 29 || d.auxDc x || !d.rb (Reg.AUX_CFG x) 31 then d else
  let t := tget (tget d.ce.auxIn x) 0
  if (d.auxOf x).ceSeen = some t then d
  else ((d.auxMod x (fun a => { a with ceSeen := some t })).auxTarget x t true).1

/-! ### The boundary of an aux channel (R292–R295, R300, R304, R309) -/

/-- One profile step of a moving stepper axis (R300–R302, R308). -/
def Dev.profileStep (d : Dev) (x : Nat) : Dev :=
  let a := d.auxOf x
  let rest := a.vel == 0
  let v := d.auxSpeed x
  let q := a.pos + d.auxDx x v
  let there := if a.pos ≤ a.tgt then decide (a.tgt ≤ q) && decide (0 ≤ v) else decide (q ≤ a.tgt) && decide (v ≤ 0)
  let fin := there && (rest || decide ((v.natAbs : Int) ≤ d.vExit x))
  let q := if fin then a.tgt else q
  let v' := if fin then 0 else v
  let d := d.auxMod x (fun b => { b with pos := q, pos0 := a.pos, el := b.el + (q - a.pos), vel := v' })
  let d := d.microstep x a.el (a.el + (q - a.pos)) v.natAbs
  let d := if fin then d.motionEnd x else d
  let hmax : Int := (d.rget (Reg.AUX_HMAX x)).toNat
  let far := d.auxState x == 4 && d.auxPhase x == 2 && decide (0 < hmax) &&
    decide (hmax * 65536 < (((d.auxOf x).pos - (d.auxOf x).hstart).natAbs : Int))
  if far then (d.homeFail x 3).rampStop x else d

/-- The duty of DC mode follows its reference within `DSLEW`; a limit switch reached in its direction makes it 0 (R309). In SAFE the
motor stays stopped (R305, log entry 132), and after a stop it stays in HOLD until the CE's duty has been 0 (log entry 161). -/
def Dev.dutyStep (d : Dev) (x : Nat) : Dev :=
  let byCe := d.rb (Reg.AUX_CFG x) 29
  let ask := if byCe then toSigned 16 ((tget (tget d.ce.auxIn x) 1).toNat) else d.rfs (Reg.AUX_DUTY x) 0 16
  let held := (d.auxOf x).dcHeld && byCe && ask != 0
  let ref := if d.auxState x = 3 ∨ d.dstate = .safe ∨ held = true then 0 else ask * 65536
  let slew := d.rf (Reg.AUX_DSLEW x) 0 16
  let step := if slew = 0 then none else some (rdiv 309 (slew * 65536 * d.auxPer x : Nat) 400000)
  let y := if (d.auxOf x).dcStop then 0 else follow step step (d.auxOf x).duty ref
  let d := d.auxMod x (fun a => { a with duty := y, dcStop := false, dcHeld := held })
  if d.auxState x = 3 then
    if y = 0 then (if (d.auxOf x).toIdle then d.setAux x 0 else d.setAux x 1).ev (0xE0 + 4 * x) else d
  else d.setAux x (if y = 0 then 1 else 2)

/-- The current of an energised axis in mV (R292). -/
def Dev.auxCurrent (d : Dev) (x : Nat) : Nat :=
  match d.auxState x with
  | 0 => 0
  | 5 => 0
  | 1 => if (d.auxOf x).holdCur then d.rf (Reg.AUX_CUR x) 8 8 else d.rf (Reg.AUX_CUR x) 0 8
  | _ => d.rf (Reg.AUX_CUR x) 0 8

/-- The signed reference of bridge `b` (0 A, 1 B), mV (R292). -/
def Dev.auxRef (d : Dev) (x b : Nat) : Int :=
  let i := d.auxCurrent x
  if d.auxDc x then
    if b = 1 then 0 else sgn (d.auxOf x).duty * i
  else
    let ang := d.rf (Reg.AUX_STAT x) 0 10 * 4194304
    rdiv 292 ((i : Int) * (if b = 0 then cosQ ang else sinQ ang)) 1073741824

/-- The on-time that the AUX writes for a bridge, in 1/16 tick (R293, R295, R309): 0 for a reference below 2 mV, less t_REFRESH in a
refresh period. -/
def Dev.auxOn (d : Dev) (x b : Nat) : Nat :=
  let per := 16 * d.auxPer x
  let on := if (d.auxRef x b).natAbs < 2 then 0
    else if d.auxDc x then (rdiv 0x309 ((d.auxOf x).duty.natAbs * per : Nat) 2147483648).toNat else per
  if (d.auxOf x).refresh then min on (per - 16 * d.rf (Reg.AUX_BST x) 0 11) else on

/-- R294: bridges with a reference of at least 20 mV that did not reach a quarter of it; `OPEN_CNT` in a row are an open
coil. -/
def Dev.openCoil (d : Dev) (x : Nat) : Dev :=
  let a := d.auxOf x
  let cnt := Vector.ofFn (fun b : Fin 2 => if 20 ≤ a.ref[b].natAbs && !a.reached[b] then a.openCnt[b] + 1 else 0)
  let d := d.auxMod x (fun a => { a with openCnt := cnt, reached := Vector.replicate 2 false })
  if cnt.toList.any (fun n => decide (d.rf (Reg.AUX_CHOP x) 8 4 ≤ n)) && d.auxState x != 0 && d.auxState x != 5 then
    ((d.wb (Reg.AUX_FLAGS x) 4 true).occ (auxFault x 2) 0).auxTrip x
  else d

/-- The bridge decays from now to the end of the period (R293): SLOW at a reference below 2 mV and in a refresh period, else by
`DECAY`. FAST lasts until the current reaches 0, at a moment that is free, and in MIXED for at most `MIX` ÷ 16 of the off-time. -/
def Dev.auxDecay (d : Dev) (x b : Nat) : Dev :=
  let d := d.auxMod x (fun a => { a with driving := tset a.driving b false })
  let a := d.auxOf x
  let ref := tget a.ref b
  let mode := d.rf (Reg.AUX_CFG x) 22 2
  if mode = 0 ∨ a.slow = true ∨ ref.natAbs < 2 then d.bridgeSlow x b
  else
    let off := (tget d.chan (4 + x)).lastB + d.auxPer x - d.now
    let gone := d.now + d.free 2930
    let upTo := if mode = 2 then min gone (d.now + (rdiv 0x293 (off * d.rf (Reg.AUX_CHOP x) 4 4 : Nat) 16).toNat) else gone
    (d.bridgeDiag x b (decide (ref < 0)) (some upTo)).tick1

/-- The on-time in effect of bridge `b`, 1/16 tick: `PWM_Cj_CMP0` or `CMP1` after R168. -/
def Dev.auxOnTime (d : Dev) (x b : Nat) : Nat :=
  d.onTime (4 + x) (d.rget (if b = 0 then Reg.PWM_C_CMP0 (4 + x) else Reg.PWM_C_CMP1 (4 + x))).toNat

/-- Bridge `b` at the boundary of its channel (R293, R297): off in IDLE and FAULT, bridge B in DC mode (R309), and under the BIST unit of
the AX (R419); else it drives on the diagonal of its reference, or decays at once with no on-time. -/
def Dev.bridgeStart (d : Dev) (x b : Nat) : Dev :=
  let st := d.auxState x
  if st = 0 ∨ st = 5 ∨ (d.auxDc x = true ∧ b = 1) ∨ d.bistUnit = some 0xD then d.bridgeGive x b .off .off none
  else if d.auxOnTime x b = 0 then d.auxDecay x b
  else (d.bridgeDiag x b (decide (0 < tget (d.auxOf x).ref b)) none).auxMod x (fun a => { a with driving := tset a.driving b true })

/-- References, on-times and drives of the period that begins (R292, R293, log entry 119); a bootstrap below 8.0 V keeps asking for
refresh periods. -/
def Dev.auxDrive (d : Dev) (x : Nat) : Dev :=
  let d := d.auxMod x (fun a => { a with refresh := a.refresh || a.bstLow.toList.any id })
  let on0 := d.auxOn x 0
  let on1 := d.auxOn x 1
  let r0 := d.auxRef x 0
  let r1 := d.auxRef x 1
  let d := d.auxMod x (fun a => { a with ref := #v[r0, r1], slow := a.refresh, refresh := false })
  let d := (d.rset (Reg.PWM_C_CMP0 (4 + x)) (BitVec.ofNat 32 on0)).rset (Reg.PWM_C_CMP1 (4 + x)) (BitVec.ofNat 32 on1)
  (d.bridgeStart x 0).bridgeStart x 1

/-- The position and speed registers (R299). -/
def Dev.auxShow (d : Dev) (x : Nat) : Dev :=
  (d.rset (Reg.AUX_POS x) (wordOfInt (rdiv 0x2990 (d.auxOf x).pos 65536))).rset (Reg.AUX_VEL x)
    (wordOfInt (rdiv 0x2991 (d.auxOf x).vel 65536))

/-- R304, before the commit-port entries: the way out of FAULT (R297), and open coils. -/
def Dev.auxFaults (d : Dev) (x : Nat) : Dev :=
  (if d.auxState x = 5 ∧ d.auxClean x then d.setAux x 0 else d).openCoil x

/-- R304, after the commit-port entries: a CE target, the profile step, and the period that begins. -/
def Dev.auxBoundary (d : Dev) (x : Nat) : Dev :=
  let d := d.ceTarget x
  let st := d.auxState x
  let d := if d.auxDc x then (if st = 0 ∨ st = 5 then d else d.dutyStep x)
    else if st = 2 ∨ st = 3 ∨ st = 4 then d.profileStep x else d.auxMod x (fun a => { a with pos0 := a.pos })
  (d.auxDrive x).auxShow x

/-! ### Events of the driver (R292–R296, R305–R309) -/

/-- `BLANK` of the present drive has passed: 0.2 µs × (code + 1) from the boundary. -/
def Dev.auxUnblanked (d : Dev) (x : Nat) : Bool :=
  decide ((tget d.chan (4 + x)).lastB + 80 * (d.rf (Reg.AUX_CHOP x) 0 4 + 1) ≤ d.now)

/-- The drive of a bridge ends with a peak: kept in `AUXx_ILAT`, and the bridge decays (R293). -/
def Dev.driveEnd (d : Dev) (x b peak : Nat) : Dev :=
  let d := d.wf (Reg.AUX_ILAT x) (8 * b) 8 (min 255 peak)
  let d := if (tget (d.auxOf x).ref b).natAbs ≤ 4 * peak then d.auxMod x (fun a => { a with reached := tset a.reached b true }) else d
  d.auxDecay x b

/-- AUX_CURRENT_TRIP: the shunt voltage of a driving bridge reaches its reference after `BLANK`. -/
def Dev.currentTrip (d : Dev) (x b peak : Nat) : Dev :=
  if tget (d.auxOf x).driving b && d.auxUnblanked x then d.driveEnd x b peak else d

/-- AUX_CURRENT_TRIP. -/
def execAuxCurrentTrip (x bridge peak : Nat) (s : State) : Host.Outcome State Fault Refusal :=
  s.run (·.currentTrip x bridge peak)

/-- AUX_OVERCURRENT after `BLANK`: every switch of the axis turns off; FAULT; fault c = 0x1 (R294). -/
def Dev.auxOvercurrent (d : Dev) (x b : Nat) : Dev :=
  if d.auxUnblanked x then ((d.wb (Reg.AUX_FLAGS x) 5 true).occ (auxFault x 1) b).auxTrip x else d

/-- AUX_OVERCURRENT. -/
def execAuxOvercurrent (x bridge : Nat) (s : State) : Host.Outcome State Fault Refusal := s.run (·.auxOvercurrent x bridge)

/-- AUX_HON_LIMIT: the next channel period is a refresh period; fault c = 0x4 (R295). -/
def Dev.auxHon (d : Dev) (x : Nat) : Dev :=
  ((d.auxMod x (fun a => { a with refresh := true })).wb (Reg.AUX_FLAGS x) 3 true).occ (auxFault x 4) 0

/-- AUX_HON_LIMIT. -/
def execAuxHonLimit (x _leg : Nat) (s : State) : Host.Outcome State Fault Refusal := s.run (·.auxHon x)

/-- AUX_BOOTSTRAP_LOW: below 8.0 V the next period is a refresh period; below 7.0 V (`severe`) the axis enters FAULT with
fault c = 0x3 (R295). Legs 0–3: A1, A2, B1, B2. -/
def Dev.auxBstLow (d : Dev) (x leg : Nat) (severe : Bool) : Dev :=
  if severe then ((d.wb (Reg.AUX_FLAGS x) 6 true).lvlOn (auxFault x 3) leg).auxTrip x
  else d.auxMod x (fun a => { a with bstLow := tset a.bstLow leg true })

/-- AUX_BOOTSTRAP_LOW. -/
def execAuxBootstrapLow (x leg : Nat) (severe : Bool) (s : State) : Host.Outcome State Fault Refusal :=
  s.run (·.auxBstLow x leg severe)

/-- AUX_BOOTSTRAP_RELEASE: 0.3 V above the level (R295). -/
def Dev.auxBstRelease (d : Dev) (x leg : Nat) (severe : Bool) : Dev :=
  if severe then d.lvlOff (auxFault x 3) leg else d.auxMod x (fun a => { a with bstLow := tset a.bstLow leg false })

/-- AUX_BOOTSTRAP_RELEASE. -/
def execAuxBootstrapRelease (x leg : Nat) (severe : Bool) (s : State) : Host.Outcome State Fault Refusal :=
  s.run (·.auxBstRelease x leg severe)

/-- VAUX_UNDERVOLTAGE: every switch of both axes turns off; axes that are not IDLE enter FAULT; fault 0x0A20 (R296). -/
def Dev.vauxLow (d : Dev) (v : Nat) : Dev :=
  let d := (d.rset Reg.AUX_VAUX (BitVec.ofNat 32 (0x80000000 + v % 65536))).lvlOn 0x0A20 0
  [0, 1].foldl (fun d x => if d.auxState x = 0 then d else d.auxTrip x) d

/-- VAUX_UNDERVOLTAGE. -/
def execVauxUndervoltage (v : Nat) (s : State) : Host.Outcome State Fault Refusal := s.run (·.vauxLow v)

/-- VAUX_RETURN: above 8.0 V the cause of fault 0x0A20 ends (R296). -/
def Dev.vauxBack (d : Dev) (v : Nat) : Dev := (d.rset Reg.AUX_VAUX (BitVec.ofNat 32 (v % 65536))).lvlOff 0x0A20 0

/-- VAUX_RETURN. -/
def execVauxReturn (v : Nat) (s : State) : Host.Outcome State Fault Refusal := s.run (·.vauxBack v)

/-- R306: a raw transition of a switch: its level, and the position now, interpolated within the channel period to 1 µst. -/
def Dev.swRaw (d : Dev) (x s : Nat) (level : Bool) : Dev :=
  if (tget (tget d.swIn x) s).1 = level then d
  else
    let a := d.auxOf x
    let per := max 1 (d.auxPer x)
    let dt := min per (d.now - (tget d.chan (4 + x)).lastB)
    let p := rdiv 306 (a.pos0 * per + (a.pos - a.pos0) * dt) (65536 * per)
    { d with swIn := tmod d.swIn x (fun v => tset v s (level, d.now)) }.auxMod x (fun a => { a with raw := tset a.raw s p })

/-- SWITCH_RAW_TRANSITION. -/
def execSwitchRawTransition (x sw : Nat) (level : Bool) (s : State) : Host.Outcome State Fault Refusal :=
  s.run (·.swRaw x sw level)

/-- A limit switch reached in the direction of travel, outside homing (R305, R309): `HARDLIM`, fault c = 0x5, event. -/
def Dev.hardLimit (d : Dev) (x : Nat) : Dev :=
  let d := ((d.wb (Reg.AUX_FLAGS x) 1 true).occ (auxFault x 5) 0).ev (0xE3 + 4 * x)
  if d.auxDc x then (d.dutyEnd x).auxMod x (fun a => { a with dcStop := true }) else d.rampStop x

/-- A confirmed switch during homing (R307, R308). -/
def Dev.homeSwitch (d : Dev) (x s : Nat) (active : Bool) : Dev :=
  if active && (s == d.limNear x || (s == d.limFar x && s != d.homeSw x)) then d.homeLimits x
  else if s = d.homeSw x then
    if d.auxPhase x = 1 && !active then d.auxMod x (fun a => { a with tgt := d.stopPoint x })
    else if d.auxPhase x = 2 && active then
      let h := tget (d.auxOf x).raw s
      ((d.setPhaseH x 3).rset (Reg.AUX_HLAT x) (wordOfInt h)).auxMod x (fun a => { a with hlat := h, tgt := d.stopPoint x })
    else d
  else d

/-- A switch has a confirmed level (R305–R308). -/
def Dev.swTake (d : Dev) (x s : Nat) (active : Bool) : Dev :=
  let d := d.wb (Reg.AUX_STAT x) (19 + s) active
  let st := d.auxState x
  if st = 4 then d.homeSwitch x s active
  else if active ∧ s < 2 ∧ (st = 2 ∨ st = 3) then
    let v := if d.auxDc x then (d.auxOf x).duty else (d.auxOf x).vel
    if (s = 0 ∧ v < 0) ∨ (s = 1 ∧ 0 < v) then d.hardLimit x else d
  else d

/-- AUX_SWITCH_CONFIRMED: the level has held for `DEB` (0.1 ms), and is active as `AUXx_SW` says (R306). -/
def Dev.swConfirmed (d : Dev) (x s : Nat) : Dev :=
  let p := tget (tget d.swIn x) s
  if d.now < p.2 + 40000 * d.rf (Reg.AUX_SW x) 16 8 then d else d.swTake x s (p.1 == d.rb (Reg.AUX_SW x) s)

/-- AUX_SWITCH_CONFIRMED. -/
def execAuxSwitchConfirmed (x sw : Nat) (s : State) : Host.Outcome State Fault Refusal := s.run (·.swConfirmed x sw)

/-- HOLD_DELAY_END: `HOLD_DLY` has passed in HOLD without motion (R292). -/
def Dev.holdDelay (d : Dev) (x : Nat) : Dev :=
  if d.auxState x = 1 then d.auxMod x (fun a => { a with holdCur := true }) else d

/-- HOLD_DELAY_END. -/
def execHoldDelayEnd (x : Nat) (s : State) : Host.Outcome State Fault Refusal := s.run (·.holdDelay x)

/-! ### Commands and device states (R297, R298, R305) -/

/-- `AXIS_STOP` at its commit point: a homing fails with STOPPED. -/
def Dev.auxStop (d : Dev) (x : Nat) : Dev :=
  if d.auxState x = 4 then (d.homeFail x 5).rampStop x
  else if d.auxState x = 2 then d.rampStop x else d

/-- The device enters SAFE: a ramp stop, then off if `SAFE_END` = OFF (R305). -/
def Dev.auxSafe (d : Dev) (x : Nat) : Dev :=
  let off := d.rb (Reg.AUX_CFG x) 27
  match d.auxState x with
  | 1 => if off then d.setAux x 0 else d
  | 2 => (d.rampStop x).auxMod x (fun a => { a with toIdle := a.toIdle || off })
  | 3 => d.auxMod x (fun a => { a with toIdle := a.toIdle || off })
  | 4 => ((d.homeFail x 5).rampStop x).auxMod x (fun a => { a with toIdle := a.toIdle || off })
  | _ => d

/-- The device goes from RUN to ARMED: a ramp stop, then IDLE (R298). -/
def Dev.auxArmed (d : Dev) (x : Nat) : Dev :=
  match d.auxState x with
  | 1 => d.setAux x 0
  | 2 => (d.rampStop x).auxMod x (fun a => { a with toIdle := true })
  | 3 => d.auxMod x (fun a => { a with toIdle := true })
  | 4 => ((d.homeFail x 5).rampStop x).auxMod x (fun a => { a with toIdle := true })
  | _ => d

/-- LOCKOUT: every aux switch turns off at once (R298). -/
def Dev.auxLockout (d : Dev) (x : Nat) : Dev := d.setAux x 0

/-! ### The choppers' and discharge channels' gates, and the edges of a channel (R167, R290–R293) -/

/-- At a boundary of channel 0–3 its switch turns on for its on-time; a chopper in mode OFF, marked faulty or in fallback
stays as it is. The bridges of channels 4 and 5 start in `auxDrive`. -/
def Dev.chanGate (d : Dev) (j : Nat) : Dev :=
  let on := d.onTime j (d.rget (Reg.PWM_C_CMP0 j)).toNat
  if 3 < j then d
  else if 0 < on then (d.chopMod j (fun c => { c with wait := false })).ilkOn (24 + j)
  else d.ilkOff (24 + j)

/-- The end of an on-time of `on` sixteenths of a tick from the channel's boundary has come. -/
def Dev.onEnded (d : Dev) (j on : Nat) : Bool := decide (16 * (tget d.chan j).lastB + on ≤ 16 * d.now + 15)

/-- The on-time of a channel ends: the switch of a chopper or discharge channel turns off unless the period is full; the
drive of an aux bridge ends with a peak below its reference, which is free (R293). -/
def Dev.chanEdge (d : Dev) (j b : Nat) : Dev :=
  if j < 4 then
    if d.onTime j (d.rget (Reg.PWM_C_CMP0 j)).toNat < 16 * d.rf (Reg.PWM_C_PER j) 0 24 then d.ilkOff (24 + j) else d
  else if j < 6 ∧ tget (d.auxOf (j - 4)).driving b = true ∧ d.onEnded j (d.auxOnTime (j - 4) b) = true then
    (d.driveEnd (j - 4) b (d.free 293 % 256)).tick1
  else d

end Sys2Proof.Machine
end

