-- ==== Sys2Proof/Machine/Links.lean ====
section
/-! DEFINITION. The island links: frames, loss, retraining, status, supplies, refresh demands and off-state diagnostics
(chapter 07, R172–R181, R191–R195, R449). Lanes 0–11 are the links of H0–H11, 12 and 13 the GI lanes. -/

namespace Sys2Proof.Machine

def Dev.lnk (d : Dev) (lane : Nat) : Link := tget d.link lane
def Dev.lnkMod (d : Dev) (lane : Nat) (f : Link → Link) : Dev := { d with link := tmod d.link lane f }

/-- The axes of GI lane `g`. -/
def laneAxes (g : Nat) : List Nat := [2 * g, 2 * g + 1]

/-- The loss fault of a lane (R196). -/
def lossFault (lane : Nat) : Nat := if lane < 12 then 0x0540 + 0x10 * lane else 0x0501 + (lane - 12)

/-- The fault of a link that did not train at start-up (R74, R196), with its source: of the GI one code for both lanes. -/
def untrainedFault (lane : Nat) : Nat × Nat := if lane < 12 then (0x0541 + 0x10 * lane, 0) else (0x0503, lane - 12)

/-- One bad frame more in the count of a lane, both directions, and in its count of the present ms (R375). -/
def Dev.badCount (d : Dev) (lane : Nat) : Dev :=
  let d := { d with rgr := { d.rgr with badMs := tmod d.rgr.badMs lane (· + 1) } }
  if lane < 12 then d.wsat (Reg.ISL_H_LINK lane) 0 16 else d.wsat Reg.ISL_GI_LINK (16 * (lane - 12)) 16

/-- The link flags of a lane: trained and not lost, lost (R175, R449). -/
def Dev.linkFlags (d : Dev) (lane : Nat) (ok lost : Bool) : Dev :=
  if lane < 12 then (d.wb (Reg.ISL_H_STAT lane) 15 ok).wb (Reg.ISL_H_STAT lane) 14 lost
  else (d.wb Reg.ISL_GI_STAT (6 + (lane - 12)) ok).wb Reg.ISL_GI_STAT (8 + (lane - 12)) lost

/-- R180: the CD's reaction to the loss of GI lane `g`: every high switch is commanded off; driven axes take the choice last sent, ASC and
FREEWHEEL stay;
stale converter values (R213), a failed discharge channel (R326), the fallback mark of the chopper (R323). -/
def Dev.giLost (d : Dev) (g : Nat) : Dev :=
  let sent := (d.lnk (12 + g)).sent
  let d := (laneAxes g).foldl (fun d a =>
    let d := (if (d.axOf a).active then d.axGo a (choiceState (tget sent a)) else d).blame (lossFault (12 + g)) a
    [0, 1, 2].foldl (fun d p => d.ilkOff (swOf a p true)) d) d
  let d := (d.adcLaneLost g).adFail g
  let d := d.wb (Reg.DCL_CH_STAT g) 26 true
  if g = 0 then d.dclEval else d

/-- The choices that the CD sends in a frame body of a GI lane (R324). -/
def Dev.sendChoices (d : Dev) (lane : Nat) (received : Bool) : Dev :=
  let now : Vector Bool 4 := Vector.ofFn (fun a : Fin 4 => d.choice a)
  let d := d.lnkMod lane (fun l => { l with sent := now, recv := if received then now else l.recv })
  let d := (laneAxes (lane - 12)).foldl (fun d a => d.wb Reg.ISL_GI_SAFE a (tget now a)) d
  if received then
    let g := lane - 12
    d.chopMod g (fun c => { c with giMode := d.chopMode g, giFaulty := c.faulty })
  else d

/-- The CD declares a lane lost (R177, R178, R180); not while its die is under test (R419). Of a GI lane the choices that stand now are the
ones last sent: DESIGN CHOICE, a frame leaves every 100 ns until then (log entry 152). -/
def Dev.cdDeclare (d : Dev) (lane : Nat) : Dev :=
  if (d.lnk lane).cdLost || !(d.lnk lane).trained || d.laneTest lane then d else
  let d := if lane < 12 then d else d.sendChoices lane false
  let d := d.lnkMod lane (fun l => { l with cdLost := true, retraining := false, badCd := 0 })
  let d := d.laneMod lane (fun x => { x with cdSent := false, cdHeld := none, cdOff := none })
  let d := ((d.linkFlags lane false true).tempLost lane).lvlOn (lossFault lane) 0
  let d := d.ev (if lane < 12 then 0x86 else 0x84 + (lane - 12))
  if lane < 12 then d else d.giLost (lane - 12)

/-- The island, or the GI, declares a lane lost (R178, R179): it turns its switches off and hands BCi to the fallback. -/
def Dev.islDeclare (d : Dev) (lane : Nat) : Dev :=
  if (d.lnk lane).islLost || !(d.lnk lane).trained || d.laneTest lane then d else
  let d := d.lnkMod lane (fun l => { l with islLost := true, badIsl := 0 })
  if lane < 12 then d.swMod lane Switch.islTurnOff
  else
    let g := lane - 12
    let d := (laneSwitches lane).foldl (fun d sw => if sw = 24 + g then d else d.swMod sw Switch.islTurnOff) d
    let d := d.chopMod g (fun c => { c with fbk := true })
    if d.fbkHolds g then d.swMod (24 + g) Switch.islTurnOn
    else if d.dcl.tripped && d.giMayChop g then d else d.swMod (24 + g) Switch.islTurnOff

/-- Telemetry of a frame (R175, R449): VGS in every frame, one of VPOS, VNEG, VB and sense level in turn; a temperature goes in place of
the sense level, in the frame after its conversion whatever the turn (log entry 154). -/
def Dev.telemetry (d : Dev) (lane : Nat) (t : Telemetry) : Dev :=
  let k := (d.lnk lane).tel
  let d := d.lnkMod lane (fun l => { l with tel := (k + 1) % 4 })
  if lane < 12 then
    let d := d.wf (Reg.ISL_H_STAT lane) 16 8 t.vgs
    match k with
    | 0 => (d.wf (Reg.ISL_H_TEL lane) 0 8 t.vpos).hlt 0x0B lane t.vpos
    | 1 => d.wf (Reg.ISL_H_TEL lane) 8 8 t.vneg
    | 2 => d.wf (Reg.ISL_H_TEL lane) 16 8 t.vb
    | _ => if (d.lnk lane).temp.isSome then d else d.wf (Reg.ISL_H_TEL lane) 24 8 t.sense
  else
    let chs := (laneSwitches lane).zip t.chVgs
    let d := chs.foldl (fun d x => d.wf (statReg x.1) 16 8 x.2) d
    match k with
    | 0 => (d.wf Reg.ISL_GI_TEL 0 8 t.vpos).hlt 0x0B 12 t.vpos
    | 1 => d.wf Reg.ISL_GI_TEL 8 8 t.vneg
    | _ => d

/-- LINK_FRAME_RECEIVED at the CD: three bad frames in a row, or a loss flag, declare the lane lost; a good frame brings
telemetry and samples (R175–R177, R212). An island that has declared the loss flags whatever it still sends. -/
def Dev.frameAtCd (d : Dev) (lane : Nat) (bad lossFlag : Bool) (t : Telemetry) : Dev :=
  if !(d.lnk lane).trained || (d.lnk lane).cdLost then d
  else if bad then
    let n := (d.lnk lane).badCd + 1
    let d := (d.badCount lane).lnkMod lane (fun l => { l with badCd := n })
    if 3 ≤ n then d.cdDeclare lane else d
  else
    let d := d.lnkMod lane (fun l => { l with badCd := 0 })
    if lossFlag || (d.lnk lane).islLost then d.cdDeclare lane
    else
      let d := (d.telemetry lane t).tempFrame lane
      if 12 ≤ lane then d.frameSamples (lane - 12) else d

/-- LINK_FRAME_RECEIVED at the island or the GI. A CD that has declared the loss sends no body and flags what it still sends (R177). -/
def Dev.frameAtIsl (d : Dev) (lane : Nat) (bad lossFlag : Bool) : Dev :=
  let gone := (d.lnk lane).cdLost
  if !(d.lnk lane).trained || (d.lnk lane).islLost then d
  else
    let d := if decide (12 ≤ lane) && !gone then d.sendChoices lane (!bad) else d
    if bad then
      let n := (d.lnk lane).badIsl + 1
      let d := (d.badCount lane).lnkMod lane (fun l => { l with badIsl := n })
      if 3 ≤ n then d.islDeclare lane else d
    else
      let d := d.lnkMod lane (fun l => { l with badIsl := 0 })
      if lossFlag || gone then d.islDeclare lane else d

/-- A frame is bad when its CRC, a word's check bits or the frame sequence fails (R176). -/
def frameBad (words : List Nat) (checksOk seqOk : Bool) : Bool := !frameCrcOk words || !checksOk || !seqOk

/-- LINK_FRAME_RECEIVED. -/
def Dev.frameReceived (d : Dev) (lane : Nat) (atCd : Bool) (words : List Nat) (checksOk seqOk lossFlag : Bool) (tel : Telemetry) : Dev :=
  let bad := frameBad words checksOk seqOk
  if atCd then d.frameAtCd lane bad lossFlag tel else d.frameAtIsl lane bad lossFlag

/-- LINK_FRAME_RECEIVED. -/
def execLinkFrameReceived (lane : Nat) (atCd : Bool) (words : List Nat) (checksOk seqOk lossFlag : Bool) (tel : Telemetry) (s : State) :
    Host.Outcome State Fault Refusal :=
  s.run (·.frameReceived lane atCd words checksOk seqOk lossFlag tel)

/-- LINK_TIMEOUT: no frame for `LINK_TIMEOUT` (R176). -/
def execLinkTimeout (lane : Nat) (atCd : Bool) (s : State) : Host.Outcome State Fault Refusal :=
  s.run (fun d => if atCd then d.cdDeclare lane else d.islDeclare lane)

/-- R179: the GI applies the choices of the last valid frame to the axes of lane `g`. -/
def Dev.giApply (d : Dev) (g : Nat) : Dev :=
  if (d.lnk (12 + g)).islLost then
    (laneAxes g).foldl (fun d a =>
      let d := d.wb Reg.ISL_GI_STAT (12 + a) true
      if tget (d.lnk (12 + g)).recv a then
        [0, 1, 2].foldl (fun d p => d.swMod (swOf a p false) Switch.islTurnOn) d
      else d) d
  else d

/-- GI_SAFE_STATE_APPLY. -/
def execGiSafeStateApply (g : Nat) (s : State) : Host.Outcome State Fault Refusal := s.run (·.giApply g)

/-- R178: `LINK_TIMEOUT` + 2 µs after the CD declared the link of Hn lost, the high switch counts as confirmed off. -/
def Dev.assumeOff (d : Dev) (n : Nat) : Dev :=
  if (d.lnk n).cdLost then d.swMod n (fun x => { x with cdOff := some d.now }) else d

/-- CD_CONFIRM_OFF_ASSUMED. -/
def execCdConfirmOffAssumed (n : Nat) (s : State) : Host.Outcome State Fault Refusal := s.run (·.assumeOff n)

/-- RETRAIN_START of a lost lane (R181). -/
def Dev.retrainStart (d : Dev) (lane : Nat) : Dev :=
  if (d.lnk lane).cdLost then d.lnkMod lane (fun l => { l with retraining := true }) else d

/-- RETRAIN_START. -/
def execRetrainStart (lane : Nat) (s : State) : Host.Outcome State Fault Refusal := s.run (·.retrainStart lane)

/-- The turn-ons that the CD wants on a lane are sent again where the interlock allows it, and held otherwise (R181, R182). -/
def Dev.reissue (d : Dev) (lane : Nat) : Dev :=
  (laneSwitches lane).foldl (fun d sw =>
    if (d.swi sw).cdReq && !(d.swi sw).cdSent then (d.ilkHold sw).ilkRelease sw else d) d

/-- The islands that the topology needs. -/
def Dev.islandsNeeded (d : Dev) : List Nat := (List.range 12).filter (fun n => d.inTopo (n / 3))

/-- R68: with both lanes of the GI link trained in the islands step, all four converters calibrate and the high-side links train. -/
def Dev.giTrained (d : Dev) : Dev :=
  if (d.lnk 12).trained && (d.lnk 13).trained then
    d.islandsNeeded.foldl (fun d l => d.lnkMod l (fun k => { k with retraining := true }))
      ((((d.calStart 0).calStart 1).calStart 2).calStart 3)
  else d

/-- R181, R213, R323: a lane carries frames, for the first time in the islands step or again. The fallback of the chopper ends, and the
DCL commands it again from the channel's next boundary on. -/
def Dev.laneBack (d : Dev) (lane : Nat) : Dev :=
  let again := (d.lnk lane).cdLost
  let d := d.lnkMod lane (fun l =>
    { l with trained := true, cdLost := false, islLost := false, retraining := false, badCd := 0, badIsl := 0 })
  let d := ((d.linkFlags lane true false).lvlOff (lossFault lane) 0).lvlOff (untrainedFault lane).1 (untrainedFault lane).2
  if lane < 12 then (if again then d.wsat (Reg.ISL_H_LINK lane) 24 8 else d).reissue lane
  else
    let g := lane - 12
    let d := (laneAxes g).foldl (fun d a => d.wb Reg.ISL_GI_STAT (12 + a) false) d
    let d := ((d.wb (Reg.DCL_CH_STAT g) 26 false).chopMod g (fun c => { c with fbk := false })).ilkOff (24 + g)
    let d := d.sendChoices lane true
    let d := if d.dstate = .imageCheck then d.giTrained else d.adcLaneBack g
    let d := (laneAxes g).foldl Dev.select d
    d.reissue lane

/-- A lane that has not trained in the islands step, or after a self-test of its die, has its fault of R196, and the CD goes on trying
as for a lost one (R74, R181). -/
def Dev.untrained (d : Dev) (lane : Nat) : Dev :=
  if (d.lnk lane).trained then d
  else ((d.lnkMod lane (fun l => { l with cdLost := true, retraining := false })).linkFlags lane false true).lvlOn
    (untrainedFault lane).1 (untrainedFault lane).2

/-- A lane carried test traffic and is retrained, without a loss (R419). A lost one goes on under R181. -/
def Dev.linkRetrain (d : Dev) (lane : Nat) : Dev :=
  if d.laneUp lane then d.lnkMod lane (fun l => { l with trained := false, retraining := true }) else d

/-- RETRAIN_END: the training of the islands step or after a self-test, or an attempt of R181, brings the lane up or fails. -/
def Dev.retrainEnd (d : Dev) (lane : Nat) (ok : Bool) : Dev :=
  if (d.lnk lane).retraining then
    if ok then d.laneBack lane
    else
      let d := d.lnkMod lane (fun l => { l with retraining := false })
      if d.dstate = .imageCheck then d else d.untrained lane
  else d

/-- RETRAIN_END. -/
def execRetrainEnd (lane : Nat) (ok : Bool) (s : State) : Host.Outcome State Fault Refusal := s.run (·.retrainEnd lane ok)

/-! ### Status (R175, R182, R189, R449) -/

/-- Flag bit of a monitor in `ISL_Hn_STAT` and `ISL_GI_STAT`: 0 VPOS warning, 1 VPOS trip, 2 VPOS overvoltage, 3 VNEG,
4 VB warning, 5 VB trip. -/
def supBit : Nat → Nat | 0 => 3 | 1 => 4 | 2 => 2 | 3 => 1 | 4 => 5 | _ => 6

/-- Fault of a monitor: c of Hn, or the GI code (R196). -/
def supFault (isl mon : Nat) : Nat :=
  if isl < 12 then 0x0540 + 0x10 * isl + (match mon with | 0 => 5 | 1 => 4 | 2 => 6 | 3 => 7 | 4 => 9 | _ => 8)
  else 0x0500 + (match mon with | 0 => 5 | 1 => 4 | 2 => 6 | _ => 7)

/-- A refresh of half-bridge `n` is due at the next usable peak (R192, R193). -/
def Dev.refreshDue (d : Dev) (n : Nat) : Dev :=
  if d.rb (Reg.ISL_H_SUP n) 31 then
    d.pwMod (n / 3) (fun w => { w with refresh := tset w.refresh (n % 3) (some ((tget w.refresh (n % 3)).getD d.now)) })
  else d

/-- The register that shows the supply flags of an island. -/
def supReg (isl : Nat) : Nat := if isl < 12 then Reg.ISL_H_STAT isl else Reg.ISL_GI_STAT

/-- One supply flag of an island reaches the CD in a status field (R175): register, fault, events 0x8B and 0x8C; a VB warning asks for
a refresh (R193). -/
def Dev.supFlag (d : Dev) (isl mon : Nat) : Dev :=
  let now := tget (tget d.sup isl) mon
  if now = d.rb (supReg isl) (supBit mon) then d
  else
    let d := (d.wb (supReg isl) (supBit mon) now).lvlSet now (supFault isl mon) 0
    let d := d.evIf (now && (mon == 0 || mon == 4)) 0x8B
    let d := d.evIf (now && (mon == 1 || mon == 5)) 0x8C
    if now && mon == 4 then d.refreshDue isl else d

/-- The supply flags of an island reach the CD; those of the GI stand in the status of each of its channels too (R449). -/
def Dev.supSeen (d : Dev) (isl : Nat) : Dev :=
  let d := (if isl < 12 then [0, 1, 2, 3, 4, 5] else [0, 1, 2, 3]).foldl (fun d m => d.supFlag isl m) d
  if isl < 12 then d
  else (List.range 16).foldl (fun d c => [0, 1, 2, 3].foldl (fun d m => d.wb (Reg.ISL_GC_STAT c) (supBit m) (tget (tget d.sup 12) m)) d) d

/-- The status of one switch reaches the CD. -/
def Dev.statusOf (d : Dev) (sw : Nat) : Dev :=
  let x := d.swi sw
  let r := statReg sw
  let d := (((d.wb r 7 x.islOn).wb r 9 x.islOnConf).wb r 8 x.islOff).wb r 11 x.sc
  d.swMod sw (fun y => { y with cdOff := if y.islOff then (match y.cdOff with | some t => some t | none => some d.now) else none })

/-- The SC trip source of an axis follows the indications that the CD has received (R154, R189). -/
def Dev.scFollow (d : Dev) (a : Nat) : Dev :=
  if d.scSource a = d.srcActive a 2 then d else d.tripInput a 2 (d.scSource a)

/-- STATUS_WORD_RECEIVED on a lane: a field whose check bits agree brings the status of its switches and the supply flags (R175); one
with the loss flag, which an island that has declared the loss sets in every field, declares the lane lost (R177). -/
def Dev.statusWord (d : Dev) (lane : Nat) (checksOk lossFlag : Bool) : Dev :=
  if !checksOk || !(d.lnk lane).trained || (d.lnk lane).cdLost then d
  else if lossFlag || (d.lnk lane).islLost then d.cdDeclare lane
  else
    let d := ((laneSwitches lane).foldl Dev.statusOf d).supSeen (min lane 12)
    if lane < 12 then d.scFollow (lane / 3) else ((laneAxes (lane - 12)).foldl Dev.scFollow d).ov3Seen

/-- STATUS_WORD_RECEIVED. -/
def execStatusWordReceived (lane : Nat) (checksOk lossFlag : Bool) (s : State) : Host.Outcome State Fault Refusal :=
  s.run (·.statusWord lane checksOk lossFlag)

/-- GATE_MONITOR_TIMEOUT (R184); on a chopper's channel it marks the chopper GATE (R321). -/
def Dev.gateTimeout (d : Dev) (sw : Nat) : Dev :=
  let x := d.swi sw
  let bad := x.islOn && !x.islOnConf || !x.islOn && !x.islOff
  let d := d.gateMonitor sw
  if bad && (sw == 24 || sw == 25) && !(d.chopper (sw - 24)).faulty then d.chopMark (sw - 24) 5 else d

/-- GATE_MONITOR_TIMEOUT. -/
def execGateMonitorTimeout (sw : Nat) (s : State) : Host.Outcome State Fault Refusal := s.run (·.gateTimeout sw)

/-! ### Supplies and bootstrap (R191–R193) -/

/-- HON_LIMIT (R192). -/
def execHonLimit (n : Nat) (s : State) : Host.Outcome State Fault Refusal := s.run (·.refreshDue n)

/-- What the island does with its switches when a trip threshold is crossed (R191). -/
def Dev.supReact (d : Dev) (isl mon : Nat) (beyond : Bool) : Dev :=
  let sws := if isl < 12 then [isl] else (List.range 16).map (fun c => 12 + c)
  match mon with
  | 1 => sws.foldl (fun d sw => d.swMod sw (fun x =>
      if beyond then { x.islTurnOff with vposRef := true } else { x with vposRef := false })) d
  | 4 => if beyond then d else sws.foldl (fun d sw => d.swMod sw (fun x => { x with vbRef := false })) d
  | 5 => if beyond then sws.foldl (fun d sw => d.swMod sw (fun x => { x.islTurnOff with vbRef := true })) d else d
  | _ => d

/-- ISLAND_SUPPLY_CROSSING: a rail of island `isl` (0–11, 12 the GI) has stayed beyond a threshold, or on the other side,
for 1 µs (R191, R193): the island reacts and holds the flag, which the status fields bring to the CD while a link is up, and after its
retraining otherwise (R175). VB is monitored in bootstrap mode only. -/
def Dev.supplyCross (d : Dev) (isl mon : Nat) (beyond : Bool) : Dev :=
  if 4 ≤ mon && (decide (12 ≤ isl) || !d.rb (Reg.ISL_H_SUP isl) 31) then d else
  let d := d.supReact isl mon beyond
  let d := { d with sup := tmod d.sup isl (fun f => tset f mon beyond) }
  if (if isl < 12 then d.laneUp isl else d.giHeard) then d.supSeen isl else d

/-- ISLAND_SUPPLY_CROSSING. -/
def execIslandSupplyCrossing (isl mon : Nat) (beyond : Bool) (s : State) : Host.Outcome State Fault Refusal :=
  s.run (·.supplyCross isl mon beyond)

/-! ### Off-state diagnostics (R194, R195) -/

def Dev.diagOf (d : Dev) (a : Nat) : Diag := tget d.diag a
def Dev.diagMod (d : Dev) (a : Nat) (f : Diag → Diag) : Dev := { d with diag := tmod d.diag a f }

/-- The diagnostics of an axis start (R194): the axis enters DIAG and nothing is judged. -/
def Dev.diagStart (d : Dev) (a : Nat) : Dev :=
  let d := d.rset (Reg.ISL_GI_DIAG a) 0x00000FFF
  (d.diagMod a (fun _ => ⟨true, 0, 0, false⟩)).axGo a .diag

/-- The class of a half-bridge (R194): `vk` V_K in mV, `var` its variation in mV, `ir` I_R in µA, `vdc` V_M in 2^−17 V. -/
def diagClass (noLink : Bool) (vk : Int) (ir var : Nat) (vdc : Int) : Nat :=
  if noLink then 5
  else if 2000 < var then 4
  else if 60 * 131072 ≤ vdc ∧ (vdc - 10 * 131072) * 1000 ≤ vk * 131072 then 1
  else if vk ≤ 1000 then 2
  else if ir < 500 then 3
  else if vdc < 60 * 131072 then 6
  else 0

/-- The result passes. -/
def diagPass (r : Nat) : Bool := r == 0 || r == 6

/-- The 6 ms test of one half-bridge ends; the last ends the test of the axis (R194). -/
def Dev.diagPhase (d : Dev) (a : Nat) (vk : Int) (ir var : Nat) : Dev :=
  let g := d.diagOf a
  let n := 3 * a + g.phase
  let noLink := !d.laneUp n || !d.laneUp (if a < 2 then 12 else 13) || (d.vdcStale 0 && d.vdcStale 1)
  let r := diagClass noLink vk ir var d.dcl.vm
  let d := d.wf (Reg.ISL_GI_DIAG a) (4 * g.phase) 4 r
  let d := d.occIf (!diagPass r) (0x054D + 0x10 * n) 0
  let volts := (rdiv 195 d.dcl.vm 131072).toNat
  if g.phase < 2 then d.diagMod a (fun x => { x with phase := g.phase + 1, vdc := volts })
  else
    let ok := [0, 1, 2].all (fun p => diagPass (d.rf (Reg.ISL_GI_DIAG a) (4 * p) 4))
    let d := (d.wb (Reg.ISL_GI_DIAG a) 31 true).wb (Reg.ISL_GI_DIAG a) 30 ok
    let d := (d.diagMod a (fun _ => ⟨false, 0, volts, ok⟩)).ev (0x87 + a)
    d.axGo a .idle

/-- A test under way is abandoned (R194): nothing passed, `DONE` stays 0, the event is raised. -/
def Dev.diagAbandon (d : Dev) (a : Nat) : Dev :=
  if (d.diagOf a).running then (d.diagMod a (fun g => ⟨false, 0, g.vdc, false⟩)).ev (0x87 + a) else d

/-- The result bytes 16–31 of an `ISL_DIAG` completion (R195). -/
def Dev.diagBytes (d : Dev) (a : Nat) : List Byte :=
  let r := d.rget (Reg.ISL_GI_DIAG a)
  [BitVec.ofNat 8 (fget r 0 4), BitVec.ofNat 8 (fget r 4 4), BitVec.ofNat 8 (fget r 8 4),
    if bget r 30 then 0 else 1] ++ beBytes 2 (d.diagOf a).vdc ++ List.replicate 10 0

end Sys2Proof.Machine
end

