-- ==== Sys2Proof/Machine/Preserve.lean ====
section
/-! DEFINITION. The preserve array: stored words, wear, and one program of a word (chapter 17, R433–R436; R45). -/

namespace Sys2Proof.Machine

def Dev.prsMod (d : Dev) (f : Prs → Prs) : Dev := { d with prs := f d.prs }

/-- The stored value of word `w`, its wear units (R433, R436). -/
def Dev.pword (d : Dev) (w : Nat) : Word := (aget d.prs.words w).getD 0
def Dev.wear (d : Dev) (w : Nat) : Nat := (aget d.prs.wear w).getD 0

/-- Endurance and warning level of a word (R436). -/
def wearLimit : Nat := 1000000
def wearWarn : Nat := 950000

/-- The word has reached its endurance. -/
def Dev.worn (d : Dev) (w : Nat) : Bool := decide (wearLimit ≤ d.wear w)

def Dev.setWord (d : Dev) (w : Nat) (v : Word) : Dev :=
  d.prsMod (fun p => { p with words := if v = 0 then adel p.words w else aput p.words w v })

/-- Wear of a word; at 950,000 units fault 0x1101. -/
def Dev.setWear (d : Dev) (w n : Nat) : Dev :=
  let n := min n wearLimit
  let old := d.wear w
  let d := d.prsMod (fun p => { p with wear := if n = 0 then adel p.wear w else aput p.wear w n })
  d.occIf (decide (old < wearWarn) && decide (wearWarn ≤ n)) 0x1101 0

/-- The wear of one program: 4 when the hottest valid result of sources 0–15 exceeds 125 °C or none is valid (R436). -/
def Dev.wearUnit (d : Dev) : Nat :=
  let valid := (List.range 16).filter (fun s => d.rb (Reg.THERM_S_VAL s) 31)
  if valid.isEmpty || valid.any (fun s => decide (1250 < d.rfs (Reg.THERM_S_VAL s) 0 16)) then 4 else 1

/-- One program of a word. -/
def Dev.program (d : Dev) (w : Nat) (v : Word) : Dev := (d.setWear w (d.wear w + d.wearUnit)).setWord w v

/-- The Docent or the Registrar writes a word of its own: only a changed value, no worn word, and no word at all while `VDD_IO` is
low (R45, R87, R436). -/
def Dev.ownWord (d : Dev) (w : Nat) (v : Word) : Dev :=
  if d.pword w = v ∨ d.worn w ∨ d.power.vddIoLow then d else d.program w v

/-- R45 bars the program that giving word `w` the value `v` needs: a command that needs it completes with STATE. -/
def Dev.wordBarred (d : Dev) (w : Nat) (v : Word) : Bool := d.power.vddIoLow && d.pword w != v && !d.worn w

/-- The region of a word, by number (R434). -/
def Dev.region (d : Dev) (w : Nat) : Option Nat :=
  (List.range 16).find? (fun r => d.rb (Reg.PRES_REG r) 31 && decide (d.rf (Reg.PRES_REG r) 16 10 ≤ w) &&
    decide (w < d.rf (Reg.PRES_REG r) 16 10 + d.rf (Reg.PRES_REG r) 0 10))

/-- The Docent or the Registrar writes the word: a host write is ignored (R434). -/
def ownWordRange (w : Nat) : Bool := decide (w < 0x10) || (decide (0x3F0 ≤ w) && decide (w < 0x3F4)) || decide (0x400 ≤ w)

/-- The word belongs to a region of host `h`. -/
def Dev.regionOf (d : Dev) (h w : Nat) : Bool :=
  match d.region w with | some r => d.rf (Reg.PRES_REG r) 29 2 == h | none => false

end Sys2Proof.Machine
end

