-- ==== Sys2Proof/Machine/Observer.lean ====
section
/-! DEFINITION. Transforms, the applied voltage, the flux observer, the tracking loops and what re-acquisition records (chapter 09,
R226–R232, R240, R247–R252). -/

namespace Sys2Proof.Machine

/-- The field unit of axis `a`. -/
def Dev.fu (d : Dev) (a : Nat) : Fld := tget d.fld a
def Dev.fuMod (d : Dev) (a : Nat) (f : Fld → Fld) : Dev := { d with fld := tmod d.fld a f }

/-- `FLDa_STAT` fields: active source (0 OBS, 1 HALL, 2 EXT, 3 HFI), attempt path, loss. -/
def Dev.src (d : Dev) (a : Nat) : Nat := d.rf (Reg.FLD_STAT a) 0 2
def Dev.acqPath (d : Dev) (a : Nat) : Nat := d.rf (Reg.FLD_STAT a) 10 2
def Dev.lost (d : Dev) (a : Nat) : Bool := d.rb (Reg.FLD_STAT a) 7

/-! ### Transforms (R226–R228) -/

/-- x ÷ √3. -/
def overSqrt3 (x : Int) : Int := sgn x * rsqrt 0x2270 (x * x / 3).toNat

/-- x × √3 ÷ 2. -/
def halfSqrt3 (x : Int) : Int := sgn x * rsqrt 0x2271 (3 * x * x / 4).toNat

/-- x cos θ + y sin θ. -/
def rotD (x y : Int) (ang : Word) : Int := rdiv 0x2272 (x * cosQ ang.toNat + y * sinQ ang.toNat) 1073741824

/-- y cos θ − x sin θ. -/
def rotQ (x y : Int) (ang : Word) : Int := rdiv 0x2273 (y * cosQ ang.toNat - x * sinQ ang.toNat) 1073741824

/-- Clarke: iα and iβ of three phase quantities (R227). -/
def clarke (i : Vector Int 3) : Int × Int := (rdiv 0x2274 (2 * i[0] - i[1] - i[2]) 3, overSqrt3 (i[1] - i[2]))

/-- Park: the d and q parts at an angle (R227). -/
def park (v : Int × Int) (ang : Word) : Int × Int := (rotD v.1 v.2 ang, rotQ v.1 v.2 ang)

/-- The phase voltages of a voltage vector at an angle: inverse Park, inverse Clarke (R227). -/
def phaseVolts (vd vq : Int) (ang : Word) : Vector Int 3 :=
  let al := rdiv 0x2275 (vd * cosQ ang.toNat - vq * sinQ ang.toNat) 1073741824
  let be := rdiv 0x2276 (vd * sinQ ang.toNat + vq * cosQ ang.toNat) 1073741824
  let h := rdiv 0x2277 (-al) 2
  #v[al, h + halfSqrt3 be, h - halfSqrt3 be]

/-- An angle advanced by a speed (0.01 Hz) for a number of ticks. -/
def advance (ang : Word) (w : Int) (ticks : Int) : Word :=
  angleWord (ang.toNat + rdiv 228 (w * ticks * turn) 40000000000)

/-- The difference x − y of two angles, wrapped to half a turn. -/
def angleErr (x y : Word) : Int := toSigned 32 (fromSigned 32 ((x.toNat : Int) - y.toNat))

/-- An angle turned by `n` twelfths of a turn of 12 · 4 parts: `n` ÷ 48 of a turn. -/
def turned (ang : Word) (n : Int) : Word := angleWord (ang.toNat + rdiv 0x2260 (turn * n) 48)

/-- t_s: the peak in whose half the windows of the set were sampled (R228). -/
def Dev.sampleTick (d : Dev) (a : Nat) : Nat := (d.cv a).peakT

/-- +30° or −30° of a follower against its leader, in 48ths of a turn (R255). -/
def Dev.offset30 (d : Dev) (a : Nat) : Int := if d.rb (Reg.FLD_CFG a) 28 then -4 else 4

/-! ### The applied voltage (R232) -/

/-- High time of phase `p` in the previous period, 1/16 tick: both compares, less the dead time before the high switch or plus that
before the low switch, as the current's direction has it, each with its interlock extension, less the refresh pulses. A phase that
stays at one rail has no edge and no dead time. At zero current the effect of the dead times lies between the two, free (log entry
120). -/
def Dev.appliedHigh (d : Dev) (a p : Nat) : Int :=
  let w := (d.pw a).prev
  let t : Int := ((tget w.cmps (2 * p)).toNat + (tget w.cmps (2 * p + 1)).toNat : Nat)
  let ilk := d.rget (Reg.ISL_H_ILK (3 * a + p))
  let dt := d.rget (Reg.PWM_DT (d.leader a))
  let less : Int := 16 * (fget dt 16 12 + fget ilk 0 16 : Nat)
  let more : Int := 16 * (fget dt 0 12 + fget ilk 16 16 : Nat)
  let i := tget (d.fu a).ip p
  let dead := if (t ≤ 0 ∨ 16 * w.per ≤ t) ∧ tget w.cut p = 0 then 0 else if 0 < i then -less else if i < 0 then more else Config.freeFun 0x232 [a, p, t] % (less + more + 1) - less
  clampInt 0 (16 * w.per) (t + dead - 16 * tget w.cut p)

/-- The phase voltage of a high time against half the link, Q3.28 pu. -/
def Dev.appliedPhase (d : Dev) (a p : Nat) : Int :=
  let per := 16 * (d.pw a).prev.per
  rdiv 0x233 ((2 * d.appliedHigh a p - per) * d.dcl.vm * 20480) (2 * per * d.rf (Reg.FLD_VBASE a) 0 16)

/-- vα and vβ of the previous period: from its high times while the axis is driven and not cut, or injects on the HFI path of an attempt
(log entry 121), 0 in ASC, else what the machine gives, free. -/
def Dev.appliedAB (d : Dev) (a : Nat) : Int × Int :=
  if d.axOf a = .asc then (0, 0)
  else if ((d.axOf a).active && !d.isCut a) || (d.axOf a == .freewheel && d.hfiPath a) then clarke #v[d.appliedPhase a 0, d.appliedPhase a 1, d.appliedPhase a 2]
  else (Config.freeFun 0x234 [a, d.now], Config.freeFun 0x235 [a, d.now])

/-! ### Tracking loops (R240, R247) -/

/-- The speed of a tracking, 0.01 Hz. -/
def Track.speed (t : Track) : Int := rdiv 0x2470 t.w 65536

/-- The tracking goes on at its speed for `dt` ticks (R235). -/
def Track.go (t : Track) (dt : Nat) : Track :=
  { t with ang := angleWord (t.ang.toNat + rdiv 0x2471 (t.w * dt * turn) 2621440000000000) }

/-- One correction by an angle error `e` with the gains of `FLDa_PLL`, 2^−16 per step; how they enter is the model's reading (log entry
122). -/
def Track.pull (t : Track) (e : Int) (dt : Nat) (pll : Word) : Track :=
  ⟨angleWord (t.ang.toNat + rdiv 0x2472 (fget pll 0 16 * e) 65536), t.w + rdiv 0x2473 (fget pll 16 16 * e * 40000000000) (dt * 4294967296)⟩

/-- A tracking that starts from an angle and a speed. -/
def Track.at (ang : Word) (w : Int) : Track := ⟨ang, w * 65536⟩

/-! ### The flux observer (R247, R248) -/

/-- L_q i of a current, Q3.28. -/
def Dev.lqTimes (d : Dev) (a : Nat) (i : Int) : Int := rdiv 0x2474 (d.rf (Reg.FLD_MACH a) 16 16 * i) 4096

/-- `PSI` + (L_d − L_q) i_d, Q3.28. -/
def Dev.psiMag (d : Dev) (a : Nat) (id : Int) : Int :=
  d.rf (Reg.FLD_MACH2 a) 0 16 * 65536 + rdiv 0x2475 (((d.rf (Reg.FLD_MACH2 a) 16 16 : Int) - d.rf (Reg.FLD_MACH a) 16 16) * id) 4096

/-- The phase currents of an axis: of the valid set that waits for its step, else of the latest valid one. -/
def Dev.currentNow (d : Dev) (a : Nat) : Vector Int 3 :=
  match (d.cv a).ready with
  | some cs => if cs.valid then cs.i else (d.fu a).ip
  | none => (d.fu a).ip

/-- The current vector of the observer: the set's, and on a six-phase machine the mean with the follower's of the same step, rotated into
the leader's frame (R255). -/
def Dev.obsCurrent (d : Dev) (a : Nat) (i : Vector Int 3) : Int × Int :=
  let x := clarke i
  (d.group a).foldl (fun x f =>
    if f = a then x
    else
      let y := park (clarke (d.currentNow f)) (turned 0 (d.offset30 f))
      (rdiv 0x2550 (x.1 + y.1) 2, rdiv 0x2551 (x.2 + y.2) 2)) x

/-- One integral of v − R_s i over `dt` ticks: a flux in pu is a voltage in pu for 1 ÷ (2π × rated speed) (log entry 122). -/
def Dev.fluxStep (d : Dev) (a dt : Nat) (v i : Int) : Int :=
  rdiv 0x2476 ((v * 65536 - d.rf (Reg.FLD_MACH a) 0 16 * i) * (d.rf (Reg.FLD_RATED a) 0 18 * dt : Nat) * twoPi62) (65536 * 40000000000 * 4611686018427387904)

/-- The observer of axis `a` takes a set that came `dt` ticks after the one before, with the voltage applied (R235, R247, R248). The
drift correction is free, and with an invalid set what the flux becomes. -/
def Dev.observe (d : Dev) (a dt : Nat) (cs : CurSet) (v : Int × Int) : Dev :=
  let f := d.fu a
  let t := f.obs.go dt
  if !cs.valid then
    d.fuMod a (fun f => { f with obs := t, psiA := Config.freeFun 0x2477 [f.psiA, f.psiB, v.1, v.2], psiB := Config.freeFun 0x2478 [f.psiA, f.psiB, v.1, v.2] })
  else
    let i := d.obsCurrent a cs.i
    let drift (k : Nat) : Int := Config.freeFun (0x2480 + k) [f.psiA, f.psiB, v.1, v.2, i.1, i.2]
    let pa := f.psiA + d.fluxStep a dt v.1 i.1 + drift 0
    let pb := f.psiB + d.fluxStep a dt v.2 i.2 + drift 1
    let aa := pa - d.lqTimes a i.1
    let ab := pb - d.lqTimes a i.2
    let t := t.pull (angleErr (angleOf 0x247 aa ab) t.ang) dt (d.rget (Reg.FLD_PLL a))
    let mag := d.psiMag a (rotD i.1 i.2 t.ang)
    let ra := aa - rdiv 0x2479 (mag * cosQ t.ang.toNat) 1073741824
    let rb := ab - rdiv 0x247A (mag * sinQ t.ang.toNat) 1073741824
    let r := rdiv 0x248 (rsqrt 0x249 (ra * ra + rb * rb).toNat) 65536
    d.fuMod a (fun f => { f with obs := t, psiA := pa, psiB := pb, resid := r.toNat })

/-- The observer starts again from an angle and a speed (R238, R249, R254): its flux is that of the machine at the angle. -/
def Dev.seedObs (d : Dev) (a : Nat) (ang : Word) (w : Int) : Dev :=
  let i := clarke (d.fu a).ip
  let mag := d.psiMag a (rotD i.1 i.2 ang)
  d.fuMod a (fun f =>
    { f with obs := Track.at ang w
             psiA := rdiv 0x2479 (mag * cosQ ang.toNat) 1073741824 + d.lqTimes a i.1
             psiB := rdiv 0x247A (mag * sinQ ang.toNat) 1073741824 + d.lqTimes a i.2 })

/-- The tracking of source `s`, observer or HFI, starts again from an angle and a speed. -/
def Dev.seed (d : Dev) (a s : Nat) (ang : Word) (w : Int) : Dev :=
  match s with
  | 0 => d.seedObs a ang w
  | 3 => d.fuMod a (fun f => { f with hfi := Track.at ang w })
  | _ => d

/-! ### HFI (R240) -/

/-- An HFI start begins: polarity pulses, whose differences count from the currents of the set in use, then injection until it locks. -/
def Dev.hfiStart (d : Dev) (a : Nat) : Dev :=
  d.fuMod a (fun f => { f with hfiD := f.id, hfiQ := f.iq, hfiN := 0, hfiPos := 0, hfiNeg := 0, hfiRun := 0, hfiLocked := false })

/-- HFI takes a set: the pulses' |Δi_d|, after them the polarity, then the angle error out of the difference of i_q between
consecutive sets, at a scale that is free, until it stays below 5° in 8 sets. With `false` it has failed to settle. -/
def Dev.hfiTrack (d : Dev) (a dt : Nat) (cs : CurSet) : Dev × Bool :=
  let f := d.fu a
  let t := f.hfi.go dt
  if !cs.valid then (d.fuMod a (fun f => { f with hfi := t }), true)
  else
    let dq := park (clarke cs.i) t.ang
    let did := (dq.1 - f.hfiD).natAbs
    let w := d.rf (Reg.FLD_HFI a) 12 4
    let n := f.hfiN
    let d := d.fuMod a (fun f => { f with hfi := t, hfiD := dq.1, hfiQ := dq.2, hfiN := n + 1 })
    if n < w then (d.fuMod a (fun f => { f with hfiPos := max f.hfiPos did }), true)
    else if n < 2 * w then
      let neg := max f.hfiNeg did
      let flip := n + 1 = 2 * w ∧ f.hfiPos < neg
      (d.fuMod a (fun f => { f with hfiNeg := neg, hfi := if flip then { t with ang := turned t.ang 24 } else t }), true)
    else
      let e := Config.freeFun 0x240 [dq.2 - f.hfiQ, ((d.pw a).bcount % 2 : Nat), d.rf (Reg.FLD_HFI a) 0 12]
      let run := if e.natAbs * 72 < 4294967296 then f.hfiRun + 1 else 0
      let locked := f.hfiLocked || decide (8 ≤ run)
      (d.fuMod a (fun f => { f with hfi := t.pull e dt (d.rget (Reg.FLD_PLL a)), hfiRun := run, hfiLocked := locked }),
       locked || decide (n + 1 < 2 * w + d.rf (Reg.FLD_HFI a) 16 8))

/-! ### What an attempt records (R250–R252) -/

/-- The sum of the recorded increments, and their ticks. -/
def incSum (l : List (Int × Nat)) : Int := (l.map (·.1)).sum
def incTicks (l : List (Int × Nat)) : Nat := (l.map (·.2)).sum

/-- Every increment lies within `tol` × 0.25° of their mean. -/
def incsAgree (tol : Nat) (l : List (Int × Nat)) : Bool :=
  l.all (fun x => decide ((x.1 * l.length - incSum l).natAbs * 1440 ≤ tol * 4294967296 * l.length))

/-- The mean increment ÷ the step time, 0.01 Hz. -/
def incSpeed (l : List (Int × Nat)) : Int := rdiv 0x251 (incSum l * 40000000000) (incTicks l * 4294967296)

/-- The angle of the rotor from the short-circuit current at angle `phi` (R251): φ − 180° − arctan(R_s ÷ (ω L_q)). -/
def Dev.ascAngle (d : Dev) (a : Nat) (phi : Word) (w : Int) : Word :=
  let x := w * d.rf (Reg.FLD_MACH a) 16 16 * 16
  let at' := (angleOf 0x2510 x.natAbs (d.rf (Reg.FLD_MACH a) 0 16 * d.rf (Reg.FLD_RATED a) 0 18 : Nat)).toNat
  turned (angleWord ((phi.toNat : Int) - (if x < 0 then -(at' : Int) else at'))) 24

/-- The angle of the rotor from the probe current at angle `phi` (R252): φ ± 90° by the sign of the speed; free at speed 0. -/
def probeAngle (phi : Word) (w : Int) : Word :=
  if 0 < w then turned phi 12 else if w < 0 then turned phi (-12) else angleWord (Config.freeFun 0x252 [phi.toNat])

/-- A valid set of a leader brings the angle of its current vector: the rate of the short-circuit vector (R250), and in an attempt, from
its `wait`-th set on, the increments, at most `keep` of them, the speed that they give, and the current. -/
def Dev.recordPhi (d : Dev) (a t : Nat) (i : Int × Int) (wait keep : Nat) : Dev :=
  let phi := angleOf 0x2511 i.1 i.2
  d.fuMod a (fun f =>
    let step : Option (Int × Nat) := f.phi.map (fun p => (angleErr phi p.2, t - p.1))
    let incs := match step with
      | some x => if wait < f.acqN then (f.acqIncs ++ [x]).drop (f.acqIncs.length + 1 - keep) else f.acqIncs
      | none => f.acqIncs
    { f with
      phi := some (t, phi)
      ascSpeed := match step with | some x => incSpeed [x] | none => f.ascSpeed
      acqN := f.acqN + 1
      acqIncs := incs
      acqMag := f.acqMag + rsqrt 0x2520 (i.1 * i.1 + i.2 * i.2).toNat })

end Sys2Proof.Machine
end

