-- ==== Sys2Proof/Machine/Field.lean ====
section
/-! DEFINITION. The field units: angle sources, loss of the rotor, re-acquisition, modulation and the hall edges that commutate
(chapter 09, R226–R257, R446). -/

namespace Sys2Proof.Machine

/-! ### Sources (R238–R240, R245, R255) -/

/-- The angle of a source of axis `a` at t_s (R228, R239, R245). -/
def Dev.srcAngle (d : Dev) (a : Nat) (s : Nat) : Word :=
  match s with
  | 0 => (d.fu a).obs.ang
  | 1 => d.hallAngle a (d.sampleTick a)
  | 2 => advance (d.rget (Reg.FLD_EXTANG a)) (sword (d.rget (Reg.FLD_EXTSPD a))) ((d.sampleTick a : Int) - (d.fu a).extT)
  | _ => (d.fu a).hfi.ang

/-- The speed of a source, 0.01 Hz. -/
def Dev.srcSpeed (d : Dev) (a : Nat) (s : Nat) : Int :=
  match s with
  | 0 => (d.fu a).obs.speed
  | 1 => d.hallSpeed a
  | 2 => sword (d.rget (Reg.FLD_EXTSPD a))
  | _ => (d.fu a).hfi.speed

/-- The active source becomes `s`, with event 0xB3 + 6a when it changes; HFI begins with its start (R240), and the runs of R248, which
count steps with OBS active, begin again. -/
def Dev.takeSrc (d : Dev) (a s : Nat) : Dev :=
  if d.src a = s then d
  else
    let d := ((d.wf (Reg.FLD_STAT a) 0 2 s).ev (0xB3 + 6 * a)).fuMod a (fun f => { f with resRun := 0, hallRun := 0 })
    if s = 3 then d.hfiStart a else d

/-- The active source becomes `s`; a return to OBS ends a loss (R249). -/
def Dev.setSrc (d : Dev) (a s : Nat) : Dev :=
  let d1 := d.takeSrc a s
  if s = 0 ∧ d.lost a then (d1.wb (Reg.FLD_STAT a) 7 false).lvlOff (0x0701 + 0x10 * a) 0 else d1

/-- The source that R238 wants for primary OBS; `w` is the active source's speed. -/
def Dev.wantSrc (d : Dev) (a : Nat) (w : Int) : Nat :=
  let asrc := d.rget (Reg.FLD_ASRC a)
  let rated := d.rf (Reg.FLD_RATED a) 0 18
  let lo := fget asrc 8 8
  let hys := fget asrc 16 8
  if rated * (lo + hys) ≤ w.natAbs * 1000 then 0
  else if w.natAbs * 1000 < rated * lo then (match fget asrc 4 2 with | 1 => 3 | 2 => 1 | _ => 0)
  else d.src a

/-! ### Loss of the rotor and re-acquisition (R247–R254) -/

/-- The links of an axis are up: its three islands and its GI lane. -/
def Dev.linksUp (d : Dev) (a : Nat) : Bool :=
  d.laneUp (3 * a) && d.laneUp (3 * a + 1) && d.laneUp (3 * a + 2) && d.laneUp (if a < 2 then 12 else 13)

/-- Neither pulse-inhibit input in use is low. -/
def Dev.stoHigh (d : Dev) : Bool :=
  (!d.rb Reg.SAFE_CFG 30 || tget d.safe.raw 0) && (!d.rb Reg.SAFE_CFG 31 || tget d.safe.raw 1)

/-- R249: re-acquisition is allowed; `was`: the axis was ENABLED, DRIVING or STOPPING. -/
def Dev.reacqAllowed (d : Dev) (a : Nat) (was : Bool) : Bool :=
  d.rb (Reg.FLD_CFG a) 6 && was && (d.dstate == .run || d.dstate == .degraded) && d.stoHigh &&
    (d.group a).all (fun x => d.latch x == 0 && d.linksUp x)

/-- An attempt starts on the path of the axis's safe state (R251, R252). -/
def Dev.attempt (d : Dev) (a : Nat) : Dev :=
  (d.setAcq a (if d.axOf a = .asc then .asc else .probe)).fuMod a (fun f =>
    { f with acqNext := false, acqSpeed := none, acqN := 0, acqIncs := [], acqMag := 0 })

/-- The observer of axis `a` is lost with a cause (0 RESIDUAL, 1 HALL, 2 OVERSPEED, 3 HANDOVER); `held`: the speed at the last step
before the losing run, for which the selectors of the machine choose (R249, R255). -/
def Dev.observerLost (d : Dev) (a cause : Nat) (held : Int) : Dev :=
  let was := (d.axOf a).active
  let d := ((d.wf (Reg.FLD_STAT a) 18 2 cause).wb (Reg.FLD_STAT a) 7 true).ev (0xB2 + 6 * a)
  let d := (d.lvlOn (0x0701 + 0x10 * a) 0).fuMod a (fun f => { f with resRun := 0, hallRun := 0 })
  if d.hallValid a then d.takeSrc a 1
  else
    let allowed := d.reacqAllowed a was
    let d := (d.rset (Reg.FLD_HELD a) (wordOfInt held)).fuMod a (fun f => { f with ascSpeed := held })
    let d := d.wf (Reg.FLD_STAT a) 16 2 0
    let d := (d.group a).foldl (fun d x => (d.toSafeAt x held).blame (0x0701 + 0x10 * a) x) d
    if allowed then d.attempt a else d.occ (0x0702 + 0x10 * a) 0

/-- An attempt has failed: event 0xB5 + 6a; the third in a row raises fault 0x0702 (R253). -/
def Dev.attemptFail (d : Dev) (a : Nat) : Dev :=
  let d := (((d.setAcq a .none).wsat (Reg.FLD_STAT a) 16 2).ev (0xB5 + 6 * a)).fuMod a (fun f => { f with acqSpeed := none })
  if 3 ≤ d.rf (Reg.FLD_STAT a) 16 2 then d.occ (0x0702 + 0x10 * a) 0 else d.fuMod a (fun f => { f with acqNext := true })

/-- REACQ_TIMEOUT: an attempt has not succeeded 2 ms after it started (R253). -/
def Dev.acqTimeout (d : Dev) (a : Nat) : Dev := if d.acqPath a = 0 then d else d.attemptFail a

/-- REACQ_TIMEOUT. -/
def execReacqTimeout (a : Nat) (s : State) : Host.Outcome State Fault Refusal := s.run (·.acqTimeout a)

/-- An attempt succeeds with source `s`, an angle and a speed (R254): PLL and observer start again from them, event 0xB4 + 6a, the count
resets, DRIVING at the next commit point. HFI has found its polarity in the attempt. -/
def Dev.attemptOk (d : Dev) (a s : Nat) (ang : Word) (w : Int) : Dev :=
  let d := ((d.setAcq a .none).wf (Reg.FLD_STAT a) 16 2 0).ev (0xB4 + 6 * a)
  let d := (if d.src a = s then d else (d.wf (Reg.FLD_STAT a) 0 2 s).ev (0xB3 + 6 * a)).wb (Reg.FLD_STAT a) 7 false
  let d := ((d.lvlOff (0x0701 + 0x10 * a) 0).seedObs a ang w).seed a 3 ang w
  (d.group a).foldl (fun d x => d.fuMod x (fun f => { f with resume := true, acqSpeed := none, acqNext := false })) d

/-- What the attempt has measured becomes the selectors' speed (R250): with two recorded sets it is the increments' speed. -/
def Dev.acqMeasured (d : Dev) (a : Nat) : Dev :=
  let l := (d.fu a).acqIncs
  if l.isEmpty then d else (d.group a).foldl Dev.select (d.fuMod a (fun f => { f with acqSpeed := some (incSpeed l) }))

/-- The machine stands still (R252): the attempt goes on with HFI, or succeeds with the hall angle, or fails. -/
def Dev.standstill (d : Dev) (a : Nat) : Dev :=
  let low := d.rf (Reg.FLD_ASRC a) 4 2
  if low = 1 then ((d.setAcq a .hfi).hfiStart a).fuMod a (fun f => { f with hfi := Track.at f.hfi.ang 0 })
  else if low = 2 ∧ codeValid (d.rf (Reg.POS_STAT a) 0 3) then d.attemptOk a 1 (d.srcAngle a 1) (d.srcSpeed a 1)
  else d.attemptFail a

/-- A set on the ASC path (R251): after `ACQ_WAIT` sets the latest `ACQ_N` must agree (log entry 123). -/
def Dev.acqAsc (d : Dev) (a : Nat) : Dev :=
  let q := d.rget (Reg.FLD_REACQ a)
  let f := d.fu a
  if f.acqIncs.length + 1 = fget q 4 6 ∧ incsAgree (fget q 16 8) f.acqIncs = true then
    let w := incSpeed f.acqIncs
    d.attemptOk a 0 (d.ascAngle a (f.phi.getD (0, 0)).2 w) w
  else d.acqMeasured a

/-- A set on the probe path (R252): after `PROBE_N` probes their mean current and their increments decide. -/
def Dev.acqProbe (d : Dev) (a : Nat) : Dev :=
  let pr := d.rget (Reg.FLD_PROBE a)
  let n := fget pr 16 4
  let f := d.fu a
  if f.acqN = n then
    if f.acqMag < fget pr 20 12 * 65536 * n then d.standstill a
    else if incsAgree (d.rf (Reg.FLD_REACQ a) 16 8) f.acqIncs then
      let w := incSpeed f.acqIncs
      d.attemptOk a 0 (probeAngle (f.phi.getD (0, 0)).2 w) w
    else d.acqMeasured a
  else d.acqMeasured a

/-- A set on the HFI path: the start of R240, with its fault when it fails to settle. -/
def Dev.acqHfi (d : Dev) (a : Nat) (ok : Bool) : Dev :=
  if !ok then (d.occ (0x0703 + 0x10 * a) 0).attemptFail a
  else if (d.fu a).hfiLocked then d.attemptOk a 3 (d.fu a).hfi.ang (d.fu a).hfi.speed
  else d

/-- A step with an attempt under way, or the start of a further one (R251–R253). Sets that are invalid count on no path (log entry 123).
`ok`: HFI has not failed. -/
def Dev.attemptStep (d : Dev) (a : Nat) (valid ok : Bool) : Dev :=
  match d.acqPath a with
  | 0 => if (d.fu a).acqNext then d.attempt a else d
  | 3 => d.acqHfi a ok
  | 1 => if valid then d.acqAsc a else d
  | _ => if valid then d.acqProbe a else d

/-- A loss stands that nothing has restored while the axis is in its safe state: no second one is declared (log entry 97). -/
def Dev.lossStands (d : Dev) (a : Nat) : Bool := d.lost a && !(d.axOf a).active

/-- The wanted source lies further from the active one than `ASW_TOL` (R238). The tracking of HFI, which does not run before its source is
active, has no angle of its own to differ (log entry 124). -/
def Dev.srcFar (d : Dev) (a want : Nat) : Bool :=
  want != 3 &&
    decide (d.rf (Reg.FLD_ASRC a) 24 8 * 4294967296 < (angleErr (d.srcAngle a want) (d.srcAngle a (d.src a))).natAbs * 1440)

/-- The choice of the active source in one step (R238); a tracking that takes over, or that was refused, starts from the active source;
a loss by handover is declared here. -/
def Dev.chooseSrc (d : Dev) (a : Nat) : Dev :=
  match d.rf (Reg.FLD_ASRC a) 0 2 with
  | 1 => d.setSrc a 1
  | 2 => d.setSrc a 2
  | _ =>
    let src := d.src a
    let want := d.wantSrc a (d.srcSpeed a src)
    let seeded := d.seed a want (d.srcAngle a src) (d.srcSpeed a src)
    if want = src then d
    else if src = 0 ∧ d.srcFar a want then
      if d.lossStands a then d else d.observerLost a 3 (sword (d.rget (Reg.FLD_SPEED a)))
    else if want = 0 ∧ d.srcFar a 0 then seeded.wb (Reg.FLD_FLAGS a) 3 true
    else seeded.setSrc a want

/-- The loss checks of R248 in a step with a valid set while OBS is the active source: the runs, and a loss with its cause and the
speed before the losing run. -/
def Dev.lossChecks (d : Dev) (a : Nat) : Dev × Option (Nat × Int) :=
  if d.src a ≠ 0 ∨ d.lossStands a then (d, none)
  else
    let f := d.fu a
    let w := f.obs.speed
    let obs := d.rget (Reg.FLD_OBS a)
    let res := decide (fget obs 0 16 < f.resid)
    let hall := d.hallValid a &&
      decide (d.rf (Reg.FLD_HDIV a) 0 16 * d.rf (Reg.FLD_RATED a) 0 18 < (w - d.hallSpeed a).natAbs * 1000)
    let rr := if res then f.resRun + 1 else 0
    let hr := if hall then f.hallRun + 1 else 0
    let now := sword (d.rget (Reg.FLD_SPEED a))
    let rw := if rr ≤ 1 then now else f.wPre
    let hw := if hr ≤ 1 then now else f.wHall
    let d := d.fuMod a (fun f => { f with resRun := rr, hallRun := hr, wPre := rw, wHall := hw })
    (d, if 0 < rr ∧ fget obs 16 8 ≤ rr then some (0, rw)
        else if 0 < hr ∧ fget obs 24 8 ≤ hr then some (1, hw)
        else if 200000 < w.natAbs then some (2, now)
        else none)

/-- The tracking of HFI takes a set while HFI is the active source or an attempt runs on it. -/
def Dev.hfiStep (d : Dev) (a dt : Nat) (cs : CurSet) : Dev × Bool :=
  if d.src a = 3 ∨ d.acqPath a = 3 then d.hfiTrack a dt cs else (d, true)

/-- A step's choice of the source. An HFI that did not lock raises fault 0x0703, and OBS is the active source of the step (R240). -/
def Dev.sourceStep (d : Dev) (a : Nat) (ok : Bool) : Dev :=
  if d.src a = 3 ∧ !ok then (d.occ (0x0703 + 0x10 * a) 0).setSrc a 0 else d.chooseSrc a

/-- The angle and speed registers after the choice of the source. While the hall interface stands in for a lost observer, the
observer starts again from it at each step (R249). -/
def Dev.showAngle (d : Dev) (a : Nat) : Dev :=
  let s := d.src a
  let d := if d.lost a && s == 1 then d.seedObs a (d.srcAngle a 1) (d.srcSpeed a 1) else d
  let d := (d.rset (Reg.FLD_ANGLE a) (d.srcAngle a s)).rset (Reg.FLD_SPEED a) (wordOfInt (d.srcSpeed a s))
  (d.rset (Reg.FLD_OBSANG a) (d.fu a).obs.ang).rset (Reg.FLD_RESID a) (BitVec.ofNat 32 (min 65535 (d.fu a).resid))

/-- The decisions of a leader's step: an attempt, or the loss checks with a valid set and, where they declare no loss, the choice of the
source. -/
def Dev.fieldSource (d : Dev) (a : Nat) (valid ok : Bool) : Dev :=
  if d.acqPath a ≠ 0 ∨ (d.fu a).acqNext then d.attemptStep a valid ok
  else
    match if valid then d.lossChecks a else (d, none) with
    | (e, some (cause, held)) => e.observerLost a cause held
    | (e, none) => e.sourceStep a ok

/-- A leader's step before the transforms: observer, HFI, current vector, source, registers (R227–R254). -/
def Dev.leaderStep (d : Dev) (a dt : Nat) (cs : CurSet) : Dev :=
  let d := d.observe a dt cs (d.appliedAB a)
  let r := d.hfiStep a dt cs
  let d := if cs.valid then
      (let asc := r.1.acqPath a == 1
       let q := d.rget (Reg.FLD_REACQ a)
       r.1.recordPhi a (d.sampleTick a) (clarke cs.i) (if asc then fget q 0 4 else 0) (if asc then fget q 4 6 - 1 else 15))
    else r.1
  (d.fieldSource a cs.valid r.2).showAngle a

/-- A follower takes the leader's angle ± 30° and its speed (R255). -/
def Dev.followAngle (d : Dev) (a : Nat) : Dev :=
  let l := d.leader a
  (d.rset (Reg.FLD_ANGLE a) (turned (d.rget (Reg.FLD_ANGLE l)) (d.offset30 a))).rset (Reg.FLD_SPEED a) (d.rget (Reg.FLD_SPEED l))

/-- i_d and i_q of the set in use (R227, R235). Under HFI the injected response is removed, which the spec leaves open how
(R240). -/
def Dev.currents (d : Dev) (a : Nat) (cs : CurSet) : Dev :=
  if cs.valid then
    let dq := park (clarke cs.i) (d.rget (Reg.FLD_ANGLE a))
    let hfi := d.src (d.leader a) == 3 || d.acqPath (d.leader a) == 3
    let id := if hfi then Config.freeFun 0x242 [dq.1, dq.2, d.rf (Reg.FLD_HFI a) 0 12] else dq.1
    let iq := if hfi then Config.freeFun 0x241 [dq.1, dq.2, d.rf (Reg.FLD_HFI a) 0 12] else dq.2
    d.fuMod a (fun f => { f with id := id, iq := iq, valid := true, ip := cs.i })
  else (d.wb (Reg.FLD_FLAGS a) 0 true).fuMod a (fun f => { f with valid := false })

/-- What the engine receives of the applied voltage: its d and q parts at the step's angle (R232). -/
def Dev.appliedV (d : Dev) (a : Nat) (v : Int × Int) : Dev :=
  let dq := park v (d.rget (Reg.FLD_ANGLE a))
  d.fuMod a (fun f => { f with vd := dq.1, vq := dq.2 })

/-! ### The commutation sector (R237) -/

/-- The sector of the hall angle with `FLDa_BADV`, taken before any rounding, so that the commutation falls on the hall edge itself:
at a boundary that a reverse edge enters, the sector is the one below it (R237, R245; log entry 157). -/
def Dev.hallSector (d : Dev) (a : Nat) : Nat :=
  let l := d.leader a
  let s : Int := (d.hall l).sector
  let q : Int := max 1 (d.rget (Reg.POS_INT l)).toNat
  let b := 60 * 65536 * q
  let ofs := 360 * q * (d.rf (Reg.POS_OFS l) 0 16 + d.rfs (Reg.FLD_BADV a) 0 16) + (if a = l then 0 else b / 8 * d.offset30 a)
  let run := min (60 * 65536 * ((d.now : Int) - (d.hall l).edgeT)) (59 * 65536 * q)
  let x := if !d.hallValid l then (2 * s + 1) * (b / 2) + ofs
    else if d.rb (Reg.POS_STAT l) 7 then (s + 1) * b - run + ofs - 1
    else s * b + run + ofs
  (x / b % 6).toNat

/-- The angle of a source other than HALL now: the step's angle advanced by its speed. -/
def Dev.angleNow (d : Dev) (a : Nat) : Word :=
  let l := d.leader a
  let ang := advance (d.rget (Reg.FLD_ANGLE l)) (sword (d.rget (Reg.FLD_SPEED l))) ((d.now : Int) - (d.fu l).angT)
  if a = l then ang else turned ang (d.offset30 a)

/-- ⌊(θ + `FLDa_BADV`) ÷ 60°⌋. -/
def Dev.sectorNow (d : Dev) (a : Nat) : Nat :=
  if d.src (d.leader a) = 1 then d.hallSector a
  else (angleWord ((d.angleNow a).toNat + d.rfs (Reg.FLD_BADV a) 0 16 * 65536)).toNat * 6 / 4294967296

/-- The sector has changed: a commutation event 0xB1 + 6a, and the masks follow with `MASK_SRC` = FLD (R162). -/
def Dev.sectorChange (d : Dev) (a : Nat) : Dev :=
  let s := d.sectorNow a
  if d.rf (Reg.FLD_STAT a) 4 3 = s then d else ((d.wf (Reg.FLD_STAT a) 4 3 s).ev (0xB1 + 6 * a)).commutate a 2 s

/-- SECTOR_CHANGE: the tick at which the sector of axis `a` changes. -/
def execSectorChange (a : Nat) (s : State) : Host.Outcome State Fault Refusal := s.run (·.sectorChange a)

/-- A hall edge, and with the hall angle as the active source the commutation that falls on it (R237). -/
def Dev.hallEdgeAt (d : Dev) (a code : Nat) : Dev :=
  let d := d.hallEdge a code
  if d.rb (Reg.POS_CFG a) 0 && d.leader a == a && d.src a == 1 then d.each a Dev.sectorChange else d

/-- HALL_EDGE. -/
def execHallEdge (a code : Nat) (s : State) : Host.Outcome State Fault Refusal := s.run (·.hallEdgeAt a code)

/-! ### From voltage to compares (R229–R234, R237) -/

/-- The largest and the smallest of three. -/
def max3 (v : Vector Int 3) : Int := max v[0] (max v[1] v[2])
def min3 (v : Vector Int 3) : Int := min v[0] (min v[1] v[2])

/-- Numerator over `2 D` of the duty of a phase (R229): `n` are v_p and `D` V_DC on one scale. -/
def dutyNum (mod : Nat) (n : Vector Int 3) (D x : Int) : Int :=
  match mod with
  | 0 => D + 2 * x - max3 n - min3 n
  | 1 =>
    let m := if (min3 n).natAbs ≤ (max3 n).natAbs then max3 n else min3 n
    if 0 < m then 2 * D + 2 * (x - m) else 2 * (x - m)
  | _ => 2 * (x - min3 n)

/-- The modulation of a voltage request: squares of |v| and V_DC on one scale. -/
structure ModReq where
  n : Vector Int 3
  D : Int
  s : Int
  deriving DecidableEq, Repr

/-- The request of axis `a` for v_d, v_q at an angle. -/
def Dev.modReq (d : Dev) (a : Nat) (vd vq : Int) (ang : Word) : ModReq :=
  let k : Int := d.rf (Reg.FLD_VBASE a) 0 16 * 131072
  let p := phaseVolts vd vq ang
  ⟨#v[p[0] * k, p[1] * k, p[2] * k], 2684354560 * d.dcl.vm, (vd * vd + vq * vq) * k * k⟩

/-- M exceeds `OVM_MAX` (R230): decided with π² between 9.8696044 and 9.8696045, free in between. -/
def overLimit (r : ModReq) (ovm : Nat) : Bool :=
  let lim : Int := 4 * (ovm * ovm : Nat) * r.D * r.D * 10000000
  if lim < r.s * 65536 * 98696044 then true
  else if r.s * 65536 * 98696045 ≤ lim then false
  else Config.roundUp 230 r.s ovm

/-- The request limited to a modulation index of `ovm` ÷ 256 (R230). -/
def ModReq.limited (r : ModReq) (ovm : Nat) : ModReq :=
  let den := (256 * twoPi62 * rsqrt 0x2300 r.s.toNat).toNat
  { r with n := Vector.ofFn (fun p : Fin 3 => rdiv 0x2301 (r.n[p] * ovm * 4 * r.D * one62) den)
           s := rdiv 0x2302 ((ovm * 4 * r.D * one62) * (ovm * 4 * r.D * one62)) (256 * twoPi62 * (256 * twoPi62)).toNat }

/-- The hexagon's vertex in whose sector a request lies: every phase at a rail by its sign. -/
def ModReq.vertex (r : ModReq) : ModReq := { r with n := Vector.ofFn (fun p : Fin 3 => if 0 < r.n[p] then r.D else 0) }

/-- M of a request (R230), in 2^−62. -/
def ModReq.index (r : ModReq) : Int := rsqrt 0x2303 r.s.toNat * twoPi62 / (4 * r.D)

/-- √3 in 2^−62, and 30° in codes. -/
def sqrt3w : Int := 7987674492471257550
def deg30 : Nat := 357913941

/-- ln tan(45° + x ÷ 2), the integral of 1 ÷ cos from 0 to `x` codes, in 2^−62. -/
def secInt (x : Nat) : Int := (lnNat (one62 + (cosSin x).2).toNat - lnNat (one62 - (cosSin x).2).toNat) / 8

/-- The M of the fundamental in the first region, where the raised reference lies on the hexagon up to `x` codes from the middle of each
side: the mean of its magnitude over the sector, V_DC ÷ (√3 cos φ) on the hexagon and V_DC ÷ (√3 cos x) beyond it. -/
def ovmFirst (x : Nat) : Int :=
  sqrt3w * (secInt x + ((deg30 - x : Nat) * twoPi62 / 4294967296) * one62 / (cosSin x).1) / one62

/-- The M of the fundamental in the second region, where the angle is held at a vertex up to `x` codes from it. -/
def ovmSecond (x : Nat) : Int := sqrt3w * secInt (deg30 - x) / one62 + 2 * (cosSin x).2

/-- The largest argument from `lo` on, halving the range `fuel` times, at which a rising `f` is at most `m`. -/
def ovmSolve (f : Nat → Int) (m : Int) : Nat → Nat → Nat → Nat
  | 0, lo, _ => lo
  | fuel + 1, lo, hi => if f ((lo + hi) / 2) ≤ m then ovmSolve f m fuel ((lo + hi) / 2) hi else ovmSolve f m fuel lo ((lo + hi) / 2)

/-- The angle of a region for a request: any one, free, with which the fundamental lies within 1 % of M (R230, log entry 158). -/
def ModReq.ovmAngle (r : ModReq) (site : Nat) (f : Nat → Int) : Nat :=
  let x := (Config.freeFun site [r.s, r.D] % (deg30 + 1)).toNat
  if 100 * (f x - r.index).natAbs ≤ r.index.natAbs then x else ovmSolve f r.index 30 0 (deg30 + 1)

/-- A request lies within `x` codes of a vertex of the hexagon, at a multiple of 60°. -/
def ModReq.nearVertex (r : ModReq) (x : Nat) : Bool :=
  let v := clarke r.n
  let y := (angleOf 0x2307 v.1 v.2).toNat * 6 % 4294967296
  decide (min y (4294967296 - y) ≤ 6 * x)

/-- Two-region overmodulation of a request beyond the linear range (R230), with `six` six-step: up to the fundamental that the hexagon
itself gives, the request in its own direction with its magnitude raised, on the hexagon at most; beyond that, the vertex near it, or the
hexagon in its own direction. -/
def ModReq.over (r : ModReq) (six : Bool) : ModReq :=
  let span := max3 r.n - min3 r.n
  let hexagon := { r with n := Vector.ofFn (fun p : Fin 3 => rdiv 0x2305 (r.n[p] * r.D) span.toNat) }
  if six then r.vertex
  else if r.index ≤ ovmFirst deg30 then
    let den := sqrt3w * (cosSin (r.ovmAngle 0x2304 ovmFirst)).1 * rsqrt 0x2306 r.s.toNat
    if den < span * one62 * one62 then hexagon
    else { r with n := Vector.ofFn (fun p : Fin 3 => rdiv 0x2308 (r.n[p] * r.D * one62 * one62) den.toNat) }
  else if r.nearVertex (r.ovmAngle 0x2309 ovmSecond) then r.vertex
  else hexagon

/-- The request as the modulation uses it: limited to `OVM_MAX`, overmodulated beyond M = π ÷ (2√3), that is |v| > V_DC ÷ √3; and whether
the limit acted (R230). Block commutation takes |v| as it is (R237). -/
def ModReq.shaped (r : ModReq) (mod ovm : Nat) : ModReq × Bool :=
  if mod = 3 ∨ r.D ≤ 0 then (r, false)
  else
    let lim := overLimit r ovm
    let q := if lim then r.limited ovm else r
    (if 3 * q.s ≤ q.D * q.D then q else q.over (lim && ovm == 256), lim)

/-- The compare of a phase before compensation, 0 to `h` (R229): free at V_DC = 0. -/
def phaseCmp (mod : Nat) (r : ModReq) (h : Nat) (p : Nat) : Int :=
  if 0 < r.D then clampInt 0 h (rnear 229 (dutyNum mod r.n r.D (tget r.n p) * h) (2 * r.D).toNat)
  else Config.freeFun 0x230 [mod, r.n[0], r.n[1], r.n[2], r.D, h, p] % (h + 1 : Nat)

/-- The phase that a mask entry chops: both its switches pass (R237). -/
def Dev.maskChops (d : Dev) (a s p : Nat) : Bool := d.rb (Reg.PWM_MASK a s) p && d.rb (Reg.PWM_MASK a s) (p + 3)

/-- The compare of a phase under block commutation (R237): |v| ÷ V_DC for the chopping phase and for the floating phase
that chops next in the present direction, 0 for the others. -/
def Dev.blockCmp (d : Dev) (a : Nat) (r : ModReq) (h p : Nat) : Int :=
  let s := d.rf (Reg.FLD_STAT a) 4 3
  let next := if 0 ≤ sword (d.rget (Reg.FLD_SPEED a)) then (s + 1) % 6 else (s + 5) % 6
  let floats := !d.rb (Reg.PWM_MASK a s) p && !d.rb (Reg.PWM_MASK a s) (p + 3)
  if d.maskChops a s p || (floats && d.maskChops a next p) then
    if r.D ≤ 0 then h else min h (rnear 237 (rsqrt 0x237 r.s.toNat * h) r.D.toNat)
  else 0

/-- The dead-time compensation of a phase, 1/16 tick (R231). -/
def Dev.dtcOf (d : Dev) (a p : Nat) : Int :=
  if d.rb (Reg.FLD_CFG a) 5 then
    let dtc := d.rget (Reg.FLD_DTC a)
    let iz : Int := max 1 (fget dtc 16 12) * 65536
    rdiv 231 ((fget dtc 0 12 : Nat) * clampInt (-iz) iz (tget (d.fu a).ip p)) iz.toNat
  else 0

/-- Compares up and down of the three phases for a period of `per` ticks, at 2p and 2p + 1, and whether `OVM_MAX` limited the request
(R229–R231). -/
def Dev.compares (d : Dev) (a per : Nat) (vd vq : Int) (ang : Word) : Vector Int 6 × Bool :=
  let h := per * 8
  let mod := d.rf (Reg.FLD_CFG a) 0 3
  let r := (d.modReq a vd vq ang).shaped mod (d.rf (Reg.FLD_CFG a) 16 9)
  (Vector.ofFn (fun i : Fin 6 =>
    let p := i.val / 2
    let c := if mod = 3 then d.blockCmp a r.1 h p else phaseCmp mod r.1 h p
    let dt := d.dtcOf a p
    let half := rdiv 0x2310 dt 2
    clampInt 0 h (c + (if i.val % 2 = 0 then half else dt - half))), r.2)

/-- The window guard of R233: compares with all three high times lowered by the same amount, half of it on each compare as far as a
compare has it, and whether the limit applied. -/
def guardWindows (tlim : Int) (q : Vector Int 6) : Vector Int 6 × Bool :=
  let t : Vector Int 3 := #v[q[0] + q[1], q[2] + q[3], q[4] + q[5]]
  let second := t[0] + t[1] + t[2] - max3 t - min3 t
  if tlim < second then
    let want := second - tlim
    let dl := min want (min3 t)
    let up (p : Fin 3) : Int := min (tget q (2 * p)) (max (dl / 2) (dl - tget q (2 * p + 1)))
    (Vector.ofFn (fun i : Fin 6 =>
      let p : Fin 3 := ⟨i.val / 2, by omega⟩
      q[i] - (if i.val % 2 = 0 then up p else dl - up p)), decide (min3 t < want))
  else (q, false)

/-- `T_lim` of R233 in 1/16 tick for a period. -/
def Dev.guardLim (d : Dev) (a per : Nat) : Int :=
  16 * ((per : Int) - d.rf (Reg.PWM_DT (d.leader a)) 0 12 - d.rf (Reg.PWM_WIN a) 16 12 - d.rf (Reg.PWM_WIN a) 0 11)

/-- The compares of axis `a` for a period, guarded (R229–R233): what they are, whether the guard reached its limit, whether `OVM_MAX`
limited the request. -/
structure FieldCmps where
  cmps : Vector Int 6
  short : Bool
  vlim : Bool
  deriving DecidableEq, Repr

def Dev.finalCmps (d : Dev) (a per : Nat) (vd vq : Int) (ang : Word) : FieldCmps :=
  let c := d.compares a per vd vq ang
  if d.rb (Reg.FLD_CFG a) 4 && !d.rb (Reg.PWM_CFG (d.leader a)) 0 && d.rb (Reg.PWM_WIN a) 31 then
    let g := guardWindows (d.guardLim a per) c.1
    ⟨g.1, g.2, c.2⟩
  else ⟨c.1, false, c.2⟩

/-- The voltage that HFI adds to v_d: the polarity pulses of the start, then a square wave (R240). -/
def Dev.hfiVolt (d : Dev) (a : Nat) : Int :=
  let l := d.leader a
  if d.src l = 3 ∨ d.acqPath l = 3 then
    let amp : Int := d.rf (Reg.FLD_HFI l) 0 12 * 65536
    let w := d.rf (Reg.FLD_HFI l) 12 4
    let n := (d.fu l).hfiN
    if (d.fu l).hfiLocked = false ∧ n < w then 2 * amp else if (d.fu l).hfiLocked = false ∧ n < 2 * w then -(2 * amp)
    else if (d.pw a).bcount % 2 = 0 then amp else -amp
  else 0

/-- The peak of the period in which compares that apply at tick `u` act (R228). -/
def Dev.peakOf (d : Dev) (a u : Nat) : Int :=
  let b := (d.pw (d.leader a)).lastB
  b + (u - b) / d.perOf a * d.perOf a + d.perOf a / 2

/-- The peak of the first period of `per2` ticks that begins at tick `u` or after it. -/
def Dev.peakOfNext (d : Dev) (a u per2 : Nat) : Int :=
  let b := (d.pw (d.leader a)).lastB
  b + (u - b + d.perOf a - 1) / d.perOf a * d.perOf a + per2 / 2

/-- θ′ (R228): the step's angle extrapolated to a tick. -/
def Dev.angleAt (d : Dev) (a : Nat) (t : Int) : Word :=
  advance (d.rget (Reg.FLD_ANGLE a)) (sword (d.rget (Reg.FLD_SPEED a))) (t - (d.fu a).angT)

/-- The flags of a computation: `VLIM`, and `WG_SHORT` with the guard fault (R230, R233). -/
def Dev.cmpFlags (d : Dev) (a : Nat) (c : FieldCmps) : Dev :=
  let d := if c.vlim then d.wb (Reg.FLD_FLAGS a) 1 true else d
  if c.short then (d.wb (Reg.FLD_FLAGS a) 2 true).occ (0x0704 + 0x10 * d.leader a) 0 else d

/-- R228, R234: the field unit turns a voltage for axis `a` into staged compares, for the period in effect and, while a period is
staged, for that one as well. Past the cut-off they are for the update point after the next (R147). -/
def Dev.stageVolts (d : Dev) (a : Nat) (vd vq : Int) : Dev :=
  let vd := vd + d.hfiVolt a
  let late := d.pastCutoff a
  let u := d.applyAt a
  let c := d.finalCmps a (d.perOf a) vd vq (d.angleAt a (d.peakOf a u))
  let d := ((List.range 6).foldl (fun d i => d.fieldCmp a i (BitVec.ofNat 32 (tget c.cmps i).toNat) late) d).cmpFlags a c
  let d := if late then (d.wb (Reg.PWM_FLAGS a) 4 true).occ (0x0406 + 0x10 * d.leader a) 0 else d
  match (d.pw (d.leader a)).per with
  | some p =>
    let per2 := fget p 0 24
    let c2 := d.finalCmps a per2 vd vq (d.angleAt a (d.peakOfNext a u per2))
    ((List.range 6).foldl (fun d i => d.fieldNcmp a i (BitVec.ofNat 32 (tget c2.cmps i).toNat) late) d).cmpFlags a c2
  | none => d

/-- The voltage that the engine delivers for axis `a` becomes compares while the axis is driven (R234). -/
def Dev.modulate (d : Dev) (a : Nat) (vd vq : Int) : Dev :=
  let d := d.hlt 0x06 a (d.now - (d.cv a).setT : Nat)
  if (d.axOf a).active then d.stageVolts a vd vq else d

/-- CE_CURRENT_SECTION: the current section of axis `a` runs; what passes its output checkpoint reaches the field unit
(R265, R276, R234). -/
def Dev.currentSection (d : Dev) (a : Nat) (upset : Bool) : Dev :=
  match d.ceCurrent a upset with
  | (d, some v) => d.modulate a v.1 v.2
  | (d, none) => d

/-- CE_CURRENT_SECTION. -/
def execCeCurrentSection (a : Nat) (upset : Bool) (s : State) : Host.Outcome State Fault Refusal :=
  s.run (·.currentSection a upset)

/-! ### A step of the field unit (R227–R255) -/

/-- The field unit of axis `a` takes its current set. On the HFI path of an attempt it injects without the engine (log entry 121). -/
def Dev.unitStep (d : Dev) (a : Nat) : Dev :=
  match (d.cv a).ready with
  | none => d
  | some cs =>
    let d := d.cvMod a (fun c => { c with ready := none })
    let v := d.appliedAB a
    let dt := d.sampleTick a - (d.fu a).angT
    let d := if d.leader a ≠ a then d.followAngle a else d.leaderStep a dt cs
    let d := (d.currents a cs).appliedV a v
    let d := d.fuMod a (fun f => { f with angT := d.sampleTick a })
    let d := (d.sectorChange a).select a
    if d.acqPath (d.leader a) = 3 ∧ d.axOf a = .freewheel then d.stageVolts a 0 0 else d

/-- FIELD_STEP of axis `a`. The axes of a six-phase machine step together, the leader first, once both their sets are here: one angle and
one observer serve both (R255; log entry 159). -/
def Dev.fieldStep (d : Dev) (a : Nat) : Dev :=
  if d.paired a then
    let l := d.leader a
    if (d.cv l).ready.isSome && (d.cv (l + 1)).ready.isSome then (d.unitStep l).unitStep (l + 1) else d
  else d.unitStep a

/-- FIELD_STEP. -/
def execFieldStep (a : Nat) (s : State) : Host.Outcome State Fault Refusal := s.run (·.fieldStep a)

/-! ### At the commit point (R254, R446) -/

/-- R254: after a successful attempt the axis enters DRIVING at the first commit point that finds its GI lane up (R180), STO not in effect
and the device in RUN or DEGRADED (log entry 37), and its torque limit ramps from 0. -/
def Dev.resumeAt (d : Dev) (a : Nat) : Dev :=
  if (d.fu a).resume then
    if !(d.axOf a).safe then d.fuMod a (fun f => { f with resume := false })
    else if d.axisLaneUp a && (d.dstate == .run || d.dstate == .degraded) && !d.rb Reg.SAFE_STO 31 then
      ((d.fuMod a (fun f => { f with resume := false, rampFrom := some d.now })).axGo a .driving).heed a
    else d
  else d

/-- R446: an axis in STOPPING enters ENABLED with its reference within ±`STOP_IQ` and its leader's speed below `STOP_SPD`. -/
def Dev.stopTest (d : Dev) (a : Nat) : Dev :=
  let st := d.rget (Reg.FLD_STOP a)
  if d.axOf a == .stopping && decide ((tget d.ce.iref a).natAbs ≤ fget st 16 16 * 65536) &&
      decide ((sword (d.rget (Reg.FLD_SPEED (d.leader a)))).natAbs < fget st 0 16 * 10) then d.axGo a .enabled
  else d

end Sys2Proof.Machine
end

