-- ==== Sys2Proof/Machine/SafeBlock.lean ====
section
/-! DEFINITION. The SAFE block: safe pulse inhibit and its path test, the torque monitor, safe brake control and the
brake switch test, the connections of the safety layer (chapter 13, R332–R354). -/

namespace Sys2Proof.Machine

def Dev.safeMod (d : Dev) (f : Safe → Safe) : Dev := { d with safe := f d.safe }

/-- The image has committed: the PWM timebases run from the end of commit (R145). -/
def Dev.committed (d : Dev) : Bool := (tget d.pwm 0).running

/-! ### Safe pulse inhibit (R332–R336) -/

/-- Input `i` (0 `nSTO_A`, 1 `nSTO_B`) is in use; STO is in effect. -/
def Dev.stoUse (d : Dev) (i : Nat) : Bool := d.rb Reg.SAFE_CFG (30 + i)
def Dev.stoNow (d : Dev) : Bool := d.rb Reg.SAFE_STO 31

/-- Input `i` is in use and filtered low. -/
def Dev.stoLow (d : Dev) (i : Nat) : Bool := d.stoUse i && tget d.safe.low i

/-- The STO field reaches the islands of every lane that is up: high switches off; low switches off with OFF, and those of
axes whose choice is FREEWHEEL with ASC_SPEED (R333). -/
def Dev.stoField (d : Dev) : Dev :=
  (List.range 24).foldl (fun d sw =>
    let a := sw % 12 / 3
    if (sw < 12 || d.stoOff || !d.choice a) && d.laneUp (laneOf sw) then (d.ilkOff sw).swMod sw Switch.islTurnOff
    else d) d

/-- What STO does to a traction axis when it comes into effect (R335). -/
def Dev.stoAxis (d : Dev) (a : Nat) : Dev :=
  (if d.stoOff then
    if (d.axOf a).active || (d.axOf a == .asc && d.axisLaneUp a) then (d.selDecide a).axGo a .freewheel else d.selDecide a
  else (d.toSafe a).select a).blame 0x0C01 a

/-! ### Safe brake control (R342) -/

/-- The level of both brake switches. -/
def Dev.sbcHs (d : Dev) : Bool := d.rb Reg.SAFE_SBC_STAT 31
def Dev.sbcLs (d : Dev) : Bool := d.rb Reg.SAFE_SBC_STAT 30

/-- The brake switches take a level; the time of one state starts again (R342, R343). -/
def Dev.sbcPins (d : Dev) (hs ls : Bool) : Dev :=
  if d.sbcHs = hs ∧ d.sbcLs = ls then d
  else
    let d := ((d.wb Reg.SAFE_SBC_STAT 31 hs).wb Reg.SAFE_SBC_STAT 30 ls).wb Reg.SAFE_SBC_STAT 29 false
    let d := { d with pins := { d.pins with sbcHs := hs, sbcLs := ls } }
    d.safeMod (fun x => { x with sbcSince := d.now, settled := false, sbcBad := 0 })

/-- The device is in RUN or DEGRADED. -/
def Dev.running (d : Dev) : Bool := d.dstate == .run || d.dstate == .degraded

/-- STO holds the brake applied. -/
def Dev.sbcSto (d : Dev) : Bool := d.rb Reg.SAFE_CFG 28 && d.stoNow

/-- R342: every condition for a released brake holds, a test apart. -/
def Dev.sbcWant (d : Dev) : Bool :=
  d.rb Reg.SAFE_SBC_CFG 31 && d.rb Reg.SAFE_SBC_CTL 0 && d.running && !d.sbcSto

/-- The speed of every axis of the topology is below `APPLY_SPEED`; 0 applies at once. -/
def Dev.sbcSlow (d : Dev) : Bool :=
  let lim := d.rf Reg.SAFE_SBC_APPLY 0 16
  lim == 0 || (List.range 4).all (fun a => !d.inTopo a || decide ((d.selSpeed a).natAbs < 10 * lim))

/-- The end of RUN or DEGRADED, or STO, ends the release while the host still asks for it: the pins then wait for the
speed. -/
def Dev.sbcSoft (d : Dev) : Bool := d.rb Reg.SAFE_SBC_CFG 31 && d.rb Reg.SAFE_SBC_CTL 0

/-- The results of a test end it with what each switch has: TESTING clears, event 0xF3, and two passes restart `SBC_T`
(R346). The completion record of `SBC_TEST` follows. -/
def Dev.sbcEnd (d : Dev) : Dev :=
  match d.safe.test with
  | none => d
  | some t =>
    let h := d.rf Reg.SAFE_SBC_STAT 20 4
    let l := d.rf Reg.SAFE_SBC_STAT 16 4
    let d := (d.wb Reg.SAFE_SBC_STAT 28 false).safeMod (fun x => { x with test := none })
    let d := d.ev 0xF3
    let d := if h = 0 ∧ l = 0 then (d.safeMod (fun x => { x with sbcT := 0 })).lvlOff 0x0C23 0 else d
    d.completeRun (fun c => c.op == 0x27) stOk
      ([BitVec.ofNat 8 t.released.toNat, BitVec.ofNat 8 h, BitVec.ofNat 8 l, 0] ++ beBytes 2 (min 65535 t.times[0]) ++
        beBytes 2 (min 65535 t.times[1]))

/-- The result of a switch (0 high, 1 low): anything but PASS and ABORTED is a failure (R346). -/
def Dev.sbcRes (d : Dev) (sw res : Nat) : Dev :=
  let d := d.wf Reg.SAFE_SBC_STAT (if sw = 0 then 20 else 16) 4 res
  if res = 0 ∨ res = 5 then d else (d.wb Reg.SAFE_FLAGS 2 true).occ (0x0C20 + sw) 0

/-- The switches not yet judged in a test: both while the high one is under test and has no result. -/
def SbcTest.unjudged (t : SbcTest) : List Nat :=
  if t.low then (if t.recover then [] else [1]) else if t.recover then [1] else [0, 1]

/-- A change that R342 calls for ends a test: unjudged switches read ABORTED (R346). -/
def Dev.sbcAbort (d : Dev) : Dev :=
  match d.safe.test with
  | none => d
  | some t => (t.unjudged.foldl (fun d sw => d.sbcRes sw 5) d).sbcEnd

/-- The state that R342 calls for, applied or released, is taken: event 0xF4; a running test ends first. -/
def Dev.sbcTake (d : Dev) (rel : Bool) : Dev := ((d.sbcAbort).sbcPins rel rel).ev 0xF4

/-- R342 after any change of its conditions. During a test the brake counts as in the state that the test began with. -/
def Dev.sbcUpdate (d : Dev) : Dev :=
  let isRel := match d.safe.test with | some t => t.released | none => d.sbcHs && d.sbcLs
  if d.sbcWant then (if isRel then d else d.sbcTake true)
  else if isRel then (if d.sbcSoft && !d.sbcSlow then d else d.sbcTake false)
  else if d.rb Reg.SAFE_SBC_CFG 31 then d else d.sbcAbort.sbcPins false false

/-- BRAKE_APPLY_SPEED_REACHED: with every axis below `APPLY_SPEED`, pins that waited for it fall (R342). -/
def Dev.brakeSlow (d : Dev) : Dev :=
  let isRel := match d.safe.test with | some t => t.released | none => d.sbcHs && d.sbcLs
  if isRel && !d.sbcWant && d.sbcSlow then d.sbcTake false else d

/-- BRAKE_APPLY_SPEED_REACHED. -/
def execBrakeApplySpeedReached (s : State) : Host.Outcome State Fault Refusal := s.run Dev.brakeSlow

/-- SBC_SETTLE_END: the switches have stayed in one state for `T_SETTLE` (R343). -/
def Dev.sbcSettle (d : Dev) : Dev :=
  if d.now < d.safe.sbcSince + d.rf Reg.SAFE_SBC_APPLY 16 8 * msTicks then d
  else (d.wb Reg.SAFE_SBC_STAT 29 (d.sbcHs && d.sbcLs)).safeMod (fun x => { x with settled := true })

/-- SBC_SETTLE_END. -/
def execSbcSettleEnd (s : State) : Host.Outcome State Fault Refusal := s.run Dev.sbcSettle

/-! ### STO in effect and ended (R332–R336) -/

/-- STO comes into effect: `COUNT`, `STO_SEEN`, event 0xF0, fault 0x0C01, axes and switches (R333, R335); the checks of the torque
monitors end (R339). An attempt at re-acquisition ends too, as no axis drives again until its owner enables it. -/
def Dev.stoStart (d : Dev) : Dev :=
  let d := (d.wb Reg.SAFE_STO 31 true).wsat Reg.SAFE_STO 0 16
  let d := ((d.wb Reg.SAFE_FLAGS 0 true).ev 0xF0).lvlOn 0x0C01 0
  let d := [0, 1, 2, 3].foldl (fun d a => ((d.stoAxis a).acqEnd a).tmRest a) d
  d.stoField.sbcUpdate

/-- STO ends: event 0xF1, fault 0x0C01 clears itself, the selectors decide again (R335). -/
def Dev.stoEnd (d : Dev) : Dev :=
  let d := ((d.wb Reg.SAFE_STO 31 false).ev 0xF1).lvlOff 0x0C01 0
  let d := [0, 1, 2, 3].foldl Dev.tmRest d
  d.selectAll.sbcUpdate

/-- The filtered levels have changed: `SAFE_STO` and STO follow; the end of a discrepancy ends the cause of 0x0C02. -/
def Dev.stoFollow (d : Dev) : Dev :=
  let la := d.stoLow 0
  let lb := d.stoLow 1
  let disc := d.stoUse 0 && d.stoUse 1 && la != lb
  let d := ((d.wb Reg.SAFE_STO 30 (!tget d.safe.low 0)).wb Reg.SAFE_STO 29 (!tget d.safe.low 1)).wb Reg.SAFE_STO 28 disc
  let d := if disc then d else d.lvlOff 0x0C02 0
  if (la || lb) && !d.stoNow then d.stoStart
  else if !(la || lb) && d.stoNow then d.stoEnd
  else d

/-- STO_INPUT_CHANGE: input `i` changes level. A high level ends the low at once; a low starts the filter (R332). Before
the end of commit only the time of the fall is kept. -/
def Dev.stoInput (d : Dev) (i : Nat) (high : Bool) : Dev :=
  if tget d.safe.raw i = high then d
  else
    let d := d.safeMod (fun x => { x with raw := tset x.raw i high, since := tset x.since i d.now })
    if !d.committed then d
    else if high then (d.safeMod (fun x => { x with low := tset x.low i false })).stoFollow
    else if d.rf Reg.SAFE_CFG 16 10 = 0 then (d.safeMod (fun x => { x with low := tset x.low i true })).stoFollow
    else d

/-- STO_INPUT_CHANGE. -/
def execStoInputChange (i : Nat) (high : Bool) (s : State) : Host.Outcome State Fault Refusal :=
  s.runAny (fun d => if d.live then d.stoInput i high else d.safeMod (fun x => { x with raw := tset x.raw i high }))

/-- STO_FILTER_EXPIRY: a low of input `i` has lasted `STO_FILT` (R332). -/
def Dev.stoFilter (d : Dev) (i : Nat) : Dev :=
  if d.committed && !tget d.safe.raw i && decide (tget d.safe.since i + d.rf Reg.SAFE_CFG 16 10 * usTicks ≤ d.now) then
    (d.safeMod (fun x => { x with low := tset x.low i true })).stoFollow else d

/-- STO_FILTER_EXPIRY. -/
def execStoFilterExpiry (i : Nat) (s : State) : Host.Outcome State Fault Refusal := s.run (·.stoFilter i)

/-- The inputs in use have been filtered unequal for `STO_DISC` (R336): since the one's low has lasted `STO_FILT`, or the other
rose. -/
def Dev.discLasted (d : Dev) : Bool :=
  let filt := d.rf Reg.SAFE_CFG 16 10 * usTicks
  let s := d.safe.since
  let from' := if d.stoLow 0 then max (s[0] + filt) s[1] else max (s[1] + filt) s[0]
  d.rb Reg.SAFE_STO 28 && decide (from' + d.rf Reg.SAFE_CFG 0 10 * msTicks ≤ d.now)

/-- STO_DISCREPANCY: one input in use has been filtered low alone for `STO_DISC` (R336). -/
def Dev.stoDisc (d : Dev) : Dev := if d.discLasted then d.lvlOn 0x0C02 0 else d

/-- STO_DISCREPANCY. -/
def execStoDiscrepancy (s : State) : Host.Outcome State Fault Refusal := s.run Dev.stoDisc

/-- The end of commit: lows that have lasted `STO_FILT` by then count, a discrepancy is timed from its beginning (R332). -/
def Dev.stoCommit (d : Dev) : Dev :=
  let filt := d.rf Reg.SAFE_CFG 16 10 * usTicks
  let lowNow (i : Nat) : Bool := !tget d.safe.raw i && decide (tget d.safe.since i + filt ≤ d.now)
  ((d.safeMod (fun x => { x with low := #v[lowNow 0, lowNow 1] })).stoFollow).stoDisc

/-! ### STO path test (R337) -/

/-- A path test is pending or runs: no axis is enabled meanwhile. -/
def Dev.pathTest (d : Dev) : Bool := d.safe.ptPend || d.safe.ptChan.isSome

/-- STO_PATH_TEST_START: the pending test starts with channel A once every axis of the topology is IDLE, X and Y among them. -/
def Dev.ptStart (d : Dev) : Dev :=
  if d.safe.ptPend && d.dstate == .armed && d.allIdle then
    d.safeMod (fun x => { x with ptPend := false, ptChan := some 0, ptAt := d.now, ptBad := false })
  else d

/-- STO_PATH_TEST_START. -/
def execStoPathTestStart (s : State) : Host.Outcome State Fault Refusal := s.run Dev.ptStart

/-- STO_PATH_TEST_PHASE_END: the 2 µs of a channel end; `ok`: every island in the topology reported the field in time. -/
def Dev.ptPhase (d : Dev) (ok : Bool) : Dev :=
  if d.now < d.safe.ptAt + 2 * usTicks then d else
  match d.safe.ptChan with
  | none => d
  | some 0 => d.safeMod (fun x => { x with ptChan := some 1, ptAt := d.now, ptBad := x.ptBad || !ok })
  | some _ =>
    let bad := d.safe.ptBad || !ok
    let d := (d.safeMod (fun x => { x with ptChan := none, ptBad := bad })).wf Reg.SAFE_STO 26 2 (if bad then 2 else 1)
    if bad then d.occ 0x0C03 0 else (d.safeMod (fun x => { x with stoT := 0 })).lvlOff 0x0C04 0

/-- STO_PATH_TEST_PHASE_END. -/
def execStoPathTestPhaseEnd (ok : Bool) (s : State) : Host.Outcome State Fault Refusal := s.run (·.ptPhase ok)

/-- 8.00 h in ticks. -/
def eightHours : Nat := 11520000000000

/-- STO_TEST_OVERDUE: `STO_T` has reached 8.00 h; the cause lasts until the next passing test. -/
def Dev.stoOverdue (d : Dev) : Dev := if eightHours ≤ d.safe.stoT then d.lvlOn 0x0C04 0 else d

/-- STO_TEST_OVERDUE. -/
def execStoTestOverdue (s : State) : Host.Outcome State Fault Refusal := s.run Dev.stoOverdue

/-! ### The torque monitor (R338–R340) -/

/-- Torque in Q3.28 pu from i_d and i_q: PSI i_q + (L_d − L_q) i_d i_q (R338). -/
def Dev.torque (d : Dev) (a : Nat) (id iq : Int) : Int :=
  let psi : Int := d.rf (Reg.FLD_MACH2 a) 0 16
  let dl : Int := (d.rf (Reg.FLD_MACH2 a) 16 16 : Int) - d.rf (Reg.FLD_MACH a) 16 16
  rdiv 338 (psi * pu * iq + dl * id * iq) (4096 * 268435456)

/-- T_est from the newest results of `ISENa_P` and `ISENa_Q`, with the FLD angle extrapolated to the instant at which their pair was
sampled (R338). -/
def Dev.torqueEst (d : Dev) (a : Nat) : Int :=
  let ang := advance (d.rget (Reg.FLD_ANGLE a)) (sword (d.rget (Reg.FLD_SPEED a)))
    (((tget d.safe.pairAt a : Nat) : Int) - (tget d.fld a).angT)
  let isc := sword (d.rget (Reg.SAFE_TM_ISC a))
  let u := ((d.rf (Reg.ADC_SAR_D 0 a) 0 12 : Int) - d.rf (Reg.SAFE_TM_OFS a) 0 12) * isc
  let v := ((d.rf (Reg.ADC_SAR_D 1 a) 0 12 : Int) - d.rf (Reg.SAFE_TM_OFS a) 16 12) * isc
  let dq := park (clarke #v[u, v, -u - v]) ang
  d.torque a dq.1 dq.2

/-- T_f after one evaluation: the lane output through the first-order lag `TM_TAU`. The spec gives no discrete form: the new
value is free between the old one and the lane output (log entry 40). -/
def Dev.torqueLag (d : Dev) (a : Nat) : Int :=
  let x := sword (d.rget (Reg.CE_LANE_OUT (d.rf (Reg.SAFE_TM_CFG a) 16 5)))
  let y := tget d.safe.tf a
  let tau := d.rf (Reg.SAFE_TM_CFG a) 0 8
  if tau = 0 then x else clampInt (min x y) (max x y) (Config.freeFun 0x339 [y, x, tau, d.now])

/-- A count of consecutive failing evaluations in `SAFE_TMa_STAT`, kept at `TM_CNT` at most. -/
def tmCount (n cnt : Nat) (bad : Bool) : Nat := if bad then min (n + 1) cnt else 0

/-- TORQUE_MONITOR_EVAL of axis `a` (R338–R340). -/
def Dev.torqueEval (d : Dev) (a : Nat) : Dev :=
  if !d.rb (Reg.SAFE_TM_CFG a) 31 then d else
  let st := Reg.SAFE_TM_STAT a
  let est := d.torqueEst a
  let d := d.wf st 16 16 (fromSigned 16 (clampInt (-32768) 32767 (est / 65536)))
  if !((d.axOf a).active && !d.stoNow) then d.tmRest a
  else
    let tf := d.torqueLag a
    let d := (d.safeMod (fun x => { x with tf := tset x.tf a tf })).hlt 0x10 a (((est - tf).natAbs : Int) / 65536)
    let lim : Int := d.rf (Reg.SAFE_TM_LIM a) 0 16 * 65536
    let slim : Int := d.rf (Reg.SAFE_TM_LIM a) 16 16 * 65536
    let cnt := d.rf (Reg.SAFE_TM_CFG a) 8 8
    let badD := if d.rb (Reg.SAFE_TM_CFG a) 30 then decide (d.lMot a + lim < est) || decide (est < -(d.lReg a) - lim)
                else decide (lim < ((est - tf).natAbs : Int))
    let nD := tmCount (d.rf st 8 8) cnt badD
    let f := tget d.fld a
    let nS := if f.valid then tmCount (d.rf st 0 8) cnt (decide (slim < ((est - d.torque a f.id f.iq).natAbs : Int)))
              else d.rf st 0 8
    let trip := decide (cnt ≤ nD) && decide (0 < nD) && decide (d.rf st 8 8 < cnt)
    let d := ((d.wf st 8 8 nD).wf st 0 8 nS).lvlSet (decide (cnt ≤ nS) && decide (0 < nS)) (0x0C14 + a) 0
    if trip then
      (((((d.toSafe a).blame (0x0C10 + a) a).wb Reg.SAFE_FLAGS 1 true).ev 0xF2).occ (0x0C10 + a) 0).sbcUpdate
    else d

/-- TORQUE_MONITOR_EVAL. -/
def execTorqueMonitorEval (a : Nat) (s : State) : Host.Outcome State Fault Refusal := s.run (·.torqueEval a)

/-! ### Brake feedback and the brake switch test (R343–R346) -/

/-- A limit of `SAFE_SBC_LIM` in LSB12: 0 `V_LOW`, 1 `V_HIGH`, 2 `I_LOW`, 3 `I_MIN`. -/
def Dev.sbcLim (d : Dev) (k : Nat) : Nat := 16 * d.rf Reg.SAFE_SBC_LIM (8 * k) 8

/-- µs since the present wait of a test began. -/
def Dev.sbcUs (d : Dev) (t : SbcTest) : Nat := (d.now - t.since) / usTicks

/-- The test goes on with `t`, its next wait beginning now. -/
def Dev.sbcNext (d : Dev) (t : SbcTest) : Dev := d.safeMod (fun x => { x with test := some { t with since := d.now } })

/-- A brake switch test starts, unless one runs or brake control is not in use (R344–R346); the answer is whether it
started. -/
def Dev.sbcStart (d : Dev) : Dev × Bool :=
  if d.safe.test.isSome || !d.rb Reg.SAFE_SBC_CFG 31 then (d, false)
  else
    let rel := d.sbcHs && d.sbcLs
    let d := (d.wb Reg.SAFE_SBC_STAT 28 true).sbcPins (!rel) rel
    (d.sbcNext ⟨rel, false, false, d.now, false, false, Vector.replicate 2 0⟩, true)

/-- The switch under test of a released brake closes again with a result (R344). -/
def Dev.sbcReclose (d : Dev) (t : SbcTest) (res : Nat) : Dev :=
  let k := if t.low then 1 else 0
  let d := (d.sbcPins true true).sbcRes k res
  d.sbcNext { t with recover := true, times := tset t.times k (d.sbcUs t) }

/-- After a recovered switch: the low switch opens, or the test ends (R344). -/
def Dev.sbcRecovered (d : Dev) (t : SbcTest) : Dev :=
  if t.low then d.sbcEnd.sbcUpdate else (d.sbcPins true false).sbcNext { t with low := true, recover := false }

/-- Both feedback results of one scan are in: supervision (R343) or the running test (R344, R345) uses them. SAR0 and SAR1 run
in lockstep, so the result of SAR1 completes the pair. -/
def Dev.sbcFeedback (d : Dev) : Dev :=
  let i := d.rf (Reg.ADC_SAR_D 0 10) 0 12
  let v := d.rf (Reg.ADC_SAR_D 1 10) 0 12
  match d.safe.test with
  | some t =>
    if t.released then
      if t.recover then
        if d.sbcLim 3 ≤ i ∧ d.sbcLim 1 ≤ v then d.sbcRecovered t else d
      else if (if t.low then decide (i < d.sbcLim 2) else decide (v < d.sbcLim 0)) then d.sbcReclose t 0
      else d
    else if t.recover then d
    else d.safeMod (fun x => { x with test := some { t with vOk := t.vOk || decide (d.sbcLim 1 ≤ v),
                                                             iBad := t.iBad || decide (d.sbcLim 2 ≤ i) } })
  | none =>
    if !d.rb Reg.SAFE_SBC_CFG 31 || !d.safe.settled then d
    else
      let bad := if d.sbcHs && d.sbcLs then decide (i < d.sbcLim 3) || decide (v < d.sbcLim 1) else decide (d.sbcLim 2 ≤ i)
      let n := if bad then d.safe.sbcBad + 1 else 0
      let d := d.safeMod (fun x => { x with sbcBad := n })
      let d := if n = 3 then d.wb Reg.SAFE_FLAGS 2 true else d
      d.lvlSet (decide (3 ≤ n)) 0x0C22 0

/-- The length of the present wait of a test: `T_REC` after a switch, else `T_TEST` (R344, R345). -/
def Dev.sbcWait (d : Dev) (t : SbcTest) : Nat :=
  (if t.recover then 100 * d.rf Reg.SAFE_SBC_CFG 0 8 else 5 * d.rf Reg.SAFE_SBC_CFG 8 8) * usTicks

/-- SBC_TEST_WAIT_EXPIRY: a wait of T or `T_REC` runs out (R344, R345). A released brake whose switch does not recover is applied: event
0xF4 (R357). -/
def Dev.sbcWaitEnd (d : Dev) : Dev :=
  match d.safe.test with
  | none => d
  | some t =>
    if d.now < t.since + d.sbcWait t then d
    else if t.released then
      if t.recover then
        (((d.sbcRes (if t.low then 1 else 0) 4).sbcPins false false).ev 0xF4).sbcEnd
      else d.sbcReclose t 1
    else if t.recover then (d.sbcPins false true).sbcNext { t with low := true, recover := false, iBad := false }
    else
      let k := if t.low then 1 else 0
      let res := if !t.low && !t.vOk then 2 else if t.iBad then 3 else 0
      let t := { t with times := tset t.times k (d.sbcUs t) }
      let d := (d.sbcPins false false).sbcRes k res
      if t.low then (d.safeMod (fun x => { x with test := some t })).sbcEnd.sbcUpdate
      else d.sbcNext { t with recover := true }

/-- SBC_TEST_WAIT_EXPIRY. -/
def execSbcTestWaitExpiry (s : State) : Host.Outcome State Fault Refusal := s.run Dev.sbcWaitEnd

/-- SBC_AUTO_TEST_START: `SBC_T` has reached `PERIOD`; with `AUTO` = 1 and the brake settled a test starts (R346). -/
def Dev.sbcAuto (d : Dev) : Dev :=
  let due := decide (d.rf Reg.SAFE_SBC_CFG 16 8 * 144000000000 ≤ d.safe.sbcT)
  if d.rb Reg.SAFE_SBC_CFG 31 && d.rb Reg.SAFE_SBC_CFG 30 && d.safe.settled && due then d.sbcStart.1 else d

/-- SBC_AUTO_TEST_START. -/
def execSbcAutoTestStart (s : State) : Host.Outcome State Fault Refusal := s.run Dev.sbcAuto

/-- SBC_TEST_OVERDUE: `SBC_T` has reached 8.00 h; the cause lasts until a passing test (R346). -/
def Dev.sbcOverdue (d : Dev) : Dev := if eightHours ≤ d.safe.sbcT then d.lvlOn 0x0C23 0 else d

/-- SBC_TEST_OVERDUE. -/
def execSbcTestOverdue (s : State) : Host.Outcome State Fault Refusal := s.run Dev.sbcOverdue

/-! ### Safety connections (R351–R354) -/

/-- Connection `c` is enabled. -/
def Dev.connEn (d : Dev) (c : Nat) : Bool := d.rb (Reg.SAFE_CONN_CFG c) 31

/-- SAFETY_WATCHDOG_EXPIRY: an enabled connection has accepted no PDU for `WD`, from READY onward (R354). The cause lasts
until it accepts one. -/
def Dev.connTimeout (d : Dev) (c : Nat) : Dev :=
  if d.connEn c && d.hosts.readySeen && decide (tget d.safe.connAt c + d.rf (Reg.SAFE_CONN_CFG c) 0 10 * msTicks ≤ d.now) then
    let d := (d.wb (Reg.SAFE_CONN_STAT c) 31 false).wb (Reg.SAFE_CONN_STAT c) 30 true
    (d.ev 0xF7).lvlOn (0x0C40 + c) 0
  else d

/-- SAFETY_WATCHDOG_EXPIRY. -/
def execSafetyWatchdogExpiry (c : Nat) (s : State) : Host.Outcome State Fault Refusal := s.run (·.connTimeout c)

/-- The connection on port `p` with local id `dst` and partner id `src` (R352). -/
def Dev.connFor (d : Dev) (p src dst : Nat) : Option Nat :=
  (List.range 8).find? (fun c => d.connEn c && d.rf (Reg.SAFE_CONN_CFG c) 28 2 == p &&
    d.rf (Reg.SAFE_CONN_ID c) 0 16 == dst && d.rf (Reg.SAFE_CONN_ID c) 16 16 == src)

/-- A rejected PDU: flag, event 0xF6, and its count when the connection is known. -/
def Dev.pduReject (d : Dev) (conn : Option Nat) (lo : Nat) : Dev :=
  let d := (d.wb Reg.SAFE_FLAGS 3 true).ev 0xF6
  match conn with | some c => d.wsat (Reg.SAFE_CONN_ERR c) lo 8 | none => d

/-- The checks of R352 on a PDU of `n` bytes payload and trailer: a status, or the connection that accepts it. The
connection whose counters a CRC or an id failure raises is not known to be right: the count goes to the one that the ids
in the PDU name, or else to the first one enabled on the port (log entry 41). -/
def Dev.pduCheck (d : Dev) (p : Nat) (bs : List Byte) : Dev × (Nat ⊕ Nat) :=
  let n := bs.length - 12
  if bs.length < 12 ∨ 48 < n ∨ (p = 3 ∧ 40 < n) then (d.pduReject none 0, .inl stLen)
  else
    let tr := bs.drop n
    let src := beAt tr 2 2
    let dst := beAt tr 4 2
    let guess := match d.connFor p src dst with
      | some c => some c
      | none => (List.range 8).find? (fun c => d.connEn c && d.rf (Reg.SAFE_CONN_CFG c) 28 2 == p)
    if crcPdu (beBytes 2 n ++ bs.take (n + 8)) ≠ BitVec.ofNat 32 (beAt tr 8 4) then (d.pduReject guess 24, .inl stCrc)
    else match d.connFor p src dst with
      | none => (d.pduReject guess 0, .inl stPriv)
      | some c =>
        if d.rf (Reg.SAFE_CONN_AGE c) 0 16 < beAt tr 6 2 then (d.pduReject (some c) 8, .inl stRange)
        else
          let seq := beAt tr 0 2
          let gap := (seq + 65536 - d.rf (Reg.SAFE_CONN_STAT c) 0 16) % 65536
          if d.rb (Reg.SAFE_CONN_STAT c) 31 && !(decide (1 ≤ gap) && decide (gap ≤ 1 + d.rf (Reg.SAFE_CONN_CFG c) 24 4)) then
            (d.pduReject (some c) 16, .inl stSeq)
          else
            let d := (d.rset (Reg.SAFE_CONN_STAT c) (BitVec.ofNat 32 (2147483648 + seq))).lvlOff (0x0C40 + c) 0
            (d.safeMod (fun x => { x with connAt := tset x.connAt c d.now }), .inr c)

/-- `AGE` of data `t` ticks old: 100 µs units, saturating (R349). -/
def pduAge (t : Nat) : Nat := min 65535 (rdiv 349 t (100 * usTicks)).toNat

/-- A reply payload, `age` ticks old, wrapped in a PDU of connection `c` (R349, R353). -/
def Dev.pduWrap (d : Dev) (c : Nat) (pl : List Byte) (age : Nat) : Dev × List Byte :=
  let seq := tget d.safe.connSeq c
  let body := pl ++ beBytes 2 seq ++ beBytes 2 (d.rf (Reg.SAFE_CONN_ID c) 0 16) ++ beBytes 2 (d.rf (Reg.SAFE_CONN_ID c) 16 16) ++
    beBytes 2 (pduAge age)
  let crc := crcPdu (beBytes 2 pl.length ++ body)
  (d.safeMod (fun x => { x with connSeq := tset x.connSeq c ((seq + 1) % 65536) }), body ++ beBytes 4 crc.toNat)

end Sys2Proof.Machine
end

