-- ==== Sys2Proof/Machine/Transitions.lean ====
section
/-! DEFINITION. The device states of R25 and what every transition does beside its trigger (R25–R30, R285, R298, R305, R325,
R337, R342, R347, R348, R364). -/

namespace Sys2Proof.Machine

/-- `ALIVE` runs in the state; it is low in every other one (R370). -/
def DState.aliveRuns : DState → Bool
  | .ready | .armed | .run | .degraded | .safe | .service => true
  | _ => false

/-- The device takes a state: event 0x00. -/
def Dev.setState (d : Dev) (st : DState) : Dev :=
  ({ d with dstate := st, pins := { d.pins with alive := d.pins.alive && st.aliveRuns },
            rgr := { d.rgr with aliveRun := d.rgr.aliveRun && st.aliveRuns } } : Dev).ev 0x00

/-- What the end of RUN and DEGRADED ends: injections with cause DEVICE_STATE (R285). -/
def Dev.leftRun (d : Dev) (was : Bool) : Dev :=
  if was && !d.running then
    [0, 1].foldl (fun d g => if d.rb (Reg.CE_INJ_CTL g) 0 then d.injEnd g 4 else d) d
  else d

/-- An off-state test that the device leaves is abandoned, and its command completes (R194, R195). -/
def Dev.diagLeave (d : Dev) (a : Nat) : Dev :=
  if (d.diagOf a).running then
    (d.diagAbandon a).completeRun (fun c => c.op == 0x26 && c.target == a) stState (d.diagBytes a)
  else d

/-- The axis at once in its safe state (R29). -/
def Dev.axisToSafe (d : Dev) (a : Nat) : Dev :=
  match d.axOf a with
  | .idle => d.axGo a .freewheel
  | .diag => (d.diagLeave a).axGo a .freewheel
  | .enabled | .driving | .stopping => d.toSafe a
  | .asc | .freewheel => d.select a

/-- R29: what SAFE and LOCKOUT do to a traction axis of the topology. The uncleared faults of class F3 and F4 have led it there
(R28). -/
def Dev.axisSafe (d : Dev) (a : Nat) : Dev :=
  if !d.inTopo a then d
  else (d.flt.recs.filter (fun r => r.isOpen && decide (3 ≤ r.eclass))).foldl (fun e r => e.blame r.code a) (d.axisToSafe a)

/-- A discharge that `DCL_DCFG.AUTO` asks for (R325). -/
def Dev.autoDischarge (d : Dev) : Dev := if d.rb Reg.DCL_DCFG 31 then d.dischargeStart else d

/-- A pending path test lapses when the device leaves ARMED (R337). -/
def Dev.ptDrop (d : Dev) : Dev := d.safeMod (fun x => { x with ptPend := false })

/-- The device enters SAFE (R25, R29, R305, R325). -/
def Dev.enterSafe (d : Dev) : Dev :=
  let was := d.running
  let d := (d.setState .safe).ptDrop
  let d := [0, 1, 2, 3].foldl Dev.axisSafe d
  let d := [0, 1].foldl Dev.auxSafe d
  ((d.leftRun was).autoDischarge).sbcUpdate

/-- The device enters LOCKOUT (R25, R29, R298, R325). -/
def Dev.enterLockout (d : Dev) : Dev :=
  let was := d.running
  let d := (d.setState .lockout).ptDrop
  let d := [0, 1, 2, 3].foldl Dev.axisSafe d
  let d := [0, 1].foldl (fun d x => if d.auxState x = 0 then d else d.auxLockout x) d
  ((d.leftRun was).autoDischarge).sbcUpdate

/-- The device enters DEGRADED: fault 0x0C30, event 0xF5, `SVC_REQ` (R347, R348). -/
def Dev.enterDegraded (d : Dev) : Dev :=
  let d := (d.setState .degraded).safeMod (fun x => { x with degAt := d.now })
  ((d.wb Reg.SAFE_FLAGS 8 true).ev 0xF5).occ 0x0C30 0

/-- An uncleared record of effective class F3 exists. -/
def Dev.openF3 (d : Dev) : Bool := d.flt.recs.any (fun r => r.isOpen && r.eclass == 3)

/-- The device enters READY: the diagnostics since the last entry are forgotten (R194); the first entry since BOOT starts
heartbeat supervision and the watchdogs (R106, R354); an uncleared F3 record leads to SAFE in the next cycle (R364). -/
def Dev.enterReady (d : Dev) : Dev :=
  let d := (d.setState .ready).ptDrop
  let d := [0, 1, 2, 3].foldl (fun d a =>
    (d.rset (Reg.ISL_GI_DIAG a) (resetOf (Reg.ISL_GI_DIAG a))).diagMod a (fun g => { g with passed := false })) d
  let d := if d.hosts.readySeen then d
    else
      let d := { d with hosts := { d.hosts with readySeen := true, port := d.hosts.port.map (fun (p : HostPort) => { p with hbAt := d.now }) } }
      let d := d.safeMod (fun x => { x with connAt := Vector.replicate 8 d.now })
      let d := { d with rgr := { d.rgr with halfAt := d.now, steps0 := d.rf Reg.CE_STATUS 0 16 } }
      (d.rset Reg.IMG_READY_T (BitVec.ofNat 32 d.us)).wf Reg.IMG_STATUS 16 4 7
  if d.openF3 then d.enterSafe else d.sbcUpdate

/-- The device enters ARMED: path test pending, no discharge (R325, R337); from RUN the aux axes stop (R298). -/
def Dev.enterArmed (d : Dev) : Dev :=
  let was := d.running
  let d := (d.setState .armed).dischargeEnd.safeMod (fun x => { x with ptPend := true })
  let d := if was then [0, 1].foldl Dev.auxArmed d else d
  ((d.leftRun was).sbcUpdate).ptStart

/-- The device enters RUN. -/
def Dev.enterRun (d : Dev) : Dev := ((d.setState .run).ptDrop).sbcUpdate

/-- The device enters SERVICE. -/
def Dev.enterService (d : Dev) : Dev := (d.setState .service).sbcUpdate

/-- R25: a traction axis has returned to IDLE; with the last one the device goes from RUN to ARMED. -/
def Dev.idled (d : Dev) : Dev := if d.dstate = .run ∧ d.tractionIdle then d.enterArmed else d

end Sys2Proof.Machine
end

