-- ==== Sys2Proof/Machine/Faults.lean ====
section
/-! DEFINITION. The Registrar: records, class reactions, reaction windows, clears, recovery, fault injection, the accession
log and liveness (chapter 14, R358–R374). -/

namespace Sys2Proof.Machine

def Dev.fltMod (d : Dev) (f : Flt → Flt) : Dev := { d with flt := f d.flt }
def Dev.rgrMod (d : Dev) (f : Rgr → Rgr) : Dev := { d with rgr := f d.rgr }

/-- `SYS_AXSTATE`: the state of each traction axis; one outside the topology reads IDLE (R31). -/
def Dev.axStates (d : Dev) : Nat :=
  (List.range 4).foldl (fun n a => n + (if d.inTopo a then (d.axOf a).code else 0) * 16 ^ a) 0

/-! ### The accession log (R373, R374) -/

/-- An entry finds the queue full: counted, and fault 0x0D06 at most once per second (R373). -/
def Dev.logLost (d : Dev) : Dev :=
  let d := d.wsat Reg.FLT_LOGLOST 0 16
  if (match d.rgr.lostAt with | some t => decide (d.now < t + 1000 * msTicks) | none => false) then d
  else (d.rgrMod (fun r => { r with lostAt := some d.now })).occ 0x0D06 0

/-- The four words of an entry. -/
def Dev.logWords (d : Dev) (r : FltRec) (esc : Bool) : List Word :=
  [BitVec.ofNat 32 d.rgr.logSeq,
   BitVec.ofNat 32 (r.code * 65536 + r.dst * 4096 + esc.toNat * 2048 + r.inj.toNat * 1024 + r.src % 256),
   BitVec.ofNat 32 (r.opened / msTicks),
   BitVec.ofNat 32 (fget (d.pword 0x3F0) 16 16 * 65536 + r.axs % 65536)]

/-- The place of an entry in the ring of 256 is its `SEQ`; its words there. -/
def logSlot (e : List Word) : Nat := (e.getD 0 0).toNat % 256
def logAt (e : List Word) : List (Nat × Word) := [0, 1, 2, 3].map (fun k => (0x400 + 4 * logSlot e + k, e.getD k 0))

/-- The port begins the first of the entries that it can write; one with a worn word counts as lost (R436). -/
def Dev.logStart (d : Dev) : List (List Word) → Dev
  | [] => d.prsMod (fun p => { p with log := [], logRun := none })
  | e :: rest =>
    if (logAt e).any (fun x => d.worn x.1) then d.logLost.logStart rest
    else d.prsMod (fun p => { p with log := e :: rest, logRun := some ⟨0, true, false⟩ })

/-- The port goes on when it is free: no entry and no program of one is begun while `VDD_IO` is low (R45). -/
def Dev.logResume (d : Dev) : Dev :=
  if d.power.vddIoLow then d
  else match d.prs.logRun with
    | none => d.logStart d.prs.log
    | some r => d.prsMod (fun p => { p with logRun := some { r with busy := true } })

/-- An entry is queued for the Registrar's preserve port; at most 16 wait. -/
def Dev.logQueue (d : Dev) (r : FltRec) (esc : Bool) : Dev :=
  if 16 ≤ d.prs.log.length then d.logLost
  else ((d.prsMod (fun p => { p with log := p.log ++ [d.logWords r esc] })).rgrMod
    (fun g => { g with logSeq := (g.logSeq + 1) % 2 ^ 32 })).logResume

/-- The entry at the front leaves the port. -/
def Dev.logNext (d : Dev) : Dev := (d.prsMod (fun p => { p with log := p.log.tail, logRun := none })).logResume

/-- An entry is written: it is the newest, unless its `SEQ` lies below the floor (R374). -/
def Dev.logDone (d : Dev) (e : List Word) : Dev :=
  let x := ((e.getD 0 0).toNat + 2 ^ 32 - (d.pword 0x3F2).toNat) % 2 ^ 32
  (if x < 2 ^ 31 then d.rgrMod (fun g => { g with logNew := some (logSlot e) }) else d).logNext

/-- An entry whose verification fails (R380): which of its words fails is free; the words before it are written, it is programmed once
more (R445) and keeps its value, and the rest are not written (log entry 134). -/
def Dev.logFailed (d : Dev) (ws : List (Nat × Word)) : Dev :=
  let k := d.free 0x380 % ws.length
  let d := (ws.take k).foldl (fun d x => d.program x.1 x.2) d.tick1
  let d := (ws.drop k).head?.elim d (fun x => d.setWear x.1 (d.wear x.1 + 2 * d.wearUnit))
  (d.occ 0x0D03 0).logNext

/-- LOG_ENTRY_WRITTEN: the port has finished the entry at the front, with the words that it still had to write; `ok`: the verification
passed (R373, R436, R380). An entry whose next word waits for `VDD_IO` is not finished (R45). -/
def Dev.logWritten (d : Dev) (ok : Bool) : Dev :=
  match d.prs.log, d.prs.logRun with
  | e :: _, some r =>
    let ws := (logAt e).drop r.done
    if !r.busy then d else if ok then (ws.foldl (fun d x => d.program x.1 x.2) d).logDone e else d.logFailed ws
  | _, _ => d

/-- A program of the port ends (R435, R445): the word is written and the next one begins; a failed verification programs it once more, a
second one ends the entry. -/
def Dev.logWordEnd (d : Dev) (ok : Bool) : Dev :=
  match d.prs.log, d.prs.logRun with
  | e :: _, some r =>
    if !r.busy then d else
    let w := 0x400 + 4 * logSlot e + r.done
    let d := d.setWear w (d.wear w + d.wearUnit)
    if ok then
      let d := d.setWord w (e.getD r.done 0)
      if 3 ≤ r.done then d.logDone e
      else d.prsMod (fun p => { p with logRun := some ⟨r.done + 1, !d.power.vddIoLow, false⟩ })
    else if !r.again then d.prsMod (fun p => { p with logRun := some { r with again := true } })
    else (d.occ 0x0D03 0).logNext
  | _, _ => d

/-! ### Records (R360, R362) -/

/-- The map entry of a code's slot: class, degradable, log mark, owner (R361). -/
def Dev.mapWord (d : Dev) (code : Nat) : Word := match slotOf code with | some s => d.rget (Reg.FLT_MAP s) | none => 0
def Dev.mapClass (d : Dev) (code : Nat) : Nat := fget (d.mapWord code) 16 3

/-- The record of a code. -/
def Dev.recOf (d : Dev) (code : Nat) : Option FltRec := d.flt.recs.find? (fun r => r.code == code)

/-- A record put in place of the one of its code. -/
def putRec : List FltRec → FltRec → List FltRec
  | [], r => [r]
  | x :: l, r => if x.code = r.code then r :: l else x :: putRec l r

def Dev.setRec (d : Dev) (r : FltRec) : Dev := d.fltMod (fun f => { f with recs := putRec f.recs r })

/-- The injection that runs explains a report (R372). -/
def Dev.injected' (d : Dev) (r : Report) : Bool :=
  match d.rgr.inj with
  | some i => i.code == r.code && (i.src == 255 || i.src == r.src)
  | none => false

/-- A report to a closed record opens it (R360, R362): an F0 record closes at once, an F1 record whose cause is gone too. -/
def Dev.openRec (d : Dev) (r : Report) : Dev :=
  let c := d.mapClass r.code
  let here := if r.level then d.lvlAny r.code else true
  let x : FltRec :=
    { code := r.code, isOpen := decide (c ≠ 0) && (here || decide (c ≠ 1)), cause := here, eclass := c,
      inj := d.injected' r, esc := false, auto := ((d.recOf r.code).map (·.auto)).getD false, src := r.src, occ := 1, first := d.stamp, last := d.stamp,
      dst := d.dstate.code, axs := d.axStates, opened := d.now, quiet := d.now }
  let d := (d.setRec x).ev 0xF8
  if 2 ≤ c ∨ bget (d.mapWord r.code) 31 then d.logQueue x false else d

/-- A report to an open record (R360). -/
def Dev.updateRec (d : Dev) (r : Report) (x : FltRec) : Dev :=
  let here := if r.level then d.lvlAny r.code else true
  d.setRec { x with occ := satInc x.occ 65535, last := d.stamp, src := r.src, cause := x.cause || here, quiet := d.now }

/-- The first report of a running injection stops its clock (R372). -/
def Dev.injNote (d : Dev) (r : Report) : Dev :=
  match d.rgr.inj with
  | some i => if d.injected' r && i.hit.isNone then d.rgrMod (fun g => { g with inj := some { i with hit := some d.now } }) else d
  | none => d

/-- One report reaches the Registrar. A code that the device does not define reaches it nowhere. -/
def Dev.report (d : Dev) (r : Report) : Dev :=
  if (slotOf r.code).isNone then d
  else
    let d := d.injNote r
    match d.recOf r.code with
    | some x => if x.isOpen then d.updateRec r x else d.openRec r
    | none => d.openRec r

/-- Reports in rising slot order, reports of one slot in their order (R360). -/
def insReport (r : Report) : List Report → List Report
  | [] => [r]
  | x :: l => if (slotOf r.code).getD 512 < (slotOf x.code).getD 512 then r :: x :: l else x :: insReport r l

def sortReports (l : List Report) : List Report := l.foldl (fun acc r => insReport r acc) []

/-- SAFE is left to class reactions in these states only (R25, R363). -/
def DState.toSafeOk : DState → Bool
  | .ready | .armed | .run | .degraded => true
  | _ => false

/-- The reports of one `CK_MGMT` cycle, and the one transition they cause, by the priority of R27: LOCKOUT, then SAFE. What else falls
into the cycle is read off the state: DESIGN CHOICE (log entry 104). -/
def Dev.reports (d : Dev) (l : List Report) : Dev :=
  let was := d.flt.recs.filterMap (fun r => if r.isOpen then some r.code else none)
  let d := (sortReports l).foldl Dev.report d
  let fresh := d.flt.recs.filter (fun r => r.isOpen && !was.contains r.code)
  if fresh.any (fun r => r.eclass == 4) then (if d.dstate = .lockout ∨ d.dstate = .dormant then d else d.enterLockout)
  else if fresh.any (fun r => r.eclass == 3) && d.dstate.toSafeOk then d.enterSafe
  else d

/-- A fault whose row makes the device react in the same step. -/
def Dev.raise (d : Dev) (code src : Nat) : Dev := d.reports [⟨code, src, false⟩]

/-- SRAM words that a double-bit error has poisoned (R14). -/
def Dev.poisonWords (d : Dev) (ws : List Nat) : Dev :=
  { d with poison := d.poison ++ (ws.filter (fun w => decide (sramBase ≤ w) && decide (w < sramEnd) && decide (w % 8 = 0))) }

/-- A double-bit error in a memory of an engine withholds the outputs of the engine that the report names (R258, R288). -/
def Dev.ceEcc (d : Dev) (l : List Report) : Dev :=
  l.foldl (fun d r => if r.code = 0x0909 then d.engMod r.src (fun e => { e with withhold := true }) else d) d

/-- A double-bit error in a word of the SRAM is itself a report of class F3 (R14). -/
def eccReports (ws : List Nat) : List Report := ws.map (fun _ => ⟨0x0011, 0, false⟩)

/-- FAULT_REPORT: what the checkers have reported, with `ext` from checkers that have no row of their own and the SRAM words
that they found beyond correction, reaches the Registrar in one cycle (R20, R359, R360). `gone`: the levels whose condition
has ended at a checker without a row for that (log entry 47). Under the BIST unit MGMT_L reports are held (R419). -/
def Dev.faultReport (d : Dev) (ext : List Report) (gone : List (Nat × Nat)) (poison : List Nat) : Dev :=
  let d := gone.foldl (fun d g => d.lvlOff g.1 g.2) ((d.poisonWords poison).ceEcc ext)
  let d := ext.foldl (fun d r => if r.level && !d.lvl r.code r.src then
    d.fltMod (fun f => { f with levels := f.levels ++ [(r.code, r.src)] }) else d) d
  let l := d.flt.inbox ++ ext ++ eccReports poison
  let d := (d.fltMod (fun f => { f with inbox := [] })).rgrMod (fun g =>
    { g with eccSec := g.eccSec + (ext.filter (fun r => r.code == 0x0010)).length })
  if d.bistUnit = some 6 then { d with sec := { d.sec with held := d.sec.held ++ l } } else d.reports l

/-- FAULT_REPORT. -/
def execFaultReport (ext : List Report) (gone : List (Nat × Nat)) (poison : List Nat) (s : State) :
    Host.Outcome State Fault Refusal :=
  s.run (·.faultReport ext gone poison)

/-- The cause of an occurrence is over: of the record of a code that no level holds (R359). -/
def Dev.causeOver (d : Dev) (code : Nat) : Dev :=
  if d.lvlAny code then d
  else d.fltMod (fun f => { f with recs := f.recs.map (fun r => if r.code == code && r.cause then r.causeGone d.now else r) })

/-- CAUSE_EXPIRY: 1 µs has passed since the latest occurrence of the record of a code (R359). -/
def Dev.causeExpiry (d : Dev) (code : Nat) : Dev :=
  match d.recOf code with
  | some r => if r.quiet + usTicks ≤ d.now then d.causeOver code else d
  | none => d

/-- CAUSE_EXPIRY. -/
def execCauseExpiry (code : Nat) (s : State) : Host.Outcome State Fault Refusal := s.run (·.causeExpiry code)

/-- The reaction window of a record is over: `TRW` × 10 µs from its opening (R363). -/
def Dev.windowOver (d : Dev) (r : FltRec) : Bool :=
  r.isOpen && decide (r.eclass = 2) && !r.esc && decide (r.opened + fget (d.mapWord r.code) 0 14 * 10 * usTicks ≤ d.now)

/-- The escalation of a record leads to DEGRADED: its code is degradable and the device in RUN (R363). -/
def Dev.degrades (d : Dev) (r : FltRec) : Bool := bget (d.mapWord r.code) 30 && d.dstate == .run

/-- A record escalates (R363): to F3 unless it is the degradable one that leads to DEGRADED; event 0xF9 and a log entry. -/
def Dev.escalateRec (d : Dev) (r : FltRec) : Dev :=
  let x := { r with esc := true, eclass := if d.degrades r then 2 else 3 }
  ((d.setRec x).ev 0xF9).logQueue x true

/-- A report on its way opens a record of class `c` in this cycle: of a code that the device defines and whose record is closed. -/
def Dev.opens (d : Dev) (c : Nat) : Bool :=
  d.bistUnit != some 6 && d.flt.inbox.any (fun r => (slotOf r.code).isSome && d.mapClass r.code == c &&
    !((d.recOf r.code).map (·.isOpen)).getD false)

/-- The reaction windows that are over end in one cycle (R363), with the one transition that has the highest priority (R27): SAFE before
DEGRADED, and none beside that of a report of the same cycle. -/
def Dev.windowsEnd (d : Dev) : Dev :=
  let rs := d.flt.recs.filter d.windowOver
  let e := rs.foldl Dev.escalateRec d
  if rs.isEmpty || !d.dstate.toSafeOk || d.opens 4 || d.opens 3 then e
  else if rs.all d.degrades then e.enterDegraded else e.enterSafe

/-- REACTION_WINDOW_END of the record of a code (R363); other windows that are over by now end in the same cycle. -/
def Dev.windowEnd (d : Dev) (code : Nat) : Dev :=
  if ((d.recOf code).map d.windowOver).getD false then d.windowsEnd else d

/-- REACTION_WINDOW_END. -/
def execReactionWindowEnd (code : Nat) (s : State) : Host.Outcome State Fault Refusal := s.run (·.windowEnd code)

/-- `DEG_TIME` s have passed since the entry to DEGRADED (R347). -/
def Dev.degOver (d : Dev) : Bool :=
  d.dstate == .degraded && decide (d.safe.degAt + d.rf Reg.SAFE_DEG 0 10 * 1000 * msTicks ≤ d.now)

/-- DEG_TIME_EXPIRED, `DEG_TIME` s after the entry to DEGRADED: fault 0x0C31, class F3, is recorded, its cause is gone with that, and the
device enters SAFE (R347). -/
def Dev.degExpired (d : Dev) : Dev := if d.degOver then (d.raise 0x0C31 0).causeOver 0x0C31 else d

/-- DEG_TIME_EXPIRED. -/
def execDegTimeExpired (s : State) : Host.Outcome State Fault Refusal := s.run Dev.degExpired

/-! ### Clearing (R365–R367) -/

/-- A fault transition falls in the present cycle (R27): a report on its way opens an F4 or F3 record, a reaction window is over, or
`DEG_TIME` is. -/
def Dev.faultTurn (d : Dev) : Bool :=
  (d.opens 4 && d.dstate != .lockout) || (d.dstate.toSafeOk && (d.opens 3 || d.flt.recs.any d.windowOver)) || d.degOver

/-- SAFE is left when the last record of effective class F3 has closed (R25, R365); `d0` is the device at the begin of the cycle. The
transition is lost to one of a fault in the same cycle (R27), and a record that opens in it is not closed. -/
def Dev.safeExit (d d0 : Dev) : Dev :=
  if d0.dstate = .safe ∧ d0.openF3 ∧ !d.openF3 ∧ !d0.opens 4 ∧ !d0.opens 3 then d.enterReady else d

/-- A record is cleared; `AUTO` shows whether under R366. -/
def FltRec.close (r : FltRec) : FltRec := { r with isOpen := false, auto := false }

/-- What `FLT_CLEAR` of host `h` does to one record (R365): a status, and whether it is cleared. A report for the record that
arrives in the cycle of the clear counts as its cause. -/
def Dev.clearVerdict (d : Dev) (h : Nat) (r : FltRec) : Nat × Bool :=
  if !r.isOpen then (stOk, false)
  else if r.eclass = 0 ∨ r.eclass = 4 ∨ d.clearLimit h < r.eclass then (stPriv, false)
  else if r.cause || d.flt.inbox.any (fun x => x.code == r.code) then (stState, false)
  else (stOk, true)

/-- `FLT_CLEAR` takes effect: the device, the status and the number of records cleared. Code 0xFFFF names every fault. A window
that ends in the same cycle escalates first. -/
def Dev.fltClear (d : Dev) (h code : Nat) : Dev × Nat × Nat :=
  let d0 := d
  let d := d.windowsEnd
  let pick (r : FltRec) : Bool := (code == 0xFFFF || r.code == code) && (d.clearVerdict h r).2
  let n := (d.flt.recs.filter pick).length
  let st := if code = 0xFFFF then stOk else match d.recOf code with | some r => (d.clearVerdict h r).1 | none => stOk
  let d := d.fltMod (fun f => { f with recs := f.recs.map (fun r => if pick r then r.close else r) })
  (d.safeExit d0, st, n)

/-- The recovery word 0x3F1: count and minutes of the present hour (R367); their places are the model's (log entry 43). -/
def Dev.recovWord (d : Dev) : Word := BitVec.ofNat 32 (d.rgr.recov % 256 * 256 +
    (((d.now : Int) - d.rgr.hourAt) / (60000 * msTicks : Nat) % 60).toNat)

/-- The rule of R361 that keeps a code out of the automatic clears (R366). -/
def codeBound (code : Nat) : Bool :=
  match slotOf code with
  | some s => match codeOf s with | some (_, _, .free) => false | _ => true
  | none => true

/-- One record under the compatibility rule (R366). -/
def Dev.compatOne (d : Dev) (code : Nat) : Dev :=
  match d.recOf code with
  | none => d
  | some r =>
    let own := fget (d.mapWord code) 24 3
    if r.isOpen && decide (1 ≤ r.eclass) && decide (r.eclass ≤ 3) && !r.cause &&
        decide (r.quiet + d.rf Reg.FLT_CFG 0 16 * msTicks ≤ d.now) && decide (own < 4) &&
        decide (r.eclass ≤ d.clearLimit own) && !codeBound code then
      if r.eclass = 1 then d.setRec r.close
      else if d.rgr.recov < d.rf Reg.FLT_CFG 16 8 then
        let d := (d.setRec { r.close with auto := true }).rgrMod (fun g => { g with recov := g.recov + 1 })
        d.ownWord 0x3F1 d.recovWord
      else if d.rgr.limitHit then d
      else (d.rgrMod (fun g => { g with limitHit := true })).occ 0x0D02 0
    else d

/-- COMPAT_RECOVERY_SCAN: every 1 ms with `MODE` = COMPAT, the records in rising slot order (R366); each such clear counts as one of its
owner, so windows that are over escalate first (R365). -/
def Dev.compatScan (d : Dev) : Dev :=
  if d.rb Reg.FLT_CFG 31 && decide (d.rgr.scanAt + msTicks ≤ d.now) then
    let d0 := d
    let d := d.windowsEnd.rgrMod (fun g => { g with scanAt := d.now })
    ((sortReports (d.flt.recs.map (fun r => ⟨r.code, 0, false⟩))).foldl (fun d x => d.compatOne x.code) d).safeExit d0
  else d

/-- COMPAT_RECOVERY_SCAN. -/
def execCompatRecoveryScan (s : State) : Host.Outcome State Fault Refusal := s.run Dev.compatScan

/-- RECOVERY_HOUR_END: an hour of powered time has passed (R367). -/
def Dev.hourEnd (d : Dev) : Dev :=
  if d.rgr.hourAt + (60 * 60000 * msTicks : Nat) ≤ d.now then
    d.rgrMod (fun g => { g with recov := 0, hourAt := d.now, limitHit := false })
  else d

/-- RECOVERY_HOUR_END. -/
def execRecoveryHourEnd (s : State) : Host.Outcome State Fault Refusal := s.run Dev.hourEnd

/-- A write of `FLT_CMD` by host `h` (R367, R374, R441): the device and the status; STATE while `VDD_IO` is too low for the word
it needs (R45). -/
def Dev.fltCmd (d : Dev) (v : Word) : Dev × Nat :=
  if !bget v 0 && !bget v 1 then (d, stOk)
  else if d.dstate ≠ .service then (d, stState)
  else if (bget v 1 && (d.rgrMod (fun g => { g with recov := 0 })).wordBarred 0x3F1 (d.rgrMod (fun g => { g with recov := 0 })).recovWord) ||
      (bget v 0 && d.wordBarred 0x3F2 (BitVec.ofNat 32 d.rgr.logSeq)) then (d, stState)
  else
    let d := if bget v 1 then
        let d := d.rgrMod (fun g => { g with recov := 0 })
        d.ownWord 0x3F1 d.recovWord
      else d
    let d := if bget v 0 then (d.ownWord 0x3F2 (BitVec.ofNat 32 d.rgr.logSeq)).rgrMod (fun g => { g with logNew := none }) else d
    (d, stOk)

/-- A write of `FLT_LOOKUP` (R358, R443). -/
def Dev.fltLookup (d : Dev) (code : Nat) : Dev :=
  let code := code % 65536
  match slotOf code with
  | some s => d.rset Reg.FLT_LOOKUP (BitVec.ofNat 32 (0x80000000 + s * 65536 + code))
  | none => d.rset Reg.FLT_LOOKUP (BitVec.ofNat 32 code)

/-! ### Injection (R371, R372) -/

/-- `FLT_INJ` takes effect: injection runs, unless one does. -/
def Dev.injStart (d : Dev) (code src len : Nat) : Dev :=
  (d.rset Reg.FLT_INJSTAT (BitVec.ofNat 32 (0x80000000 + code))).rgrMod
    (fun g => { g with inj := some ⟨code, src, len, d.now, none⟩ })

/-- INJECTION_END: the length is over; without a report fault 0x0D04 (R372). -/
def Dev.injectionEnd (d : Dev) : Dev :=
  match d.rgr.inj with
  | none => d
  | some i =>
    if d.now < i.start + i.len * 100 * usTicks then d else
    let d := (d.wb Reg.FLT_INJSTAT 31 false).rgrMod (fun g => { g with inj := none })
    let d := d.occIf i.hit.isNone 0x0D04 0
    let t := match i.hit with | some h => min 0xFFFFFFFF ((h - i.start) * 5 / 2) | none => 0xFFFFFFFF
    d.completeRun (fun c => c.op == 0x31) stOk
      (beBytes 2 i.code ++ [BitVec.ofNat 8 i.src, if i.hit.isSome then 0 else 1] ++ beBytes 4 t)

/-- INJECTION_END. -/
def execInjectionEnd (s : State) : Host.Outcome State Fault Refusal := s.run Dev.injectionEnd

/-! ### Liveness (R370) -/

/-- DOCENT_CHECK_IN. -/
def Dev.docentCheckIn (d : Dev) : Dev := d.rgrMod (fun g => { g with checkIn := d.now })

/-- DOCENT_CHECK_IN. -/
def execDocentCheckIn (s : State) : Host.Outcome State Fault Refusal := s.run Dev.docentCheckIn

/-- ALIVE_HALF_PERIOD: a 500 µs half-period ends; `selfOk`: the Registrar's self-check passed within it. -/
def Dev.aliveHalf (d : Dev) (selfOk : Bool) : Dev :=
  if d.now < d.rgr.halfAt + 500 * usTicks then d else
  let steps := d.rf Reg.CE_STATUS 0 16
  let ok := d.dstate.aliveRuns && decide (d.now ≤ d.rgr.checkIn + 200 * usTicks) && steps != d.rgr.steps0 && selfOk &&
    d.bistUnit != some 6
  let d := d.rgrMod (fun g => { g with halfAt := d.now, steps0 := steps, aliveRun := ok })
  if ok then { d with pins := { d.pins with alive := !d.pins.alive } } else d

/-- ALIVE_HALF_PERIOD. -/
def execAliveHalfPeriod (selfOk : Bool) (s : State) : Host.Outcome State Fault Refusal := s.run (·.aliveHalf selfOk)

/-- DOCENT_STALL: no check-in for 2 ms: fault 0x0D05, LOCKOUT by the Registrar's own logic. -/
def Dev.docentStall (d : Dev) : Dev :=
  if d.now < d.rgr.checkIn + 2 * msTicks then d else
  let d := d.raise 0x0D05 0
  if d.dstate = .lockout ∨ d.dstate = .dormant then d else d.enterLockout

/-- DOCENT_STALL. -/
def execDocentStall (s : State) : Host.Outcome State Fault Refusal := s.run Dev.docentStall

end Sys2Proof.Machine
end

