-- ==== Sys2Proof/Machine/Lattice.lean ====
section
/-! DEFINITION. The event lattice: routed events, host vectors, hardware sinks; configuration of the health monitors
(chapter 14, R375–R379). -/

namespace Sys2Proof.Machine

/-! ### Vectors (R377, R378) -/

/-- Event `n` is routed to vector `v`. -/
def Dev.routed (d : Dev) (v n : Nat) : Bool := d.rb (Reg.EVT_VEC_SRC v (n / 32)) (n % 32)

/-- The owner host of vector `v`. -/
def Dev.vecOwner (d : Dev) (v : Nat) : Nat := d.rf (Reg.EVT_VOWN (v / 16)) (2 * (v % 16)) 2

/-- A routed event reaches vector `v`: the pending bit, or the overrun bit when it is set already, and the count; a vector
of host C or D that becomes pending while enabled sends a notice (R378, R398). -/
def Dev.vecHit (d : Dev) (v : Nat) : Dev :=
  let was := d.rb (Reg.EVT_PEND (v / 32)) (v % 32)
  let d := if was then d.wb (Reg.EVT_OVR (v / 32)) (v % 32) true else d.wb (Reg.EVT_PEND (v / 32)) (v % 32) true
  let d := d.rmod (Reg.EVT_VCNT v) (fun c => c + 1)
  let h := d.vecOwner v
  if !was && d.rb (Reg.EVT_EN (v / 32)) (v % 32) && decide (2 ≤ h) then
    d.notice (h - 2) ([0x5C, BitVec.ofNat 8 (h + 1), BitVec.ofNat 8 v, 0] ++ beBytes 4 (d.rget (Reg.EVT_VCNT v)).toNat)
  else d

/-- `HOSTh_IRQ.VEC`: a pending vector of host `h` has its enable bit set (R378). -/
def Dev.vecPending (d : Dev) (h : Nat) : Bool :=
  (List.range 64).any (fun v => d.rb (Reg.EVT_PEND (v / 32)) (v % 32) && d.rb (Reg.EVT_EN (v / 32)) (v % 32) && d.vecOwner v == h)

/-! ### Sinks (R377, R379) -/

/-- Event `n` is routed to sink `s`. -/
def Dev.sinkRouted (d : Dev) (s n : Nat) : Bool :=
  (List.range 4).any (fun q => d.rb (Reg.EVT_SINK_EN s) q && d.rf (Reg.EVT_SINK_SRC s) (8 * q) 8 == n)

/-- EVENT_DELIVERY: the oldest event on its way reaches its vectors and sinks. -/
def Dev.eventDelivery (d : Dev) : Dev :=
  match d.events with
  | [] => d
  | n :: rest =>
    let d := { d with events := rest }
    let d := (List.range 64).foldl (fun d v => if d.routed v n then d.vecHit v else d) d
    let marks := (List.range 10).filter (fun s => d.sinkRouted s n && !d.rgr.sinks.contains (s, n))
    d.rgrMod (fun g => { g with sinks := g.sinks ++ marks.map (fun s => (s, n)) })

/-- EVENT_DELIVERY. -/
def execEventDelivery (s : State) : Host.Outcome State Fault Refusal := s.run Dev.eventDelivery

/-- What sink `s` does for the events `ns` (R162, R211, R286, R344). -/
def Dev.sinkAct (d : Dev) (s : Nat) (ns : List Nat) : Dev :=
  if s < 4 then d.maskAdvance s
  else if s < 8 then
    d.urgSend (s - 4) (d.rf (Reg.ADC_URG (s - 4)) 24 4) (d.rf (Reg.ADC_URG (s - 4)) 0 8)
  else if s = 8 then d.capTrigger ns
  else if s = 9 then d.sbcStart.1
  else d

/-- The events that have reached sink `s` since it acted last. -/
def Dev.sinkEvents (d : Dev) (s : Nat) : List Nat := (d.rgr.sinks.filter (fun x => x.1 == s)).map Prod.snd

/-- Sink `s` has no event to act on. -/
def Dev.sinkClear (d : Dev) (s : Nat) : Dev := d.rgrMod (fun g => { g with sinks := g.sinks.filter (fun x => x.1 != s) })

/-- SINK_ACTION: sink `s` acts once for the events that have reached it. -/
def Dev.sinkAction (d : Dev) (s : Nat) : Dev :=
  if d.sinkEvents s = [] then d else (d.sinkClear s).sinkAct s (d.sinkEvents s)

/-- SINK_ACTION. -/
def execSinkAction (sink : Nat) (s : State) : Host.Outcome State Fault Refusal := s.run (·.sinkAction sink)

/-! ### Health-monitor registers (R376) -/

/-- A monitor is zeroed: its count and bins, and the extremes at their start values. -/
def Dev.hltZero (d : Dev) (m : Nat) : Dev :=
  let d := ((d.rset (Reg.HLT_COUNT m) 0).rset (Reg.HLT_MIN m) 0x7FFFFFFF).rset (Reg.HLT_MAX m) 0x80000000
  (List.range 16).foldl (fun d k => d.rset (Reg.HLT_BIN m k) 0) d

/-- A write of `HLT_CLR`. -/
def Dev.hltClr (d : Dev) (v : Word) : Dev := (List.range 32).foldl (fun d m => if bget v m then d.hltZero m else d) d

/-- A configuration of R375 that the table allows. -/
def hltValid (v : Word) : Bool :=
  match hltIndices (fget v 16 8) with
  | some 0 => true
  | some n => decide (fget v 0 8 < n)
  | none => false

/-- A write of `HLTm_CFG`, or with `lo` of `HLTm_LO`: the device and the status (R375, R376). -/
def Dev.hltWrite (d : Dev) (m : Nat) (lo : Bool) (v : Word) : Dev × Nat :=
  if lo then ((d.rset (Reg.HLT_LO m) v).hltZero m, stOk)
  else if hltValid v then ((d.rset (Reg.HLT_CFG m) (v &&& 0x8FFF00FF#32)).hltZero m, stOk)
  else (d, stRange)

end Sys2Proof.Machine
end

