-- ==== Sys2Proof/Machine/Clock.lean ====
section
/-! DEFINITION. Clocks, synchronisation and the timebase (chapter 05, R121–R140, R450). -/

namespace Sys2Proof.Machine

/-! ### Fields of the CLK registers -/

/-- The ILO feeds the tree, locked or free-running (`CLK_STATUS.SRC`). -/
def Dev.onIlo (d : Dev) : Bool := d.rf Reg.CLK_STATUS 1 2 != 0

/-- `CLK_STATUS.MDLL_LOCK` and `ILO_LOCK`. -/
def Dev.mdllLock (d : Dev) : Bool := d.rb Reg.CLK_STATUS 3
def Dev.iloLock (d : Dev) : Bool := d.rb Reg.CLK_STATUS 4

/-- The host ports answer: from clock lock on (R70, R71, R416). -/
def Dev.portsLive (d : Dev) : Bool := d.dstate != .boot || d.mdllLock || d.iloLock

/-- Lock of path 0 (MDLL) or 1 (ILO). -/
def Dev.pathLock (d : Dev) (path : Nat) : Bool := if path = 0 then d.mdllLock else d.iloLock

/-- `CLK_CFG.SYNC_MODE` (R134). -/
def Dev.syncMode (d : Dev) : Nat := d.rf Reg.CLK_CFG 16 3

/-- `CLK_PHASE.PEND`, signed. -/
def Dev.pend (d : Dev) : Int := d.rfs Reg.CLK_PHASE 16 8

/-- `CLK_PHASE.PEND` replaced. -/
def Dev.setPend (d : Dev) (i : Int) : Dev := d.wf Reg.CLK_PHASE 16 8 (fromSigned 8 i)

/-! ### Switch-over (R124, R125) -/

/-- The tree moves to path 0 (MDLL) or 1 (ILO): one cycle lengthened, event 0x08; leaving the ILO discards the pending
phase steps and returns `CK_PWM` to the phase of `CK_CTRL`. -/
def Dev.switchOver (d : Dev) (path : Nat) : Dev :=
  let d := d.wf Reg.CLK_STATUS 1 2 path
  let d := if path = 0 then d.rset Reg.CLK_PHASE 0 else d
  { d with clk := { d.clk with lastSwitch := some d.now } }.ev 0x08

/-- R125, R127: path 0 (MDLL) or 1 (ILO) loses lock. With the other path not locked either, the free-running ILO takes the tree
without event 0x08, and R136 counts no switch-over: DESIGN CHOICE, R125 gives both for a switch to a locked path (log entry 106). -/
def Dev.lossOfLock (d : Dev) (path : Nat) : Dev :=
  let d := d.wb Reg.CLK_STATUS (3 + path) false
  let d := d.lvlOn (0x0301 + path) 0
  let feeding := if d.onIlo then 1 else 0
  if path = feeding then
    if d.pathLock (1 - path) then d.switchOver (1 - path)
    else d.wf Reg.CLK_STATUS 1 2 2
  else d

/-- LOSS_OF_LOCK. -/
def execLossOfLock (path : Nat) (s : State) : Host.Outcome State Fault Refusal := s.run (·.lossOfLock path)

/-- R126: the lost path locks again, or in BOOT for the first time, and its fault clears itself; the tree does not switch back. A free-running ILO that
feeds the tree is locked again. -/
def Dev.pathRelock (d : Dev) (path : Nat) : Dev :=
  let d := d.wb Reg.CLK_STATUS (3 + path) true
  let d := d.lvlOff (0x0301 + path) 0
  if path = 1 ∧ d.rf Reg.CLK_STATUS 1 2 = 2 then d.wf Reg.CLK_STATUS 1 2 1 else d

/-- PATH_RELOCK. -/
def execPathRelock (path : Nat) (s : State) : Host.Outcome State Fault Refusal := s.run (·.pathRelock path)

/-- The path that `CLK_CFG.PRIMARY` selects. -/
def Dev.primary (d : Dev) : Nat := d.rf Reg.CLK_CFG 0 1

/-- R126: `CLK_CMD.RETURN` is legal: every axis of the topology in IDLE, the primary path locked and not feeding. -/
def Dev.returnOk (d : Dev) : Bool :=
  d.allIdle && d.pathLock d.primary && (d.onIlo != (d.primary == 1))

/-- R137: `CLK_CMD.STEP` is legal: `SYNC_MODE` is not ALIGN and the ILO feeds the tree. -/
def Dev.stepOk (d : Dev) : Bool := d.syncMode != 2 && d.onIlo

/-- A write of `CLK_CMD` (R126, R137): with `RETURN` = 1 the return, otherwise `STEP` steps; the second component is
false when the write completes with STATE (log entry 21). -/
def Dev.clkCmd (d : Dev) (v : Word) : Dev × Bool :=
  if bget v 8 then
    if d.returnOk then (d.switchOver d.primary, true) else (d, false)
  else if d.stepOk then (d.setPend (toSigned 8 (fget v 0 8)), true) else (d, false)

/-- 64 steps in one direction have moved the timebase by one whole tick: the epoch and every counter (R137). -/
def Dev.tapWrap (d : Dev) (later : Bool) : Dev :=
  let move (n : Nat) : Nat := if later then n + 1 else n - 1
  { d with clk := { d.clk with epochAt := d.clk.epochAt + (if later then 1 else -1) }
           pwm := d.pwm.map (fun w => { w with lastB := move w.lastB })
           chan := d.chan.map (fun c => { c with lastB := move c.lastB }) }

/-- A phase step may be applied: 1 µs lies between two of them (R137). -/
def Dev.stepFree (d : Dev) : Bool := match d.clk.stepAt with | some t => decide (t + usTicks ≤ d.now) | none => true

/-- One phase step, `later` or earlier, with one fewer queued (R137). -/
def Dev.applyStep (d : Dev) (later : Bool) : Dev :=
  let tap := d.rf Reg.CLK_PHASE 0 6
  let d := (d.wf Reg.CLK_PHASE 0 6 ((tap + (if later then 1 else 63)) % 64)).setPend (d.pend + (if later then -1 else 1))
  let d := { d with clk := { d.clk with stepAt := some d.now } }
  if tap = (if later then 63 else 0) then d.tapWrap later else d

/-- R137: one queued phase step is applied, at most one per 1 µs. -/
def Dev.phaseStep (d : Dev) : Dev :=
  if d.onIlo && d.stepFree && d.pend != 0 then d.applyStep (decide (0 < d.pend)) else d

/-- PHASE_STEP. -/
def execPhaseStep (s : State) : Host.Outcome State Fault Refusal := s.run (·.phaseStep)

/-! ### Reference and monitoring -/

/-- The factor M that a count of `CLKIN` edges in 100 µs selects (R121), within ±8 % of one listed frequency. -/
def multOf (edges : Nat) : Option Nat :=
  let near (f m : Nat) : Option Nat := if 92 * f ≤ 100 * edges ∧ 100 * edges ≤ 108 * f then some m else none
  (near 1000 40).or <| (near 1250 32).or <| (near 1600 25).or <| (near 2000 20).or <| (near 2500 16).or <|
    (near 4000 10).or (near 5000 8)

/-- R121: the reference and the factor M are chosen in BOOT, and stand until the next entry to it. -/
def Dev.clkinDetect (d : Dev) (edges : Nat) : Dev :=
  if d.dstate ≠ .boot then d else
  match multOf edges with
  | some m => (d.wf Reg.CLK_STATUS 8 6 m).wb Reg.CLK_STATUS 0 true
  | none => (d.wf Reg.CLK_STATUS 8 6 20).wb Reg.CLK_STATUS 0 false

/-- CLKIN_DETECT_END. -/
def execClkinDetectEnd (edges : Nat) (s : State) : Host.Outcome State Fault Refusal := s.run (·.clkinDetect edges)

/-- R138: a count lies outside ±6 % of its expectation. -/
def outOfWindow (count expect : Nat) : Bool := decide (100 * count < 94 * expect) || decide (106 * expect < 100 * count)

/-- R127: the reference is lost: no path holds lock, and the tree runs on the free-running ILO. DESIGN CHOICE: the lock bits clear
without the faults 0x0301 and 0x0302, which a loss of lock of its own raises (R125; log entry 144). -/
def Dev.refGone (d : Dev) : Dev := ((d.wb Reg.CLK_STATUS 3 false).wb Reg.CLK_STATUS 4 false).wf Reg.CLK_STATUS 1 2 2

/-- R127, R138: a 2 µs window ends and every count is judged. The reference is lost when fewer than half of its 800 ÷ M
expected edges came. DESIGN CHOICE: before R121 has chosen the reference (`MULT` = 0) nothing is expected of it, and it is not judged
(log entry 143). -/
def Dev.clockWindow (d : Dev) (ctrl pwm mgmt can ref watch : Nat) : Dev :=
  let d := d.lvlSet (outOfWindow ctrl 800) 0x0304 0
  let d := d.lvlSet (outOfWindow pwm 800) 0x0305 0
  let d := d.lvlSet (outOfWindow mgmt 400) 0x0306 0
  let d := d.lvlSet (outOfWindow can 160) 0x030A 0
  let d := d.lvlSet (outOfWindow watch 100) 0x030B 0
  let m := d.rf Reg.CLK_STATUS 8 6
  let lost := decide (m ≠ 0 ∧ 2 * ref * m < 800)
  let d := if lost && !d.clk.refLost then d.refGone.ev 0x09 else d
  let d := d.lvlSet lost 0x0303 0
  { d with clk := { d.clk with refLost := lost } }

/-- CLOCK_MONITOR_WINDOW. -/
def execClockMonitorWindow (ctrl pwm mgmt can ref watch : Nat) (s : State) : Host.Outcome State Fault Refusal :=
  s.run (·.clockWindow ctrl pwm mgmt can ref watch)

/-- R131: the delay-line calibration leaves ±40 ps: fault 0x0309; until it returns, every fractional compare rounds down where an edge
uses it (`Dev.edgeCmp`). -/
def Dev.dlcalLost (d : Dev) : Dev := (d.wb Reg.CLK_STATUS 5 false).lvlOn 0x0309 0

/-- DELAY_LINE_CAL_LOST. -/
def execDelayLineCalLost (s : State) : Host.Outcome State Fault Refusal := s.run (·.dlcalLost)

/-- R131: the calibration returns. -/
def Dev.dlcalReturn (d : Dev) : Dev := (d.wb Reg.CLK_STATUS 5 true).lvlOff 0x0309 0

/-- DELAY_LINE_CAL_RETURN. -/
def execDelayLineCalReturn (s : State) : Host.Outcome State Fault Refusal := s.run (·.dlcalReturn)

/-! ### Epoch, SYNC_OUT and SYNC_IN -/

/-- R132: the epoch counter, which runs from the end of commit, has come to `CLK_TBPER` and wraps; `SYNC_OUT` goes high unless its
width is 0. An epoch that a snap has shortened past the present tick ends now, and counts from the moved tick (R135). -/
def Dev.epochTick (d : Dev) : Dev :=
  let per : Int := d.rf Reg.CLK_TBPER 0 24
  if (tget d.pwm 0).running && decide (per ≤ d.epochCount) then
    ({ d with clk := { d.clk with epochs := d.clk.epochs + 1, epochAt := d.clk.epochAt + per, syncAt := d.now },
              pins := { d.pins with syncOut := d.rf Reg.CLK_CFG 24 8 != 0 } } : Dev).ev 0x0C
  else d

/-- EPOCH_TICK. -/
def execEpochTick (s : State) : Host.Outcome State Fault Refusal := s.run (·.epochTick)

/-- R132: `SYNC_OUT` returns low once `SYNCOUT_W` ticks have passed since it rose. -/
def Dev.syncOutEnd (d : Dev) : Dev :=
  if d.clk.syncAt + d.rf Reg.CLK_CFG 24 8 ≤ d.now then { d with pins := { d.pins with syncOut := false } } else d

/-- SYNC_OUT_PULSE_END. -/
def execSyncOutPulseEnd (s : State) : Host.Outcome State Fault Refusal := s.run (·.syncOutEnd)

/-- The residual of an edge `raw` 1/16 ticks after an epoch tick, reduced to ± half an epoch (R133). -/
def residual (tbper : Nat) (raw : Int) : Int :=
  let m : Int := 16 * tbper
  let r := raw % m
  if m < 2 * r then r - m else r

/-- R136: the edge falls at least 100 ns after a switch-over and at least 1 µs after the previous valid edge. -/
def Dev.captureValid (d : Dev) : Bool :=
  (match d.clk.lastSwitch with | some t => decide (t + 40 ≤ d.now) | none => true) &&
  (match d.clk.lastEdge with | some t => decide (t + usTicks ≤ d.now) | none => true)

/-- R135: what a valid capture does in ALIGN, `e` being the residual less `CLK_SYNCOFS`. A step that no longer fits into the signed
`PEND` leaves it at its limit: DESIGN CHOICE, the rule names no limit (log entry 107). -/
def Dev.alignEdge (d : Dev) (e : Int) : Dev :=
  if 16 ≤ e.natAbs ∧ d.allIdle then { d with clk := { d.clk with snap := some (Int.tdiv e 16) } }
  else if (d.rf Reg.CLK_SYNCLIM 0 16) < e.natAbs then d.occ 0x0307 0
  else if d.onIlo ∧ e ≠ 0 then d.setPend (clampInt (-128) 127 (d.pend + (if 0 < e then 1 else -1)))
  else d

/-- R133–R136: a rising edge on `SYNC_IN` in the delay-line phase `ph` (0–15) of the present tick: its time since the epoch tick is
that of the epoch counter and the phase. It takes effect from commit onward. -/
def Dev.syncInEdge (d : Dev) (ph : Nat) : Dev :=
  if d.syncMode = 0 ∨ !(tget d.pwm 0).running then d else
  let r := residual (d.rf Reg.CLK_TBPER 0 24) (16 * d.epochCount + ph)
  let ok := d.captureValid
  let d := d.rset Reg.CLK_SYNCCAP (wordOfInt r)
  let d := d.wmod Reg.CLK_SYNCCNT 0 15
  let d := d.wb Reg.CLK_SYNCCNT 15 ok
  let d := (d.ev 0x0A).hlt 0x0D 0 r
  let d := if ok then { d with clk := { d.clk with lastEdge := some d.now } } else d
  if d.syncMode = 2 then
    let d := { d.lvlOff 0x0308 0 with clk := { d.clk with aligned := some d.now } }
    if ok then d.alignEdge (r - d.rfs Reg.CLK_SYNCOFS 0 16) else d
  else d

/-- SYNC_IN_EDGE. -/
def execSyncInEdge (ph : Nat) (s : State) : Host.Outcome State Fault Refusal := s.run (·.syncInEdge ph)

/-- The latest boundary, at or before now, of a counter that has one at `base` and every `per` ticks (R145). -/
def Dev.alignedB (d : Dev) (base : Int) (per : Nat) : Nat := ((d.now : Int) - ((d.now : Int) - base) % (per : Int)).toNat

/-- The boundary from which the counter of axis `a` goes on: on the epoch plus `PWMa_PHS` (R145); of a follower, its leader's. -/
def Dev.epochB (d : Dev) (a : Nat) : Nat :=
  let l := d.leader a
  d.alignedB (d.clk.epochAt + (d.rf (Reg.PWM_PHS l) 0 24 : Int)) (d.rf (Reg.PWM_PER l) 0 24)

/-- The latest valid edge, which has asked for the snap, lies 100 ns back (R135). -/
def Dev.snapDue (d : Dev) : Bool := match d.clk.lastEdge with | some t => decide (t + 40 ≤ d.now) | none => true

/-- R135, R145: the snap is made: every later epoch tick comes n ticks later, the dividers restart in phase with it, `SNAPS` counts,
event 0x0B, and every EPOCH axis restarts its counter at the moved epoch tick plus `PWMa_PHS`. -/
def Dev.snap (d : Dev) : Dev :=
  match d.clk.snap with
  | none => d
  | some n =>
    if !d.snapDue then d else
    let at' := d.clk.epochAt + n
    let d := ({ d with clk := { d.clk with snap := none, epochAt := at', divAt := at' } } : Dev).wsat Reg.CLK_SYNCCNT 16 16
    ({ d with pwm := Vector.ofFn (fun a : Fin 4 =>
      if d.rb (Reg.PWM_CFG (d.leader a)) 1 then { d.pwm[a] with lastB := d.epochB a } else d.pwm[a]) } : Dev).ev 0x0B

/-- SNAP. -/
def execSnap (s : State) : Host.Outcome State Fault Refusal := s.run (·.snap)

/-- R135: no edge for 2 × `CLK_TBPER` after the first edge in ALIGN. -/
def Dev.syncMissing (d : Dev) : Dev :=
  match d.clk.aligned with
  | some t => if d.syncMode = 2 ∧ t + 2 * d.rf Reg.CLK_TBPER 0 24 ≤ d.now then d.lvlOn 0x0308 0 else d
  | none => d

/-- SYNC_IN_MISSING. -/
def execSyncInMissing (s : State) : Host.Outcome State Fault Refusal := s.run (·.syncMissing)

end Sys2Proof.Machine
end

