-- ==== Sys2Proof/Machine/Can.lean ====
section
/-! DEFINITION. The CAN FD controllers: states, receive objects, transmit buffers, device messages of ports C and D
(chapter 15, R381–R400). -/

namespace Sys2Proof.Machine

def Dev.cc (d : Dev) (c : Nat) : CanCtl := tget d.can c
def Dev.ccMod (d : Dev) (c : Nat) (f : CanCtl → CanCtl) : Dev := { d with can := tmod d.can c f }

/-- Ports (0 C, 1 D) in use on controller `c`. -/
def Dev.portsOf (d : Dev) (c : Nat) : List Nat :=
  ([0, 1]).filter (fun p => d.rb (Reg.CAN_PORT_CFG p) 31 && d.portCtl p == c)

/-- A bit of `CANc_EVT` is set: event 0xFC + c when it is enabled (R400). -/
def Dev.canEvt (d : Dev) (c bit : Nat) : Dev := (d.wb (Reg.CAN_EVT c) bit true).evIf (d.rb (Reg.CAN_EVTEN c) bit) (0xFC + c)

/-- Held replies and notices of the ports of a controller are discarded (R387, R398). -/
def Dev.canDiscard (d : Dev) (c : Nat) : Dev :=
  let d := (d.portsOf c).foldl (fun d p => (d.cpMod p (fun q => { q with reply := none, notes := [] })).hpMod (p + 2)
    (fun h => { h with reply := none })) d
  d.ccMod c (fun x => { x with begun := [], sending := none, cancel := false })

/-- The controller takes a state (R384): event bit `STATE`, causes of bus-off and error passive, discarded messages. -/
def Dev.canGo (d : Dev) (c st : Nat) : Dev :=
  if d.canState c = st then d
  else
    let run (n : Nat) : Bool := n == 3 || n == 4
    let d := if run (d.canState c) && run st then d else d.ccMod c (fun x => { x with stAt := d.now })
    let d := (d.wf (Reg.CAN_STAT c) 29 3 st).canEvt c 2
    let d := d.lvlSet (st == 4) (0x0E02 + 0x10 * c) 0
    let d := if st = 3 then (d.lvlOff (0x0E01 + 0x10 * c) 0).ccMod c (fun x => { x with activeAt := some (x.activeAt.getD d.now) }) else d
    if st = 5 ∨ st = 7 then d.canDiscard c else d

/-- RESTRICTED begins with no error, no frame and the timer running (R386). -/
def Dev.canRestrict (d : Dev) (c : Nat) : Dev :=
  ((d.wf (Reg.CAN_STAT c) 8 16 0).ccMod c (fun x => { x with
    errs := 0, rx := 0, restrAt := d.now, timerDone := false, prolonged := false })).canGo c 2

/-- RESTRICTED ends when `RESTR_TIME` is over and enough valid frames have been received (R386). -/
def Dev.canLeave (d : Dev) (c : Nat) : Dev :=
  if d.canState c = 2 ∧ (d.cc c).timerDone ∧ d.rf (Reg.CAN_RESTR c) 0 8 ≤ (d.cc c).rx then d.canGo c 3 else d

/-- The end of commit, and the end of a BIST of HOST_L: a controller in use joins the bus (R385, R420). -/
def Dev.canJoin (d : Dev) (c : Nat) : Dev := if d.rb (Reg.CAN_CFG c) 31 then d.canGo c 1 else d.canGo c 0

/-- INTEGRATION_COMPLETE. -/
def Dev.canIntegrated (d : Dev) (c : Nat) : Dev := if d.canState c = 1 then d.canRestrict c else d

/-- INTEGRATION_COMPLETE. -/
def execIntegrationComplete (c : Nat) (s : State) : Host.Outcome State Fault Refusal := s.run (·.canIntegrated c)

/-- RESTRICTED_TIMER: `RESTR_TIME` has passed since the latest start of the timer. -/
def Dev.canTimer (d : Dev) (c : Nat) : Dev :=
  if d.canState c = 2 ∧ (d.cc c).restrAt + d.rf (Reg.CAN_RESTR c) 16 10 * msTicks ≤ d.now then
    (d.ccMod c (fun x => { x with timerDone := true })).canLeave c
  else d

/-- RESTRICTED_TIMER. -/
def execRestrictedTimer (c : Nat) (s : State) : Host.Outcome State Fault Refusal := s.run (·.canTimer c)

/-- The controller has been restricted for 10 × `RESTR_TIME`, or for 1 s when that is 0 (R386). -/
def Dev.restrLong (d : Dev) (c : Nat) : Bool :=
  let t := d.rf (Reg.CAN_RESTR c) 16 10
  d.canState c == 2 && decide ((d.cc c).stAt + (if t = 0 then 1000 else 10 * t) * msTicks ≤ d.now)

/-- RESTRICTION_PROLONGED: reported once. -/
def Dev.canProlonged (d : Dev) (c : Nat) : Dev :=
  if d.restrLong c && !(d.cc c).prolonged then
    (d.ccMod c (fun x => { x with prolonged := true })).occ (0x0E04 + 0x10 * c) 0
  else d

/-- RESTRICTION_PROLONGED. -/
def execRestrictionProlonged (c : Nat) (s : State) : Host.Outcome State Fault Refusal := s.run (·.canProlonged c)

/-- BUS_OFF_WAIT_END: `BO_WAIT` is over; recovery starts by itself with `BO_AUTO` = 1 (R387). -/
def Dev.canWaitEnd (d : Dev) (c : Nat) : Dev :=
  if d.canState c = 5 ∧ d.rb (Reg.CAN_CFG c) 29 ∧ (d.cc c).stAt + d.rf (Reg.CAN_BO c) 16 16 * msTicks ≤ d.now then d.canGo c 6 else d

/-- BUS_OFF_WAIT_END. -/
def execBusOffWaitEnd (c : Nat) (s : State) : Host.Outcome State Fault Refusal := s.run (·.canWaitEnd c)

/-- RECOVERY_COMPLETE: 128 recessive sequences end the recovery. -/
def Dev.canRecovered (d : Dev) (c : Nat) : Dev := if d.canState c = 6 then d.canRestrict c else d

/-- RECOVERY_COMPLETE. -/
def execRecoveryComplete (c : Nat) (s : State) : Host.Outcome State Fault Refusal := s.run (·.canRecovered c)

/-- BOCNT_RESET_TIMER: 1 s of continuous ACTIVE or PASSIVE. -/
def Dev.canBoReset (d : Dev) (c : Nat) : Dev :=
  if (d.canState c = 3 ∨ d.canState c = 4) ∧ (d.cc c).stAt + 1000 * msTicks ≤ d.now then d.wf (Reg.CAN_STAT c) 0 8 0 else d

/-- BOCNT_RESET_TIMER. -/
def execBocntResetTimer (c : Nat) (s : State) : Host.Outcome State Fault Refusal := s.run (·.canBoReset c)

/-! ### Frames on the bus -/

/-- The attempt under way ends without an acknowledgement: a cancelled buffer becomes free, a device message is tried again
(R392, R394, R397). -/
def Dev.canFailed (d : Dev) (c : Nat) : Dev :=
  match (d.cc c).sending with
  | none => d
  | some (.buf j) =>
    let d1 := d.ccMod c (fun x => { x with sending := none, cancel := false })
    if (d.cc c).cancel then (d1.wb (Reg.CAN_TXREQ c) j false).wb (Reg.CAN_TXCNC c) j true else d1
  | some m => d.ccMod c (fun x => { x with sending := none, begun := x.begun ++ [m] })

/-- The end of a frame: a stop that waited for it (R388). -/
def Dev.canFrameEnd (d : Dev) (c : Nat) : Dev :=
  if (d.cc c).stopReq then (d.ccMod c (fun x => { x with stopReq := false })).canGo c 7 else d

/-- The error counters after an event, as ISO 11898-1 counts them, and the state that follows: error passive from 128 on
(PRESUMED, log entry 45), bus-off above 255 (R387). A bus-off that reaches `BO_MAX` has both faults (log entry 136). -/
def Dev.canCount (d : Dev) (c tec rec' : Nat) : Dev :=
  if d.canState c = 3 ∨ d.canState c = 4 then
    let d := (d.wf (Reg.CAN_STAT c) 8 8 (min tec 255)).wf (Reg.CAN_STAT c) 16 8 (min rec' 255)
    if 255 < tec then
      let n := min 255 (d.rf (Reg.CAN_STAT c) 0 8 + 1)
      let d := (d.wf (Reg.CAN_STAT c) 0 8 n).wsat (Reg.CAN_ERR c) 0 16
      let d := d.lvlOn (0x0E01 + 0x10 * c) 0
      if d.rf (Reg.CAN_BO c) 0 8 ≤ n then (d.canGo c 7).occ (0x0E07 + 0x10 * c) 0 else d.canGo c 5
    else d.canGo c (if 128 ≤ tec ∨ 128 ≤ rec' then 4 else 3)
  else d

/-- A frame is sent as an FD frame with BRS (R381, R397, R398). -/
def Dev.sendsBrs (d : Dev) (c : Nat) : CanSend → Bool
  | .buf j => d.rb (Reg.CAN_TX_CTL c j) 31 && d.rb (Reg.CAN_TX_CTL c j) 30
  | .reply p _ => d.rb (Reg.CAN_PORT_CFG p) 30
  | .notice p _ => d.rb (Reg.CAN_PORT_CFG p) 30

/-- The transmitter delay measured in an FD frame that is sent with BRS (R383). -/
def Dev.canTdc (d : Dev) (c : Nat) (m : CanSend) (n : Nat) : Dev :=
  if d.rb (Reg.CAN_DBT c) 31 && d.sendsBrs c m then
    (d.wf (Reg.CAN_ERR c) 24 8 (min n 127)).occIf (decide (127 < n)) (0x0E08 + 0x10 * c) 0
  else d

/-- The transmitter delay, if the frame that an error ends has come as far as to measure it. -/
def Dev.canTdcErr (d : Dev) (c : Nat) (tdc : Option Nat) : Dev :=
  match (d.cc c).sending, tdc with
  | some m, some n => d.canTdc c m n
  | _, _ => d

/-- CAN_ERROR: error `lec` (1 stuff, 2 form, 3 ack, 4 bit 1, 5 bit 0, 6 CRC); in RESTRICTED it restarts the timer and
counts (R386), else the counters take their new values (R387). -/
def Dev.canError (d : Dev) (c lec tec rec' : Nat) (tdc : Option Nat) : Dev :=
  let st := d.canState c
  if st = 2 then
    let n := (d.cc c).errs + 1
    let d := (d.wf (Reg.CAN_ERR c) 16 4 lec).ccMod c (fun x => { x with errs := n, restrAt := d.now, timerDone := false })
    if d.rf (Reg.CAN_RESTR c) 8 8 ≤ n then (d.canGo c 7).occ (0x0E03 + 0x10 * c) 0 else d
  else if st = 3 ∨ st = 4 then
    ((((d.wf (Reg.CAN_ERR c) 16 4 lec).canTdcErr c tdc).canFailed c).canCount c tec rec').canFrameEnd c
  else d

/-- CAN_ERROR. -/
def execCanError (c lec tec rec' : Nat) (tdc : Option Nat) (s : State) : Host.Outcome State Fault Refusal :=
  s.run (·.canError c lec tec rec' tdc)

/-- The DLC's data length (R395). -/
def dlcBytes (fdf : Bool) (dlc : Nat) : Nat :=
  if dlc ≤ 8 then dlc else if !fdf then 8
  else match dlc with | 9 => 12 | 10 => 16 | 11 => 20 | 12 => 24 | 13 => 32 | 14 => 48 | _ => 64

/-- The word `w` of data bytes, byte 4w in bits 31:24. -/
def dataWord (bs : List Byte) (w : Nat) : Word := BitVec.ofNat 32 (beAt bs (4 * w) 4)

/-- The object that matches an identifier (R389). -/
def Dev.canObj (d : Dev) (c id : Nat) (ide : Bool) : Option Nat :=
  (List.range 64).find? (fun i => d.rb (Reg.CAN_OBJ_ID c i) 31 && d.rb (Reg.CAN_OBJ_ID c i) 30 == ide &&
    d.rf (Reg.CAN_OBJ_ID c i) 0 29 == id)

/-- A frame is stored in object `i` (R389). The data bytes above its length are free (log entry 44). -/
def Dev.canStore (d : Dev) (c i : Nat) (fdf brs esi : Bool) (dlc : Nat) (data : List Byte) : Dev :=
  let h := Reg.CAN_OBJ_HDR c i
  let was := d.rb h 31
  let n := dlcBytes fdf dlc
  let bs := data.take n ++ (List.range (64 - n)).map (fun k => BitVec.ofNat 8 (Config.freeNat 389 (d.freeCtr * 64 + k)))
  let cnt := (d.rf h 0 16 + 1) % 65536
  let lost := was || d.rb h 30
  let d := (d.tick1).rset h (BitVec.ofNat 32 (2147483648 + lost.toNat * 1073741824 + fdf.toNat * 536870912 +
    brs.toNat * 268435456 + esi.toNat * 134217728 + dlc % 16 * 65536 + cnt))
  let d := d.rset (Reg.CAN_OBJ_TS c i) (BitVec.ofNat 32 d.stamp)
  let d := (List.range 16).foldl (fun d w => d.rset (Reg.CAN_OBJ_D c i w) (dataWord bs w)) d
  let d := d.wb (Reg.CAN_RXNEW c (i / 32)) (i % 32) true
  let d := if was then (d.wb (Reg.CAN_RXLOST c (i / 32)) (i % 32) true).canEvt c 3 else d
  let d := if d.rb (Reg.CAN_OBJ_ID c i) 29 then d.canEvt c 0 else d
  (d.ccMod c (fun x => { x with objAt := aput x.objAt i d.now })).lvlOff (0x0E05 + 0x10 * c) i

/-- The port (0 C, 1 D) whose command identifier a frame of controller `c` carries. -/
def Dev.canCmdPort (d : Dev) (c id : Nat) (ide : Bool) : Option Nat :=
  (d.portsOf c).find? (fun p => d.rb (Reg.CAN_PORT_CMDID p) 30 == ide && d.rf (Reg.CAN_PORT_CMDID p) 0 29 == id)

/-- A port command frame is dropped and counted (R396). -/
def Dev.portDrop (d : Dev) (c p : Nat) : Dev :=
  ((d.wsat (Reg.CAN_DROP c) 0 16).wsat (Reg.CAN_PORT_STAT p) 16 16).occ (0x0E06 + 0x10 * c) 0

/-- A port command frame: queued, or dropped (R386, R396). -/
def Dev.portCmd (d : Dev) (c p : Nat) (fdf : Bool) (data : List Byte) : Dev :=
  if !fdf || !d.portUp p || decide (4 ≤ (tget d.cport p).cmdQ.length) then d.portDrop c p
  else d.cpMod p (fun q => { q with cmdQ := q.cmdQ ++ [data] })

/-- A frame of controller `c` carries the reply or the notice identifier of one of its ports (R396). -/
def Dev.canOwnId (d : Dev) (c id : Nat) (ide : Bool) : Bool :=
  (d.portsOf c).any (fun p => (d.rb (Reg.CAN_PORT_RPLID p) 30 == ide && d.rf (Reg.CAN_PORT_RPLID p) 0 29 == id) ||
    (d.rb (Reg.CAN_PORT_CFG p) 26 == ide && d.rf (Reg.CAN_PORT_CFG p) 0 26 == id))

/-- What becomes of a valid frame (R381, R389, R396): stored in its object, taken as a command of its port, or counted as unmatched. A
remote frame is never stored and is no FD frame; that it is counted like any other is DEDUCED (log entry 139). -/
def Dev.canSort (d : Dev) (c id : Nat) (ide fdf brs esi remote : Bool) (dlc : Nat) (data : List Byte) : Dev :=
  match d.canObj c id ide, d.canCmdPort c id ide with
  | some i, _ => if remote then d else d.canStore c i fdf brs esi dlc data
  | none, some p => d.portCmd c p (fdf && !remote) (data.take (dlcBytes fdf dlc))
  | none, none => if d.canOwnId c id ide then d else d.wsat (Reg.CAN_DROP c) 16 16

/-- CAN_FRAME_RECEIVED: a valid frame of another node. An attempt of this controller that ran has lost arbitration. -/
def Dev.canFrame (d : Dev) (c id : Nat) (ide fdf brs esi remote : Bool) (dlc : Nat) (data : List Byte) (tec rec' : Nat) : Dev :=
  let st := d.canState c
  if st = 2 then
    ((d.canSort c id ide fdf brs esi remote dlc data).ccMod c (fun x => { x with rx := x.rx + 1 })).canLeave c
  else if st = 3 ∨ st = 4 then
    (((d.canFailed c).canSort c id ide fdf brs esi remote dlc data).canCount c tec rec').canFrameEnd c
  else d

/-- CAN_FRAME_RECEIVED. -/
def execCanFrameReceived (c id : Nat) (ide fdf brs esi remote : Bool) (dlc : Nat) (data : List Byte) (tec rec' : Nat)
    (s : State) : Host.Outcome State Fault Refusal := s.run (·.canFrame c id ide fdf brs esi remote dlc data tec rec')

/-- The arbitration order of an identifier (R393): the 11 most significant bits, base before extended, then the rest. -/
def arbKey (id : Nat) (ide : Bool) : Nat :=
  if ide then id / 262144 * 524288 + 262144 + id % 262144 else id % 2048 * 524288

/-- The key of what could be sent. -/
def Dev.sendKey (d : Dev) (c : Nat) : CanSend → Nat
  | .buf j => arbKey (d.rf (Reg.CAN_TX_ID c j) 0 29) (d.rb (Reg.CAN_TX_ID c j) 30)
  | .reply p _ => arbKey (d.rf (Reg.CAN_PORT_RPLID p) 0 29) (d.rb (Reg.CAN_PORT_RPLID p) 30)
  | .notice p _ => arbKey (d.rf (Reg.CAN_PORT_CFG p) 0 26) (d.rb (Reg.CAN_PORT_CFG p) 26)

/-- The message of a port, or of the list of begun ones, that comes next. -/
def Dev.portMsgs (d : Dev) (c p : Nat) : List CanSend :=
  let b := (d.cc c).begun
  let r := match b.find? (fun m => match m with | .reply q _ => q == p | _ => false), (tget d.cport p).reply with
    | some m, _ => [m]
    | none, some bs => [.reply p bs]
    | none, none => []
  let n := match b.find? (fun m => match m with | .notice q _ => q == p | _ => false), (tget d.cport p).notes with
    | some m, _ => [m]
    | none, bs :: _ => [.notice p bs]
    | none, [] => []
  r ++ n

/-- What could be sent, in the order that breaks ties (R393). -/
def Dev.candidates (d : Dev) (c : Nat) : List CanSend :=
  ((d.portsOf c).map (d.portMsgs c)).flatten ++
    ((List.range 32).filter (fun j => d.rb (Reg.CAN_TXREQ c) j)).map CanSend.buf

/-- The first of the least keys. -/
def Dev.winner (d : Dev) (c : Nat) : List CanSend → Option CanSend
  | [] => none
  | m :: l => match d.winner c l with
    | none => some m
    | some x => if d.sendKey c x < d.sendKey c m then some x else some m

/-- A device message leaves the place where it waited. -/
def Dev.takeMsg (d : Dev) (c : Nat) (m : CanSend) : Dev :=
  if (d.cc c).begun.contains m then d.ccMod c (fun x => { x with begun := x.begun.erase m })
  else match m with
    | .buf _ => d
    | .reply p _ => d.cpMod p (fun q => { q with reply := none })
    | .notice p _ => d.cpMod p (fun q => { q with notes := q.notes.drop 1 })

/-- CAN_FRAME_START: the controller may start a frame and picks what would win arbitration (R393). -/
def Dev.canStart (d : Dev) (c : Nat) : Dev :=
  if (d.canState c = 3 ∨ d.canState c = 4) ∧ (d.cc c).sending = none then
    match d.winner c (d.candidates c) with
    | none => d
    | some m => (d.takeMsg c m).ccMod c (fun x => { x with sending := some m })
  else d

/-- CAN_FRAME_START. -/
def execCanFrameStart (c : Nat) (s : State) : Host.Outcome State Fault Refusal := s.run (·.canStart c)

/-- TRANSMIT_COMPLETE: the frame being sent is acknowledged and ends without error (R392). -/
def Dev.canSent (d : Dev) (c tec rec' tdc : Nat) : Dev :=
  match (d.cc c).sending with
  | none => d
  | some m =>
    let d := (d.ccMod c (fun x => { x with sending := none, cancel := false })).canTdc c m tdc
    let d := match m with
      | .buf j => (((d.wb (Reg.CAN_TXREQ c) j false).wb (Reg.CAN_TXDONE c) j true).rset (Reg.CAN_TX_TS c j)
          (BitVec.ofNat 32 d.stamp)).canEvt c 1
      | _ => d
    (d.canCount c tec rec').canFrameEnd c

/-- TRANSMIT_COMPLETE. -/
def execTransmitComplete (c tec rec' tdc : Nat) (s : State) : Host.Outcome State Fault Refusal :=
  s.run (·.canSent c tec rec' tdc)

/-- Object `i` is supervised, has not timed out yet, and has stored no frame for `TMO` since the first entry into ACTIVE (R391). -/
def Dev.objLate (d : Dev) (c i : Nat) : Bool :=
  d.rb (Reg.CAN_OBJ_ID c i) 31 && d.rf (Reg.CAN_OBJ_TMO c i) 0 16 != 0 && !d.lvl (0x0E05 + 0x10 * c) i &&
  match (d.cc c).activeAt with
  | some t => decide (max t ((aget (d.cc c).objAt i).getD 0) + d.rf (Reg.CAN_OBJ_TMO c i) 0 16 * msTicks ≤ d.now)
  | none => false

/-- OBJECT_TIMEOUT. -/
def Dev.objTimeout (d : Dev) (c i : Nat) : Dev :=
  if d.objLate c i then
    ((d.lvlOn (0x0E05 + 0x10 * c) i).canEvt c 4).ev 0xFF
  else d

/-- OBJECT_TIMEOUT. -/
def execObjectTimeout (c i : Nat) (s : State) : Host.Outcome State Fault Refusal := s.run (·.objTimeout c i)

/-! ### Host accesses -/

/-- The owner of a controller, 7 for none (R392). -/
def Dev.canOwner (d : Dev) (c : Nat) : Nat := d.rf (Reg.CAN_CFG c) 8 3

/-- A write of `CANc_CMD` (R388): the device and the status. -/
def Dev.canCmd (d : Dev) (c : Nat) (v : Word) : Dev × Nat :=
  let st := d.canState c
  if bget v 0 && bget v 1 then (d, stState)
  else if bget v 0 then
    if st = 0 ∨ st = 7 then (d, stState)
    else if (d.cc c).sending.isSome then (d.ccMod c (fun x => { x with stopReq := true }), stOk)
    else (d.canGo c 7, stOk)
  else if bget v 1 then
    if st = 5 then (d.canGo c 6, stOk)
    else if st = 7 then ((d.wf (Reg.CAN_STAT c) 0 24 0).canGo c 1, stOk)
    else (d, stState)
  else (d, stOk)

/-- A write of `CANc_TXREQ` (R392). -/
def Dev.canTxReq (d : Dev) (c : Nat) (v : Word) : Dev × Nat :=
  let bad (j : Nat) : Bool :=
    let fdf := d.rb (Reg.CAN_TX_CTL c j) 31
    (fdf && !d.rb (Reg.CAN_CFG c) 30) || (d.rb (Reg.CAN_TX_CTL c j) 30 && !fdf)
  let asked := (List.range 32).filter (fun j => bget v j && !d.rb (Reg.CAN_TXREQ c) j)
  let d1 := (asked.filter (fun j => !bad j)).foldl (fun d j => d.wb (Reg.CAN_TXREQ c) j true) d
  (d1, if asked.any bad then stRange else stOk)

/-- A write of `CANc_TXCAN` (R394). -/
def Dev.canTxCancel (d : Dev) (c : Nat) (v : Word) : Dev :=
  (List.range 32).foldl (fun d j =>
    if bget v j && d.rb (Reg.CAN_TXREQ c) j then
      if (d.cc c).sending = some (.buf j) then d.ccMod c (fun x => { x with cancel := true })
      else (d.wb (Reg.CAN_TXREQ c) j false).wb (Reg.CAN_TXCNC c) j true
    else d) d

/-- A write of `CANc_RXLOSTk`: each bit cleared also clears `LOST` of its object (CAN registers). -/
def Dev.rxLostClear (d : Dev) (c k : Nat) (v : Word) : Dev :=
  (List.range 32).foldl (fun d b =>
    if bget v b then (d.wb (Reg.CAN_RXLOST c k) b false).wb (Reg.CAN_OBJ_HDR c (32 * k + b)) 30 false else d) d

/-- A frame has been stored in object `i` in the present cycle (R390; a tick is the model's cycle, log entry 137). -/
def Dev.objFresh (d : Dev) (c i : Nat) : Bool := aget (d.cc c).objAt i == some d.now

/-- The content of object `i` that a read of its header sees: the older one when a frame is stored in the same cycle (R390). -/
def Dev.objShown (d : Dev) (c i a : Nat) : Word := if d.objFresh c i then d.before a else d.rget a

/-- A read of `CANc_OBJi_HDR` by host `h` (R390): the object goes to the host's shadow and `NEW` clears. A frame stored in the same
cycle keeps `NEW` and has lost none. -/
def Dev.hdrRead (d : Dev) (h c i : Nat) : Dev :=
  let snap := (i, d.objShown c i (Reg.CAN_OBJ_TS c i), (List.range 16).map (fun w => d.objShown c i (Reg.CAN_OBJ_D c i w)))
  let e := d.ccMod c (fun x => { x with shadow := tset x.shadow h (some snap) })
  if d.objFresh c i then
    (e.wb (Reg.CAN_OBJ_HDR c i) 30 (bget (d.before (Reg.CAN_OBJ_HDR c i)) 30)).wb (Reg.CAN_RXLOST c (i / 32)) (i % 32)
      (bget (d.before (Reg.CAN_RXLOST c (i / 32))) (i % 32))
  else (e.wb (Reg.CAN_OBJ_HDR c i) 31 false).wb (Reg.CAN_RXNEW c (i / 32)) (i % 32) false

/-- OBJECT_HEADER_READ. -/
def execObjectHeaderRead (host c i : Nat) (s : State) : Host.Outcome State Fault Refusal := s.run (·.hdrRead host c i)

/-- The reply of port C or D as a message: padded to the smallest data length that holds it (R397). -/
def padFd (bs : List Byte) : List Byte :=
  match ([0, 1, 2, 3, 4, 5, 6, 7, 8, 12, 16, 20, 24, 32, 48, 64].find? (fun n => decide (bs.length ≤ n))) with
  | some n => padTo n bs
  | none => bs

/-- A reply message of port `p` waits; an earlier one that has not started is replaced (R397). -/
def Dev.queueReply (d : Dev) (p : Nat) (bs : List Byte) : Dev :=
  if d.portUp p then d.cpMod p (fun q => { q with reply := some (padFd bs) }) else d

end Sys2Proof.Machine
end

