-- ==== Sys2Proof/Machine/Fields.lean ====
section
/-! DEFINITION. The fields of the registers for which an image can declare bounds (R85): every register that the sections PWM,
ADC_SEQ, FLD, CE_PARAM and AUX load, and the chopper thresholds; with each field its place, its width and whether its meaning
is signed, from the register tables of spec/. A register of another section has no row here. -/

namespace Sys2Proof.Machine

/-- Place, width and signedness of each field, high to low, by the first address of the register's row. -/
def fieldRowsA : List (Nat × List (Nat × Nat × Bool)) := [
  -- CLK_CFG
  (0x030004, [(24, 8, false), (16, 3, false), (0, 1, false)]),
  -- CLK_TBPER
  (0x03000C, [(0, 24, false)]),
  -- CLK_SYNCOFS
  (0x030010, [(0, 16, true)]),
  -- CLK_SYNCLIM
  (0x030014, [(0, 16, false)]),
  -- PWMa_CFG
  (0x040000, [(8, 4, false), (4, 2, false), (3, 1, false), (2, 1, false), (1, 1, false), (0, 1, false)]),
  -- PWMa_PER
  (0x040004, [(0, 24, false)]),
  -- PWMa_PHS
  (0x040008, [(0, 24, false)]),
  -- PWMa_DT
  (0x04000C, [(16, 12, false), (0, 12, false)]),
  -- PWMa_BLK
  (0x040010, [(16, 3, false), (0, 11, false)]),
  -- PWMa_WIN
  (0x040014, [(31, 1, false), (30, 1, false), (16, 12, false), (0, 11, false)]),
  -- PWMa_MASKi
  (0x040060, [(0, 6, false)]),
  -- PWMa_TRIPCFG
  (0x040080, [(16, 8, false), (8, 4, false), (1, 1, false), (0, 1, false)]),
  -- PWM_Cj_PER
  (0x048000, [(0, 24, false)]),
  -- PWM_Cj_MIN
  (0x04800C, [(16, 12, false), (0, 12, false)]),
  -- PWM_Cj_DT
  (0x048010, [(0, 12, false)]),
  -- ADCk_CFG
  (0x060000, [(24, 8, false), (9, 3, false), (6, 3, false), (3, 3, false)])]

def fieldRowsB : List (Nat × List (Nat × Nat × Bool)) := [
  -- ADCk_SEQLEN
  (0x060004, [(0, 7, false)]),
  -- ADCk_SEQi
  (0x060100, [(28, 4, false), (26, 2, false), (16, 8, false), (7, 1, false), (6, 1, false), (0, 4, false)]),
  -- ADCk_SDLYi
  (0x060104, [(0, 16, false)]),
  -- ADC_RECON
  (0x061008, [(16, 8, false), (8, 8, false), (0, 4, false)]),
  -- ADC_WBUF
  (0x06100C, [(31, 1, false), (24, 4, false), (23, 1, false), (16, 4, false), (15, 1, false), (8, 4, false), (7, 1, false), (0, 4, false)]),
  -- ADC_ISCALEa
  (0x061010, [(0, 32, true)]),
  -- ADC_BUFi_CFG
  (0x061100, [(31, 1, false), (30, 1, false), (16, 4, false), (0, 12, false)]),
  -- ADC_SARSCAN
  (0x061200, [(16, 16, false), (0, 16, false)]),
  -- ADC_SARCFG
  (0x061204, [(16, 8, false), (0, 4, false)]),
  -- FLDa_CFG
  (0x070000, [(28, 1, false), (16, 9, false), (6, 1, false), (5, 1, false), (4, 1, false), (0, 3, false)]),
  -- FLDa_ASRC
  (0x070004, [(24, 8, false), (16, 8, false), (8, 8, false), (4, 2, false), (0, 2, false)]),
  -- FLDa_OBS
  (0x070008, [(24, 8, false), (16, 8, false), (0, 16, false)]),
  -- FLDa_PLL
  (0x07000C, [(16, 16, false), (0, 16, false)]),
  -- FLDa_HDIV
  (0x070010, [(0, 16, false)]),
  -- FLDa_MACH
  (0x070014, [(16, 16, false), (0, 16, false)]),
  -- FLDa_MACH2
  (0x070018, [(16, 16, false), (0, 16, false)])]

def fieldRowsC : List (Nat × List (Nat × Nat × Bool)) := [
  -- FLDa_RATED
  (0x07001C, [(0, 18, false)]),
  -- FLDa_VBASE
  (0x070020, [(0, 16, false)]),
  -- FLDa_DTC
  (0x070024, [(16, 12, false), (0, 12, false)]),
  -- FLDa_HFI
  (0x070028, [(16, 8, false), (12, 4, false), (0, 12, false)]),
  -- FLDa_REACQ
  (0x07002C, [(16, 8, false), (4, 6, false), (0, 4, false)]),
  -- FLDa_PROBE
  (0x070030, [(20, 12, false), (16, 4, false), (0, 13, false)]),
  -- FLDa_RAMP
  (0x070034, [(0, 10, false)]),
  -- FLDa_BADV
  (0x070038, [(0, 16, true)]),
  -- FLDa_STOP
  (0x070060, [(16, 16, false), (0, 16, false)]),
  -- POSa_CFG
  (0x080000, [(16, 8, false), (8, 8, false), (0, 1, false)]),
  -- POSa_WRAP
  (0x080004, [(0, 16, false)]),
  -- POSa_HMAP
  (0x080008, [(18, 3, false), (15, 3, false), (12, 3, false), (9, 3, false), (6, 3, false), (3, 3, false)]),
  -- POSa_OFS
  (0x08000C, [(0, 16, false)]),
  -- POSa_TMO
  (0x080010, [(0, 14, false)]),
  -- CE_CFG
  (0x090000, [(31, 1, false), (30, 1, false), (16, 8, false), (8, 2, false), (4, 2, false)]),
  -- CE_STEP
  (0x090004, [(0, 19, false)])]

def fieldRowsD : List (Nat × List (Nat × Nat × Bool)) := [
  -- CE_LANEl_CFG
  (0x090200, [(31, 1, false), (28, 3, false), (24, 4, false), (22, 2, false), (21, 1, false), (0, 10, false)]),
  -- CE_LANEl_SLEW
  (0x090204, [(16, 16, false), (0, 16, false)]),
  -- CE_AGRi
  (0x090400, [(31, 1, false), (30, 1, false), (16, 8, false), (8, 8, false), (0, 8, false)]),
  -- CE_CMDd_CFG
  (0x090500, [(30, 2, false), (27, 3, false), (16, 10, false), (8, 8, false)]),
  -- CE_CMDd_X
  (0x090504, [(16, 16, false), (0, 16, false)]),
  -- CE_CMDd_Y
  (0x090508, [(16, 16, true), (0, 16, true)]),
  -- CE_CMDd_DB
  (0x09050C, [(16, 16, false), (0, 16, false)]),
  -- CE_CMDd_LIM
  (0x090510, [(16, 16, false), (0, 16, false)]),
  -- CE_PGg_CFG
  (0x090600, [(31, 1, false), (0, 5, false)]),
  -- CE_PGg_V
  (0x090604, [(0, 32, false)]),
  -- CE_PGg_A
  (0x090608, [(0, 32, false)]),
  -- CE_PGg_J
  (0x09060C, [(0, 32, false)]),
  -- CE_PARi
  (0x094000, [(0, 32, false)]),
  -- AUXx_CFG
  (0x0A0000, [(31, 1, false), (30, 1, false), (29, 1, false), (28, 1, false), (27, 1, false), (22, 2, false), (20, 2, false), (19, 1, false)]),
  -- AUXx_CUR
  (0x0A0004, [(16, 8, false), (8, 8, false), (0, 8, false)]),
  -- AUXx_CHOP
  (0x0A0008, [(16, 16, false), (8, 4, false), (4, 4, false), (0, 4, false)])]

def fieldRowsE : List (Nat × List (Nat × Nat × Bool)) := [
  -- AUXx_BST
  (0x0A000C, [(16, 10, false), (0, 11, false)]),
  -- AUXx_SW
  (0x0A0010, [(16, 8, false), (2, 1, false), (1, 1, false), (0, 1, false)]),
  -- AUXx_SPDENT
  (0x0A0014, [(0, 22, false)]),
  -- AUXx_SPDEXT
  (0x0A0018, [(0, 22, false)]),
  -- AUXx_SPDKNEE
  (0x0A001C, [(0, 22, false)]),
  -- AUXx_SPDTOP
  (0x0A0020, [(0, 22, false)]),
  -- AUXx_ACCLO
  (0x0A0024, [(0, 24, false)]),
  -- AUXx_ACCHI
  (0x0A0028, [(0, 24, false)]),
  -- AUXx_DECLO
  (0x0A002C, [(0, 24, false)]),
  -- AUXx_DECHI
  (0x0A0030, [(0, 24, false)]),
  -- AUXx_GRIDk
  (0x0A0034, [(0, 22, false)]),
  -- AUXx_GRIDHYS
  (0x0A0044, [(0, 22, false)]),
  -- AUXx_PMIN
  (0x0A0048, [(0, 32, true)]),
  -- AUXx_PMAX
  (0x0A004C, [(0, 32, true)]),
  -- AUXx_HV1
  (0x0A0058, [(0, 22, false)]),
  -- AUXx_HV2
  (0x0A005C, [(0, 22, false)])]

def fieldRowsF : List (Nat × List (Nat × Nat × Bool)) := [
  -- AUXx_HBACK
  (0x0A0060, [(0, 24, false)]),
  -- AUXx_HOFS
  (0x0A0064, [(0, 32, true)]),
  -- AUXx_HMAX
  (0x0A0068, [(0, 32, false)]),
  -- AUXx_DSLEW
  (0x0A0070, [(0, 16, false)]),
  -- DCL_VCHOP
  (0x0B0014, [(16, 16, false), (0, 16, false)]),
  -- DCL_VFULL
  (0x0B0018, [(0, 16, false)]),
  -- THERM_CFG
  (0x100000, [(16, 14, false), (0, 5, false)]),
  -- THERM_Ss_CFG
  (0x100100, [(31, 1, false), (16, 4, false), (0, 10, false)]),
  -- THERM_Ss_TH
  (0x100104, [(24, 8, false), (16, 8, false), (8, 8, false), (0, 4, false)]),
  -- THERM_Ss_NTC
  (0x10010C, [(16, 16, false), (0, 16, false)])]

def fieldRows : List (Nat × List (Nat × Nat × Bool)) := fieldRowsA ++ fieldRowsB ++ fieldRowsC ++ fieldRowsD ++ fieldRowsE ++ fieldRowsF

/-- The fields of the register at an address. -/
def fieldsAt (a : Nat) : Option (List (Nat × Nat × Bool)) :=
  match rowAt a with
  | some r => (fieldRows.find? (fun x => x.1 == r.base)).map (·.2)
  | none => none

end Sys2Proof.Machine
end

