-- ==== Sys2Proof/Machine/Sha.lean ====
section
/-! DEFINITION. SHA-256, which R81, R401 and R414 name: key hashes, the digest of a slot. Its constants are not tabled here: they
are the leading fraction bits of square and cube roots of the first primes, and are computed as such. -/

namespace Sys2Proof.Machine

/-- `acc` raised bit by bit, from 2^(k−1) down, as long as its `n`-th power stays within `x`. -/
def rootSearch (n x : Nat) : Nat → Nat → Nat
  | 0, acc => acc
  | k + 1, acc => rootSearch n x k (if (acc + 2 ^ k) ^ n ≤ x then acc + 2 ^ k else acc)

/-- The whole part of the `n`-th root of `x`, for a root below 2^`bits`. -/
def nthRoot (n bits x : Nat) : Nat := rootSearch n x bits 0

/-- The first `k` primes, for `k` up to 64. -/
def primes (k : Nat) : List Nat :=
  (((List.range 312).drop 2).filter (fun p => ((List.range 18).drop 2).all (fun q => q == p || p % q != 0))).take k

/-- The first 32 fraction bits of the `n`-th root of `p`. -/
def rootFraction (n p : Nat) : Word := BitVec.ofNat 32 (nthRoot n 37 (p * 2 ^ (32 * n)))

/-- XOR of `x` rotated right by each amount of `l`. -/
def spread (x : Word) (l : List Nat) : Word := l.foldl (fun y r => y ^^^ x.rotateRight r) 0

/-- The message schedule behind the words `l`, newest first: `k` more words. -/
def schedule : Nat → List Word → List Word
  | 0, l => l
  | k + 1, l =>
    let old := lget l 14
    let recent := lget l 1
    schedule k ((lget l 15 + (spread old [7, 18] ^^^ (old >>> 3)) + lget l 6 + (spread recent [17, 19] ^^^ (recent >>> 10))) :: l)

/-- The two halves of the working state, each with its newest word first; the word that leaves a half feeds the other. -/
structure ShaHalves where
  a : List Word
  e : List Word
  deriving DecidableEq, Repr

/-- One round on the sum of a schedule word and its constant. -/
def ShaHalves.turn (s : ShaHalves) (kw : Word) : ShaHalves :=
  let a := lget s.a
  let e := lget s.e
  let feed := kw + e 3 + spread (e 0) [6, 11, 25] + (e 2 ^^^ (e 0 &&& (e 1 ^^^ e 2)))
  { a := (feed + spread (a 0) [2, 13, 22] + ((a 0 &&& (a 1 ||| a 2)) ||| (a 1 &&& a 2))) :: s.a.take 3
    e := (a 3 + feed) :: s.e.take 3 }

/-- One block of 64 bytes into the chaining value. -/
def shaAbsorb (h : ShaHalves) (block : List Byte) : ShaHalves :=
  let ws := (schedule 48 ((List.range 16).map (fun i => BitVec.ofNat 32 (beAt block (60 - 4 * i) 4)))).reverse
  let r := ((primes 64).zip ws).foldl (fun s pw => s.turn (rootFraction 3 pw.1 + pw.2)) h
  { a := List.zipWith (· + ·) h.a r.a, e := List.zipWith (· + ·) h.e r.e }

/-- The chaining value at the start: square roots of the first eight primes. -/
def shaStart : ShaHalves :=
  let r := (primes 8).map (rootFraction 2)
  { a := r.take 4, e := r.drop 4 }

/-- `n` blocks of a padded message. -/
def shaBlocks : Nat → ShaHalves → List Byte → ShaHalves
  | 0, h, _ => h
  | n + 1, h, m => shaBlocks n (shaAbsorb h (m.take 64)) (m.drop 64)

/-- SHA-256 of a message, 32 bytes: padded with a 1 bit, zeros and the 64-bit length in bits to whole blocks. -/
def sha256 (m : List Byte) : List Byte :=
  let blocks := (m.length + 72) / 64
  let padded := m ++ 0x80 :: List.replicate (64 * blocks - 9 - m.length) 0 ++ beBytes 8 (8 * m.length)
  let h := shaBlocks blocks shaStart padded
  (h.a ++ h.e).flatMap (fun w => beBytes 4 w.toNat)

end Sys2Proof.Machine
end

