-- ==== Sys2Proof/Machine/Slh.lean ====
section
/-! DEFINITION. SLH-DSA with SHA-256 at 16-byte nodes, which R82, R401, R402, R406 and R414 name: key root, signature and
verification of the parameter sets SLH-DSA-SHA2-128s and SLH-DSA-SHA2-128f. The algorithms are those of FIPS 205, from outside the
spec (log entry 50). -/

namespace Sys2Proof.Machine

/-- A parameter set: layers of trees and the height of one; height and number of the few-time trees; bytes of a message digest. -/
structure SlhSet where
  layers : Nat
  height : Nat
  fewHeight : Nat
  fewTrees : Nat
  digest : Nat
  deriving DecidableEq, Repr

/-- SLH-DSA-SHA2-128s, SLH-DSA-SHA2-128f. -/
def slh128s : SlhSet := ⟨7, 9, 12, 14, 30⟩
def slh128f : SlhSet := ⟨22, 3, 6, 33, 34⟩

/-- Bytes of a one-time signature of 35 chains with its path, of a whole signature: 7,856 and 17,088. -/
def SlhSet.layerLen (S : SlhSet) : Nat := 16 * (35 + S.height)
def SlhSet.sigLen (S : SlhSet) : Nat := 16 * (1 + S.fewTrees * (1 + S.fewHeight)) + S.layers * S.layerLen

/-- The address of a hash: layer, tree and kind, then key pair, chain or height, and position or index. -/
structure SlhAdr where
  layer : Nat
  tree : Nat
  kind : Nat
  pair : Nat
  row : Nat
  place : Nat
  deriving DecidableEq, Repr

/-- The compressed form of an address, 22 bytes. -/
def SlhAdr.bytes (a : SlhAdr) : List Byte :=
  beBytes 1 a.layer ++ beBytes 8 a.tree ++ beBytes 1 a.kind ++ beBytes 4 a.pair ++ beBytes 4 a.row ++ beBytes 4 a.place

/-- The tweakable hash of every node, and of every secret value: 16 bytes. -/
def slhNode (pkSeed : List Byte) (a : SlhAdr) (m : List Byte) : List Byte :=
  (sha256 (pkSeed ++ List.replicate 48 0 ++ a.bytes ++ m)).take 16

/-- The `k` numbers of `b` bits that a byte string begins with, most significant bit first. -/
def bitGroups (b k : Nat) (bs : List Byte) : List Nat :=
  (List.range k).map (fun i => beNat bs / 2 ^ (8 * bs.length - b * (i + 1)) % 2 ^ b)

/-- Value `i` of 16 bytes in a byte string. -/
def chunk16 (bs : List Byte) (i : Nat) : List Byte := (bs.drop (16 * i)).take 16

/-! ### One-time signatures -/

/-- `n` steps of a chain from step `j` on. -/
def slhChain (pkSeed : List Byte) (a : SlhAdr) : Nat → Nat → List Byte → List Byte
  | 0, _, x => x
  | n + 1, j, x => slhChain pkSeed a n (j + 1) (slhNode pkSeed { a with place := j } x)

/-- The 32 digits of 4 bits of a node and the 3 of their check sum. -/
def slhDigits (m : List Byte) : List Nat :=
  let l := bitGroups 4 32 m
  l ++ bitGroups 4 3 (beBytes 2 (16 * (l.foldl (fun n x => n + (15 - x)) 0)))

/-- The secret start of chain `c` of key pair `i`. -/
def slhSecret (skSeed pkSeed : List Byte) (a : SlhAdr) (i c : Nat) : List Byte :=
  slhNode pkSeed { a with kind := 5, pair := i, row := c, place := 0 } skSeed

/-- The public value of key pair `i` from the ends of its chains. -/
def slhPack (pkSeed : List Byte) (a : SlhAdr) (i : Nat) (ends : List Byte) : List Byte :=
  slhNode pkSeed { a with kind := 1, pair := i, row := 0, place := 0 } ends

/-- Leaf `i` of a tree. -/
def slhLeaf (skSeed pkSeed : List Byte) (a : SlhAdr) (i : Nat) : List Byte :=
  slhPack pkSeed a i ((List.range 35).flatMap (fun c =>
    slhChain pkSeed { a with kind := 0, pair := i, row := c } 15 0 (slhSecret skSeed pkSeed a i c)))

/-- The one-time signature of a node under key pair `i`. -/
def slhOnce (skSeed pkSeed : List Byte) (a : SlhAdr) (i : Nat) (m : List Byte) : List Byte :=
  (slhDigits m).zipIdx.flatMap (fun x =>
    slhChain pkSeed { a with kind := 0, pair := i, row := x.2 } x.1 0 (slhSecret skSeed pkSeed a i x.2))

/-- The leaf that a one-time signature of a node stands for. -/
def slhOnceLeaf (pkSeed : List Byte) (a : SlhAdr) (i : Nat) (m sig : List Byte) : List Byte :=
  slhPack pkSeed a i ((slhDigits m).zipIdx.flatMap (fun x =>
    slhChain pkSeed { a with kind := 0, pair := i, row := x.2 } (15 - x.1) x.1 (chunk16 sig x.2)))

/-! ### Hash trees -/

/-- Node `i` at a height of a tree with these leaves; `adr` addresses a node by height and index. -/
def slhTree (pkSeed : List Byte) (adr : Nat → Nat → SlhAdr) (leaf : Nat → List Byte) : Nat → Nat → List Byte
  | 0, i => leaf i
  | z + 1, i => slhNode pkSeed (adr (z + 1) i) (slhTree pkSeed adr leaf z (2 * i) ++ slhTree pkSeed adr leaf z (2 * i + 1))

/-- The siblings on the way up from leaf `i`: the path to a height. -/
def slhPath (pkSeed : List Byte) (adr : Nat → Nat → SlhAdr) (leaf : Nat → List Byte) (height i : Nat) : List Byte :=
  (List.range height).flatMap (fun j => slhTree pkSeed adr leaf j (Nat.xor (i / 2 ^ j) 1))

/-- The node above a path from node `i` of height `z`. -/
def slhClimb (pkSeed : List Byte) (adr : Nat → Nat → SlhAdr) : List (List Byte) → Nat → Nat → List Byte → List Byte
  | [], _, _, x => x
  | s :: l, z, i, x =>
    slhClimb pkSeed adr l (z + 1) (i / 2) (slhNode pkSeed (adr (z + 1) (i / 2)) (if i % 2 = 0 then x ++ s else s ++ x))

/-- The nodes of a tree of one-time keys. -/
def SlhAdr.inTree (a : SlhAdr) (z i : Nat) : SlhAdr := { a with kind := 2, pair := 0, row := z, place := i }

/-- The root of the tree at an address. -/
def slhRoot (S : SlhSet) (skSeed pkSeed : List Byte) (a : SlhAdr) : List Byte :=
  slhTree pkSeed a.inTree (slhLeaf skSeed pkSeed a) S.height 0

/-- Signatures of a node by the `n` layers from `a.layer` up, key pair `i` first. -/
def slhLayers (S : SlhSet) (skSeed pkSeed : List Byte) : Nat → SlhAdr → Nat → List Byte → List Byte
  | 0, _, _, _ => []
  | n + 1, a, i, m =>
    slhOnce skSeed pkSeed a i m ++ slhPath pkSeed a.inTree (slhLeaf skSeed pkSeed a) S.height i ++
    slhLayers S skSeed pkSeed n { a with layer := a.layer + 1, tree := a.tree / 2 ^ S.height } (a.tree % 2 ^ S.height)
      (slhRoot S skSeed pkSeed a)

/-- The root that such signatures of a node stand for. -/
def slhLayersRoot (S : SlhSet) (pkSeed : List Byte) : Nat → SlhAdr → Nat → List Byte → List Byte → List Byte
  | 0, _, _, m, _ => m
  | n + 1, a, i, m, sig =>
    let path := (List.range S.height).map (fun j => chunk16 sig (35 + j))
    slhLayersRoot S pkSeed n { a with layer := a.layer + 1, tree := a.tree / 2 ^ S.height } (a.tree % 2 ^ S.height)
      (slhClimb pkSeed a.inTree path 0 i (slhOnceLeaf pkSeed a i m sig)) (sig.drop S.layerLen)

/-! ### Few-time signatures -/

/-- The nodes of the few-time trees of a key pair. -/
def SlhAdr.inFew (a : SlhAdr) (z i : Nat) : SlhAdr := { a with kind := 3, row := z, place := i }

/-- The secret of leaf `i` of the few-time trees, and the leaf. -/
def slhFewSecret (skSeed pkSeed : List Byte) (a : SlhAdr) (i : Nat) : List Byte :=
  slhNode pkSeed { a with kind := 6, row := 0, place := i } skSeed
def slhFewLeaf (skSeed pkSeed : List Byte) (a : SlhAdr) (i : Nat) : List Byte :=
  slhNode pkSeed (a.inFew 0 i) (slhFewSecret skSeed pkSeed a i)

/-- The public value of the few-time trees from their roots. -/
def slhFewPack (pkSeed : List Byte) (a : SlhAdr) (roots : List Byte) : List Byte :=
  slhNode pkSeed { a with kind := 4, row := 0, place := 0 } roots

/-- The few-time signature of a digest, and the public value it belongs to. -/
def slhFew (S : SlhSet) (skSeed pkSeed : List Byte) (a : SlhAdr) (md : List Byte) : List Byte :=
  (bitGroups S.fewHeight S.fewTrees md).zipIdx.flatMap (fun x =>
    let i := x.2 * 2 ^ S.fewHeight + x.1
    slhFewSecret skSeed pkSeed a i ++ slhPath pkSeed a.inFew (slhFewLeaf skSeed pkSeed a) S.fewHeight i)
def slhFewKey (S : SlhSet) (skSeed pkSeed : List Byte) (a : SlhAdr) : List Byte :=
  slhFewPack pkSeed a ((List.range S.fewTrees).flatMap (slhTree pkSeed a.inFew (slhFewLeaf skSeed pkSeed a) S.fewHeight))

/-- The public value that a few-time signature of a digest stands for. -/
def slhFewRoot (S : SlhSet) (pkSeed : List Byte) (a : SlhAdr) (md sig : List Byte) : List Byte :=
  slhFewPack pkSeed a ((bitGroups S.fewHeight S.fewTrees md).zipIdx.flatMap (fun x =>
    let part := sig.drop (16 * (1 + S.fewHeight) * x.2)
    let i := x.2 * 2 ^ S.fewHeight + x.1
    slhClimb pkSeed a.inFew ((List.range S.fewHeight).map (fun j => chunk16 part (1 + j))) 0 i
      (slhNode pkSeed (a.inFew 0 i) (chunk16 part 0))))

/-! ### Signatures -/

/-- HMAC with SHA-256 under a key of at most 64 bytes. -/
def hmac256 (key m : List Byte) : List Byte :=
  let pad (x : Byte) : List Byte := (key ++ List.replicate (64 - key.length) 0).map (· ^^^ x)
  sha256 (pad 0x5C ++ sha256 (pad 0x36 ++ m))

/-- The digest of a message under a randomizer: SHA-256 stretched to its length. -/
def slhDigest (S : SlhSet) (r pkSeed root m : List Byte) : List Byte :=
  let x := r ++ pkSeed ++ sha256 (r ++ pkSeed ++ root ++ m)
  (sha256 (x ++ beBytes 4 0) ++ sha256 (x ++ beBytes 4 1)).take S.digest

/-- The parts of a digest: what the few-time trees sign, and the address of their key pair in the lowest layer. -/
def SlhSet.split (S : SlhSet) (dg : List Byte) : List Byte × SlhAdr :=
  let a := (S.fewTrees * S.fewHeight + 7) / 8
  let bits := (S.layers - 1) * S.height
  let t := (bits + 7) / 8
  (dg.take a, { layer := 0, tree := beAt dg a t % 2 ^ bits, kind := 0,
                pair := beAt dg (a + t) ((S.height + 7) / 8) % 2 ^ S.height, row := 0, place := 0 })

/-- `PK.root` of the seeds SK.seed and PK.seed. -/
def slhKeyRoot (S : SlhSet) (skSeed pkSeed : List Byte) : List Byte :=
  slhRoot S skSeed pkSeed { layer := S.layers - 1, tree := 0, kind := 0, pair := 0, row := 0, place := 0 }

/-- The deterministic signature of a message, which carries its prefix already, under a key of SK.seed, SK.prf, PK.seed and PK.root. -/
def slhSign (S : SlhSet) (key m : List Byte) : List Byte :=
  let skSeed := chunk16 key 0
  let pkSeed := chunk16 key 2
  let r := (hmac256 (chunk16 key 1) (pkSeed ++ m)).take 16
  let (md, a) := S.split (slhDigest S r pkSeed (chunk16 key 3) m)
  r ++ slhFew S skSeed pkSeed a md ++
    slhLayers S skSeed pkSeed S.layers { a with pair := 0 } a.pair (slhFewKey S skSeed pkSeed a)

/-- The verdict on a signature of a message, which carries its prefix already, under a public key of PK.seed and PK.root. -/
def slhVerify (S : SlhSet) (key m sig : List Byte) : Bool :=
  let pkSeed := chunk16 key 0
  let r := chunk16 sig 0
  let (md, a) := S.split (slhDigest S r pkSeed (chunk16 key 1) m)
  let few := slhFewRoot S pkSeed a md (sig.drop 16)
  sig.length == S.sigLen && key.length == 32 &&
    slhLayersRoot S pkSeed S.layers { a with pair := 0 } a.pair few (sig.drop (16 * (1 + S.fewTrees * (1 + S.fewHeight)))) ==
      chunk16 key 1

end Sys2Proof.Machine
end

