-- ==== Sys2Proof/Machine/Security.lean ====
section
/-! DEFINITION. Security: identity, tamper detection, provisioning, the test port and attestation (chapter 16,
R401–R416). -/

namespace Sys2Proof.Machine

def Dev.secMod (d : Dev) (f : Sec → Sec) : Dev := { d with sec := f d.sec }
def Dev.tapMod (d : Dev) (f : Tap → Tap) : Dev := { d with tap := f d.tap }

/-! ### The working identity key (R401–R403) -/

/-- The working key of a seed: SK.seed, SK.prf and PK.seed with the PK.root that SLH-DSA-SHA2-128f derives from them (R401, R402). -/
def keyOf (seed : List Byte) : List Byte := seed ++ slhKeyRoot slh128f (chunk16 seed 0) (chunk16 seed 2)

/-- The stored seed agrees with its CRC-32C (R402). -/
def seedSound (x : List Byte × Word) : Bool := crc32c x.1 == x.2

/-- The identity public key: PK.seed and PK.root. -/
def publicKey (key : List Byte) : List Byte := (key.drop 32).take 32

/-- `SEC_IDPKw` hold a public key. -/
def Dev.showKey (d : Dev) (key : List Byte) : Dev :=
  (List.range 8).foldl (fun d w => d.rset (Reg.SEC_IDPK w) (BitVec.ofNat 32 (beAt (publicKey key) (4 * w) 4))) d

/-- The key store is cleared (R403). -/
def Dev.keyClear (d : Dev) : Dev := d.secMod (fun s => { s with key := none })

/-- A derivation starts, unless an alarm or an unlock bars it; an unsound seed store leaves the key store empty with fault
0x0212, an empty one with 0x0211 (R402). -/
def Dev.deriveStart (d : Dev) : Dev :=
  if d.sec.barred then d
  else match d.sec.seed with
    | none => d.occ 0x0211 0
    | some x => if seedSound x then d.secMod (fun s => { s with deriv := true }) else d.occ 0x0212 0

/-- KEY_DERIVED: the derivation under way ends. -/
def Dev.keyDerived (d : Dev) : Dev :=
  match d.sec.deriv, d.sec.seed with
  | true, some (seed, _) =>
    (d.secMod (fun s => { s with deriv := false, key := some (keyOf seed) })).showKey (keyOf seed)
  | _, _ => d

/-- KEY_DERIVED. -/
def execKeyDerived (s : State) : Host.Outcome State Fault Refusal := s.run Dev.keyDerived

/-! ### Attestation (R405–R407) -/

/-- First byte of the report, of the signature, and the length of both. -/
def attBase : Nat := 0x25B000
def attSig : Nat := 0x25B0B0
def attLen : Nat := 17264

/-- An access to the SRAM overlaps the report and signature of the attestation that runs (R407). -/
def Dev.attOverlap (d : Dev) (a n : Nat) : Bool :=
  d.sec.att.isSome && decide (a < attBase + attLen) && decide (attBase < a + n)

/-- The attestation count since BOOT entry. -/
def Dev.attCount (d : Dev) : Nat := d.rf Reg.SEC_ATT 0 24

/-- Result bytes of an `ATTEST`. -/
def Dev.attBytes (d : Dev) (code : Nat) : List Byte :=
  [0xB0, 0x00, 0x43, 0x70, BitVec.ofNat 8 code, 0, 0, 0] ++ beBytes 4 d.attCount

/-- The area of report and signature is zeroed. -/
def Dev.attZero (d : Dev) : Dev := (d.mwrite attBase (List.replicate attLen 0)).unpoison attBase attLen

/-- The report of R405 for the requester with host id `host`. -/
def Dev.attReport (d : Dev) (host : Nat) (nonce : List Byte) : List Byte :=
  beBytes 4 0x594C4154 ++ beBytes 4 (d.rget Reg.SYS_ID).toNat ++ beBytes 4 (tget d.sec.uid 0).toNat ++
  beBytes 4 (tget d.sec.uid 1).toNat ++ padTo 32 (d.sec.keyHash.getD []) ++ padTo 32 d.boot.hash ++
  beBytes 4 (d.rget Reg.IMG_VERSION).toNat ++ beBytes 4 (d.rget Reg.IMG_ARB).toNat ++
  beBytes 1 (d.rf Reg.IMG_ACTIVE 0 8) ++ beBytes 1 d.dstate.code ++ beBytes 2 (d.rf Reg.SEC_TAMPER 0 16) ++
  beBytes 4 (fget (d.pword 0x3F0) 16 16) ++ beBytes 4 d.ms ++ beBytes 1 nonce.length ++ [0, 0, 0] ++ padTo 64 nonce ++
  beBytes 1 host ++ [0, 0, 0] ++ beBytes 4 d.attCount

/-- An `ATTEST` takes effect (R407): the report is written and the signature starts; without a key, or while another
attestation or a BIST run is in progress, the command completes with STATE. -/
def Dev.attest (d : Dev) (c : Cmd) : Dev :=
  if d.sec.att.isSome || d.rb Reg.BIST_STAT 31 then d.lapse c stState []
  else match d.sec.key with
    | none => ((d.attZero).wf Reg.SEC_ATT 24 2 1).finish c stState (d.attBytes 1)
    | some key =>
      let d := (d.wmod Reg.SEC_ATT 0 24).wb Reg.SEC_ATT 31 true
      let r := d.attReport (c.id.host + 1) c.payload
      let d := ((d.mwrite attBase r).unpoison attBase 176).secMod (fun s => { s with att := some (key, r) })
      d.startCmd c

/-- The signature of a report (R406): SLH-DSA-SHA2-128f, pure and deterministic, context string "YLATTEST". -/
def attSignature (key report : List Byte) : List Byte :=
  slhSign slh128f key ([0, 8, 0x59, 0x4C, 0x41, 0x54, 0x54, 0x45, 0x53, 0x54] ++ report)

/-- The attestation that runs ends with a result code. -/
def Dev.attEnd (d : Dev) (code status : Nat) : Dev :=
  let d := ((d.wb Reg.SEC_ATT 31 false).wf Reg.SEC_ATT 24 2 code).secMod (fun s => { s with att := none })
  d.completeRun (fun c => c.op == 0x49) status (d.attBytes code)

/-- ATTEST_SIGNATURE_COMPLETE: event 0x06. -/
def Dev.attSigned (d : Dev) : Dev :=
  match d.sec.att with
  | none => d
  | some (key, r) =>
    let d := (d.mwrite attSig (attSignature key r)).unpoison attSig 17088
    (d.attEnd 0 stOk).ev 0x06

/-- ATTEST_SIGNATURE_COMPLETE. -/
def execAttestSignatureComplete (s : State) : Host.Outcome State Fault Refusal := s.run Dev.attSigned

/-! ### Tamper (R408–R411) -/

/-- One alarm of source `k` (R409, R410). The condition of source 5, DEBUG, lasts 1 µs; the other causes are levels. -/
def Dev.tamperOne (d : Dev) (k : Nat) : Dev :=
  let erase := bget (BitVec.ofNat 32 (d.sec.policy.getD 0)) k
  let d := d.secMod (fun s => { s with key := none, deriv := false, barred := true, seed := if erase then none else s.seed })
  let d := if d.sec.att.isSome then d.attZero.attEnd 2 stState else d
  let d := ((d.wb Reg.SEC_TAMPER k true).wsat Reg.SEC_TCNT 0 16).ev 0x04
  if k = 5 then d.occ 0x0210 k else d.lvlAgain 0x0210 k

/-- The challenge of a failed entropy source (R414). -/
def allZero (c : List Byte) : Bool := c.all (· == 0)

/-- The entropy source has failed its health test: every response is refused without an alarm (R414). -/
def Dev.noEntropy (d : Dev) : Bool := !d.rb Reg.SEC_STAT 26 || d.sec.chal.elim false allZero

/-- An alarm, with the refusal of an unlock in progress that it causes, itself tamper source DEBUG (R410, R414). -/
def Dev.tamper (d : Dev) (k : Nat) : Dev :=
  let d := d.tamperOne k
  if d.sec.resp.isSome then
    let d := d.secMod (fun s => { s with resp := none })
    if d.noEntropy then d else d.tamperOne 5
  else d

/-- TAMPER_ALARM of source `k`. -/
def execTamperAlarm (k : Nat) (s : State) : Host.Outcome State Fault Refusal := s.run (·.tamper k)

/-- The failed-verification count of R84 changes: at 3 or more the alarm SIGFAIL; below, its cause has gone. -/
def Dev.setSigfail (d : Dev) (n : Nat) : Dev :=
  let n := min n 255
  let old := fget (d.pword 0) 8 8
  let d := d.ownWord 0 (fset (d.pword 0) 8 8 n)
  if 3 ≤ n ∧ old < n then d.tamper 4 else if n < 3 then d.lvlOff 0x0210 4 else d

/-- A write to `SEC_TAMPER` (R411): bits clear in SERVICE only. -/
def Dev.tamperClear (d : Dev) (v : Word) : Dev × Nat :=
  if d.dstate = .service then (d.rmod Reg.SEC_TAMPER (fun t => t &&& ~~~(v &&& d.clearable Reg.SEC_TAMPER)), stOk)
  else if fget v 0 6 = 0 then (d, stOk) else (d, stState)

/-! ### The test port (R412–R414) -/

/-- An instruction takes effect, with the data it shifts out. -/
def Dev.tapGo (d : Dev) (code : Nat) (out : List Byte) : Dev := d.tapMod (fun t => { t with ir := code, out := out })

/-- The instruction acts as `BYPASS`. -/
def Dev.tapBypass (d : Dev) : Dev := d.tapGo 0xFF []

/-- BYPASS, and every code that R413 does not list. -/
def execBypass (s : State) : Host.Outcome State Fault Refusal := s.runTap Dev.tapBypass

/-- The test instructions that drive pins are accepted (R413): LOCKOUT, or `TEST_MODE` high as sampled at reset release (R48). -/
def Dev.scanOk (d : Dev) : Bool := d.dstate == .lockout || d.power.testMode

/-- IDCODE reads 0x1941_2A5B (R412); with `trst` a low pulse on `nTRST` selects it: the test-logic reset (R48, R413). -/
def Dev.idcode (d : Dev) (trst : Bool) : Dev :=
  if trst then d.tapMod (fun _ => Tap.start) else d.tapGo 0x02 (beBytes 4 0x19412A5B)

/-- IDCODE. -/
def execIdcode (trst : Bool) (s : State) : Host.Outcome State Fault Refusal := s.runTap (·.idcode trst)

/-- CLAMP and HIGHZ select their instruction as EXTEST does. -/
def Dev.pinHold (d : Dev) (code : Nat) : Dev :=
  if d.scanOk then d.tapGo code [] else d.tapBypass

/-- CLAMP. -/
def execClamp (s : State) : Host.Outcome State Fault Refusal := s.runTap (·.pinHold 0x03)

/-- HIGHZ. -/
def execHighz (s : State) : Host.Outcome State Fault Refusal := s.runTap (·.pinHold 0x04)

/-- SCAN: with `TEST_MODE` low it acts as `BYPASS` and is tamper source DEBUG. -/
def Dev.scan (d : Dev) : Dev := if d.power.testMode then d.tapGo 0x40 [] else d.tapBypass.tamper 5

/-- SCAN. -/
def execScan (s : State) : Host.Outcome State Fault Refusal := s.runTap Dev.scan

/-- `SEC_STAT.ENT_OK`: the result of the latest health test of the entropy source; a failure raises fault 0x0214. -/
def Dev.entropy (d : Dev) (ok : Bool) : Dev := (d.wb Reg.SEC_STAT 26 ok).occIf (!ok) 0x0214 0

/-- `SEC_STAT` as a host reads it. -/
def Dev.secStat (d : Dev) : Word :=
  BitVec.ofNat 32 (d.sec.lock.toNat * 0x80000000 + d.sec.keyHash.isSome.toNat * 0x40000000 +
    (if (d.sec.seed.map seedSound).getD false then 0x20000000 else 0) + d.sec.key.isSome.toNat * 0x10000000 +
    d.rf Reg.SEC_STAT 26 2 * 0x04000000)

/-- DBG_CHAL: a new challenge of unique id, boot count, 4 zero bytes and 16 bytes of entropy; all zero when the source has
failed its health test (R414). -/
def Dev.dbgChal (d : Dev) (entropyOk : Bool) (rnd : List Byte) : Dev :=
  let d := d.entropy entropyOk
  let c := if entropyOk then
      beBytes 4 (tget d.sec.uid 0).toNat ++ beBytes 4 (tget d.sec.uid 1).toNat ++
      beBytes 4 (fget (d.pword 0x3F0) 16 16) ++ [0, 0, 0, 0] ++ padTo 16 rnd
    else List.replicate 32 0
  (d.tapGo 0x20 c).secMod (fun s => { s with chal := some c })

/-- DBG_CHAL. -/
def execDbgChal (entropyOk : Bool) (rnd : List Byte) (s : State) : Host.Outcome State Fault Refusal :=
  s.runTap (·.dbgChal entropyOk rnd)

/-- DBG_RESP: a response of public key and signature is shifted in and its verification starts (R413, R414). -/
def Dev.dbgResp (d : Dev) (key sig : List Byte) : Dev :=
  if (d.dstate = .service ∧ d.allIdle) ∨ d.dstate = .lockout then
    (d.tapGo 0x21 []).secMod (fun s => { s with resp := some (key, sig) })
  else d.tapBypass

/-- DBG_RESP. -/
def execDbgResp (key sig : List Byte) (s : State) : Host.Outcome State Fault Refusal := s.runTap (·.dbgResp key sig)

/-- The message of R414 for a challenge: pure form (0), an 8-byte context string "YLDEBUG1". -/
def unlockMessage (chal : List Byte) : List Byte := [0, 8, 0x59, 0x4C, 0x44, 0x45, 0x42, 0x55, 0x47, 0x31] ++ chal

/-- The response satisfies R414: its key is the fused one and its signature covers the present challenge. -/
def Dev.unlockOk (d : Dev) (key sig : List Byte) : Bool :=
  match d.sec.chal with
  | some c => !allZero c && d.sec.keyHash == some (sha256 key) && slhVerify slh128s key (unlockMessage c) sig
  | none => false

/-- DBG_RESP_VERIFIED: the response is accepted when its key hash matches and its signature covers the challenge; a
refused one is tamper source DEBUG, unless the entropy source had failed (R414). -/
def Dev.dbgVerified (d : Dev) : Dev :=
  match d.sec.resp with
  | none => d
  | some (key, sig) =>
    let d := d.secMod (fun s => { s with resp := none })
    if d.noEntropy then d
    else if d.unlockOk key sig then
      (d.secMod (fun s => { s with key := none, deriv := false, barred := true })).wb Reg.SEC_STAT 27 true
    else d.tamper 5

/-- DBG_RESP_VERIFIED. -/
def execDbgRespVerified (s : State) : Host.Outcome State Fault Refusal := s.run Dev.dbgVerified

/-! ### Provisioning (R404) -/

/-- The provisioning instructions are accepted: LOCKOUT, not locked. -/
def Dev.provOk (d : Dev) : Bool := d.dstate == .lockout && !d.sec.lock

/-- PROV_KEYHASH programs the image-key hash once. -/
def Dev.provHash (d : Dev) (hash : List Byte) : Dev :=
  if d.provOk then
    let d := d.secMod (fun s => { s with keyHash := some (s.keyHash.getD (padTo 32 hash)) })
    d.tapGo 0x30 (d.sec.keyHash.getD [])
  else d.tapBypass

/-- PROV_KEYHASH. -/
def execProvKeyhash (hash : List Byte) (s : State) : Host.Outcome State Fault Refusal := s.runTap (·.provHash hash)

/-- PROV_POLICY programs the tamper policy once. -/
def Dev.provPolicy (d : Dev) (policy : Byte) : Dev :=
  if d.provOk then
    let d := d.secMod (fun s => { s with policy := some (s.policy.getD policy.toNat) })
    d.tapGo 0x31 (beBytes 1 (d.sec.policy.getD 0))
  else d.tapBypass

/-- PROV_POLICY. -/
def execProvPolicy (policy : Byte) (s : State) : Host.Outcome State Fault Refusal := s.runTap (·.provPolicy policy)

/-- PROV_IDENT stores a new seed and derives the key pair; with a failed entropy source it stores nothing and raises fault
0x0214; what it then shifts out the spec leaves open (log entry 49). -/
def Dev.provIdent (d : Dev) (entropyOk : Bool) (seed : List Byte) : Dev :=
  if d.provOk then
    let d := d.entropy entropyOk
    if entropyOk then
      let seed := padTo 48 seed
      let d := d.secMod (fun s => { s with seed := some (seed, crc32c seed), key := if s.barred then none else some (keyOf seed) })
      (d.showKey (keyOf seed)).tapGo 0x32 (publicKey (keyOf seed))
    else (d.tick1).tapGo 0x32 ((List.range 32).map (fun i => BitVec.ofNat 8 (Config.freeNat (0x40400 + i) d.freeCtr)))
  else d.tapBypass

/-- PROV_IDENT. -/
def execProvIdent (entropyOk : Bool) (seed : List Byte) (s : State) : Host.Outcome State Fault Refusal :=
  s.runTap (·.provIdent entropyOk seed)

/-- PROV_LOCK blows the provisioning lock. -/
def Dev.provLock (d : Dev) : Dev :=
  if d.provOk then
    let d := d.secMod (fun s => { s with lock := true })
    d.tapGo 0x33 (beBytes 4 d.secStat.toNat)
  else d.tapBypass

/-- PROV_LOCK. -/
def execProvLock (s : State) : Host.Outcome State Fault Refusal := s.runTap Dev.provLock

end Sys2Proof.Machine
end

