-- ==== Sys2Proof/Machine/Thermal.lean ====
section
/-! DEFINITION. Demands on the temperature sensors and the end of their conversions (chapter 17, R427), and the preserve lane
(R434–R436). -/

namespace Sys2Proof.Machine

/-- A conversion of 20 µs of sensor `s` has ended (R427). -/
def Dev.convOver (d : Dev) (s : Nat) : Bool :=
  match aget d.therm.busy s with | some t => decide (t + 20 * usTicks ≤ d.now) | none => false

/-- SENSOR_CONVERSION_END of sensor `s`, with its temperature; none when the oscillator count lay outside the trimmed
range. The result of an island's sensor goes on in the next frame body of its lane (R175, R426). -/
def Dev.sensorEnd (d : Dev) (s : Nat) (t : Option Int) : Dev :=
  if !d.convOver s then d
  else
    let d := d.thermMod (fun x => { x with busy := adel x.busy s })
    if !d.sensorLink s then d.tempHere s none
    else if (sensorLanes s).isEmpty then d.tempHere s t
    else d.tempSet s (some t)

/-- SENSOR_CONVERSION_END. -/
def execSensorConversionEnd (sensor : Nat) (temp : Option Int) (s : State) : Host.Outcome State Fault Refusal :=
  s.run (·.sensorEnd sensor temp)

/-- A demand: a sensor that converts already, or whose result is on its way to the CD, serves it with that conversion. -/
def Dev.sensorStart (d : Dev) (s : Nat) : Dev :=
  if (aget d.therm.busy s).isSome || (d.tempOnWay s).isSome then d else d.thermMod (fun x => { x with busy := aput x.busy s d.now })

/-- The periodic demand of an enabled sensor falls due: from commit on, every `INT` ms (R427). -/
def Dev.demandDue (d : Dev) (s : Nat) : Bool :=
  let t := d.rf (Reg.THERM_S_CFG s) 0 10
  decide (s < 30) && d.rb (Reg.THERM_S_CFG s) 31 && t != 0 && d.committed &&
    decide (tget d.therm.demAt s + t * msTicks ≤ d.now)

/-- SENSOR_DEMAND: the Docent demands an enabled sensor. -/
def Dev.sensorDemand (d : Dev) (s : Nat) : Dev :=
  if d.demandDue s then (d.thermMod (fun x => { x with demAt := tset x.demAt s d.now })).sensorStart s else d

/-- SENSOR_DEMAND. -/
def execSensorDemand (sensor : Nat) (s : State) : Host.Outcome State Fault Refusal := s.run (·.sensorDemand sensor)

/-- LATEST_VALUE_UPDATE of channel `c` of converter `k` (R212). -/
def Dev.latUpdate (d : Dev) (k c : Nat) : Dev :=
  match d.latDue k c with
  | none => d
  | some w => (d.latArrive k c w).ntcEval k c

/-- LATEST_VALUE_UPDATE. -/
def execLatestValueUpdate (k c : Nat) (s : State) : Host.Outcome State Fault Refusal := s.run (·.latUpdate k c)

/-! ### Pairs of a `REG_WRITE` (R110) -/

/-- The failed pair that comes first in the payload. -/
def firstFail : List (Nat × Nat) → Option (Nat × Nat)
  | [] => none
  | x :: l => match firstFail l with | some y => if y.1 < x.1 then some y else some x | none => some x

/-- A `REG_WRITE` that no part of remains completes: OK, or the status of the first pair that failed, with its index and
the number of failed pairs. -/
def Dev.writeDone (d : Dev) (i : CmdId) : Dev :=
  match d.cmdOf i with
  | none => d
  | some c =>
    if c.groups.isEmpty && c.doc.isEmpty && c.pres.isEmpty then
      match firstFail c.fails with
      | none => (d.effectNow c).complete c stOk (beBytes 2 0xFFFF ++ beBytes 2 0)
      | some (k, st) => (d.effectNow c).complete c st (beBytes 2 k ++ beBytes 2 c.fails.length)
    else d

/-- Pair `k` of a `REG_WRITE` has taken effect, or failed with a status, now. -/
def Dev.pairEnd (d : Dev) (i : CmdId) (k st : Nat) : Dev :=
  d.cmdMod i (fun c => { c with
    pres := c.pres.filter (· != k), doc := c.doc.filter (· != k),
    fails := if st = stOk then c.fails else c.fails ++ [(k, st)], effective := d.now })

/-! ### The preserve lane (R109, R434–R436) -/

/-- A write on the lane completes for every pair, and every register write by a row of its own, that waits for it. -/
def Dev.laneDone (d : Dev) (w : PresWrite) (st : Nat) : Dev :=
  let d := w.from'.foldl (fun d x => d.pairEnd x.1 x.2 st) d
  let d := w.from'.foldl (fun d x => d.writeDone x.1) d
  if w.row then { d with wstat := st } else d

/-- A further write joins the one that is pending for its word. -/
def PresWrite.join (x : PresWrite) (v : Word) (dl : Nat) (src : List (CmdId × Nat)) : PresWrite :=
  { x with val := v, deadline := min x.deadline dl, from' := x.from' ++ src, row := x.row || src.isEmpty }

/-- The pending writes with one more. -/
def joinWrite (v : Word) (dl w : Nat) (src : List (CmdId × Nat)) : List PresWrite → List PresWrite
  | [] => [⟨w, v, dl, src, src.isEmpty⟩]
  | x :: l => if x.word = w then x.join v dl src :: l else x :: joinWrite v dl w src l

/-- A write is admitted to the lane, for the pairs that wait for it (none: a register write by a row of its own): it replaces the
value of a write that is pending for the word. -/
def Dev.laneAdmit (d : Dev) (src : List (CmdId × Nat)) (w : Nat) (v : Word) (dl : Nat) : Dev :=
  d.prsMod (fun p => { p with pend := joinWrite v dl w src p.pend })

/-- The pending write with the earliest deadline. -/
def nextWrite : List PresWrite → Option PresWrite
  | [] => none
  | x :: l => match nextWrite l with | some y => if y.deadline < x.deadline then some y else some x | none => some x

/-- Preserve-lane wait in µs, from the admission of the oldest command to the start of the turn (R375). -/
def Dev.laneWait (d : Dev) (w : PresWrite) : Nat :=
  match w.from'.head?.bind (fun x => d.cmdOf x.1) with | some c => (d.now - c.admitted) / usTicks | none => 0

/-- PRESERVE_TURN_START: the turn of the pending write with the earliest deadline starts and is judged; one that needs a program ends with
STATE while `VDD_IO` is low (R45, R435). In LOCKOUT `REG_WRITE` is no
longer legal, and its pairs end with STATE (R111, R119). -/
def Dev.turnStart (d : Dev) : Dev :=
  if d.prs.cur.isSome then d
  else match nextWrite d.prs.pend with
    | none => d
    | some w =>
      let d := d.prsMod (fun p => { p with pend := p.pend.filter (fun x => x.word != w.word) })
      if d.dstate = .lockout then d.laneDone w stState
      else if d.pword w.word = w.val then d.laneDone w stOk
      else if d.worn w.word then (d.occ 0x1102 0).laneDone w stWorn
      else if d.power.vddIoLow then d.laneDone w stState
      else d.prsMod (fun p => { p with cur := some w, curAt := d.now, again := false, wait := d.laneWait w })

/-- PRESERVE_TURN_START. -/
def execPreserveTurnStart (s : State) : Host.Outcome State Fault Refusal := s.run Dev.turnStart

/-- PRESERVE_PROGRAM_END: the program under way ends; `ok`: its verification passed. A first failure programs once
more; a second one wears the word out, with fault 0x1103. -/
def Dev.programEnd (d : Dev) (ok : Bool) : Dev :=
  match d.prs.cur with
  | none => d
  | some w =>
    let d := d.setWear w.word (d.wear w.word + d.wearUnit)
    let free (d : Dev) : Dev := d.prsMod (fun p => { p with cur := none, again := false })
    if ok then (((free d).setWord w.word w.val).hlt 0x11 0 (d.prs.wait : Nat)).laneDone w stOk
    else if !d.prs.again then d.prsMod (fun p => { p with again := true, curAt := d.now })
    else (((free d).setWear w.word wearLimit).occ 0x1103 0).laneDone w stCrc

end Sys2Proof.Machine
end

