-- ==== Sys2Proof/Machine/Content.lean ====
section
/-! DEFINITION. The hardware limits that the content check of an image (check 15 of R81) and host writes of tuning registers
hold values to: field limits, and the rules between registers that each block's chapter gives. -/

namespace Sys2Proof.Machine

/-- A field lies in its limits. -/
def limOk (v : Word) (l : FieldLim) : Bool := decide (l.min ≤ fget v l.lo l.width) && decide (fget v l.lo l.width ≤ l.max)

/-- A value that an image loads: the register is one that the image loads, and every field lies in its limits. -/
def imageValOk (a : Nat) (v : Word) : Bool :=
  match rowAt a with | some r => r.image && r.lims.all (limOk v) | none => false

/-- A declared bound (R85): not empty, and the value lies inside it. -/
def boundOk (v : Word) (b : FieldBound) : Bool := decide (b.min ≤ b.max) && inBounds v [b]

/-- The bounds of a register name each of its fields once, at its place and with its signedness (R85); the value of a parameter
word is compared as its block means it, so either way. A register of a section that cannot declare bounds has none. -/
def boundsCover (a : Nat) (bs : List FieldBound) : Bool :=
  match fieldsAt a with
  | some fs => bs.map (fun b => (b.lo, b.width)) == fs.map (fun f => (f.1, f.2.1)) &&
      (decide (Reg.CE_PAR 0 ≤ a ∧ a < Reg.CE_SWIN 0) || bs.map (·.signed) == fs.map (·.2.2))
  | none => false

/-! ### Timebases (R141, R145, R264) -/

/-- The period of a traction axis is even; with ALIGN = EPOCH the epoch is a whole multiple of it. -/
def Dev.tbperOk (d : Dev) (a : Nat) : Bool :=
  let per := d.rf (Reg.PWM_PER a) 0 24
  per % 2 == 0 && (!d.rb (Reg.PWM_CFG a) 1 || d.leader a != a || d.rf Reg.CLK_TBPER 0 24 % per == 0)

/-- What check 15 asks of a period: the offset is below it too (R145). -/
def Dev.epochOk (d : Dev) (a : Nat) : Bool :=
  d.tbperOk a && (!d.rb (Reg.PWM_CFG a) 1 || d.leader a != a || decide (d.rf (Reg.PWM_PHS a) 0 24 < d.rf (Reg.PWM_PER a) 0 24))

/-- The period of a step-reference axis is 1–16 steps. -/
def Dev.refOk (d : Dev) (a : Nat) : Bool :=
  let per := d.perOf a
  let step := d.rf Reg.CE_STEP 0 19
  step != 0 && per % step == 0 && decide (1 ≤ per / step) && decide (per / step ≤ 16)

/-- The reference axes (R264). -/
def Dev.refAxes (d : Dev) : List Nat :=
  d.rf Reg.CE_CFG 4 2 :: (if d.rb Reg.CE_CFG 31 then [d.rf Reg.CE_CFG 8 2] else [])

def Dev.ceCfgOk (d : Dev) : Bool :=
  d.refAxes.all d.refOk && (!d.rb Reg.CE_CFG 30 || d.rb Reg.CE_CFG 31) &&
    (!d.rb Reg.CE_CFG 31 || decide (d.rf Reg.CE_CFG 4 2 ≤ 1))

/-- What a period change must keep (R145, R264). -/
def Dev.periodOk (d : Dev) (a : Nat) : Bool :=
  d.tbperOk a && d.refAxes.all (fun r => d.leader r != a || d.refOk r)

/-! ### Gate drive (R185, R186, R188, R191) -/

/-- The segments of a switch: VGS ends have a timeout, BOOST only with `BOOST_EN`, a last segment on every edge. -/
def Dev.segsOk (d : Dev) (sw : Nat) : Bool :=
  let seg (i : Nat) : Word := d.rget (segReg sw i)
  let en := d.rb (drvReg sw) 1
  (List.range 12).all (fun i => decide (fget (seg i) 29 2 ≤ 1) && (fget (seg i) 29 2 != 1 || fget (seg i) 16 8 != 0) &&
    (!bget (seg i) 28 || en)) &&
  [0, 1, 2].all (fun e => [0, 1, 2, 3].any (fun i => bget (seg (4 * e + i)) 31)) && (decide (sw < 24) || !en)

/-- `ISL_*_SC` of a switch; channels 12–15 have no short-circuit detection. -/
def Dev.scOk (d : Dev) (sw : Nat) : Bool :=
  let v := d.rget (scReg sw)
  if 24 ≤ sw then v == 0 else decide (fget v 16 8 ≤ 76) && fget v 12 4 != 0

/-- Supply thresholds: trip below warning; the VB thresholds of a bootstrap island only. -/
def supOk (s1 s2 : Word) (bootstrap : Bool) : Bool :=
  decide (fget s1 8 8 < fget s1 16 8) && decide (-50 ≤ toSigned 8 (fget s2 0 8)) && decide (toSigned 8 (fget s2 0 8) ≤ 5) &&
  (!bootstrap || (decide (fget s2 8 8 < fget s2 16 8) && decide (100 ≤ fget s2 16 8) && decide (fget s2 16 8 ≤ 190) &&
    decide (80 ≤ fget s2 8 8) && decide (fget s2 8 8 ≤ 180)))

/-- The gate islands of the topology and the GI. -/
def Dev.islandsOk (d : Dev) : Bool :=
  let hs := (List.range 12).filter (fun n => d.inTopo (n / 3))
  hs.all (fun n => d.segsOk n && d.scOk n &&
    supOk (d.rget (Reg.ISL_H_SUP n)) (d.rget (Reg.ISL_H_SUP2 n)) (d.rb (Reg.ISL_H_SUP n) 31)) &&
  (List.range 16).all (fun c => d.segsOk (12 + c) && d.scOk (12 + c)) &&
  supOk (d.rget Reg.ISL_GI_SUP) (d.rget Reg.ISL_GI_SUP2) false

/-! ### Sensing (R207, R219, R223, R312) -/

/-- Converter `k` has an entry of channel `ch` with `LATEST` = 1. -/
def Dev.hasLatest (d : Dev) (k ch : Nat) : Bool :=
  (List.range (d.rf (Reg.ADC_SEQLEN k) 0 7)).any (fun i => d.rf (Reg.ADC_SEQ k i) 28 4 == ch && d.rb (Reg.ADC_SEQ k i) 7)

/-- Buffer `i` is enabled with a type. -/
def Dev.bufIs (d : Dev) (i : Nat) (window : Bool) : Bool := d.rb (Reg.ADC_BUF_CFG i) 31 && d.rb (Reg.ADC_BUF_CFG i) 30 == window

/-- First unit and units of a buffer, 256 bytes each. -/
def Dev.bufBase (d : Dev) (i : Nat) : Nat := d.rf (Reg.ADC_BUF_CFG i) 0 12
def Dev.bufUnits (d : Dev) (i : Nat) : Nat := 2 ^ d.rf (Reg.ADC_BUF_CFG i) 16 4

def Dev.buffersOk (d : Dev) : Bool :=
  let l := (List.range 16).filter (fun i => d.rb (Reg.ADC_BUF_CFG i) 31)
  l.all (fun i => d.bufBase i % d.bufUnits i == 0 && decide (d.bufBase i + d.bufUnits i ≤ 2304) &&
    l.all (fun j => i == j || decide (d.bufBase i + d.bufUnits i ≤ d.bufBase j) || decide (d.bufBase j + d.bufUnits j ≤ d.bufBase i)))

def Dev.entryOk (d : Dev) (k i : Nat) : Bool :=
  let c := d.rf (Reg.ADC_SEQ k i) 28 4
  (chanValid k c || c == 15) && (!d.rb (Reg.ADC_SEQ k i) 6 || d.bufIs (d.rf (Reg.ADC_SEQ k i) 0 4) false)

def Dev.scanOk' (d : Dev) (lo : Nat) : Bool :=
  let v := d.rget Reg.ADC_SARSCAN
  bget v (lo + 11) && bget v (lo + 13) && !bget v (lo + 14) && !bget v (lo + 15)

def Dev.sensingOk (d : Dev) : Bool :=
  [0, 1, 2, 3].all (fun k => (List.range 64).all (d.entryOk k) &&
    (!d.rb Reg.ADC_WBUF (8 * k + 7) || d.bufIs (d.rf Reg.ADC_WBUF (8 * k) 4) true)) &&
  d.buffersOk && d.scanOk' 0 && d.scanOk' 16 && d.hasLatest 0 4 && d.hasLatest 1 4

/-! ### Field units (R239–R241, R253) -/

/-- The hall codes of an axis map to distinct sectors 0–5. -/
def Dev.hmapOk (d : Dev) (a : Nat) : Bool :=
  let l := [1, 2, 3, 4, 5, 6].map (d.hallIndex a)
  l.all (fun s => decide (s ≤ 5)) && decide l.Nodup

def Dev.fieldOk (d : Dev) (a : Nat) : Bool :=
  let step := d.rf Reg.CE_STEP 0 19
  d.rf (Reg.FLD_RATED a) 0 18 != 0 &&
  (d.rf (Reg.FLD_ASRC a) 4 2 != 1 || (!d.rb (Reg.PWM_CFG (d.leader a)) 0 && d.perOf a == step)) &&
  decide ((d.rf (Reg.FLD_REACQ a) 0 4 + d.rf (Reg.FLD_REACQ a) 4 6) * step ≤ 2 * msTicks) &&
  decide (d.rf (Reg.FLD_PROBE a) 16 4 * d.perOf a + 8 * step ≤ 2 * msTicks)

/-! ### Command decoders, aux axes, DC link (R271, R299, R307, R312, R315, R320, R324) -/

def Dev.cmdOk (d : Dev) (c : Nat) : Bool :=
  d.rf (Reg.CE_CMD_X c) 16 16 != d.rf (Reg.CE_CMD_X c) 0 16

/-- The top speed covers at most 64 µst in a channel period. -/
def Dev.auxTopOk (d : Dev) (x : Nat) : Bool :=
  let per := match (tget d.chan (4 + x)).perSt with | some w => fget w 0 24 | none => d.auxPer x
  decide (d.rf (Reg.AUX_SPDTOP x) 0 22 * per ≤ 64 * 400000000)

def Dev.auxOk (d : Dev) (x : Nat) : Bool :=
  let knee := d.rf (Reg.AUX_SPDKNEE x) 0 22
  let top := d.rf (Reg.AUX_SPDTOP x) 0 22
  let oc := d.rf (Reg.AUX_CUR x) 16 8
  decide (d.rf (Reg.AUX_SPDENT x) 0 22 ≤ knee) && decide (d.rf (Reg.AUX_SPDEXT x) 0 22 ≤ knee) && decide (knee ≤ top) &&
  decide (d.rf (Reg.AUX_HV1 x) 0 22 ≤ top) && decide (d.rf (Reg.AUX_HV2 x) 0 22 ≤ top) && d.auxTopOk x &&
  decide (d.rf (Reg.AUX_CUR x) 8 8 < oc) && decide (d.rf (Reg.AUX_CUR x) 0 8 < oc) &&
  [1, 2, 3].all (fun k => decide (d.rf (Reg.AUX_GRID x k) 0 22 ≤ d.rf (Reg.AUX_GRID x (k + 1)) 0 22))

def Dev.homeOk (d : Dev) (x : Nat) : Bool :=
  !(d.rf (Reg.AUX_CFG x) 20 2 == 1 && d.rb (Reg.AUX_CFG x) 19) && !(d.rf (Reg.AUX_CFG x) 20 2 == 2 && !d.rb (Reg.AUX_CFG x) 19)

/-- The order of the ladder's thresholds. -/
def Dev.ladderOk (d : Dev) : Bool :=
  decide (d.rf Reg.DCL_VCHOP 0 16 < d.rf Reg.DCL_VCHOP 16 16) && decide (d.rf Reg.DCL_VCHOP 16 16 < d.rf Reg.DCL_VFULL 0 16) &&
  decide (d.rf Reg.DCL_VFULL 0 16 ≤ d.rf Reg.DCL_VOV 0 16) && decide (d.rf Reg.DCL_VOV 0 16 < d.rf Reg.DCL_VOV 16 16) &&
  decide (d.rf Reg.DCL_VOV 16 16 < d.rf Reg.DCL_VOV3 0 16)

/-- 1.05 × V_OV3 lies within code 13,107 of an input. -/
def Dev.ov3Ok (d : Dev) (scale : Nat) : Bool :=
  decide (105 * d.rf Reg.DCL_VOV3 0 16 * 65536 ≤ 13107 * scale * 1000)

def Dev.dclOk (d : Dev) : Bool :=
  let mains := ([0, 1].filter (fun i => d.chopMode i == 1)).length
  d.ladderOk && [Reg.DCL_SCALE_A, Reg.DCL_SCALE_B].all (fun r => d.rf r 0 24 != 0 && d.ov3Ok (d.rf r 0 24)) &&
  d.rf Reg.DCL_VNOM 0 16 != 0 && (mains == 0 || decide (d.chopNeed ≤ mains)) &&
  [0, 1].all (fun i => d.chopMode i == 0 || (d.hasLatest (2 + i) 9 && d.rf (Reg.DCL_CH_CFG i) 0 16 != 0)) &&
  [0, 1, 2, 3].all (fun a => decide (d.rf (Reg.DCL_SEL a) 16 12 ≤ d.rf (Reg.DCL_SEL a) 0 16))

/-! ### Safety, tenancy, CAN, temperature, preserve (R101, R338, R339, R351, R382, R396, R429, R430, R434) -/

def Dev.monitorOk (d : Dev) (a : Nat) : Bool :=
  let l := d.rf (Reg.SAFE_TM_CFG a) 16 5
  !d.rb (Reg.SAFE_TM_CFG a) 31 || (d.rb Reg.ADC_SARCFG a &&
    (d.rb (Reg.SAFE_TM_CFG a) 30 || (d.rb (Reg.CE_LANE_CFG l) 31 && d.laneAxis l == a)))

def Dev.connOk (d : Dev) (c : Nat) : Bool :=
  let v := d.rget (Reg.SAFE_CONN_ID c)
  !d.connEn c || [fget v 0 16, fget v 16 16].all (fun i => i != 0 && i != 0xFFFF)

/-- Port `h` of hosts C and D is named by TENANCY. -/
def Dev.portNamed (d : Dev) (h : Nat) : Bool :=
  d.rb (Reg.CAN_PORT_CFG (h - 2)) 31 &&
    (h == 2 || (List.range 8).any (fun c => d.connEn c && d.rf (Reg.SAFE_CONN_CFG c) 28 2 == 3))

/-- Bit times of a controller: `CK_CAN` is 80 MHz. -/
def Dev.canBitsOk (d : Dev) (c : Nat) : Bool :=
  let n := d.rget (Reg.CAN_NBT c)
  let b := d.rget (Reg.CAN_DBT c)
  let data := (fget b 0 5 + 1) * (3 + fget b 11 5 + fget b 7 4)
  decide (8 ≤ 3 + fget n 17 8 + fget n 10 7) && decide (fget n 25 7 ≤ fget n 10 7) &&
  decide (5 ≤ 3 + fget b 11 5 + fget b 7 4) && decide (fget b 16 4 ≤ fget b 7 4) && decide (10 ≤ data) &&
  (bget b 31 || decide (80 ≤ data)) && (!d.rb (Reg.CAN_CFG c) 31 || decide (d.canOwner c ≤ 3) || d.canOwner c == 7)

/-- The identifiers in use on a controller: bit 30 extended, bits 28:0. -/
def Dev.canIds (d : Dev) (c : Nat) : List Nat :=
  let key (v : Word) : Nat := fget v 30 1 * 2 ^ 29 + fget v 0 29
  let objs := (List.range 64).filter (fun i => d.rb (Reg.CAN_OBJ_ID c i) 31)
  let ports := [0, 1].filter (fun p => d.rb (Reg.CAN_PORT_CFG p) 31 && d.portCtl p == c)
  objs.map (fun i => key (d.rget (Reg.CAN_OBJ_ID c i))) ++
  ports.flatMap (fun p => [key (d.rget (Reg.CAN_PORT_CMDID p)), key (d.rget (Reg.CAN_PORT_RPLID p)),
    d.rf (Reg.CAN_PORT_CFG p) 26 1 * 2 ^ 29 + d.rf (Reg.CAN_PORT_CFG p) 0 26])

/-- Active thresholds of a source rise. -/
def thOk (v : Word) : Bool :=
  let on := ([fget v 8 8, fget v 16 8, fget v 24 8]).filter (fun c => c != 255)
  (on.zip (on.drop 1)).all (fun p => decide (p.1 ≤ p.2))

def Dev.thermOk (d : Dev) : Bool :=
  (List.range 38).all (fun s => thOk (d.rget (Reg.THERM_S_TH s)) &&
    (decide (s < 30) || !d.rb (Reg.THERM_S_CFG s) 31 || d.hasLatest (2 + (s - 30) / 4) (5 + (s - 30) % 4)))

def Dev.regionsOk (d : Dev) : Bool :=
  let l := (List.range 16).filter (fun r => d.rb (Reg.PRES_REG r) 31)
  let first (r : Nat) : Nat := d.rf (Reg.PRES_REG r) 16 10
  let past (r : Nat) : Nat := first r + d.rf (Reg.PRES_REG r) 0 10
  l.all (fun r => decide (0x10 ≤ first r) && decide (first r < past r) && decide (past r ≤ 0x3F0) &&
    l.all (fun q => r == q || decide (past r ≤ first q) || decide (past q ≤ first r)))

/-! ### Fault map and lattice (R361, R377, R443, R444) -/

/-- An entry of the fault class map. -/
def mapOk (slot : Nat) (v : Word) : Bool :=
  match codeOf slot with
  | none => false
  | some (_, c, rule) =>
    let m := fget v 16 3
    (m == 4) == (c == 4) && (match rule with | .free => true | .notBelow => decide (c ≤ m) | .fixed => m == c) &&
      (!bget v 30 || m == 2)

/-- A lattice source that never fires (R444). -/
def eventUnused (n : Nat) : Bool :=
  [0x02, 0x03, 0x07, 0x0D, 0x0E, 0x0F, 0x5E, 0x5F, 0x8D, 0x8E, 0x8F].contains n || (decide (0x27 ≤ n) && decide (n ≤ 0x2F))

/-- A register of the fault map, of a vector's sources or of a sink. -/
def Dev.routeOk (d : Dev) (a : Nat) (v : Word) : Bool :=
  if Reg.FLT_MAP 0 ≤ a ∧ a < Reg.FLT_MAP 512 then mapOk ((a - Reg.FLT_MAP 0) / 4) v
  else if Reg.EVT_VEC_SRC 0 0 ≤ a ∧ a < Reg.EVT_VEC_SRC 64 0 then
    (List.range 32).all (fun b => !bget v b || !eventUnused (a / 4 % 8 * 32 + b))
  else if Reg.EVT_SINK_SRC 0 ≤ a ∧ a < Reg.EVT_SINK_SRC 32 then
    let s := (a - Reg.EVT_SINK_SRC 0) / 8
    let en := d.rf (Reg.EVT_SINK_EN s) 0 4
    (decide (s < 10) || en == 0) &&
      [0, 1, 2, 3].all (fun q => en / 2 ^ q % 2 == 0 || !eventUnused (d.rf (Reg.EVT_SINK_SRC s) (8 * q) 8))
  else true

/-! ### The content check (check 15 of R81) -/

/-- TENANCY: one entry a host in range with a set of the six axes, an owner named in it for every axis in use. -/
def tenancyOk (c : ImageContent) : Bool :=
  c.tenants.all (fun t => decide (t.host < 4) && t.axes.all (fun x => decide (x < 6)) && decide t.axes.Nodup &&
    decide (t.clear ≤ 3) && decide (t.hb ≤ 1000) && decide (t.quota ≤ 192)) &&
  decide (c.tenants.map (·.host)).Nodup && decide (c.owners.map (·.1)).Nodup &&
  c.axes.all (fun x => decide (x < 6) && c.owners.any (fun o => o.1 == x && c.tenants.any (fun t => t.host == o.2)))

/-- The rules between registers, on the device as the image would set it. -/
def Dev.rulesOk (d : Dev) (c : ImageContent) : Bool :=
  [0, 1, 2, 3].all (fun a => d.epochOk a && d.hmapOk a && d.cmdOk a && d.monitorOk a && (!d.inTopo a || d.fieldOk a)) &&
  d.ceCfgOk && d.islandsOk && d.sensingOk && [0, 1].all (fun x => d.auxOk x && d.homeOk x) && d.dclOk &&
  (List.range 8).all d.connOk && [2, 3].all (fun h => !c.tenants.any (fun t => t.host == h) || d.portNamed h) &&
  [0, 1, 2].all (fun k => d.canBitsOk k && decide (d.canIds k).Nodup) && d.thermOk && d.regionsOk &&
  c.regs.all (fun r => d.routeOk r.1 r.2)

/-- The topology of an image. -/
def topoOf (c : ImageContent) (split : Bool) : Topo :=
  let has (l : List Nat) (i : Nat) : Bool := l.contains i
  { axes := #v[has c.axes 0, has c.axes 1, has c.axes 2, has c.axes 3, has c.axes 4, has c.axes 5]
    pair := #v[has c.pairs 0, has c.pairs 1], off30 := #v[has c.off30 0, has c.off30 1], split := split }

/-- The registers as the image loads them; reserved bits stay 0 (R6). -/
def Dev.loadRegs (d : Dev) (l : List (Nat × Word)) : Dev :=
  l.foldl (fun d r => match rowAt r.1 with
    | some row => d.rset r.1 (r.2 &&& BitVec.ofNat 32 row.wmask)
    | none => d) d

/-- The device with the image's topology and register values. -/
def Dev.withImage (d : Dev) (c : ImageContent) : Dev :=
  let d := d.loadRegs c.regs
  { d with topo := topoOf c (d.rb Reg.CE_CFG 30) }

/-- Check 15: every value within its limits, every bound and every rule kept. -/
def Dev.contentOk (d : Dev) (c : ImageContent) : Bool :=
  let e := d.withImage c
  c.regs.all (fun r => imageValOk r.1 r.2) && tenancyOk c &&
  decide (c.bounds.map (·.1)).Nodup &&
  c.bounds.all (fun b => (aget c.regs b.1).isSome && boundsCover b.1 b.2 && b.2.all (boundOk (e.rget b.1))) && e.rulesOk c

end Sys2Proof.Machine
end

