-- ==== Sys2Proof/Machine/Commit.lean ====
section
/-! DEFINITION. What the end of commit starts (R68, R83, R145, R264, R270, R332, R385) and what brings the blocks of a BIST unit
back to their state at commit (R420). -/

namespace Sys2Proof.Machine

/-! ### Block groups -/

/-- The registers that `p` picks return to their values at commit: Reset values, then the image's (R83, R420). -/
def Dev.reload (d : Dev) (p : Nat → Bool) : Dev :=
  ({ d with regs := d.regs.filter (fun r => !p r.1) } : Dev).loadRegs (d.img.regs.filter (fun r => p r.1))

/-- The block number of an address (R438). -/
def blockOf (a : Nat) : Nat := a / 0x10000

/-- `PWMa_STAT` at the start: a follower shows its leader, and with a mask source entry 0 is in use until the first event
(R146, R162). -/
def Dev.pwmStat (d : Dev) (a : Nat) : Dev :=
  (d.wb (Reg.PWM_STAT a) 24 (d.leader a != a)).wf (Reg.PWM_STAT a) 28 4 (if d.maskSrc a = 0 then 0xF else 0)

/-- The timebases start (R17, R145): the epoch at 0 (DEDUCED, log entry 118), a boundary of every channel and of every traction axis with ALIGN = FREE; an
EPOCH axis counts from the epoch plus `PWMa_PHS`. With compares of 0 every low switch is requested on; no gate follows in IDLE
(R142, R144). -/
def Dev.startPwm (d : Dev) : Dev :=
  let d := { d with
    clk := { d.clk with epochAt := d.now, divAt := d.now }
    pwm := Vector.replicate 4 { (default : Pwm) with running := true, lastB := d.now, on := #v[false, true, false, true, false, true] }
    chan := Vector.replicate 6 { (default : Chan) with lastB := d.now } }
  let d := { d with pwm := Vector.ofFn (fun a : Fin 4 =>
    { d.pwm[a] with
      perNow := d.perOf a, lastB := if d.rb (Reg.PWM_CFG (d.leader a)) 1 then d.epochB a else d.pwm[a].lastB }) }
  [0, 1, 2, 3].foldl Dev.pwmStat d

/-- The engines take their mode, the generators their lanes (R270, R281). -/
def Dev.startCe (d : Dev) : Dev :=
  let d := d.setCeMode (if d.topo.split then 1 else 0) 0
  [0, 1].foldl (fun d g => d.pgApply g (d.rget (Reg.CE_PG_CFG g))) d

/-- The blocks that the control plane runs from the end of commit on: timebases, the choppers' outputs, the pulse inhibit. -/
def Dev.startCtrl (d : Dev) : Dev := ((d.startPwm).dclOutputs).stoCommit

/-- The blocks of CTRL_L (R417) as before commit; the levels of the input pins are not theirs. -/
def Dev.clearCtrl (d : Dev) : Dev :=
  { d with
    pwm := Vector.replicate 4 default
    chan := Vector.replicate 6 default
    fld := Vector.replicate 4 default
    pos := Vector.replicate 4 default
    conv := d.conv.map (fun c => { c with set := Vector.replicate 3 none, inv := 0, ready := none })
    dcl := Dcl.initial
    aux := Vector.replicate 2 Aux.start
    safe := { (default : Safe) with raw := d.safe.raw, since := d.safe.since }
    events := []
    rgr := { d.rgr with sinks := [] } }

/-! ### Commit -/

/-- A tenant's registers (R101). -/
def Dev.loadTenant (d : Dev) (t : Tenant) : Dev :=
  let v := ((List.range 6).foldl (fun n x => n + (t.axes.contains x).toNat * 2 ^ x) 0) + t.arm.toNat * 2 ^ 8 + t.service.toNat * 2 ^ 9 + t.inject.toNat * 2 ^ 10 +
    t.takeover.toNat * 2 ^ 11 + t.clear * 2 ^ 16
  ((d.rset (Reg.HOST_TEN t.host) (BitVec.ofNat 32 v)).wf (Reg.HOST_TKT t.host) 0 8 t.quota).wf (Reg.HOST_HB t.host) 16 10 t.hb

/-- The owner of each axis in use (R102). -/
def Dev.setOwners (d : Dev) (l : List (Nat × Nat)) : Dev :=
  l.foldl (fun d o => if d.inTopo o.1 then d.wf Reg.HOST_OWN (3 * o.1) 3 o.2 else d) d

/-- `CLK_CFG.PRIMARY` selects the path from commit onward (R124); the fault of R123 is recorded. DESIGN CHOICE: with PRIMARY = MDLL a
tree that left the clock step on the ILO stays on it, although the MDLL may have locked since (log entry 108), and 0x0301 is then
recorded all the same, as the standing level that the next PATH_RELOCK of the MDLL ends (log entry 109). -/
def Dev.clockCommit (d : Dev) : Dev :=
  let d := if d.primary = 1 ∧ !d.onIlo ∧ d.iloLock then d.switchOver 1 else d
  let d := if d.clk.mdllFaultAtCommit then d.lvlOn 0x0301 0 else d
  ({ d with clk := { d.clk with mdllFaultAtCommit := false } } : Dev).wb Reg.CLK_STATUS 5 true

/-- The slot in use or committed. -/
def Dev.slot (d : Dev) : Nat := d.rf Reg.IMG_STATUS 8 1

/-- The step of R91. -/
def Dev.setStep (d : Dev) (n : Nat) : Dev := d.wf Reg.IMG_STATUS 16 4 n

/-- `IMG_ACTIVE`: the committed slot, whether its image is on trial, whether it is not `PREF` (R87). -/
def Dev.showActive (d : Dev) : Dev :=
  let w := d.pword 0
  d.rset Reg.IMG_ACTIVE (BitVec.ofNat 32
    (d.slot + 2 * (bget w 1 && d.slot == fget w 0 1).toNat + 4 * (d.slot != fget w 0 1).toNat))

/-- The bounds that make tuning registers (R85): those of block CLK make none, since R450 has its registers RWL (log entry 140). -/
def tunedBounds (c : ImageContent) : List (Nat × List FieldBound) := c.bounds.filter (fun b => blockOf b.1 != 0x03)

/-- The slot is committed (R68, R83, R87): its registers are loaded, the control plane starts, the mandatory BIST follows. -/
def Dev.commit (d : Dev) (c : ImageContent) : Dev :=
  let d := d.withImage c
  let d := { d with
    img := ⟨c.regs, tunedBounds c, c.parOwner, c.adcGo⟩
    ce := { Ce.start with
      graph := c.graph
      eng := Vector.replicate 2 { (default : CeEng) with st := ceInit c.graph } }
    therm := { d.therm with demAt := Vector.replicate 30 d.now, eff := Vector.replicate 4 0, thrAt := Vector.replicate 4 d.now } }
  let d := (c.tenants.foldl Dev.loadTenant d).setOwners c.owners
  let d := (d.rset Reg.IMG_VERSION (BitVec.ofNat 32 (tget d.boot.ver d.slot))).showActive
  let d := ((d.clockCommit).startCe).startCtrl
  let d := [0, 1, 2].foldl Dev.canJoin d
  (d.occIf d.boot.fellBack 0x0201 0).setStep 5

end Sys2Proof.Machine
end

