-- ==== Sys2Proof/Machine/Startup.lean ====
section
/-! DEFINITION. Power, wake, reset and the steps from BOOT to READY (chapters 02 and 03, R42, R61–R92; R367, R374, R445, R447,
R448). The mandatory BIST step is in Machine/Bist.lean. -/

namespace Sys2Proof.Machine

/-! ### Reset (R42, R65–R67, R445, R447) -/

/-- What a reset leaves of the preserve array: programs under way go on, and what waits is dropped (R445). -/
def Prs.cut (p : Prs) : Prs :=
  if (p.logRun.map (·.busy)).getD false then { p with pend := [], log := p.log.take 1 }
  else { p with pend := [], log := [], logRun := none }

/-- What a reset of the device leaves: the preserve array with the program under way, fuses and seed store, soft repairs, the
test port, the level of the input pins. The reset stops the CD's frames; of the islands, powered or not, this keeps nothing but
every switch off: DESIGN CHOICE, R10 read alone would have a GI lane apply the choice it last received (log entry 101). -/
def Dev.cleared (d : Dev) : Dev :=
  { Dev.blank with
    now := d.now
    freeCtr := d.freeCtr
    power := d.power
    pins := Dev.blank.pins
    safe := { Dev.blank.safe with raw := d.safe.raw }
    swIn := d.swIn
    prs := d.prs.cut
    sec := { Dev.blank.sec with uid := d.sec.uid, keyHash := d.sec.keyHash, policy := d.sec.policy, lock := d.sec.lock,
                                fused := d.sec.fused, seed := d.sec.seed, soft := d.sec.soft }
    tap := d.tap
    dstate := .dormant }

/-- Entry `e` of the accession log is taken as written when its code is not 0; its distance from the floor (R374). -/
def Dev.logDist (d : Dev) (e : Nat) : Option Nat :=
  let x := ((d.pword (0x400 + 4 * e)).toNat + 2 ^ 32 - (d.pword 0x3F2).toNat) % 2 ^ 32
  if fget (d.pword (0x401 + 4 * e)) 16 16 ≠ 0 ∧ x < 2 ^ 31 then some x else none

/-- The newest of the entries `e` below `n`, with its distance. -/
def Dev.newest (d : Dev) : Nat → Option (Nat × Nat)
  | 0 => none
  | n + 1 =>
    match d.logDist n, d.newest n with
    | some x, some y => if y.2 < x then some (n, x) else some y
    | some x, none => some (n, x)
    | none, r => r

/-- What the Registrar does at the entry to BOOT: the newest log entry, the recovery count and hour, the boot count
(R367, R374). -/
def Dev.registrarBoot (d : Dev) : Dev :=
  let n := d.newest 256
  let seq := ((d.pword 0x3F2).toNat + (match n with | some x => x.2 + 1 | none => 0)) % 2 ^ 32
  let r := d.pword 0x3F1
  let d := d.rgrMod (fun g => { g with
    logSeq := seq, logNew := n.map (·.1), recov := fget r 8 8, hourAt := -((fget r 0 8 * (60000 * msTicks) : Nat) : Int) })
  let w := d.pword 0x3F0
  d.ownWord 0x3F0 (fset w 16 16 (fget w 16 16 + 1))

/-- The entry to BOOT: time counts from here, `nPOR_OUT` rises, a recognised wake is used up (R66, R70). -/
def Dev.enterBoot (d : Dev) (c : BootCause) : Dev :=
  let d := d.cleared
  ({ d with
    now := 0
    dstate := .boot
    pins := { d.pins with nPorOut := true }
    power := { d.power with wake := false }
    boot := { d.boot with cause := c } } : Dev).registrarBoot

/-- The reset ends and BOOT begins once `nRESET` is high and no program of a preserve word is under way (R61, R445). -/
def Dev.resetEnds (d : Dev) : Dev :=
  match d.boot.waiting with
  | some c => if d.prs.cur.isSome || d.prs.logRun.isSome || d.power.nResetLow then d else d.enterBoot c
  | none => d

/-- The device is reset and is to enter BOOT: at once, or when what it waits for has come. -/
def Dev.bootRequest (d : Dev) (c : BootCause) : Dev :=
  let d := d.cleared
  ({ d with boot := { d.boot with waiting := some c } } : Dev).resetEnds

/-- Power is gone: DORMANT, no soft repair left, the test port in its reset (R65, R421, R447). -/
def Dev.goDormant (d : Dev) : Dev :=
  let d := d.cleared
  { d with sec := { d.sec with soft := [] }, tap := Tap.start }

/-- The device is in DORMANT and no reset is under way. -/
def Dev.asleep (d : Dev) : Bool := d.dstate == .dormant && d.boot.waiting.isNone

/-- POWER_ON_RESET_END: every rail has been above its rising threshold for 200 µs (R42, R66). With `nRESET` low the device stays in
reset until the pulse ends too, and boots then (R61, R67). -/
def Dev.porEnd (d : Dev) (testMode : Bool) : Dev :=
  if d.asleep && d.power.vkaUp && !d.power.porEnded then
    let d := { d with power := { d.power with railsUp := true, porEnded := true, vddIoLow := false, ioUp := true, testMode := testMode } }
    if d.power.wake then d.bootRequest .power else if d.power.nResetLow then d.bootRequest .nreset else d
  else d

/-- POWER_ON_RESET_END. -/
def execPowerOnResetEnd (testMode : Bool) (s : State) : Host.Outcome State Fault Refusal := s.runAny (·.porEnd testMode)

/-- WAKE_RECOGNISED: it starts BOOT with the rails present, and stays latched otherwise (R63, R66). -/
def Dev.wakeUp (d : Dev) : Dev :=
  if d.asleep && d.power.vkaUp then
    if d.power.porEnded then d.bootRequest .wake else { d with power := { d.power with wake := true } }
  else d

/-- WAKE_RECOGNISED. -/
def execWakeRecognised (s : State) : Host.Outcome State Fault Refusal := s.runAny Dev.wakeUp

/-- WAKE_FALL: the latch clears before the rails return (R66). -/
def Dev.wakeFall (d : Dev) : Dev :=
  if d.power.porEnded then d else { d with power := { d.power with wake := false } }

/-- WAKE_FALL. -/
def execWakeFall (s : State) : Host.Outcome State Fault Refusal := s.runAny Dev.wakeFall

/-- MAIN_RAIL_LOSS: DORMANT from any state (R65); without `VDD_IO` (rail 1) the pins are unpowered (R48). -/
def Dev.railLoss (d : Dev) (rail : Nat) : Dev :=
  let d := d.goDormant
  { d with power := { d.power with railsUp := false, porEnded := false, ioUp := d.power.ioUp && rail != 1 } }

/-- MAIN_RAIL_LOSS. -/
def execMainRailLoss (rail : Nat) (s : State) : Host.Outcome State Fault Refusal := s.runAny (·.railLoss rail)

/-- VKA_LOSS: held in reset, every recognised wake forgotten (R447). -/
def Dev.vkaLoss (d : Dev) : Dev :=
  let d := d.goDormant
  { d with power := { d.power with vkaUp := false, porEnded := false, wake := false } }

/-- VKA_LOSS. -/
def execVkaLoss (s : State) : Host.Outcome State Fault Refusal := s.runAny Dev.vkaLoss

/-- VKA_RETURN: the device is in DORMANT (R447). -/
def Dev.vkaReturn (d : Dev) : Dev := { d with power := { d.power with vkaUp := true } }

/-- VKA_RETURN. -/
def execVkaReturn (s : State) : Host.Outcome State Fault Refusal := s.runAny Dev.vkaReturn

/-- NRESET_PULSE: the level is noted; in LOCKOUT (R26) and while the power-on reset holds (R61) nothing else happens. A device
that is in reset already stays in it while the pin is low; any other one is reset. `TEST_MODE` is sampled at the release (R48). -/
def Dev.nReset (d : Dev) (held testMode : Bool) : Dev :=
  let was := d.power.nResetLow
  let resets := !held && (d.boot.waiting.isSome || (d.dstate != .lockout && d.power.porEnded))
  let d := { d with power := { d.power with nResetLow := held, testMode := if resets then testMode else d.power.testMode } }
  if d.boot.waiting.isSome then d.resetEnds
  else if d.dstate = .lockout ∨ d.power.porEnded = false ∨ (was && !held) then d
  else d.bootRequest .nreset

/-- NRESET_PULSE. -/
def execNresetPulse (held testMode : Bool) (s : State) : Host.Outcome State Fault Refusal := s.runAny (·.nReset held testMode)

/-- SELF_RESET: the reset that `IMG_SELECT`, `IMG_REJECT` or `REPAIR_FUSE` has scheduled (R89, R422). -/
def Dev.selfReset (d : Dev) : Dev := if d.boot.resetDue then d.bootRequest .self else d

/-- SELF_RESET. -/
def execSelfReset (s : State) : Host.Outcome State Fault Refusal := s.run Dev.selfReset

/-- A program of the Registrar's port that ends while the device does not run: nothing follows it (R445). -/
def Dev.logCutEnd (d : Dev) : Dev :=
  if d.live || (d.prs.logRun.map (·.again)).getD false then d else d.prsMod (fun p => { p with log := [], logRun := none })

/-- PRESERVE_PROGRAM_END on the Registrar's port (`log`) or the lane: the program completes; a reset that waits for it follows (R435,
R445). -/
def Dev.programEnds (d : Dev) (log ok : Bool) : Dev :=
  (if log then (d.logWordEnd ok).logCutEnd else d.programEnd ok).resetEnds

/-- PRESERVE_PROGRAM_END. -/
def execPreserveProgramEnd (log ok : Bool) (s : State) : Host.Outcome State Fault Refusal := s.runAny (·.programEnds log ok)

/-- LOG_ENTRY_WRITTEN. -/
def execLogEntryWritten (ok : Bool) (s : State) : Host.Outcome State Fault Refusal := s.run (·.logWritten ok)

/-! ### The start-up steps (R68, R74, R123, R416) -/

/-- LOCKOUT with `IMG_STATUS.STEP` = FAILED and a fault of class F4. -/
def Dev.bootFail (d : Dev) (code : Nat) : Dev := (d.setStep 8).raise code 0

/-- CLOCK_ROM_STEP_END: `IMG_CAUSE` is set, the SRAM clear starts; IMAGE_CHECK, or LOCKOUT on a failure or with `TEST_MODE`
high. -/
def Dev.clockRomEnd (d : Dev) (romOk mdll ilo : Bool) : Dev :=
  if d.dstate ≠ .boot then d
  else
    let d := d.rset Reg.IMG_CAUSE (BitVec.ofNat 32 d.boot.cause.code)
    let d := ((d.wb Reg.CLK_STATUS 3 mdll).wb Reg.CLK_STATUS 4 ilo).wf Reg.CLK_STATUS 1 2 (if mdll then 0 else if ilo then 1 else 2)
    let d := { d with
      clk := { d.clk with mdllFaultAtCommit := !mdll && ilo }
      boot := { d.boot with clearing := true } }
    if !romOk || !(mdll || ilo) then
      d.reports ((if romOk then [] else [⟨0x0001, 0, false⟩]) ++ (if mdll || ilo then [] else [⟨0x0002, 0, false⟩]))
    else if d.power.testMode then d.bootFail 0x0213
    else (d.setState .imageCheck).setStep 1

/-- CLOCK_ROM_STEP_END. -/
def execClockRomStepEnd (romOk mdllLock iloLock : Bool) (s : State) : Host.Outcome State Fault Refusal :=
  s.run (·.clockRomEnd romOk mdllLock iloLock)

/-! ### Checking a slot (R77–R84) -/

/-- The public key in a header (R77). -/
def hdrKey (h : List Byte) : List Byte := (h.drop 0x40).take 32

/-- Checks 1–10 of a header: a reason of R92. -/
def Dev.hdrCheck (d : Dev) (profileOk : Bool) (h : List Byte) : Nat :=
  let len := beAt h 0x0C 4
  let cat := beAt h 0x10 4
  let n := beAt h 0x14 1
  let sig := beAt h 0x18 4
  if !profileOk then 0x01
  else if beAt h 0 4 ≠ 0x594C5349 then 0x02
  else if beAt h 0xFC 4 ≠ (crc32c (h.take 0xFC)).toNat then 0x03
  else if beAt h 4 1 ≠ 0x01 then 0x04
  else if beAt h 0x1C 4 ≠ 0x59419412 then 0x05
  else if len < 8192 ∨ 4194304 < len ∨ sig ≠ len - 7856 then 0x06
  else if n = 0 ∨ n = 255 then 0x07
  else if cat < 0x100 ∨ cat % 16 ≠ 0 ∨ sig < cat + 16 * n then 0x08
  else if beAt h 8 4 < (d.pword 1).toNat then 0x09
  else if d.sec.keyHash ≠ some (sha256 (hdrKey h)) then 0x0A
  else 0

/-- `IMG_RES_A`, `IMG_RES_B`: the slot has been checked, with this result. -/
def Dev.setRes (d : Dev) (slot r : Nat) : Dev :=
  d.rset (if slot = 0 then Reg.IMG_RES_A else Reg.IMG_RES_B) (BitVec.ofNat 32 (0x80000000 + r))

/-- A failed verification counts (R84). -/
def Dev.countFail (d : Dev) (r : Nat) : Dev :=
  if r = 0x0A ∨ r = 0x0F then d.setSigfail (fget (d.pword 0) 8 8 + 1) else d

/-- The slot in use fails with a reason. The other slot's header result, where a fallback ends at once with it, is a rejection as
well: DESIGN CHOICE (log entry 100). -/
def Dev.slotBad (d : Dev) (r : Nat) : Dev := ((d.setRes d.slot r).wf Reg.IMG_STATUS 0 8 r).countFail r

/-- The second slot fails as well: fault 0x0202 and LOCKOUT (R74). -/
def Dev.bothBad (d : Dev) (r : Nat) : Dev := (d.slotBad r).bootFail 0x0202

/-- The slot in use fails: the Docent clears `TRIAL` and reads the other slot at once, unless that is the failed one or failed a
header check (R74, R81, R88). -/
def Dev.slotFail (d : Dev) (r : Nat) : Dev :=
  if d.boot.fellBack then d.bothBad r
  else
    let d := d.slotBad r
    let o := 1 - d.slot
    let d := (d.ownWord 0 (bset (d.pword 0) 1 false)).wf Reg.IMG_STATUS 8 1 o
    let d := { d with boot := { d.boot with fellBack := true } }
    if tget d.boot.res o = 0 then d.setStep 2 else d.bothBad (tget d.boot.res o)

/-- FLASH_START_END: both headers are judged; the preferred slot is read next (R81, R87, R88). -/
def Dev.flashEnd (d : Dev) (profileOk : Bool) (hdrA hdrB : List Byte) : Dev :=
  if d.dstate ≠ .imageCheck ∨ d.rf Reg.IMG_STATUS 16 4 ≠ 1 then d
  else
    let ra := d.hdrCheck profileOk hdrA
    let rb := d.hdrCheck profileOk hdrB
    let fields (i k : Nat) : Vector Nat 2 := #v[beAt hdrA i k, beAt hdrB i k]
    let ends (h : List Byte) : Nat := beAt h 0x10 4 + 16 * beAt h 0x14 1
    let d := { d with boot := { d.boot with
      res := #v[ra, rb], len := fields 0x0C 4, ver := fields 8 4, catEnd := #v[ends hdrA, ends hdrB]
      count := fields 0x14 1, key := #v[hdrKey hdrA, hdrKey hdrB] } }
    let d := ((d.setRes 0 ra).setRes 1 rb).rset Reg.IMG_ARB (d.pword 1)
    let d := d.wf Reg.IMG_STATUS 8 1 (fget (d.pword 0) 0 1)
    let r := tget d.boot.res d.slot
    if r = 0 then d.setStep 2 else d.slotFail r

/-- FLASH_START_END. -/
def execFlashStartEnd (profileOk : Bool) (hdrA hdrB : List Byte) (s : State) : Host.Outcome State Fault Refusal :=
  s.run (·.flashEnd profileOk hdrA hdrB)

/-- The bytes 0 to `sig` − 1 of a slot, which its signature covers (R82). -/
def signedBytes (sig : Nat) (body : List Byte) : List Byte := padTo sig body

/-- The catalogue of `n` entries of 16 bytes each from byte `cat` of a slot on (R78), with the CRC-32C of the bytes of each section. -/
def catalogue (cat n : Nat) (body : List Byte) : List CatEntry :=
  (List.range n).map (fun i =>
    let at' (o k : Nat) : Nat := beAt body (cat + 16 * i + o) k
    { type := at' 0 2, flags := at' 2 2, offset := at' 4 4, length := at' 8 4, crc := BitVec.ofNat 32 (at' 12 4)
      dataCrc := crc32c ((body.drop (at' 4 4)).take (at' 8 4)) })

/-- The type is one of the section types of R80. -/
def knownType (t : Nat) : Bool := decide (1 ≤ t) && decide (t ≤ 0x0E)

/-- Two sections overlap. -/
def overlaps (x y : CatEntry) : Bool := decide (x.offset < y.offset + y.length) && decide (y.offset < x.offset + x.length)

/-- Check 11 on the entries after `seen`, one at a time (R79). -/
def entryCheck (catEnd sig : Nat) : List CatEntry → List CatEntry → Nat
  | _, [] => 0
  | seen, e :: l =>
    if e.length = 0 ∨ e.offset % 4 ≠ 0 ∨ e.offset < catEnd ∨ sig < e.offset + e.length ∨ seen.any (overlaps e) then 0x0B
    else if seen.any (fun x => x.type == e.type) ∨ (!knownType e.type && e.flags % 2 == 0) then 0x0C
    else entryCheck catEnd sig (seen ++ [e]) l

/-- The required types are present (R80): `cd`: TENANCY names port C or D, `aux`: TOPOLOGY uses X or Y. -/
def typesHere (cat : List CatEntry) (cd aux : Bool) : Bool :=
  ([1, 2, 3, 4, 5, 6, 7, 8, 10, 11, 12, 13] ++ (if cd then [9] else []) ++ (if aux then [14] else [])).all
    (fun t => cat.any (fun e => e.type == t))

/-- Checks 11–13 of a slot; the section of an unknown type is skipped (R79). -/
def readCheck (catEnd sig : Nat) (cat : List CatEntry) (cd aux strobeOk : Bool) : Nat :=
  let r := entryCheck catEnd sig [] cat
  if r ≠ 0 then r
  else if !typesHere cat cd aux then 0x0C
  else if !strobeOk then 0x0D
  else if cat.any (fun e => knownType e.type && e.crc != e.dataCrc) then 0x0E
  else 0

/-- IMAGE_READ_END of the slot in use: checks 11–13 on its bytes `body`, and their SHA-256 (R68, R81, R82). -/
def Dev.readEnd (d : Dev) (body : List Byte) (cd aux strobeOk : Bool) : Dev :=
  if d.dstate ≠ .imageCheck ∨ d.rf Reg.IMG_STATUS 16 4 ≠ 2 then d
  else
    let sig := tget d.boot.len d.slot - 7856
    let n := tget d.boot.count d.slot
    let body := signedBytes sig body
    let r := readCheck (tget d.boot.catEnd d.slot) sig (catalogue (tget d.boot.catEnd d.slot - 16 * n) n body) cd aux strobeOk
    let d := { d with boot := { d.boot with hash := sha256 body } }
    if r = 0 then d.setStep 3 else d.slotFail r

/-- IMAGE_READ_END. -/
def execImageReadEnd (body : List Byte) (namesCd usesAux strobeOk : Bool) (s : State) : Host.Outcome State Fault Refusal :=
  s.run (·.readEnd body namesCd usesAux strobeOk)

/-- The message that a HashSLH-DSA signature with pre-hash SHA-256 and an empty context covers, from the digest of the signed bytes
(FIPS 205, which R82 names): the pre-hash mark, the length of the context, the object identifier of SHA-256, the digest. -/
def signedMessage (hash : List Byte) : List Byte :=
  [1, 0, 0x06, 0x09, 0x60, 0x86, 0x48, 0x01, 0x65, 0x03, 0x04, 0x02, 0x01] ++ hash

/-- Check 14 (R82): the signature of a slot under its public key, over the digest of its signed bytes. -/
def imageSigned (key hash sig : List Byte) : Bool := slhVerify slh128s key (signedMessage hash) sig

/-- VERIFY_END of the slot in use (R82, R84). -/
def Dev.verifyEnd (d : Dev) (sig : List Byte) : Dev :=
  if d.dstate ≠ .imageCheck ∨ d.rf Reg.IMG_STATUS 16 4 ≠ 3 then d
  else if imageSigned (tget d.boot.key d.slot) d.boot.hash sig then (d.setSigfail 0).setStep 4
  else d.slotFail 0x0F

/-- VERIFY_END. -/
def execVerifyEnd (sig : List Byte) (s : State) : Host.Outcome State Fault Refusal := s.run (·.verifyEnd sig)

/-- COMMIT_END: check 15, and the slot is committed or fails (R81, R83). -/
def Dev.commitEnd (d : Dev) (c : ImageContent) : Dev :=
  if d.dstate ≠ .imageCheck ∨ d.rf Reg.IMG_STATUS 16 4 ≠ 4 then d
  else if d.contentOk c then (d.setRes d.slot 0).commit c
  else d.slotFail 0x10

/-- COMMIT_END. -/
def execCommitEnd (content : ImageContent) (s : State) : Host.Outcome State Fault Refusal := s.run (·.commitEnd content)

/-! ### The islands step (R68, R74, R402) -/

/-- The lanes that the topology needs: both GI lanes and its high-side islands. -/
def Dev.lanesNeeded (d : Dev) : List Nat := d.islandsNeeded ++ [12, 13]

/-- The islands step starts: the GI link trains, and the rest once it has (R68); the working key is derived. -/
def Dev.islandsStart (d : Dev) : Dev :=
  let d := [12, 13].foldl (fun d l => d.lnkMod l (fun k => { k with retraining := true })) d
  (d.setStep 6).deriveStart

/-- ISLANDS_STEP_END: the sequencers start as the image says (R210), and the device enters READY (R25, R74). The link of the AX counts as
trained from here: DESIGN CHOICE, R419 names that link and no rule its training (log entry 22). -/
def Dev.islandsEnd (d : Dev) : Dev :=
  if d.dstate ≠ .imageCheck ∨ d.rf Reg.IMG_STATUS 16 4 ≠ 6 then d
  else
    let d := (d.lanesNeeded.foldl Dev.untrained d).seqGo d.img.adcGo
    ({ d with boot := { d.boot with axLink := true } } : Dev).enterReady

/-- ISLANDS_STEP_END. -/
def execIslandsStepEnd (s : State) : Host.Outcome State Fault Refusal := s.run Dev.islandsEnd

/-! ### Supplies (R44, R45) -/

/-- SUPPLY_FAULT of rail 0–4: `VDD_CORE`, `VDD_IO`, `VDD_A`, `VKA`, `VCC_G` leaves its range. -/
def Dev.supplyFault (d : Dev) (rail : Nat) : Dev := d.lvlOn (0x0020 + rail) 0

/-- SUPPLY_FAULT. -/
def execSupplyFault (rail : Nat) (s : State) : Host.Outcome State Fault Refusal := s.run (·.supplyFault rail)

/-- SUPPLY_RETURN: the rail is back in its range; with `VDD_IO` preserve programs may start again, and the low-voltage pins are powered,
also under a power-on reset that still holds (R48). DESIGN CHOICE: R45 names only the fall below 3.0 V, and the bar ends here or with
a power-on reset (log entry 102). -/
def Dev.supplyReturn (d : Dev) (rail : Nat) : Dev :=
  let d := d.lvlOff (0x0020 + rail) 0
  if rail = 1 then
    let d := { d with power := { d.power with vddIoLow := false, ioUp := true } }
    if d.live then d.logResume else d
  else d

/-- SUPPLY_RETURN. -/
def execSupplyReturn (rail : Nat) (s : State) : Host.Outcome State Fault Refusal := s.runAny (·.supplyReturn rail)

/-- VDD_IO_LOW: below 3.0 V no new preserve write starts (R45). -/
def Dev.vddIoLow (d : Dev) : Dev := { d with power := { d.power with vddIoLow := true } }

/-- VDD_IO_LOW. -/
def execVddIoLow (s : State) : Host.Outcome State Fault Refusal := s.runAny Dev.vddIoLow

end Sys2Proof.Machine
end

