-- ==== Sys2Proof/Machine/RegAccess.lean ====
section
/-! DEFINITION. Register accesses (R4, R7, R8, R16, R73, R102, R103, R390, R435, R438–R443): what a read returns, who may write
a register, and what a write does. Host number 4 stands for the debug port, which holds every privilege (R415). -/

namespace Sys2Proof.Machine

/-- The index of an address in a row of `n` registers at `base` with a stride; `none` outside. -/
def ixOf (a base stride n : Nat) : Option Nat :=
  if base ≤ a ∧ (a - base) % stride = 0 ∧ (a - base) / stride < n then some ((a - base) / stride) else none

/-! ### Values that the device derives -/

/-- Ticks since a boundary, within the period. -/
def Dev.ctrTick (d : Dev) (since per : Nat) : Nat := if per = 0 then 0 else (d.now - since) % per

/-- The counter of traction axis `a` (R141). -/
def Dev.pwmCounter (d : Dev) (a : Nat) : Nat :=
  let per := d.perOf a
  let i := d.ctrTick (d.pw a).lastB per
  if !(d.pw a).running then 0 else if i < per / 2 then i else per - i

/-- `PWM_Cj_STAT` (R167). -/
def Dev.chanStat (d : Dev) (j : Nat) : Word :=
  let i := if d.committed then d.ctrTick (tget d.chan j).lastB (d.rf (Reg.PWM_C_PER j) 0 24) else 0
  BitVec.ofNat 32 (i + (d.committed && decide (16 * i < d.onTime j (d.rget (Reg.PWM_C_CMP0 j)).toNat)).toNat * 2 ^ 24)

/-- `SYS_STATE` (R31): device state and the whole seconds left of `DEG_TIME`. -/
def Dev.sysState (d : Dev) : Word :=
  let left := if d.dstate = .degraded then
      (d.rf Reg.SAFE_DEG 0 10 * 1000 * msTicks - (d.now - d.safe.degAt)) / (1000 * msTicks)
    else 0
  BitVec.ofNat 32 (left * 65536 + d.dstate.code)

/-- Remaining start-up time in ms (R73): the maximum durations of the steps not yet ended, in ns, rounded up. -/
def Dev.remain (d : Dev) : Nat :=
  let step := d.rf Reg.IMG_STATUS 16 4
  let read := if step < 2 then 20970000 else 5 * tget d.boot.len d.slot
  let steps := [1200000, 300000, read, 2000000, 1000000, 60000000, 10000000]
  (((steps.drop step).foldl (· + ·) 0) + 999999) / 1000000

/-- `IMG_STATUS`. -/
def Dev.imgStatus (d : Dev) : Word := fset (d.rget Reg.IMG_STATUS) 24 8 d.remain

/-- The level of `nFLT` (R369): true for high. -/
def Dev.nFlt (d : Dev) : Bool :=
  (d.dstate == .ready || d.dstate == .armed || d.dstate == .run || d.dstate == .degraded) &&
  !(d.flt.recs.any (fun r => r.isOpen && decide (d.rf Reg.FLT_CFG 24 3 ≤ r.eclass)))

/-- The level of `nIRQ_A` (0) or `nIRQ_B` (1), true for high (R115, R378). -/
def Dev.nIrq (d : Dev) (h : Nat) : Bool :=
  !((d.rb (Reg.HOST_IRQ h) 0 && d.rb (Reg.HOST_IRQEN h) 0) || (d.vecPending h && d.rb (Reg.HOST_IRQEN h) 1))

/-- The highest effective class of an uncleared record. -/
def Dev.highest (d : Dev) : Nat := d.flt.recs.foldl (fun m r => if r.isOpen then max m r.eclass else m) 0

/-- `FLT_STAT`. -/
def Dev.fltStat (d : Dev) : Word :=
  let mins := (((d.now : Int) - d.rgr.hourAt) / (60000 * msTicks : Nat) % 60).toNat
  BitVec.ofNat 32 (d.highest * 2 ^ 29 + d.nFlt.toNat * 2 ^ 28 + d.rgr.aliveRun.toNat * 2 ^ 27 +
    (d.flt.recs.filter (·.isOpen)).length * 65536 + d.rgr.recov % 256 * 256 + mins)

/-- The record of slot `i`, if one has been opened. -/
def Dev.recAt (d : Dev) (i : Nat) : Option FltRec := d.flt.recs.find? (fun r => slotOf r.code == some i)

/-- The code of slot `i`, from commit onward. -/
def Dev.slotCode (d : Dev) (i : Nat) : Nat := if d.committed then (match codeOf i with | some c => c.1 | none => 0) else 0

/-- `FLT_RECi_ST`, `_CNT`, `_FIRST`, `_LAST` (R360, R363). -/
def Dev.recWord (d : Dev) (i k : Nat) : Word :=
  match d.recAt i with
  | none => BitVec.ofNat 32 (if k = 0 then d.slotCode i * 65536 else 0)
  | some r =>
    match k with
    | 0 => BitVec.ofNat 32 (d.slotCode i * 65536 + r.isOpen.toNat * 2 ^ 15 + r.cause.toNat * 2 ^ 14 + r.esc.toNat * 2 ^ 13 +
        r.inj.toNat * 2 ^ 12 + r.auto.toNat * 2 ^ 11 + r.eclass % 8 * 256 + r.src % 256)
    | 1 =>
      let left := if r.isOpen && r.eclass == 2 && !r.esc then fget (d.mapWord r.code) 0 14 - (d.now - r.opened) / 4000 else 0
      BitVec.ofNat 32 (r.occ * 65536 + left)
    | 2 => BitVec.ofNat 32 r.first
    | _ => BitVec.ofNat 32 r.last

/-- `FLT_OPENm`. -/
def Dev.openWord (d : Dev) (m : Nat) : Word :=
  BitVec.ofNat 32 ((List.range 32).foldl (fun n b =>
    match d.recAt (32 * m + b) with | some r => n + r.isOpen.toNat * 2 ^ b | none => n) 0)

/-- `FLT_LOGHEAD` (R374). -/
def Dev.logHead (d : Dev) : Word := BitVec.ofNat 32 (match d.rgr.logNew with | some e => 256 + e | none => 0)

/-- Fuse entries used. -/
def Dev.fusesUsed (d : Dev) : Nat := d.sec.fused.length

/-- The spares of unit `u` among those in use. -/
def inUse (l : List Spare) (u : Nat) : List Spare := l.filter (fun x => x.unit == u)

/-- `PRES_WEARw` and `PRES_STAT` (R436). -/
def Dev.wearWord (d : Dev) (w : Nat) : Word :=
  BitVec.ofNat 32 ((decide (wearWarn ≤ d.wear w)).toNat * 2 ^ 31 + (d.worn w).toNat * 2 ^ 30 + d.wear w)
def Dev.presStat (d : Dev) : Word :=
  BitVec.ofNat 32 ((d.prs.wear.filter (fun x => decide (wearWarn ≤ x.2))).length * 65536 +
    (d.prs.wear.filter (fun x => decide (wearLimit ≤ x.2))).length)

/-- A word of the state memory of an engine as `CE_SWINw` shows it (R258): a state word of the instance that the image places there;
what a word without one holds the spec does not say (log entry 32). Before commit it shows its Reset value (R5). -/
def Dev.stateWindow (d : Dev) (w : Nat) : Word :=
  if !d.committed then 0 else
  let e := d.rf Reg.CE_SWIN_SEL 8 1
  let at' := d.rf Reg.CE_SWIN_SEL 0 6 * 256 + w
  match d.ce.graph.find? (fun g => decide (g.2.stAt ≤ at' ∧ at' < g.2.stAt + g.2.init.length)) with
  | some g => wordOfInt (nth (d.ceState e g.1 g.2.init) (at' - g.2.stAt))
  | none => wordOfInt (Config.freeFun 0x1C000 [(e : Int), at'])

/-- Blocks SYS, HOST, IMG and SEC. -/
def Dev.peekLow (d : Dev) (a : Nat) : Word :=
  let h := (a - 0x10000) / 0x100
  if a = Reg.SYS_STATE then d.sysState
  else if a = Reg.SYS_AXSTATE then BitVec.ofNat 32 d.axStates
  else if a = Reg.HOST_TKT h then fset (d.rget a) 16 8 (d.held h)
  else if a = Reg.HOST_IRQ h then bset (d.rget a) 1 (d.vecPending h)
  else if a = Reg.HOST_HB h then
    fset (d.rget a) 0 10 (if d.hosts.readySeen then min 1023 ((d.now - (d.hp h).hbAt) / msTicks) else 0)
  else if a = Reg.HOST_POOL then BitVec.ofNat 32 d.poolFree
  else if a = Reg.IMG_STATUS then d.imgStatus
  else if a = Reg.SEC_STAT then d.secStat
  else if a = Reg.SEC_TPOL then BitVec.ofNat 32 (d.sec.policy.getD 0 % 64)
  else match ixOf a (Reg.SEC_UID 0) 4 2, ixOf a (Reg.SEC_KEYHASH 0) 4 8 with
    | some w, _ => tget d.sec.uid w
    | _, some w => BitVec.ofNat 32 (beAt (d.sec.keyHash.getD []) (4 * w) 4)
    | _, _ => d.rget a

/-- Blocks PWM, POS, CE, DCL and SAFE. `CE_AGRi.TOL` reads 0 with `DIG` = 1, `PWM_Cj_DT` of j = 0–3 reads 0. -/
def Dev.peekCtrl (d : Dev) (a : Nat) : Word :=
  let x := a % 0x10000 / 0x1000
  if Reg.CE_AGR 0 ≤ a ∧ a < Reg.CE_AGR 64 ∧ d.rb a 30 then fset (d.rget a) 0 8 0
  else if Reg.PWM_C_DT 0 ≤ a ∧ a < Reg.PWM_C_DT 4 ∧ a % 0x100 = 0x10 then 0
  else if a = Reg.PWM_PER x ∧ x < 4 then d.rget (Reg.PWM_PER (d.leader x))
  else if a = Reg.PWM_DT x ∧ x < 4 then d.rget (Reg.PWM_DT (d.leader x))
  else if a = Reg.PWM_CNT x ∧ x < 4 then fset (d.rget a) 0 24 (d.pwmCounter x)
  else if a = Reg.DCL_DSTAT then
    fset (d.rget a) 0 16 (if d.rb a 31 then min 65535 ((d.now - d.dcl.start) / (10 * msTicks)) else d.rf a 0 16)
  else if a = Reg.SAFE_DRIVE then
    BitVec.ofNat 32 (min 65535 (d.safe.stoT / 14400000000) * 65536 + min 65535 (d.safe.sbcT / 14400000000))
  else match ixOf a (Reg.PWM_C_STAT 0) 0x100 6, ixOf a (Reg.POS_TIME 0) 0x100 4, ixOf a (Reg.CE_SWIN 0) 4 256 with
    | some j, _, _ => d.chanStat j
    | _, some _, _ => BitVec.ofNat 32 d.now
    | _, _, some w => d.stateWindow w
    | _, _, _ => d.rget a

/-- Block ISL: an island outside the topology reads its reset values. -/
def Dev.peekIsl (d : Dev) (a : Nat) : Word :=
  let off := a % 0x10000
  if 0x800 ≤ off ∧ off < 0x6800 ∧ !d.inTopo ((off - 0x800) / 0x1800) then resetOf a else d.rget a

/-- Blocks FLT, BIST and PRES. Before commit `BIST_FUSE` shows its Reset value (R5; log entry 105). -/
def Dev.peekHigh (d : Dev) (a : Nat) : Word :=
  if a = Reg.FLT_STAT then d.fltStat
  else if a = Reg.FLT_LOGHEAD then d.logHead
  else if Reg.FLT_REC_ST 0 ≤ a ∧ a < Reg.FLT_REC_ST 512 then d.recWord ((a - Reg.FLT_REC_ST 0) / 16) (a % 16 / 4)
  else if a = Reg.BIST_FUSE then (if d.committed then BitVec.ofNat 32 (d.fusesUsed * 256 + (64 - d.fusesUsed)) else 0)
  else if a = Reg.PRES_STAT then d.presStat
  else if a = Reg.PRES_LANE then BitVec.ofNat 32 (min 255 d.prs.pend.length)
  else match ixOf a (Reg.FLT_OPEN 0) 4 16, ixOf a (Reg.BIST_U_RES 0) 0x10 15, ixOf a (Reg.PRES_W 0) 4 2048,
      ixOf a (Reg.PRES_WEAR 0) 4 2048 with
    | some m, _, _, _ => d.openWord m
    | _, some u, _, _ => fset (fset (d.rget a) 22 6 (inUse d.sec.soft u).length) 16 6 (inUse d.sec.fused u).length
    | _, _, some w, _ => d.pword w
    | _, _, _, some w => d.wearWord w
    | _, _, _, _ => d.rget a

/-- The value that a read of an occupied address gives (R4), the side effects of reads apart. -/
def Dev.peek (d : Dev) (a : Nat) : Word :=
  match blockOf a with
  | 0x00 | 0x01 | 0x02 => d.peekLow a
  | 0x04 | 0x08 | 0x09 | 0x0B | 0x0C => d.peekCtrl a
  | 0x05 => d.peekIsl a
  | 0x0D | 0x0F | 0x11 => d.peekHigh a
  | _ => d.rget a

/-- Controller, object and byte of a receive object of CAN (R390). -/
def objOf (a : Nat) : Option (Nat × Nat × Nat) :=
  let c := (a - 0xE0000) / 0x4000
  let r := (a - 0xE0000) % 0x4000
  if blockOf a = 0x0E ∧ c < 3 ∧ 0x1000 ≤ r ∧ r < 0x1000 + 64 * 0x50 then some (c, (r - 0x1000) / 0x50, (r - 0x1000) % 0x50) else none

/-- A read of a receive object: `HDR` fills the host's shadow, `TS` and data come from it (R390). -/
def Dev.readObj (d : Dev) (h a c i b : Nat) : Dev × Word :=
  if b = 8 then (d.hdrRead h c i, d.objShown c i a)
  else match tget (d.cc c).shadow h with
    | some (j, ts, data) =>
      if j = i ∧ 0x0C ≤ b then (d, if b = 0x0C then ts else data.getD ((b - 0x10) / 4) 0) else (d, d.rget a)
    | none => (d, d.rget a)

/-- A host reads the register at an occupied address: `POSa_LPOS` and `POSa_LTS` latch together (R244). -/
def Dev.readReg (d : Dev) (h a : Nat) : Dev × Word :=
  match objOf a, ixOf a (Reg.POS_LPOS 0) 0x100 4, ixOf a (Reg.POS_LTS 0) 0x100 4 with
  | some (c, i, b), _, _ => d.readObj h a c i b
  | _, some x, _ => (d.lposRead x, d.rget a)
  | _, _, some x => match (d.hall x).hold with | some v => (d.ltsRead x, v) | none => (d, d.rget a)
  | _, _, _ => (d, d.peek a)

/-! ### Who may write (R102, R440, R441) -/

/-- The axis that a register belongs to (R440): 0–3, 4 X, 5 Y; `none` for a device register. -/
def Dev.regAxis (d : Dev) (a : Nat) : Option Nat :=
  let off := a % 0x10000
  let axis (x : Nat) : Option Nat := if x < 6 then some x else none
  match blockOf a with
  | 0x04 => if off < 0x4000 then some (off / 0x1000)
            else if 0x8400 ≤ off ∧ off < 0x8600 then some (4 + (off - 0x8400) / 0x100) else none
  | 0x05 => if 0x20 ≤ off ∧ off < 0x40 then some (off / 4 % 4)
            else if 0x100 ≤ off ∧ off < 0x400 then some ((off - 0x100) / 0xC0)
            else if 0x800 ≤ off then some ((off - 0x800) / 0x1800) else none
  | 0x06 => if off < 0x1000 then some (off / 0x400)
            else if 0x1010 ≤ off ∧ off < 0x1020 then some ((off - 0x1010) / 4) else none
  | 0x07 => some (off / 0x400)
  | 0x08 => some (off / 0x100)
  | 0x09 => if 0x200 ≤ off ∧ off < 0x400 then axis (d.laneAxis ((off - 0x200) / 0x10))
            else if 0x600 ≤ off ∧ off < 0x620 then axis (d.laneAxis (d.rf (Reg.CE_PG_CFG ((off - 0x600) / 0x10)) 0 5))
            else if 0x700 ≤ off ∧ off < 0x740 then d.injAxis ((off - 0x700) / 0x20)
            else if 0x4000 ≤ off ∧ off < 0x8000 then aget d.img.parOwner ((off - 0x4000) / 4) else none
  | 0x0A => if off < 0x200 then some (4 + off / 0x100) else none
  | 0x0B => if 0x80 ≤ off ∧ off < 0x90 then some ((off - 0x80) / 4) else none
  | 0x0C => if 0x10 ≤ off ∧ off < 0x90 then some ((off - 0x10) / 0x20) else none
  | _ => none


/-- The register is one whose writes R4 refuses since commit: it is loaded from the image without bounds (R85). -/
def Dev.locked (d : Dev) (a : Nat) (r : RegRow) : Bool :=
  d.committed && (r.image || r.access == .rwl) && (aget d.img.bounds a).isNone

/-- The writer of a device register (R441). -/
def Dev.mayWriteDevice (d : Dev) (h a : Nat) : Bool :=
  let off := a % 0x10000
  match blockOf a with
  | 0x01 => off / 0x100 == h
  | 0x02 => d.privService h
  | 0x09 => a == Reg.CE_PBLK || a == Reg.CE_PBLK_SRC || a == Reg.CE_SWIN_SEL || d.privArm h
  | 0x0D => a == Reg.FLT_LOOKUP || decide (0x8000 ≤ off) || (if a = Reg.FLT_CMD then d.privService h else d.privArm h)
  | 0x0E => if off < 0xC000 then d.canOwner (off / 0x4000) == h else d.privArm h
  | 0x11 => if off < 0x2000 then ownWordRange (off / 4) || d.regionOf h (off / 4) || (decide (4 ≤ h) && (d.region (off / 4)).isSome)
            else d.privArm h
  | 0x12 => decide (0xA00 ≤ off ∧ off < 0xA18) || d.privArm h
  | _ => d.privArm h

/-- A preserve word: its region decides who writes it, the debug port like a host (R434, R415). -/
def presWordAddr (a : Nat) : Bool := blockOf a == 0x11 && decide (a % 0x10000 < 0x2000)

/-- Host `h` may write the register (R440, R441). A write that R4 ignores or refuses is judged there, whoever writes. -/
def Dev.mayWrite (d : Dev) (h a : Nat) : Bool :=
  match rowAt a with
  | none => false
  | some r =>
    (decide (4 ≤ h) && !presWordAddr a) || r.access == .ro || d.locked a r ||
    match d.regAxis a with
    | some x => d.owner x == h
    | none => d.mayWriteDevice h a

/-! ### Values that a write may hold (R8, R207, R270, R284, R299, R315) -/

/-- `CE_PGg_CFG` (R270): the lane it names, also with `EN` = 0, has `PRIV`, and is not the one that the other generator serves. -/
def Dev.pgOk (d : Dev) (g : Nat) (v : Word) : Bool :=
  d.rb (Reg.CE_LANE_CFG (fget v 0 5)) 21 && pgLane (d.rget (Reg.CE_PG_CFG (1 - g))) != some (fget v 0 5)

/-- The settings of an injection unit (R284): `k` is the place of the register in the unit. -/
def Dev.injOk (d : Dev) (k : Nat) (v : Word) : Bool :=
  match k with
  | 1 => decide (fget v 29 3 ≤ 4) && decide (7 ≤ fget v 24 4) && decide (1 ≤ fget v 16 8) && decide (2 ≤ fget v 8 8) &&
         decide (1 ≤ fget v 0 8)
  | 2 => decide ((sword v).natAbs ≤ 268435456)
  | 3 | 4 => decide (v.toNat * d.rf Reg.CE_STEP 0 19 ≤ 20000000000)
  | 5 => fget v 0 24 != 0
  | _ => true

/-- A parameter block: 1–1,024 words inside the 4,096 (R275). -/
def pblkOk (v : Word) : Bool :=
  decide (1 ≤ fget v 0 11) && decide (fget v 0 11 ≤ 1024) && decide (fget v 16 12 + fget v 0 11 ≤ 4096)

/-- The rules between registers that a write of `v` at `a` must keep; `e` is the device with the value in place. -/
def Dev.ruleOk (d e : Dev) (a : Nat) (v : Word) : Bool :=
  let off := a % 0x10000
  match blockOf a with
  | 0x04 =>
    if off < 0x4000 then (off % 0x1000 != 4 || e.periodOk (off / 0x1000))
    else decide (off < 0x8400) || decide (e.rf (Reg.AUX_SPDTOP ((off - 0x8400) / 0x100)) 0 22 * fget v 0 24 ≤ 64 * 400000000)
  | 0x06 =>
    if off < 0x1000 ∧ off % 0x400 = 8 then chanValid (off / 0x400) (fget v 24 4)
    else if off < 0x1000 ∧ 0x100 ≤ off % 0x400 ∧ off % 8 = 0 then chanValid (off / 0x400) (fget v 28 4) || fget v 28 4 == 15
    else true
  | 0x09 =>
    if a = Reg.CE_PBLK then pblkOk v
    else if 0x600 ≤ off ∧ off < 0x620 ∧ off % 0x10 = 0 then d.pgOk ((off - 0x600) / 0x10) v
    else if 0x700 ≤ off ∧ off < 0x740 then d.injOk (off % 0x20 / 4) v
    else true
  | 0x0A =>
    let x := off / 0x100
    if off < 0x200 then e.auxOk x && decide (sword (e.rget (Reg.AUX_PMIN x)) ≤ sword (e.rget (Reg.AUX_PMAX x))) else true
  | 0x0B => if a = Reg.DCL_VCHOP ∨ a = Reg.DCL_VFULL then e.ladderOk else true
  | _ => true

/-- A value that the register may hold: inside the image's bounds, the fields' limits and the rules between registers. -/
def Dev.valueOk (d : Dev) (a : Nat) (r : RegRow) (v : Word) : Bool :=
  (match aget d.img.bounds a with | some bs => inBounds v bs | none => true) && r.lims.all (limOk v) &&
    d.ruleOk (d.rset a (v &&& BitVec.ofNat 32 r.wmask)) a v

/-! ### Writes that take effect at once (R4, R16) -/

/-- The bits of `EVT_PENDk`, `EVT_OVRk`, `EVT_ENk` that host `h` owns (R378). -/
def Dev.evtMine (d : Dev) (h k : Nat) : Word :=
  if 4 ≤ h then 0xFFFFFFFF
  else BitVec.ofNat 32 ((List.range 32).foldl (fun n v => n + (d.vecOwner (32 * k + v) == h).toNat * 2 ^ v) 0)

/-- A write of a vector register: the bits of other hosts are refused with PRIV, the others apply (R378). -/
def Dev.evtWrite (d : Dev) (h a : Nat) (v : Word) : Dev × Nat :=
  let mine := d.evtMine h (a / 4 % 2)
  let st := if v &&& ~~~mine = 0 then stOk else stPriv
  if Reg.EVT_EN 0 ≤ a then (d.rmod a (fun o => (o &&& ~~~mine) ||| (v &&& mine)), st)
  else (d.rmod a (fun o => o &&& ~~~(v &&& mine &&& d.clearable a)), st)

/-- A write of a CAN register that is no plain one (R388, R389, R392, R394); the owner has been judged. -/
def Dev.canWrite (d : Dev) (c r : Nat) (v : Word) : Option (Dev × Nat) :=
  if r = 0x1C then some (d.canCmd c v)
  else if r = 0x28 then some (d.canTxReq c v)
  else if r = 0x2C then some (d.canTxCancel c v, stOk)
  else if r = 0x40 ∨ r = 0x44 then some (d.rxLostClear c (r / 4 % 2) (v &&& d.clearable (0xE0000 + 0x4000 * c + r)), stOk)
  else if 0x2800 ≤ r ∧ d.rb (Reg.CAN_TXREQ c) ((r - 0x2800) / 0x50) then some (d, stState)
  else none

/-- A write with an effect of its own beside the register, or in its place. A flag that the hardware has set in the same tick is not
cleared (R18). -/
def Dev.writeOwn (d : Dev) (h a : Nat) (v : Word) : Option (Dev × Nat) :=
  let off := a % 0x10000
  match blockOf a with
  | 0x01 => if off % 0x100 = 0x1C then
      some (d.rmod (Reg.HOST_ERR (off / 0x100)) (fun o =>
        [0, 1, 2, 3].foldl (fun o i => if bget v i then fset o (8 * i) 8 0 else o) o), stOk)
    else none
  | 0x02 => if a = Reg.SEC_TAMPER then some (d.tamperClear v) else none
  | 0x03 => if a = Reg.CLK_CMD then (let r := d.clkCmd v; some (r.1, if r.2 then stOk else stState)) else none
  | 0x04 => if off < 0x4000 ∧ off % 0x1000 = 0x84 then some (d.tripClear (off / 0x1000) (fget (v &&& d.clearable a) 0 4), stOk) else none
  | 0x06 =>
    if a = Reg.ADC_CTRL then some (d.seqGo (fget v 0 4), stOk)
    else if a = Reg.ADC_CMD then some (d.forceSlice (fget v 0 4), stOk)
    else if off < 0x1000 ∧ off % 0x400 = 8 then
      let e := d.rset a (v &&& 0x0F0000FF)
      some (if bget v 31 then e.urgSend (off / 0x400) (fget v 24 4) (fget v 0 8) else e, stOk)
    else none
  | 0x0B => if a = Reg.DCL_FLAGS then
      let w := v &&& d.clearable a
      let e := [0, 1].foldl (fun d i => if bget w i then d.chopClear i else d) d
      some (e.rmod a (fun o => o &&& ~~~(w &&& 0xC)), stOk)
    else none
  | 0x0D =>
    if a = Reg.FLT_LOOKUP then some (d.fltLookup (fget v 0 16), stOk)
    else if a = Reg.FLT_CMD then some (d.fltCmd v)
    else if a = Reg.HLT_CLR then some (d.hltClr v, stOk)
    else if 0x8000 ≤ off ∧ off < 0x9000 ∧ off % 0x80 < 8 then
      some (d.hltWrite ((off - 0x8000) / 0x80) (off % 0x80 == 4) v)
    else none
  | 0x0E => if off < 0xC000 then d.canWrite (off / 0x4000) (off % 0x4000) v else none
  | 0x12 => if Reg.EVT_PEND 0 ≤ a ∧ a < Reg.EVT_VCNT 0 then some (d.evtWrite h a v) else none
  | _ => none

/-- A plain write: W1C clears, every other code sets the bits that are not reserved (R4, R6). A W1C bit that the hardware has set
in the same tick stays set, and what the control plane writes in the same tick does not overwrite the host's value (R18). -/
def Dev.writePlain (d : Dev) (a : Nat) (r : RegRow) (v : Word) : Dev :=
  match r.access with
  | .w1c => d.rset a (d.rget a &&& ~~~(v &&& BitVec.ofNat 32 r.cmask &&& d.clearable a))
  | .wo => d
  | _ => { d.rset a (v &&& BitVec.ofNat 32 r.wmask) with written := d.written ++ [a] }

/-! ### Writes that wait for a commit point (R16) -/

/-- The axis whose commit point applies a staged write (R16, R110, R270, R274). -/
def Dev.commitAxis (d : Dev) (a : Nat) (v : Word) : Nat :=
  let off := a % 0x10000
  let x := if blockOf a = 0x09 ∧ 0x600 ≤ off ∧ off < 0x620 ∧ off % 0x10 = 0 ∧ bget v 31 then d.laneAxis (fget v 0 5)
    else (d.regAxis a).getD 0
  if x < 6 then x else 0

/-- The write is not legal in the present state of its axis (R146, R149). -/
def Dev.staged? (d : Dev) (a : Nat) : Bool :=
  let off := a % 0x10000
  let x := off / 0x1000
  if blockOf a = 0x04 ∧ off < 0x4000 then
    let r := off % 0x1000
    if r = 0x04 ∨ r = 0x0C then d.leader x == x
    else if 0x20 ≤ r ∧ r < 0x60 then !(d.axOf x).active
    else true
  else true

/-- A staged write of block PWM takes effect: periods and compares go to the staging of pair lock or of the channel, without their
reserved bits (R6). -/
def Dev.rwsPwm (d : Dev) (a : Nat) (r : RegRow) (v : Word) : Dev :=
  let v := v &&& BitVec.ofNat 32 r.wmask
  let off := a % 0x10000
  let x := off / 0x1000
  let o := off % 0x1000
  if 0x8000 ≤ off then { d with chan := tmod d.chan ((off - 0x8000) / 0x100) (fun c => { c with perSt := some v }) }
  else if o = 0x04 then d.stagePer x v
  else if 0x20 ≤ o ∧ o < 0x38 then d.stageCmp x ((o - 0x20) / 4) v
  else if 0x40 ≤ o ∧ o < 0x58 then d.stageNcmp x ((o - 0x40) / 4) v
  else if 0x60 ≤ o ∧ o < 0x78 then ((d.writePlain a r v).maskDelay d x).syncGates x
  else d.writePlain a r v

/-- A staged write of block CE takes effect. -/
def Dev.rwsCe (d : Dev) (h a : Nat) (r : RegRow) (v : Word) (pair : Option (Nat × Nat)) : Dev :=
  let off := a % 0x10000
  if a = Reg.CE_PBLK then d.blockStart h (v &&& BitVec.ofNat 32 r.wmask) pair
  else if 0x600 ≤ off ∧ off < 0x620 ∧ off % 0x10 = 0 then d.pgApply ((off - 0x600) / 0x10) (v &&& BitVec.ofNat 32 r.wmask)
  else if 0x700 ≤ off ∧ off < 0x740 ∧ off % 0x20 = 0x18 then d.injRun ((off - 0x700) / 0x20) (bget v 0)
  else d.writePlain a r v

/-- A staged write of block AUX takes effect (R303, R307). -/
def Dev.rwsAux (d : Dev) (a : Nat) (r : RegRow) (v : Word) : Dev × Nat :=
  let off := a % 0x10000
  let x := off / 0x100
  if a = Reg.AUX_TGT x then
    if d.rb (Reg.AUX_CFG x) 29 then (d, stPriv)
    else match d.auxTarget x v false with
      | (d, .accepted) => (d, stOk)
      | (d, .state) => (d, stState)
      | (d, .limit) => (d, stLimit)
  else if a = Reg.AUX_CMD x then
    if bget v 0 then (let s := d.homeStart x; (s.1, if s.2 then stOk else stState)) else (d, stOk)
  else (d.writePlain a r v, stOk)

/-- A write of `DCL_DISCH` takes effect (R325). -/
def Dev.dischWrite (d : Dev) (v : Word) : Dev × Nat :=
  let go := bget v 0
  let ok := d.dstate == .ready || d.dstate == .safe || d.dstate == .service
  let e := if go && ok then d.dischargeStart else d
  (if bget v 1 then e.dischargeEnd else e, if go && !ok then stState else stOk)

/-- A staged write takes effect at its commit point: the device and the status of the write. `pair`: the pair of a
`REG_WRITE` that it comes from. -/
def Dev.applyRws (d : Dev) (h a : Nat) (v : Word) (pair : Option (Nat × Nat)) : Dev × Nat :=
  match rowAt a with
  | none => (d, stRange)
  | some r =>
    if d.locked a r || !d.staged? a then (d, stState)
    else if !d.valueOk a r v then (d, stRange)
    else match blockOf a with
      | 0x04 => (d.rwsPwm a r v, stOk)
      | 0x07 =>
        let e := d.writePlain a r v
        match ixOf a (Reg.FLD_EXTANG 0) 0x400 4 with
        | some x => (e.fuMod x (fun f => { f with extT := d.now }), stOk)
        | none => (e, stOk)
      | 0x09 => (d.rwsCe h a r v pair, stOk)
      | 0x0A => d.rwsAux a r v
      | 0x0B => if a = Reg.DCL_DISCH then d.dischWrite v else (d.writePlain a r v, stOk)
      | 0x0C => ((d.writePlain a r v).sbcUpdate, stOk)
      | _ => (d.writePlain a r v, stOk)

/-! ### One write -/

/-- The register is in a block that the running BIST unit isolates (R419): CTRL_L takes PWM, FLD, POS, AUX, DCL and SAFE. -/
def Dev.isolated (d : Dev) (a : Nat) : Bool :=
  d.bistUnit == some 4 && [0x04, 0x07, 0x08, 0x0A, 0x0B, 0x0C].contains (blockOf a)

/-- The outcome of a write before its effect: refused or ignored with a status, or to go on by an access code. -/
def Dev.judgeWrite (d : Dev) (a : Nat) (v : Word) : Nat ⊕ RegRow :=
  match rowAt a with
  | none => .inl stRange
  | some r =>
    if r.access = .ro then .inl stOk
    else if d.locked a r || d.isolated a || (r.access == .rws && !d.staged? a) then .inl stState
    else if r.access ≠ .prs ∧ !d.valueOk a r v then .inl stRange
    else .inr r

/-- A write enters the staging of its commit point (R16). -/
def Dev.portPut (d : Dev) (h a : Nat) (v : Word) : Dev :=
  { d with
    port := d.port ++ [⟨h, a, v, d.commitAxis a v, d.hosts.seq⟩]
    hosts := { d.hosts with seq := d.hosts.seq + 1 } }

/-- A write takes effect at once, or enters the staging of its commit point or the preserve lane (R4, R16, R434). -/
def Dev.writeReg (d : Dev) (h a : Nat) (v : Word) : Dev × Nat :=
  if !d.mayWrite h a then (d, if (rowAt a).isSome then stPriv else stRange)
  else match d.judgeWrite a v with
    | .inl st => (d, st)
    | .inr r =>
      match r.access with
      | .prs =>
        let w := (a - Reg.PRES_W 0) / 4
        if ownWordRange w then (d, stOk) else (d.laneAdmit [] w v (d.now + 50 * msTicks), stOk)
      | .rws => (d.portPut h a v, stOk)
      | _ => (d.writeOwn h a v).getD (d.writePlain a r v, stOk)

/-- A write that comes by a row of its own: its status is kept. -/
def Dev.hostWrite (d : Dev) (h a : Nat) (v : Word) : Dev :=
  if h < 4 then
    let r := d.writeReg h a v
    { r.1 with wstat := r.2 }
  else d

/-- The staged writes of the axes `xs` that were admitted before number `n` take effect at their commit point, in their order; a writer
that no longer may write gets STATE (R111). -/
def Dev.portApply (d : Dev) (xs : List Nat) (n : Nat) : Dev :=
  let due (e : PortEntry) : Bool := xs.contains e.axis && decide (e.seq < n)
  let mine := d.port.filter due
  let d := { d with port := d.port.filter (fun e => !due e) }
  mine.foldl (fun d e =>
    let r := if d.mayWrite e.host e.addr then d.applyRws e.host e.addr e.val none else (d, stState)
    { r.1 with wstat := r.2 }) d

/-! ### The rows of register writes -/

/-- REGISTER_WRITE: a host writes a register (R4). -/
def execRegisterWrite (host addr : Nat) (value : Word) (s : State) : Host.Outcome State Fault Refusal :=
  s.run (·.hostWrite host addr value)

/-- CLK_RETURN: `CLK_CMD.RETURN` (R126). -/
def execClkReturn (host : Nat) (s : State) : Host.Outcome State Fault Refusal := s.run (·.hostWrite host Reg.CLK_CMD 0x100)

/-- CLK_STEP: `CLK_CMD.STEP` (R137). -/
def execClkStep (host steps : Nat) (s : State) : Host.Outcome State Fault Refusal :=
  s.run (·.hostWrite host Reg.CLK_CMD (BitVec.ofNat 32 (steps % 256)))

/-- TRIP_LATCH_CLEAR: a write of 1 to bits of `PWMa_TRIP.LATCH` (R158). -/
def execTripLatchClear (host a bits : Nat) (s : State) : Host.Outcome State Fault Refusal :=
  s.run (fun d => if a < 4 then d.hostWrite host (Reg.PWM_TRIP a) (BitVec.ofNat 32 (bits % 16)) else d)

/-- SEQUENCER_GO: `ADC_CTRL.GO` (R210). -/
def execSequencerGo (host bits : Nat) (s : State) : Host.Outcome State Fault Refusal :=
  s.run (·.hostWrite host Reg.ADC_CTRL (BitVec.ofNat 32 (bits % 16)))

/-- FORCE_SLICE: `ADC_CMD.SLICE` (R204). -/
def execForceSlice (host bits : Nat) (s : State) : Host.Outcome State Fault Refusal :=
  s.run (·.hostWrite host Reg.ADC_CMD (BitVec.ofNat 32 (bits % 16)))

/-- URGENT_REQUEST: a write of `ADCk_URG` with `REQ` = 1 (R211). -/
def execUrgentRequest (host k : Nat) (value : Word) (s : State) : Host.Outcome State Fault Refusal :=
  s.run (fun d => if k < 4 then d.hostWrite host (Reg.ADC_URG k) (value ||| 0x80000000) else d)

/-- PARAM_BLOCK_WRITE: `CE_PBLK` (R275). -/
def execParamBlockWrite (host first count : Nat) (s : State) : Host.Outcome State Fault Refusal :=
  s.run (·.hostWrite host Reg.CE_PBLK (BitVec.ofNat 32 (first % 4096 * 65536 + count % 2048)))

/-- INJECTION_RUN: `CE_INJg_CTL.RUN` (R285). -/
def execInjectionRun (host g : Nat) (run : Bool) (s : State) : Host.Outcome State Fault Refusal :=
  s.run (fun d => if g < 2 then d.hostWrite host (Reg.CE_INJ_CTL g) (BitVec.ofNat 32 run.toNat) else d)

/-- AUX_TARGET: `AUXx_TGT` (R303). -/
def execAuxTarget (host x : Nat) (target : Word) (s : State) : Host.Outcome State Fault Refusal :=
  s.run (fun d => if x < 2 then d.hostWrite host (Reg.AUX_TGT x) target else d)

/-- HOME: `AUXx_CMD.HOME` (R307). -/
def execHome (host x : Nat) (s : State) : Host.Outcome State Fault Refusal :=
  s.run (fun d => if x < 2 then d.hostWrite host (Reg.AUX_CMD x) 1 else d)

/-- AUX_DUTY: `AUXx_DUTY` (R309). -/
def execAuxDuty (host x : Nat) (duty : Word) (s : State) : Host.Outcome State Fault Refusal :=
  s.run (fun d => if x < 2 then d.hostWrite host (Reg.AUX_DUTY x) duty else d)

/-- CHOPPER_MARK_CLEAR: `DCL_FLAGS.FAULTYi` (R321). -/
def execChopperMarkClear (host i : Nat) (s : State) : Host.Outcome State Fault Refusal :=
  s.run (fun d => if i < 2 then d.hostWrite host Reg.DCL_FLAGS (BitVec.ofNat 32 (2 ^ i)) else d)

/-- DISCHARGE_GO: `DCL_DISCH.GO` (R325). -/
def execDischargeGo (host : Nat) (s : State) : Host.Outcome State Fault Refusal := s.run (·.hostWrite host Reg.DCL_DISCH 1)

/-- DISCHARGE_STOP: `DCL_DISCH.STOP` (R325). -/
def execDischargeStop (host : Nat) (s : State) : Host.Outcome State Fault Refusal := s.run (·.hostWrite host Reg.DCL_DISCH 2)

/-- SBC_REL: `SAFE_SBC_CTL.REL` (R342). -/
def execSbcRel (host : Nat) (rel : Bool) (s : State) : Host.Outcome State Fault Refusal :=
  s.run (·.hostWrite host Reg.SAFE_SBC_CTL (BitVec.ofNat 32 rel.toNat))

/-- RECOV_RST: `FLT_CMD.RECOV_RST` (R367). -/
def execRecovRst (host : Nat) (s : State) : Host.Outcome State Fault Refusal := s.run (·.hostWrite host Reg.FLT_CMD 2)

/-- LOGCLR: `FLT_CMD.LOGCLR` (R374). -/
def execLogclr (host : Nat) (s : State) : Host.Outcome State Fault Refusal := s.run (·.hostWrite host Reg.FLT_CMD 1)

/-- FLT_LOOKUP: a code is looked up (R358). -/
def execFltLookup (host code : Nat) (s : State) : Host.Outcome State Fault Refusal :=
  s.run (·.hostWrite host Reg.FLT_LOOKUP (BitVec.ofNat 32 (code % 65536)))

/-- HLT_CLR (R376). -/
def execHltClr (host : Nat) (bits : Word) (s : State) : Host.Outcome State Fault Refusal :=
  s.run (·.hostWrite host Reg.HLT_CLR bits)

/-- HLT_CONFIG_WRITE: `HLTm_CFG`, or with `lo` `HLTm_LO` (R376). -/
def execHltConfigWrite (host m : Nat) (lo : Bool) (value : Word) (s : State) : Host.Outcome State Fault Refusal :=
  s.run (fun d => if m < 32 then d.hostWrite host (if lo then Reg.HLT_LO m else Reg.HLT_CFG m) value else d)

/-- CAN_STOP: `CANc_CMD.STOP` (R388). -/
def execCanStop (host c : Nat) (s : State) : Host.Outcome State Fault Refusal :=
  s.run (fun d => if c < 3 then d.hostWrite host (Reg.CAN_CMD c) 1 else d)

/-- CAN_RECOVER: `CANc_CMD.RECOVER` (R388). -/
def execCanRecover (host c : Nat) (s : State) : Host.Outcome State Fault Refusal :=
  s.run (fun d => if c < 3 then d.hostWrite host (Reg.CAN_CMD c) 2 else d)

/-- TX_REQUEST: `CANc_TXREQ` (R392). -/
def execTxRequest (host c : Nat) (bits : Word) (s : State) : Host.Outcome State Fault Refusal :=
  s.run (fun d => if c < 3 then d.hostWrite host (Reg.CAN_TXREQ c) bits else d)

/-- TX_CANCEL: `CANc_TXCAN` (R394). -/
def execTxCancel (host c : Nat) (bits : Word) (s : State) : Host.Outcome State Fault Refusal :=
  s.run (fun d => if c < 3 then d.hostWrite host (Reg.CAN_TXCAN c) bits else d)

/-- SEC_TAMPER_CLEAR: `SEC_TAMPER` (R411). -/
def execSecTamperClear (host : Nat) (bits : Word) (s : State) : Host.Outcome State Fault Refusal :=
  s.run (·.hostWrite host Reg.SEC_TAMPER bits)

/-! ### The debug port (R413–R415) -/

/-- The states in which a register write is legal (R119), a read. -/
def DState.writeOk : DState → Bool
  | .ready | .armed | .run | .degraded | .safe | .service => true
  | _ => false
def DState.readOk (s : DState) : Bool := s.writeOk || s == .lockout

/-- The SRAM regions that a host reads: capture, its ring, staging, status mirrors, ADC buffers (R12, R117). Host 4, the debug
port, reads every ring. 0: allowed, else a status. -/
def memReadStatus (h a n : Nat) : Nat :=
  let inside (lo hi : Nat) : Bool := decide (lo ≤ a) && decide (a + n ≤ hi)
  if inside 0x200000 0x240000 || inside 0x250000 0x260000 || inside 0x260000 0x260100 || inside 0x270000 0x300000 then stOk
  else if h < 4 ∧ inside (ringBase h) (ringBase h + 0x4000) then stOk
  else if inside 0x240000 0x250000 then (if 4 ≤ h then stOk else stPriv)
  else stRange

/-- The destination of a write lies in the staging region (R117). -/
def stagingOk (a n : Nat) : Bool := decide (0x250000 ≤ a) && decide (a + n ≤ 0x260000)

/-- DBG_ACCESS with the port unlocked: a register or an SRAM word read, or written. A read shifts out 4 bytes. With the port
locked it acts as `BYPASS` and is tamper source DEBUG (R413). What a host would be refused (R14, R119, R419) shifts out nothing. -/
def Dev.dbgAccess (d : Dev) (write : Bool) (a : Nat) (v : Word) : Dev :=
  if !d.rb Reg.SEC_STAT 27 then d.tapBypass.tamper 5
  else if write then
    if !d.dstate.writeOk || d.rb Reg.BIST_STAT 31 then d.tapGo 0x22 []
    else if occupied a then (let r := d.writeReg 4 a v; ({ r.1 with wstat := r.2 } : Dev).tapGo 0x22 [])
    else if stagingOk a 4 && !d.attOverlap a 4 && !d.poisonedPart a 4 then
      ((d.mwrite a (beBytes 4 v.toNat)).unpoison a 4).tapGo 0x22 []
    else d.tapGo 0x22 []
  else if !d.dstate.readOk then d.tapGo 0x22 []
  else if occupied a then
    if (ixOf a (Reg.SEC_KS 0) 4 16).isSome || d.isolated a then d.tapGo 0x22 []
    else (let r := d.readReg 4 a; r.1.tapGo 0x22 (beBytes 4 r.2.toNat))
  else if memReadStatus 4 a 4 = stOk ∧ d.bistUnit ≠ some 5 ∧ !d.poisoned a 4 then d.tapGo 0x22 (d.mread a 4)
  else d.tapGo 0x22 []

/-- DBG_ACCESS. -/
def execDbgAccess (write : Bool) (addr : Nat) (value : Word) (s : State) : Host.Outcome State Fault Refusal :=
  s.runTap (·.dbgAccess write addr value)

end Sys2Proof.Machine
end

