-- ==== Sys2Proof/Machine/Bist.lean ====
section
/-! DEFINITION. Self-test and repair (chapter 16, R417–R422; R74, R283). -/

namespace Sys2Proof.Machine

/-! ### Units (R417) -/

/-- The units of the mandatory subset, in their order. -/
def bootUnits : List Nat := [0, 1, 2, 3, 4, 5, 6, 7, 8, 9, 0xA]

/-- The units whose tests compact a signature, those whose tests find memory faults: unit 0xB is both. -/
def logicUnit (u : Nat) : Bool := [0, 1, 4, 6, 7, 0xB, 0xC, 0xD, 0xE].contains u
def memUnit (u : Nat) : Bool := [2, 3, 5, 8, 9, 0xB].contains u

/-- The signature of a logic unit that the Docent ROM holds: the spec gives no value (log entry 153). -/
def romSignature (u : Nat) : Word := BitVec.ofNat 32 (Config.freeFun 0x417 [u]).natAbs

/-- Spare rows and columns of a bank of a unit: 4 and 2 of a CE memory, 8 and 4 of each SRAM bank, 2 rows of the GI (R417). -/
def spares (u bank : Nat) (col : Bool) : Nat :=
  if u = 2 ∨ u = 3 then (if bank = 0 then (if col then 2 else 4) else 0)
  else if u = 5 then (if bank < 4 then (if col then 4 else 8) else 0)
  else if u = 0xB then (if bank = 0 && !col then 2 else 0)
  else 0

/-- The test of unit `u` has found a fault: the signature is not the one in the ROM, a word fails, or what else is tested does. -/
def bistFailed (o : BistOut) (u : Nat) : Bool :=
  ((logicUnit u || memUnit u) && o.sig != 0) || ((u == 0xA || u == 0xB) && o.found)

/-- The memory fault that the test of unit `u` has found, as the spares that its repair takes. -/
def bistLines (o : BistOut) (u : Nat) : Option (List Spare) :=
  if memUnit u && bistFailed o u then o.repair.map (fun l => l.map (fun x => ⟨u, x.1, x.2⟩)) else none

/-- The spares are there for a repair (R417). -/
def Dev.sparesFit (d : Dev) (l : List Spare) : Bool :=
  !l.isEmpty && l.all (fun x => decide ((d.sec.soft ++ d.sec.fused ++ l).count x ≤ spares x.unit x.bank x.col))

/-- The soft repair of unit `u`, when it is allowed and enough spares remain (R418). -/
def Dev.repairOf (d : Dev) (u : Nat) (repair : Bool) (o : BistOut) : List Spare :=
  match bistLines o u with
  | some l => if repair && d.sparesFit l then l else []
  | none => []

/-- The result of a test (R418, R425): 0 PASS, 1 FAIL, 2 REPAIRED, 3 NO_SPARE. -/
def Dev.bistResult (d : Dev) (u : Nat) (repair : Bool) (o : BistOut) : Nat :=
  if !bistFailed o u then 0
  else if (bistLines o u).isNone || !repair then 1
  else if (d.repairOf u repair o).isEmpty then 3
  else if o.retestOk then 2 else 1

/-- The registers of unit `u` after a test, the soft repair it brought, and the health test of the entropy source. -/
def Dev.bistStore (d : Dev) (u : Nat) (repair : Bool) (o : BistOut) : Dev :=
  let r := d.bistResult u repair o
  let l := d.repairOf u repair o
  let d := d.secMod (fun s => { s with soft := s.soft ++ l })
  let d := (d.wf (Reg.BIST_U_RES u) 28 4 r).wsat (Reg.BIST_U_RES u) 0 16
  let d := d.rset (Reg.BIST_U_SIG u) (if logicUnit u then romSignature u ^^^ o.sig else o.sig)
  let d := (d.rset (Reg.BIST_U_FADDR u) (o.faddr &&& 0x03FFFFFF)).wf (Reg.BIST_U_FBIT u) 0 7 o.fbit
  let d := d.wb Reg.BIST_STAT u true
  if u = 7 then d.entropy o.entOk else d

/-! ### Isolation (R419) -/

/-- The engine that a CE unit tests. -/
def ceUnit (u : Nat) : Option Nat := if u = 0 ∨ u = 2 then some 0 else if u = 1 ∨ u = 3 then some 1 else none

/-- The blocks of unit `u` are isolated. -/
def Dev.isolate (d : Dev) (u : Nat) : Dev :=
  match u with
  | 0 | 2 => (d.setCeMode 4 0).ceMod (fun c => { c with joinBad := false })
  | 1 | 3 => (d.setCeMode 3 0).ceMod (fun c => { c with joinBad := false })
  | 4 => (List.range 28).foldl Dev.ilkOff d
  | 0xB => (List.range 16).foldl (fun d c => d.swMod (12 + c) Switch.islTurnOff) d
  | 0xC => (List.range 12).foldl (fun d n => d.swMod n Switch.islTurnOff) d
  | 0xD => (({ d with boot := { d.boot with axLink := false } } : Dev).bridgesOff 0).bridgesOff 1
  | 0xE => [0, 1, 2].foldl (fun d c => (d.canDiscard c).canGo c 0) d
  | _ => d

/-! ### Reinitialisation (R420) -/

/-- The levels of the checkers whose codes `p` picks end. -/
def Dev.levelsGone (d : Dev) (p : Nat → Bool) : Dev :=
  d.flt.levels.foldl (fun d x => if p x.1 then d.lvlOff x.1 x.2 else d) d

/-- Engine `e` and the registers of the engines return to their state at commit: the image's initial state in its memories (R420). It
rejoins the pair by the copy and shadow steps, or restarts its half in split mode (R283). -/
def Dev.ceReinit (d : Dev) (e : Nat) (split : Bool) : Dev :=
  let d := (d.reload (fun a => blockOf a == 0x09)).ceMod (fun c => { c with
    lane := Vector.replicate 32 default, gen := Vector.replicate 2 default, agr := Vector.replicate 72 default
    inj := Vector.replicate 2 default, cap := none, words := []
    dec := tset c.dec e (Vector.replicate 4 CeDec.start) })
  let d := [0, 1].foldl (fun d g => d.pgApply g (d.rget (Reg.CE_PG_CFG g))) d
  let d := d.engMod e (fun _ => { (default : CeEng) with st := ceInit d.ce.graph })
  if split then d.setCeMode 1 0
  else (d.setCeMode 2 1).ceMod (fun c => { c with rejoin := some e, joinBad := false })

/-- The Registrar and the temperature block return to their state at commit; what is present at the checkers and the reports
held meanwhile reach the Registrar (R419). -/
def Dev.mgmtReinit (d : Dev) : Dev :=
  let d := d.reload (fun a => blockOf a == 0x0D || blockOf a == 0x10)
  let d := d.levelsGone (fun c => decide (0x1000 ≤ c) && decide (c < 0x1100))
  let l := d.flt.levels.map (fun x => (⟨x.1, x.2, true⟩ : Report))
  let h := d.sec.held
  (({ d with
      flt := { d.flt with recs := [] }
      therm := { busy := [], demAt := Vector.replicate 30 d.now, eff := Vector.replicate 4 0, thrAt := Vector.replicate 4 d.now }
      sec := { d.sec with held := [] } } : Dev)).reports (l ++ h)

/-- The blocks of CTRL_L return to their state at commit, the ADC assembler with its settings and buffers among them; `SVC_REQ` stays
(R348). -/
def Dev.ctrlReinit (d : Dev) : Dev :=
  let svc := d.rb Reg.SAFE_FLAGS 8
  let d := d.levelsGone (fun c => [0x04, 0x07, 0x0A, 0x0B, 0x0C].contains (c / 256))
  let d := (d.clearCtrl).reload (fun a => [0x04, 0x07, 0x08, 0x0A, 0x0B, 0x0C, 0x12].contains (blockOf a) ||
    (decide (Reg.ADC_RECON ≤ a) && decide (a < Reg.ADC_SARSCAN)))
  (d.startCtrl).wb Reg.SAFE_FLAGS 8 svc

/-- The host fronts and the CAN controllers return to their state at commit; controllers in use join the bus (R385). -/
def Dev.hostReinit (d : Dev) : Dev :=
  let d := d.levelsGone (fun c => c / 256 == 0x0E)
  let d := d.reload (fun a => blockOf a == 0x0E)
  let d := { d with can := Vector.replicate 3 default, cport := Vector.replicate 2 default }
  let d := [0, 1, 2, 3].foldl (fun d h =>
    (((d.rset (Reg.HOST_ERR h) 0).rset (Reg.HOST_IRQEN h) 0).rset (Reg.HOST_IRQ h) 0).hpMod h
      (fun p => { p with reply := none, old := none, miso := [] })) d
  [0, 1, 2].foldl Dev.canJoin d

/-- The registers of an address range return to their values at commit. -/
def Dev.rangeReload (d : Dev) (lo hi : Nat) : Dev := d.reload (fun a => decide (lo ≤ a) && decide (a < hi))

/-- What an island shows again after its registers have returned: the supply flags that it holds, the state of its lane. -/
def Dev.islShow (d : Dev) (isl : Nat) : Dev :=
  (if isl < 12 then [0, 1, 2, 3, 4, 5] else [0, 1, 2, 3]).foldl (fun d m => d.wb (supReg isl) (supBit m) (tget (tget d.sup isl) m)) d
def Dev.laneShow (d : Dev) (lane : Nat) : Dev := (d.linkFlags lane (d.laneUp lane) (d.lnk lane).cdLost).linkRetrain lane

/-- The ground island returns: its registers, its converters and their registers, and its link (R419, R420). -/
def Dev.giReinit (d : Dev) : Dev :=
  let d := (d.rangeReload 0x050000 (Reg.ISL_H_SEG 0 0)).rangeReload (Reg.ADC_CFG 0) Reg.ADC_RECON
  let d := { d with conv := d.conv.map (fun (c : Conv) =>
    { (default : Conv) with set := c.set, inv := c.inv, ready := c.ready, winT := c.winT, setT := c.setT }) }
  (((d.wf Reg.ADC_CTRL 0 4 d.img.adcGo).islShow 12).laneShow 12).laneShow 13

/-- The high-side islands of the topology return (R419, R420). -/
def Dev.hiReinit (d : Dev) : Dev :=
  let d := d.rangeReload (Reg.ISL_H_SEG 0 0) (Reg.ADC_CFG 0)
  d.islandsNeeded.foldl (fun d n => (d.islShow n).laneShow n) d

/-- The blocks of unit `u` are reinitialised. -/
def Dev.reinit (d : Dev) (u : Nat) (split : Bool) : Dev :=
  match ceUnit u with
  | some e => d.ceReinit e split
  | none =>
    match u with
    | 4 => d.ctrlReinit
    | 6 => d.mgmtReinit
    | 0xA => { d.rangeReload Reg.ADC_SARSCAN (Reg.ADC_SAR_D 2 0) with sar := Vector.replicate 2 default }
    | 0xB => d.giReinit
    | 0xC => d.hiReinit
    | 0xD => { d with boot := { d.boot with axLink := true } }
    | 0xE => d.hostReinit
    | _ => d

/-! ### A run (R418) -/

/-- A link that the unit needs is not trained. -/
def Dev.noLink (d : Dev) (u : Nat) : Bool :=
  match u with
  | 0xB => !d.laneUp 12 || !d.laneUp 13
  | 0xC => (List.range 12).any (fun n => d.inTopo (n / 3) && !d.laneUp n)
  | 0xD => !d.boot.axLink
  | _ => false

/-- The key store is cleared at the start of a unit (R403): a derivation and a signature under way end with it. -/
def Dev.bistKeyClear (d : Dev) : Dev :=
  let d := if d.sec.att.isSome then d.attZero.attEnd 2 stState else d
  d.secMod (fun s => { s with key := none, deriv := false })

/-- The run ends: the key is derived again if a unit cleared it, and the completion is written. -/
def Dev.bistEnd (d : Dev) (r : BistRun) : Dev :=
  let d := ((d.wb Reg.BIST_STAT 31 false).wf Reg.BIST_STAT 24 4 0).secMod (fun s => { s with bist := none })
  let d := if r.ran = 0 then d else d.deriveStart
  d.completeRun (fun c => c.op == 0x42) stOk
    (beBytes 2 r.ran ++ beBytes 2 r.bad ++ beBytes 2 (min 65535 ((d.now - r.start) / msTicks)))

/-- The next unit starts; one without its links reads NO_LINK and is passed over. -/
def Dev.bistNext (d : Dev) (r : BistRun) : List Nat → Dev
  | [] => d.bistEnd { r with todo := [] }
  | u :: l =>
    if d.noLink u then
      ((d.wf (Reg.BIST_U_RES u) 28 4 4)).bistNext { r with bad := r.bad + 2 ^ u } l
    else
      let d := (d.bistKeyClear).wf Reg.BIST_STAT 24 4 u
      let d := d.secMod (fun s => { s with bist := some { r with todo := u :: l } })
      d.isolate u

/-- `BIST_RUN` takes effect: the units of a mask are run in rising order. -/
def Dev.bistStart (d : Dev) (mask : Nat) (repair : Bool) : Dev :=
  let d := d.wb Reg.BIST_STAT 31 true
  d.bistNext ⟨[], repair, 0, 0, d.now, d.ceMode == 1⟩ ((List.range 15).filter (fun u => mask / 2 ^ u % 2 == 1))

/-- BIST_UNIT_COMPLETE: the unit under test ends (R418): fault 0x0F01 unless it passed; event 0x05 once its blocks have returned. -/
def Dev.bistUnitEnd (d : Dev) (o : BistOut) : Dev :=
  match d.sec.bist with
  | none => d
  | some r =>
    match r.todo with
    | [] => d
    | u :: l =>
      let pass := d.bistResult u r.repair o == 0
      let d := (d.bistStore u r.repair o).occIf (!pass) 0x0F01 u
      ((d.reinit u r.split).ev 0x05).bistNext { r with ran := r.ran + 2 ^ u, bad := r.bad + (if pass then 0 else 2 ^ u) } l

/-- BIST_UNIT_COMPLETE. -/
def execBistUnitComplete (out : BistOut) (s : State) : Host.Outcome State Fault Refusal := s.run (·.bistUnitEnd out)

/-! ### The mandatory subset (R74, R421) -/

/-- MANDATORY_BIST_END: the results of units 0–0xA, soft repair applied by itself; LOCKOUT, or the islands step. -/
def Dev.bootBist (d : Dev) (outs : List BistOut) : Dev :=
  if d.dstate ≠ .imageCheck ∨ d.rf Reg.IMG_STATUS 16 4 ≠ 5 then d
  else
    let runs := bootUnits.zip outs
    let res (d : Dev) : Nat → Nat := fun u => d.rf (Reg.BIST_U_RES u) 28 4
    let d := runs.foldl (fun d x => (d.bistStore x.1 true x.2).ev 0x05) d
    if runs.any (fun x => res d x.1 == 1 || res d x.1 == 3) then d.raise 0x0F03 0
    else
      let d := d.occIf (runs.any (fun x => res d x.1 == 2)) 0x0F02 0
      d.islandsStart

/-- MANDATORY_BIST_END. -/
def execMandatoryBistEnd (outs : List BistOut) (s : State) : Host.Outcome State Fault Refusal := s.run (·.bootBist outs)

/-! ### Fused repair (R421, R422) -/

/-- Result bytes of a `REPAIR_FUSE`: unit, entries programmed, entries left, code. -/
def Dev.fuseBytes (d : Dev) (u n code : Nat) : List Byte :=
  [BitVec.ofNat 8 u, BitVec.ofNat 8 n, BitVec.ofNat 8 (64 - d.fusesUsed), BitVec.ofNat 8 code]

/-- `REPAIR_FUSE` takes effect: programming starts, or ends at once with NOTHING or FULL. -/
def Dev.fuseStart (d : Dev) (c : Cmd) : Dev :=
  let u := beAt c.payload 0 1
  let n := (inUse d.sec.soft u).length
  if n = 0 then d.finish c stState (d.fuseBytes u 0 1)
  else if 64 < d.fusesUsed + n then d.finish c stState (d.fuseBytes u 0 2)
  else (d.secMod (fun s => { s with fuseRun := some u })).startCmd c

/-- REPAIR_PROGRAM_END: `n` entries of the unit have been programmed; `ok`: every soft repair of it, verified. -/
def Dev.fuseEnd (d : Dev) (ok : Bool) (n : Nat) : Dev :=
  match d.sec.fuseRun with
  | none => d
  | some u =>
    let all := inUse d.sec.soft u
    let n := if ok then all.length else min n all.length
    let soft := d.sec.soft.filter (fun x => x.unit != u) ++ all.drop n
    let d := d.secMod (fun s => { s with fuseRun := none, soft := soft, fused := s.fused ++ all.take n })
    if ok then
      ({ d with boot := { d.boot with resetDue := true } } : Dev).completeRun (fun c => c.op == 0x43) stOk (d.fuseBytes u n 0)
    else (d.occ 0x0F04 0).completeRun (fun c => c.op == 0x43) stCrc (d.fuseBytes u n 3)

/-- REPAIR_PROGRAM_END. -/
def execRepairProgramEnd (ok : Bool) (n : Nat) (s : State) : Host.Outcome State Fault Refusal := s.run (·.fuseEnd ok n)

end Sys2Proof.Machine
end

