-- ==== Sys2Proof/Machine/Checks.lean ====
section
/-! DEFINITION. Checks 5–13 of a host frame (R97) with the legality matrix (R119), for a frame whose bytes are sound. -/

namespace Sys2Proof.Machine

/-! ### Opcodes (R117) -/

/-- The direct opcodes, the ticketed ones. -/
def directOps : List Nat := [0x01, 0x02, 0x03, 0x04, 0x05, 0x06, 0x07, 0x10]
def ticketedOps : List Nat :=
  [0x11, 0x12, 0x20, 0x21, 0x22, 0x23, 0x24, 0x25, 0x26, 0x27, 0x28, 0x29, 0x2A, 0x30, 0x31, 0x32, 0x33, 0x34, 0x35,
   0x40, 0x41, 0x42, 0x43, 0x44, 0x45, 0x46, 0x47, 0x48, 0x49]
def ticketed (op : Nat) : Bool := ticketedOps.contains op
def known (op : Nat) : Bool := directOps.contains op || ticketed op

/-- Largest declared length of a port (R93). -/
def maxLen (p : Nat) : Nat := if p < 2 then 4096 else 52

/-- Largest reply payload of a port (R99). -/
def maxReply (p : Nat) : Nat := if p < 2 then 4096 else 40

/-- The promise class that a frame requests. -/
def Req.cls (r : Req) : Nat := r.flags % 4

/-- Pair `k` of a `REG_WRITE`: address and value; the number of pairs. -/
def pairAt (pl : List Byte) (k : Nat) : Nat × Word := (beAt pl (8 * k) 4, BitVec.ofNat 32 (beAt pl (8 * k + 4) 4))
def pairs (pl : List Byte) : List (Nat × Word) := (List.range (pl.length / 8)).map (pairAt pl)

/-! ### Axes as the matrix sees them (R297) -/

/-- The state of an axis, an aux axis counting as a traction axis (R297). -/
def Dev.axisAs (d : Dev) (x : Nat) : AState :=
  if x < 4 then d.axOf x
  else match d.auxState (x - 4) with
    | 0 => .idle | 1 => .enabled | 2 => .driving | 3 => .stopping | 4 => .driving | _ => .asc

/-- Ownership of the axis is promised away: an `OWN_TAKE` of another host is in flight (R104). -/
def Dev.barred (d : Dev) (h x : Nat) : Bool :=
  d.hosts.cmds.any (fun c => c.op == 0x29 && c.target == x && c.id.host != h)

/-- Host `h` owns axis `x` and is not barred from it. -/
def Dev.commands (d : Dev) (h x : Nat) : Bool := d.owner x == h && !d.barred h x

/-- The heartbeat of the owner of the axis has expired (R105, R106). -/
def Dev.ownerSilent (d : Dev) (x : Nat) : Bool := decide (d.owner x < 4) && d.rb (Reg.HOST_HB (d.owner x)) 31

/-! ### Check 9: privilege and ownership -/

/-- The registers of a `REG_READ` and of a `REG_WRITE`. -/
def readAddrs (pl : List Byte) : List Nat := (List.range (beAt pl 3 1)).map (fun i => beAt pl 0 3 + 4 * i)

/-- Host `h` may send a pair of a `REG_WRITE`: an address without a register is judged by check 11. The bar of R104 is one on axis
commands: the owner writes the axis's registers until the move (R440). -/
def Dev.pairPriv (d : Dev) (h a : Nat) : Bool := !occupied a || d.mayWrite h a

/-- A key register of the SEC block (R103). -/
def keyReg (a : Nat) : Bool := (ixOf a (Reg.SEC_KS 0) 4 16).isSome

/-- The privilege that an opcode needs (R101, R102, R119). A payload too short to say what it concerns is left to check 10. -/
def Dev.privOk (d : Dev) (r : Req) : Bool :=
  let h := r.port
  let pl := r.payload
  let own := decide (5 < r.target) || d.commands h r.target
  match r.op with
  | 0x06 => pl.length != 6 || memReadStatus h (beAt pl 0 3) (beAt pl 4 2) != stPriv
  | 0x10 => pl.length != 4 || !(readAddrs pl).any keyReg
  | 0x11 => pl.length % 8 != 0 || (pairs pl).all (fun p => d.pairPriv h p.1)
  | 0x12 => decide (pl.length < 4) || stagingOk (beAt pl 0 3) (pl.length - 4)
  | 0x20 | 0x21 | 0x27 | 0x34 => d.privArm h
  | 0x22 | 0x23 | 0x24 | 0x25 | 0x26 | 0x28 => own
  | 0x29 => decide (5 < r.target) || d.inAxisSet h r.target
  | 0x2A => d.privTakeover h && (decide (5 < r.target) || d.inAxisSet h r.target)
  | 0x31 => d.privInject h || d.dstate == .service || d.dstate == .lockout
  | 0x40 | 0x41 | 0x42 | 0x43 | 0x44 | 0x45 | 0x46 | 0x47 | 0x48 => d.privService h
  | _ => true

/-! ### Check 10: length -/

/-- The payload length that an opcode takes (R117, R286). -/
def lenOk (op : Nat) (pl : List Byte) : Bool :=
  let n := pl.length
  match op with
  | 0x04 | 0x07 | 0x30 | 0x42 => n == 2
  | 0x05 | 0x10 | 0x31 | 0x43 => n == 4
  | 0x06 => n == 6
  | 0x11 => n % 8 == 0 && decide (8 ≤ n) && decide (n ≤ 512)
  | 0x12 => decide (8 ≤ n) && decide (n ≤ 4096)
  | 0x25 => n % 8 == 0 && decide (8 ≤ n) && decide (n ≤ 64)
  | 0x28 | 0x32 | 0x34 | 0x35 => n == 1
  | 0x33 =>
    let s := beAt pl 0 1
    if s = 0 then n == 4 else decide (s ≤ 8) && n == 16 + 6 * s
  | 0x44 => n == 12
  | 0x49 => decide (4 ≤ n) && decide (n ≤ 64)
  | _ => n == 0

/-! ### Check 11: parameters, target and class -/

/-- The promise classes that an opcode allows (R117). -/
def classOk (op c : Nat) : Bool :=
  match op with
  | 0x11 | 0x22 | 0x23 | 0x24 | 0x26 | 0x29 | 0x2A => true
  | 0x25 => decide (c ≤ 1)
  | 0x12 | 0x20 | 0x21 | 0x27 | 0x28 | 0x30 | 0x31 | 0x32 | 0x33 | 0x40 | 0x41 => decide (1 ≤ c)
  | 0x34 | 0x35 => decide (2 ≤ c)
  | 0x42 | 0x43 | 0x44 | 0x45 | 0x46 | 0x47 | 0x48 | 0x49 => c == 3
  | _ => true

/-- The target that an opcode needs (R97). -/
def targetOk (op t : Nat) : Bool :=
  match op with
  | 0x22 | 0x23 | 0x24 | 0x25 | 0x28 | 0x29 | 0x2A => decide (t ≤ 5)
  | 0x26 | 0x07 => decide (t ≤ 3)
  | 0x34 => t == 0xF
  | _ => true

/-- The lane of a `SETPOINT` entry: enabled, assigned to the target axis, of source HOST (R268). -/
def Dev.spLaneOk (d : Dev) (x l : Nat) : Bool :=
  decide (l < 32) && d.rb (Reg.CE_LANE_CFG l) 31 && d.laneAxis l == x && d.rf (Reg.CE_LANE_CFG l) 24 4 == 0

/-- The lanes and values of a `SETPOINT`. -/
def spLanes (pl : List Byte) : List (Nat × Word) :=
  (List.range (pl.length / 8)).map (fun k => (beAt pl (8 * k) 1, BitVec.ofNat 32 (beAt pl (8 * k + 4) 4)))

/-- The signals of a `CE_CAPTURE`. -/
def capSigs (pl : List Byte) : List CapSig :=
  (List.range (beAt pl 0 1)).map (fun s =>
    let w := beAt pl (16 + 6 * s) 2
    ⟨w / 32768, w % 512, beAt pl (18 + 6 * s) 1, beAt pl (19 + 6 * s) 1 == 1⟩)

/-- One signal of a `CE_CAPTURE` keeps its rules. -/
def capSigOk (pl : List Byte) (s : Nat) : Bool :=
  decide (beAt pl (16 + 6 * s) 2 / 512 % 64 = 0) && decide (beAt pl (18 + 6 * s) 1 ≤ 2) && decide (beAt pl (19 + 6 * s) 1 ≤ 1) &&
    decide (beAt pl (20 + 6 * s) 2 = 0)

/-- The fields of a `CE_CAPTURE` (R286). -/
def Dev.captureOk (d : Dev) (pl : List Byte) : Bool :=
  let n := beAt pl 4 4
  beAt pl 0 1 == 0 ||
  (d.sinkRouted 8 (beAt pl 2 1) && decide (beAt pl 3 1 ≤ 1) && decide (1 ≤ n) && decide (n ≤ 65536) && decide (beAt pl 8 4 < n) &&
    beAt pl 12 4 == 0 && (List.range (beAt pl 0 1)).all (capSigOk pl) && decide (capSize (capSigs pl) * n ≤ 262144))

/-- The number of sources that a checker serves, where a rule numbers them: tamper sources, GI channels and phases, the two engines, CAN
objects, BIST units, temperature sources (R409, R190, R196, R288, R391, R418, R431). -/
def checkerSources (code : Nat) : Option Nat :=
  if code = 0x0210 then some 6
  else if code = 0x0508 ∨ code = 0x050A ∨ code = 0x050B then some 16
  else if code = 0x0509 then some 12
  else if code / 256 = 0x09 then some 2
  else if code = 0x0E05 ∨ code = 0x0E15 ∨ code = 0x0E25 then some 64
  else if code = 0x0F01 then some 15
  else if 0x1001 ≤ code ∧ code ≤ 0x1004 then some 38
  else none

/-- The checkers of these codes serve several places that no rule numbers: SRAM words (R14), bridges, coils and bootstraps of an aux
axis (R294, R295), BIST units at start-up and repair (R74, R422), preserve words (R435, R436). -/
def placesUnnumbered (code : Nat) : Bool :=
  [0x0010, 0x0011, 0x0A01, 0x0A02, 0x0A03, 0x0A04, 0x0A11, 0x0A12, 0x0A13, 0x0A14, 0x0F02, 0x0F03, 0x0F04, 0x1101, 0x1102, 0x1103].contains code

/-- The source field of a `FLT_INJ` fits its code (R371): the number of a source of the checker, and 0xFF where it has one only. Where
the spec does not number the places of a checker, an uninterpreted rule (log entry 54). -/
def sourceOk (code src : Nat) : Bool :=
  match checkerSources code with
  | some n => decide (src < n)
  | none => if placesUnnumbered code then Config.freeFun 0x371 [code, src] != 0 else src == 0xFF

/-- Code, source and length of a `FLT_INJ` (R371). -/
def Dev.injFieldsOk (d : Dev) (pl : List Byte) : Bool :=
  let code := beAt pl 0 2
  (slotOf code).isSome && d.mapClass code != 4 && decide (1 ≤ beAt pl 3 1) && sourceOk code (beAt pl 2 1)

/-- Offsets and length of an `IMG_WRITE` (R89): `so` into staging, `fo` into the slot. -/
def imgWriteOk (pl : List Byte) : Bool :=
  let so := beAt pl 0 4
  let fo := beAt pl 4 4
  let n := beAt pl 8 4
  decide (4096 ≤ n) && decide (n ≤ 65536) && n % 4096 == 0 && so % 4096 == 0 && fo % 4096 == 0 &&
    decide (so + n ≤ 65536) && decide (fo + n ≤ 4194304)

/-- The parameters of an opcode, target and class apart. A `VIT_READ` or `REG_READ` whose reply does not fit into 40 bytes on ports C and
D is refused like such a `MEM_READ`: DESIGN CHOICE (log entry 116). -/
def Dev.paramsOk (d : Dev) (r : Req) : Bool :=
  let pl := r.payload
  let p := r.port
  match r.op with
  | 0x05 => decide (beAt pl 0 2 ≤ (d.hp p).recs.length) && decide (beAt pl 2 2 ≤ if p < 2 then 128 else 1)
  | 0x06 => decide (1 ≤ beAt pl 4 2) && decide (beAt pl 4 2 ≤ maxReply p) && memReadStatus p (beAt pl 0 3) (beAt pl 4 2) == stOk
  | 0x07 => decide (beAt pl 0 1 ≤ 15) && decide (1 ≤ beAt pl 1 1) && decide (beAt pl 0 1 + beAt pl 1 1 ≤ 16) &&
      decide (4 * beAt pl 1 1 ≤ maxReply p)
  | 0x10 => decide (1 ≤ beAt pl 3 1) && decide (beAt pl 3 1 ≤ 64) && decide (4 * beAt pl 3 1 ≤ maxReply p) &&
      (readAddrs pl).all occupied
  | 0x11 => (pairs pl).all (fun x => occupied x.1)
  | 0x25 => (spLanes pl).all (fun x => d.spLaneOk r.target x.1)
  | 0x28 => beAt pl 0 1 == 0 || (decide (beAt pl 0 1 ≤ 4) && d.inAxisSet (beAt pl 0 1 - 1) r.target)
  | 0x30 => beAt pl 0 2 == 0xFFFF || (slotOf (beAt pl 0 2)).isSome
  | 0x31 => d.injFieldsOk pl
  | 0x32 => decide (beAt pl 0 1 ≤ 29)
  | 0x33 => d.captureOk pl
  | 0x34 => d.rb Reg.CE_CFG 31 && decide (beAt pl 0 1 ≤ 1)
  | 0x35 => decide (beAt pl 0 1 ≤ 3)
  | 0x42 => decide (beAt pl 0 2 % 32768 ≠ 0)
  | 0x43 => [2, 3, 5, 0xB].contains (beAt pl 0 1) && beAt pl 1 3 == 0
  | 0x44 => imgWriteOk pl
  | _ => true

/-! ### Check 12: the legality matrix (R119) -/

/-- What `ARM` needs of links and diagnostics (R25). -/
def Dev.armReady (d : Dev) : Bool :=
  (12 :: 13 :: (List.range 12).filter (fun n => d.inTopo (n / 3))).all (fun l => (d.lnk l).trained && !(d.lnk l).cdLost) &&
    (List.range 4).all (fun a => !d.inTopo a || (d.diagOf a).passed)

/-- The device and axis states in which the matrix allows an opcode with a target. -/
def Dev.legal (d : Dev) (op x : Nat) : Bool :=
  let st := d.dstate
  match op with
  | 0x01 | 0x05 | 0x06 | 0x07 | 0x10 => st.readOk
  | 0x02 | 0x03 | 0x04 => st.readOk || st == .imageCheck || st == .boot
  | 0x20 => st == .ready && d.armReady
  | 0x21 => st == .armed && d.allIdle
  | 0x22 => (st == .armed || st == .run) && d.axisAs x == .idle && (decide (4 ≤ x) || (d.diagOf x).passed) && !d.pathTest
  | 0x23 => (st == .run || st == .degraded) && d.axisAs x == .enabled
  | 0x24 => (st == .run || st == .degraded) && d.axisAs x == .driving
  | 0x25 => (st == .run || st == .degraded) && (d.axisAs x == .enabled || d.axisAs x == .driving)
  | 0x26 => (st == .ready || st == .armed) && d.axisAs x == .idle
  | 0x27 => st == .armed || st == .run || st == .degraded
  | 0x34 => st == .armed || st == .run
  | 0x35 => (st == .ready || st == .armed || st == .service) && d.allIdle
  | 0x40 => (st == .ready || st == .safe) && d.allIdle
  | 0x41 | 0x42 | 0x43 | 0x44 | 0x45 => st == .service && d.allIdle
  | 0x46 => st == .service && d.allIdle && d.boot.verified
  | 0x47 | 0x48 => st == .service && d.allIdle && d.rb Reg.IMG_ACTIVE 1
  | _ => st.writeOk

/-- Check 12: the matrix; the offer of R104 and the silence of R105; no ticketed command during a BIST run, and no access to what a
unit under test isolates (R419). -/
def Dev.stateOk (d : Dev) (r : Req) : Bool :=
  d.legal r.op r.target &&
  (match r.op with
   | 0x29 => d.offer r.target == r.port && !d.offerOver r.target
   | 0x2A => d.ownerSilent r.target
   | 0x05 | 0x06 | 0x07 => d.bistUnit != some 5
   | 0x10 => !(readAddrs r.payload).any d.isolated
   | _ => true) &&
  !(ticketed r.op && d.rb Reg.BIST_STAT 31)

/-! ### Checks 5–13 -/

/-- The device state lets check 8 pass. -/
def Dev.ready8 (d : Dev) (op : Nat) : Bool := d.dstate.readOk || op == 0x02 || op == 0x03 || op == 0x04

/-- The first of checks 5–13 that fails, as its status; OK when none does (R97). -/
def Dev.verdict (d : Dev) (r : Req) : Nat :=
  if r.host ≠ r.port + 1 then stPriv
  else if 16 ≤ r.flags ∨ (r.port = 3 ∧ r.flags / 8 % 2 = 0) ∨ !(decide (r.target ≤ 5) || r.target == 0xF) then stRange
  else if !known r.op then stUnknown
  else if !d.ready8 r.op then stNotReady
  else if !d.privOk r then stPriv
  else if !lenOk r.op r.payload then stLen
  else if !(classOk r.op r.cls && targetOk r.op r.target && d.paramsOk r) then stRange
  else if !d.stateOk r then stState
  else if ticketed r.op && d.labelHeld r.port r.ticket then stSeq
  else stOk

/-- Info byte of a reply (R99), admission apart. -/
def Dev.infoOf (d : Dev) (st : Nat) : Nat :=
  if st = stNotReady then d.remain else if st = stState then d.dstate.code else 0

end Sys2Proof.Machine
end

