-- ==== Sys2Proof/Machine/Admission.lean ====
section
/-! DEFINITION. Admission of ticketed commands: commit points, the Docent lane, the preserve lane (R107–R110, R281). -/

namespace Sys2Proof.Machine

/-! ### Periods and commit points (R108, R109) -/

/-- The period register of the timebase whose boundaries are the commit points of axis `x` (0–3, 4 X, 5 Y). -/
def Dev.perReg (d : Dev) (x : Nat) : Nat := if x < 4 then Reg.PWM_PER (d.leader x) else Reg.PWM_C_PER x

/-- Period in effect, tick of the latest boundary, of the timebase of axis `x`. -/
def Dev.cpPeriod (d : Dev) (x : Nat) : Nat := d.rf (d.perReg x) 0 24
def Dev.cpLast (d : Dev) (x : Nat) : Nat := if x < 4 then (d.pw (d.leader x)).lastB else (tget d.chan x).lastB

/-- The periods staged or booked for the timebase of axis `x` through the commit port. -/
def Dev.futurePeriods (d : Dev) (x : Nat) : List Nat :=
  let reg := d.perReg x
  let st := if x < 4 then (d.pw (d.leader x)).per else (tget d.chan x).perSt
  let staged := match st with | some v => [fget v 0 24] | none => []
  let port := d.port.filterMap (fun e => if e.addr = reg then some (fget e.val 0 24) else none)
  let cmds := d.hosts.cmds.flatMap (fun c => c.groups.flatMap (fun g => g.pairs.filterMap (fun k =>
    let p := pairAt c.payload k
    if c.op = 0x11 ∧ p.1 = reg then some (fget p.2 0 24) else none)))
  staged ++ port ++ cmds

/-- period[a] of R109: the longest spacing of boundaries up to a booked point. -/
def Dev.period (d : Dev) (x : Nat) : Nat := (d.futurePeriods x).foldl max (d.cpPeriod x)

/-- Ticks to the next boundary by the period in effect. -/
def Dev.toBoundary (d : Dev) (x : Nat) : Nat := d.cpPeriod x - d.ctrTick (d.cpLast x) (d.cpPeriod x)

/-- The first commit point of axis `x` at least 1 µs away: boundaries to come, and its latest time. -/
def Dev.firstCp (d : Dev) (x : Nat) : Nat × Nat :=
  let t := d.toBoundary x
  if usTicks ≤ t then (1, d.now + t) else (2, d.now + t + d.period x)

/-- Entries booked at the commit point of axis `x` that is `left` boundaries away. -/
def Dev.booked (d : Dev) (x left : Nat) : Nat :=
  (d.hosts.cmds.flatMap (fun c => c.groups)).foldl (fun n g => if g.axis = x ∧ g.left = left then n + g.entries else n) 0

/-- A commit point with room for `n` entries. -/
def Dev.roomAt (d : Dev) (x left n : Nat) : Bool := decide (d.booked x left + n ≤ 32)

/-- From the commit point (`left`, time), the first with room for `n` entries not after the deadline; 192 tickets fill fewer
than 1,200 points. -/
def Dev.findCp (d : Dev) (x n dl : Nat) : Nat → Nat × Nat → Option (Nat × Nat)
  | 0, _ => none
  | k + 1, (left, t) =>
    if dl < t then none
    else if d.roomAt x left n then some (left, t)
    else d.findCp x n dl k (left + 1, t + d.period x)

/-- The class limit in ticks; under PC0 that of a command without a commit point: a period of the target's axis and 2 µs (R108).
The device and every `REG_WRITE` use axis 0. -/
def Dev.classLimit (d : Dev) (r : Req) : Nat :=
  match r.cls with
  | 0 => d.period (if r.op = 0x11 ∨ 5 < r.target then 0 else r.target) + 800
  | 1 => 100 * usTicks
  | 2 => 2 * msTicks
  | _ => 50 * msTicks

/-- The promise of a group of axis `x` (R108, R110). -/
def Dev.groupPromise (d : Dev) (r : Req) (x : Nat) : Nat :=
  d.now + (if r.cls = 0 then d.period x + 800 else d.classLimit r)

/-- One group books a commit point of axis `x` for `n` entries: the failing test of R109 (2 COMMIT_SLOTS, 3 COMMIT_TIME), or the
point. -/
def Dev.bookCp (d : Dev) (r : Req) (x n : Nat) : Nat ⊕ (Nat × Nat) :=
  let cp := d.firstCp x
  if r.cls = 0 then (if d.roomAt x cp.1 n then .inr cp else .inl 2)
  else match d.findCp x n (d.now + d.classLimit r) 2048 cp with
    | some cp => .inr cp
    | none => .inl 3

/-- From the commit point (`left`, time) of axis `x`, the first with room that falls on a boundary of axis `y` (R281). -/
def Dev.findCommon (d : Dev) (x y dl : Nat) : Nat → Nat × Nat → Option (Nat × Nat)
  | 0, _ => none
  | k + 1, (left, t) =>
    if dl < t then none
    else if d.cpPeriod y ≠ 0 ∧ (t - d.cpLast y) % d.cpPeriod y = 0 ∧ d.roomAt x left 1 then some (left, t)
    else d.findCommon x y dl k (left + 1, t + d.cpPeriod x)

/-! ### What a command books -/

/-- How a pair of a `REG_WRITE` is handled (R110). -/
inductive PairKind where
  | group (axis : Nat) | pres (word : Nat) | doc
  deriving DecidableEq, Repr

/-- The kind of a pair: a write of the staged kind, of a preserve word, or Docent work; a preserve word of the device's own is
ignored (R434), and a staged register that the image has locked is refused as Docent work (R85, R439). -/
def Dev.pairKind (d : Dev) (p : Nat × Word) : PairKind :=
  match rowAt p.1 with
  | some r =>
    match r.access with
    | .rws => if d.locked p.1 r then .doc else .group (d.commitAxis p.1 p.2)
    | .prs => if ownWordRange ((p.1 - Reg.PRES_W 0) / 4) then .doc else .pres ((p.1 - Reg.PRES_W 0) / 4)
    | _ => .doc
  | none => .doc

/-- Indices of the pairs whose kind `p` picks. -/
def Dev.pairsOf (d : Dev) (pl : List Byte) (p : PairKind → Bool) : List Nat :=
  (List.range (pl.length / 8)).filter (fun k => p (d.pairKind (pairAt pl k)))

/-- An axis command takes effect at a commit point of its axis (R28, R104, R105, R268). -/
def atCommitPoint (op : Nat) : Bool := [0x22, 0x23, 0x24, 0x25, 0x26, 0x29, 0x2A].contains op

/-- The groups that a command books, with the number of their entries (R109, R110). -/
def Dev.wants (d : Dev) (r : Req) : List (Nat × List Nat) :=
  if atCommitPoint r.op then [(r.target, [])]
  else if r.op = 0x11 then
    (List.range 6).filterMap (fun x =>
      let ks := d.pairsOf r.payload (fun k => k == .group x)
      if ks.isEmpty then none else some (x, ks))
  else []

/-- Every group books its commit point, or the first failing test. -/
def Dev.bookAll (d : Dev) (r : Req) : List (Nat × List Nat) → Nat ⊕ (List (CmdGroup × Nat))
  | [] => .inr []
  | (x, ks) :: l =>
    let n := max 1 ks.length
    match d.bookCp r x n with
    | .inl i => .inl i
    | .inr (left, t) =>
      match d.bookAll r l with
      | .inl i => .inl i
      | .inr gs => .inr ((⟨x, left, n, ks, d.groupPromise r x⟩, t) :: gs)

/-- What a command books: `CE_MODE` a common boundary of the reference axes (R281), every other one its groups. -/
def Dev.bookings (d : Dev) (r : Req) : Nat ⊕ (List (CmdGroup × Nat)) :=
  if r.op = 0x34 then
    let x := d.rf Reg.CE_CFG 4 2
    let y := d.rf Reg.CE_CFG 8 2
    match d.findCommon x y (d.now + d.classLimit r) 8192 (d.firstCp x) with
    | some (left, t) => .inr [(⟨x, left, 1, [], d.groupPromise r x⟩, t)]
    | none => .inl 3
  else d.bookAll r (d.wants r)

/-! ### The lanes (R109) -/

/-- Docent work of a command in ticks. -/
def workOf (op : Nat) (pl : List Byte) : Nat :=
  match op with
  | 0x11 => 400 + 100 * (pl.length / 8)
  | 0x12 => 400 + 400 * ((pl.length - 4 + 255) / 256)
  | _ => 2000

/-- Docent work outstanding with lane deadlines up to `t`. -/
def Dev.laneWork (d : Dev) (t : Nat) : Nat :=
  d.hosts.cmds.foldl (fun n c => if c.phase = .lane ∧ c.laneDl ≤ t then n + c.work else n) 0

/-- The Docent lane takes `work` more by lane deadline `dl`. -/
def Dev.docentFits (d : Dev) (dl work : Nat) : Bool :=
  let more := d.hosts.cmds.filterMap (fun c => if c.phase = .lane ∧ dl ≤ c.laneDl then some c.laneDl else none)
  (dl :: more).all (fun t => decide (2 * (d.laneWork t + work) + 4000 ≤ t - d.now))

/-- Ticks that the preserve lane needs for one word (R109, R435). -/
def wordTicks : Nat := 16000

/-- What remains of the program under way, by the deadline of its word. -/
def Dev.presCurLeft (d : Dev) (t : Nat) : Nat :=
  match d.prs.cur with
  | some w => if w.deadline ≤ t then wordTicks - (d.now - d.prs.curAt) else 0
  | none => 0

/-- Preserve work outstanding with deadlines up to `t`. -/
def Dev.presLeft (d : Dev) (t : Nat) : Nat :=
  d.presCurLeft t + wordTicks * (d.prs.pend.filter (fun w => decide (w.deadline ≤ t))).length

/-- The preserve lane takes `n` words more by deadline `dl`. -/
def Dev.presFits (d : Dev) (dl n : Nat) : Bool :=
  let more := (d.prs.pend.map (·.deadline) ++ (match d.prs.cur with | some w => [w.deadline] | none => [])).filter (fun t => decide (dl ≤ t))
  (dl :: more).all (fun t => decide (d.presLeft t + wordTicks * n ≤ t - d.now))

/-- The earliest of some times, or a default. -/
def earliest (dflt : Nat) : List Nat → Nat
  | [] => dflt
  | [t] => t
  | t :: l => min t (earliest dflt l)

/-! ### Admission -/

/-- The command that a request with these bookings becomes. DESIGN CHOICE: the boot-control words that `IMG_SELECT`, `IMG_ACCEPT` and
`IMG_REJECT` write (R87, R89) count as no words of the preserve lane and are written at once (log entry 142). -/
def Dev.cmdFrom (d : Dev) (r : Req) (gs : List (CmdGroup × Nat)) : Cmd :=
  let lim := d.now + d.classLimit r
  { id := ⟨r.port, r.ticket⟩, op := r.op, flags := r.flags, target := r.target, payload := r.payload, admitted := d.now
    deadline := if r.cls = 0 ∧ r.op ≠ 0x11 then earliest lim (gs.map (·.2)) else lim
    laneDl := earliest lim (gs.map (fun g => g.2 - usTicks))
    work := workOf r.op r.payload, groups := gs.map (·.1)
    doc := if r.op = 0x11 then d.pairsOf r.payload (fun k => k == .doc) else []
    pres := if r.op = 0x11 then d.pairsOf r.payload (fun k => match k with | .pres _ => true | _ => false) else []
    fails := [], phase := .lane, effective := d.now, seq := d.hosts.seq }

/-- The preserve words of an admitted command join the lane (R110). -/
def Dev.admitWords (d : Dev) (c : Cmd) (dl : Nat) : Dev :=
  c.pres.foldl (fun d k =>
    let p := pairAt c.payload k
    d.laneAdmit [(c.id, k)] ((p.1 - Reg.PRES_W 0) / 4) p.2 dl) d

/-- Check 14 (R109): the failing test (1 QUOTA, 2 COMMIT_SLOTS, 3 COMMIT_TIME, 4 DOCENT, 5 PRESERVE), or the command. -/
def Dev.admission (d : Dev) (r : Req) : Nat ⊕ Cmd :=
  if d.rf (Reg.HOST_TKT r.port) 0 8 ≤ d.held r.port then .inl 1
  else match d.bookings r with
    | .inl i => .inl i
    | .inr gs =>
      let c := d.cmdFrom r gs
      if !d.docentFits c.laneDl c.work then .inl 4
      else if !d.presFits (if r.op = 0x11 then d.now + d.classLimit r else c.deadline) c.pres.length then .inl 5
      else .inr c

/-- An admitted command takes its ticket and joins the lanes. Health-monitor source 0x04 samples the free tickets (R375). -/
def Dev.admitCmd (d : Dev) (c : Cmd) (r : Req) : Dev :=
  let d1 := ({ d with hosts := { d.hosts with seq := c.seq + 1 } } : Dev).setCmds (d.hosts.cmds ++ [c])
  let d1 := d1.admitWords c (d.now + d.classLimit r)
  d1.hlt 0x04 0 d1.poolFree

end Sys2Proof.Machine
end

