-- ==== Sys2Proof/Machine/Requests.lean ====
section
/-! DEFINITION. Host frames: what arrives on a port, checks 1–4, replies, direct opcodes, and the rows of the opcodes
(R70–R72, R93–R120, R349–R353, R396, R397). -/

namespace Sys2Proof.Machine

/-! ### The bytes of a frame (R94, R96) -/

/-- The bytes that a frame with opcode byte `op` puts on an SPI port. -/
def frameBytes (op : Nat) (f : Frame) : List Byte :=
  let bs := [f.sync, f.host, BitVec.ofNat 8 op, f.ticket] ++ beBytes 2 f.len ++ [f.flags, f.target] ++ f.rest
  match f.cut with | some n => bs.take n | none => bs

/-! ### Replies (R99, R100, R353, R397) -/

/-- A byte that the reply echoes; one that never arrived is free. -/
def Dev.echo (d : Dev) (bs : List Byte) (i : Nat) : Byte := (bs[i]?).getD (BitVec.ofNat 8 (d.free (0x9900 + i)))

/-- The bytes of a reply with its CRC. -/
def replyBytes (p : Nat) (op ticket : Byte) (st info : Nat) (pl : List Byte) : List Byte :=
  let bs := [0x5A, BitVec.ofNat 8 (p + 1), op, ticket, BitVec.ofNat 8 st, BitVec.ofNat 8 info] ++ beBytes 2 pl.length ++ pl
  bs ++ beBytes 4 (crc32c bs).toNat

/-- The time from a frame's end to its reply of `m` bytes payload, in 10 ns: free within the bound of R100. -/
def Dev.replyTime (d : Dev) (m : Nat) : Nat := d.free 0x200 % (201 + m / 5)

/-- A reply is held, and sent on a CAN port. An SPI frame is a sample of health-monitor source 0x02. -/
def Dev.holdReply (d : Dev) (p : Nat) (bs : List Byte) (t : Nat) : Dev :=
  let d := d.hpMod p (fun q => { q with reply := some bs, old := q.reply })
  if p < 2 then d.hlt 0x02 p (t : Int) else d.queueReply (p - 2) bs

/-- The reply to frame bytes `bs` on port `p`, in a PDU of the connection that the frame came by; its oldest data was sampled at tick
`from'` (R353). -/
def Dev.answerFrom (d : Dev) (p : Nat) (bs : List Byte) (conn : Option Nat) (st info : Nat) (pl : List Byte) (from' : Nat) : Dev :=
  let t := d.replyTime (pl.length + if conn.isSome then 12 else 0)
  let w := match conn with | some c => d.pduWrap c pl (d.now - from' + 4 * t) | none => (d, pl)
  (w.1.holdReply p (replyBytes p (d.echo bs 2) (d.echo bs 3) st info w.2) t).tick1

/-- The reply with data sampled now: a read samples what it returns (R16). -/
def Dev.answer (d : Dev) (p : Nat) (bs : List Byte) (conn : Option Nat) (st info : Nat) (pl : List Byte) : Dev :=
  d.answerFrom p bs conn st info pl d.now

/-- A refused frame (R97, R444): event 0x18 + h, but for NOTREADY. -/
def Dev.refuse (d : Dev) (p : Nat) (bs : List Byte) (conn : Option Nat) (st : Nat) : Dev :=
  (d.answer p bs conn st (d.infoOf st) []).evIf (st != stNotReady) (0x18 + p)

/-! ### Direct opcodes (R103, R106, R114, R117) -/

/-- `IDENTITY`. -/
def Dev.identity (d : Dev) (p : Nat) : List Byte :=
  beBytes 4 (d.peek Reg.SYS_ID).toNat ++ beBytes 4 (d.peek Reg.IMG_VERSION).toNat ++ beBytes 1 (p + 1) ++
  beBytes 1 (d.rf (Reg.HOST_TKT p) 0 8) ++ beBytes 1 (d.held p) ++ [0] ++ beBytes 2 (maxLen p)

/-- `STATUS`. -/
def Dev.statusBytes (d : Dev) : List Byte :=
  beBytes 4 d.sysState.toNat ++ beBytes 4 d.axStates ++ beBytes 4 d.imgStatus.toNat ++ beBytes 2 d.poolFree ++
  beBytes 1 d.highest ++ [0]

/-- A `HEARTBEAT`: it restarts the time once READY has been entered, and clears `EXPIRED`. -/
def Dev.heartbeat (d : Dev) (p : Nat) : Dev :=
  let d := d.hpMod p (fun q => { q with hb := q.hb + 1, hbAt := if d.hosts.readySeen then d.now else q.hbAt })
  d.wb (Reg.HOST_HB p) 31 false

/-- `n` records are acknowledged (R107, R114, R115). -/
def Dev.acknowledge (d : Dev) (p n : Nat) : Dev :=
  let d := d.hpMod p (fun q => { q with recs := q.recs.drop n })
  let d := d.wf (Reg.HOST_CQ p) 0 9 ((d.tail p + n) % 512)
  if 0 < n ∧ !(d.hp p).recs.any (·.2) then d.wb (Reg.HOST_IRQ p) 0 false else d

/-- Up to `m` records from `TAIL` on; sound ones only (R14). -/
def Dev.ringRead (d : Dev) (p m : Nat) : Nat × List Byte :=
  let at' := (List.range (min m (d.hp p).recs.length)).map (fun i => recAddr p ((d.tail p + i) % 512))
  if at'.any (fun a => d.poisoned a 32) then (stCrc, []) else (stOk, at'.flatMap (fun a => d.mread a 32))

/-- `n` bytes of the SRAM. -/
def Dev.memRead (d : Dev) (a n : Nat) : Nat × List Byte := if d.poisoned a n then (stCrc, []) else (stOk, d.mread a n)

/-- Registers read one after another. -/
def Dev.regRead (d : Dev) (h : Nat) (as : List Nat) : Dev × List Byte :=
  as.foldl (fun r a => (let x := r.1.readReg h a; (x.1, r.2 ++ beBytes 4 x.2.toNat))) (d, [])

/-- The tick at which the oldest data in `n` bytes of the SRAM from `a` on was sampled: a status mirror holds its axis as at the latest
commit point (R19); what else the SRAM holds counts as sampled by the read (log entry 42). -/
def Dev.sramAt (d : Dev) (a n : Nat) : Nat :=
  ([0, 1, 2, 3].filter (fun x => decide (a < 0x260000 + (x + 1) * 0x40) && decide (0x260000 + x * 0x40 < a + n))).foldl
    (fun t x => min t (d.pw x).lastB) d.now

/-- The tick at which the oldest data in the reply to a direct request was sampled (R353). -/
def Dev.sampledAt (d : Dev) (r : Req) : Nat :=
  match r.op with
  | 0x06 => d.sramAt (beAt r.payload 0 3) (beAt r.payload 4 2)
  | 0x07 => d.sramAt (0x260000 + r.target * 0x40 + 4 * beAt r.payload 0 1) (4 * beAt r.payload 1 1)
  | _ => d.now

/-- A direct opcode that has passed every check: the device, status and reply payload. -/
def Dev.direct (d : Dev) (r : Req) : Dev × Nat × List Byte :=
  let p := r.port
  let pl := r.payload
  match r.op with
  | 0x02 => (d, stOk, d.identity p)
  | 0x03 => (d, stOk, d.statusBytes)
  -- The count of two bytes wraps: DESIGN CHOICE (log entry 117).
  | 0x04 => (let e := d.heartbeat p; (e, stOk, pl ++ beBytes 2 (e.hp p).hb))
  | 0x05 => (let e := d.acknowledge p (beAt pl 0 2); (e, e.ringRead p (beAt pl 2 2)))
  | 0x06 => (d, d.memRead (beAt pl 0 3) (beAt pl 4 2))
  | 0x07 => (d, d.memRead (0x260000 + r.target * 0x40 + 4 * beAt pl 0 1) (4 * beAt pl 1 1))
  | 0x10 => (let e := d.regRead p (readAddrs pl); (e.1, stOk, e.2))
  | _ => (d, stOk, [])

/-! ### Checks 1–4 (R93, R97, R352) -/

/-- Checks 2–4 of frame bytes that begin with the sync byte: a failing status with its count field in `HOSTh_ERR`, or length and
bytes of header and payload. -/
def soundness (p : Nat) (bs : List Byte) : (Nat × Nat) ⊕ Nat :=
  let l := beAt bs 4 2
  if bs.length < 6 then .inl (stTrunc, 8)
  else if maxLen p < l ∨ l = 0xFFFF then .inl (stLen, 16)
  else if bs.length < 12 + l then .inl (stTrunc, 8)
  else if crc32c (bs.take (8 + l)) ≠ BitVec.ofNat 32 (beAt bs (8 + l) 4) then .inl (stCrc, 0)
  else .inr l

/-- The safety PDU part of check 4: the device, and the refusing status or the command payload with its connection. -/
def Dev.unwrap (d : Dev) (p : Nat) (bs : List Byte) (l : Nat) : Dev × (Nat ⊕ (List Byte × Option Nat)) :=
  let pl := (bs.drop 8).take l
  if beAt bs 6 1 / 8 % 2 = 1 then
    match d.pduCheck p pl with
    | (e, .inl st) => (e, .inl st)
    | (e, .inr c) => (e, .inr (pl.take (l - 12), some c))
  else (d, .inr (pl, none))

/-- The request that sound frame bytes make. -/
def reqOf (p : Nat) (bs : List Byte) (pl : List Byte) (conn : Option Nat) : Req :=
  ⟨p, beAt bs 1 1, beAt bs 2 1, beAt bs 3 1, beAt bs 6 1, beAt bs 7 1, pl, conn⟩

/-- `REPLY_AGAIN` with every check passed: no reply of its own; a CAN port sends the held one again (R99, R397). -/
def Dev.replyAgain (d : Dev) (p : Nat) : Dev :=
  match (d.hp p).reply with
  | some bs => if p < 2 then d else d.queueReply (p - 2) bs
  | none => d

/-- A ticketed request with checks 5–13 passed: admitted with status OK, or BUSY with event 0x1C + h. -/
def Dev.request (d : Dev) (r : Req) (bs : List Byte) : Dev :=
  match d.admission r with
  | .inl info => (d.answer r.port bs r.conn stBusy info []).ev (0x1C + r.port)
  | .inr c => (d.admitCmd c r).answer r.port bs r.conn stOk 0 []

/-- The access to the SRAM of a direct opcode waits while the SRAM is cleared (R448). -/
def Dev.sramWaits (d : Dev) (op : Nat) : Bool := d.boot.clearing && (op == 0x05 || op == 0x06 || op == 0x07)

/-- A request that has passed its checks is put off to the end of the SRAM clear. -/
def Dev.putOff (d : Dev) (r : Req) (bs : List Byte) : Dev := { d with hosts := { d.hosts with sram := d.hosts.sram ++ [(r, bs)] } }

/-- A direct request is carried out and answered. -/
def Dev.carry (d : Dev) (r : Req) (bs : List Byte) : Dev :=
  let x := d.direct r
  x.1.answerFrom r.port bs r.conn x.2.1 0 x.2.2 (d.sampledAt r)

/-- Checks 5–14 of a request and its execution. -/
def Dev.serve (d : Dev) (r : Req) (bs : List Byte) : Dev :=
  let st := d.verdict r
  if st ≠ stOk then d.refuse r.port bs r.conn st
  else if ticketed r.op then d.request r bs
  else if r.op = 0x01 then d.replyAgain r.port
  else if d.sramWaits r.op then d.putOff r bs
  else d.carry r bs

/-- The device checks frame bytes on a port (R97). Under the BIST unit HOST_L frames are ignored as under check 1 (R419). -/
def Dev.frameIn (d : Dev) (p : Nat) (bs : List Byte) : Dev :=
  if bs.head? ≠ some 0xA5 ∨ d.bistUnit = some 0xE then d.wsat (Reg.HOST_ERR p) 24 8
  else match soundness p bs with
    | .inl (st, lo) => (d.wsat (Reg.HOST_ERR p) lo 8).refuse p bs none st
    | .inr l => match d.unwrap p bs l with
      | (e, .inl st) => e.refuse p bs none st
      | (e, .inr (pl, conn)) => e.serve (reqOf p bs pl conn) bs

/-- SRAM_CLEAR_END: the clear ends, and the requests that have waited for it proceed in their order (R448). -/
def Dev.clearEnd (d : Dev) : Dev :=
  d.hosts.sram.foldl (fun d x => d.carry x.1 x.2)
    { d with boot := { d.boot with clearing := false }, hosts := { d.hosts with sram := [] } }

/-- SRAM_CLEAR_END. -/
def execSramClearEnd (s : State) : Host.Outcome State Fault Refusal := s.run Dev.clearEnd

/-- The order in which the Docent checks frames that have ended in one cycle: in turns of one frame per port, each turn in the
port order A, B, C, D (R72, R98). -/
def inTurns (l : List (Nat × List Byte)) : List (Nat × List Byte) :=
  (List.range l.length).flatMap (fun k => [0, 1, 2, 3].filterMap (fun p => (l.filter (fun x => x.1 == p))[k]?))

/-- A frame has ended on a port: with `more` another one ends in the same cycle of `CK_MGMT` and the check waits for it; otherwise
the frames of the cycle are checked, each under the effect of those before it (R98). -/
def Dev.frameEnds (d : Dev) (p : Nat) (bs : List Byte) (more : Bool) : Dev :=
  let l := d.hosts.ended ++ [(p, bs)]
  if more then { d with hosts := { d.hosts with ended := l } }
  else (inTurns l).foldl (fun d x => d.frameIn x.1 x.2) { d with hosts := { d.hosts with ended := [] } }

/-- The `n` bytes that a frame clocks out on `SPIx_MISO`, from the reply held when its `nCS` fell: 0x00 after the CRC of the reply, and
with none held (R100). -/
def misoBytes (r : Option (List Byte)) (n : Nat) : List Byte := (List.range n).map (fun i => (r.getD []).getD i 0)

/-- An SPI frame of `n` bytes has clocked out the reply that was held when its `nCS` fell. -/
def Dev.clockOut (d : Dev) (p n : Nat) (early : Bool) : Dev :=
  d.hpMod p (fun q => { q with miso := misoBytes (if early then q.old else q.reply) n })

/-- CAN port `p` (2 C, 3 D) may be served: the other one was served last, or has no message waiting (R98). -/
def Dev.mayTurn (d : Dev) (p : Nat) : Bool := d.hosts.turn != p || (tget d.cport (3 - p)).cmdQ.isEmpty

/-- A frame whose opcode byte `p` picks arrives: on an SPI port its bytes end; on a CAN port it is the next queued message, when that
names such an opcode and the other CAN port, when messages wait on it, has had its turn (R98). Before clock lock no port answers
(R70, R71). -/
def Dev.frame (d : Dev) (op : Nat) (pick : Option Byte → Bool) (f : Frame) : Dev :=
  if !d.portsLive then d
  else if f.port < 2 then (if pick (some (BitVec.ofNat 8 op)) then
      (d.clockOut f.port (frameBytes op f).length f.early).frameEnds f.port (frameBytes op f) f.more else d)
  else match (tget d.cport (f.port - 2)).cmdQ with
    | [] => d
    | bs :: rest =>
      if f.port < 4 && pick bs[2]? && d.mayTurn f.port then
        let d := d.cpMod (f.port - 2) (fun q => { q with cmdQ := rest })
        ({ d with hosts := { d.hosts with turn := f.port } } : Dev).frameEnds f.port bs f.more
      else d

/-- A frame of the row of a defined opcode. -/
def State.opFrame (s : State) (op : Nat) (f : Frame) : Host.Outcome State Fault Refusal :=
  s.run (·.frame op (fun b => b == some (BitVec.ofNat 8 op)) f)

/-! ### The rows -/

/-- UNKNOWN_OPCODE_FRAME: a frame whose opcode byte names no defined opcode, or does not arrive. -/
def execUnknownOpcodeFrame (op : Byte) (f : Frame) (s : State) : Host.Outcome State Fault Refusal :=
  s.run (·.frame op.toNat (fun b => match b with | some x => !known x.toNat | none => true) f)

/-- REPLY_AGAIN, opcode 0x01 (R99). -/
def execReplyAgain (f : Frame) (s : State) : Host.Outcome State Fault Refusal := s.opFrame 0x01 f

/-- IDENTITY, opcode 0x02 (R117). -/
def execIdentity (f : Frame) (s : State) : Host.Outcome State Fault Refusal := s.opFrame 0x02 f

/-- STATUS, opcode 0x03 (R117). -/
def execStatus (f : Frame) (s : State) : Host.Outcome State Fault Refusal := s.opFrame 0x03 f

/-- HEARTBEAT, opcode 0x04 (R106). -/
def execHeartbeat (f : Frame) (s : State) : Host.Outcome State Fault Refusal := s.opFrame 0x04 f

/-- RING_READ, opcode 0x05 (R114). -/
def execRingRead (f : Frame) (s : State) : Host.Outcome State Fault Refusal := s.opFrame 0x05 f

/-- MEM_READ, opcode 0x06 (R117). -/
def execMemRead (f : Frame) (s : State) : Host.Outcome State Fault Refusal := s.opFrame 0x06 f

/-- VIT_READ, opcode 0x07 (R117). -/
def execVitRead (f : Frame) (s : State) : Host.Outcome State Fault Refusal := s.opFrame 0x07 f

/-- REG_READ, opcode 0x10 (R117). -/
def execRegRead (f : Frame) (s : State) : Host.Outcome State Fault Refusal := s.opFrame 0x10 f

/-- REG_WRITE, opcode 0x11 (R110). -/
def execRegWrite (f : Frame) (s : State) : Host.Outcome State Fault Refusal := s.opFrame 0x11 f

/-- MEM_WRITE, opcode 0x12 (R117). -/
def execMemWrite (f : Frame) (s : State) : Host.Outcome State Fault Refusal := s.opFrame 0x12 f

/-- ARM, opcode 0x20 (R25). -/
def execArm (f : Frame) (s : State) : Host.Outcome State Fault Refusal := s.opFrame 0x20 f

/-- DISARM, opcode 0x21 (R25). -/
def execDisarm (f : Frame) (s : State) : Host.Outcome State Fault Refusal := s.opFrame 0x21 f

/-- AXIS_ENABLE, opcode 0x22 (R28). -/
def execAxisEnable (f : Frame) (s : State) : Host.Outcome State Fault Refusal := s.opFrame 0x22 f

/-- AXIS_DISABLE, opcode 0x23 (R28). -/
def execAxisDisable (f : Frame) (s : State) : Host.Outcome State Fault Refusal := s.opFrame 0x23 f

/-- AXIS_STOP, opcode 0x24 (R28). -/
def execAxisStop (f : Frame) (s : State) : Host.Outcome State Fault Refusal := s.opFrame 0x24 f

/-- SETPOINT, opcode 0x25 (R268). -/
def execSetpoint (f : Frame) (s : State) : Host.Outcome State Fault Refusal := s.opFrame 0x25 f

/-- ISL_DIAG, opcode 0x26 (R194). -/
def execIslDiag (f : Frame) (s : State) : Host.Outcome State Fault Refusal := s.opFrame 0x26 f

/-- SBC_TEST, opcode 0x27 (R344). -/
def execSbcTest (f : Frame) (s : State) : Host.Outcome State Fault Refusal := s.opFrame 0x27 f

/-- OWN_OFFER, opcode 0x28 (R104). -/
def execOwnOffer (f : Frame) (s : State) : Host.Outcome State Fault Refusal := s.opFrame 0x28 f

/-- OWN_TAKE, opcode 0x29 (R104). -/
def execOwnTake (f : Frame) (s : State) : Host.Outcome State Fault Refusal := s.opFrame 0x29 f

/-- OWN_SEIZE, opcode 0x2A (R105). -/
def execOwnSeize (f : Frame) (s : State) : Host.Outcome State Fault Refusal := s.opFrame 0x2A f

/-- FLT_CLEAR, opcode 0x30 (R365). -/
def execFltClear (f : Frame) (s : State) : Host.Outcome State Fault Refusal := s.opFrame 0x30 f

/-- FLT_INJ, opcode 0x31 (R371). -/
def execFltInj (f : Frame) (s : State) : Host.Outcome State Fault Refusal := s.opFrame 0x31 f

/-- THERM_MEASURE, opcode 0x32 (R428). -/
def execThermMeasure (f : Frame) (s : State) : Host.Outcome State Fault Refusal := s.opFrame 0x32 f

/-- CE_CAPTURE, opcode 0x33 (R286). -/
def execCeCapture (f : Frame) (s : State) : Host.Outcome State Fault Refusal := s.opFrame 0x33 f

/-- CE_MODE, opcode 0x34 (R281). -/
def execCeMode (f : Frame) (s : State) : Host.Outcome State Fault Refusal := s.opFrame 0x34 f

/-- ADC_CAL, opcode 0x35 (R206). -/
def execAdcCal (f : Frame) (s : State) : Host.Outcome State Fault Refusal := s.opFrame 0x35 f

/-- SERVICE_ENTER, opcode 0x40 (R25). -/
def execServiceEnter (f : Frame) (s : State) : Host.Outcome State Fault Refusal := s.opFrame 0x40 f

/-- SERVICE_EXIT, opcode 0x41 (R25). -/
def execServiceExit (f : Frame) (s : State) : Host.Outcome State Fault Refusal := s.opFrame 0x41 f

/-- BIST_RUN, opcode 0x42 (R418). -/
def execBistRun (f : Frame) (s : State) : Host.Outcome State Fault Refusal := s.opFrame 0x42 f

/-- REPAIR_FUSE, opcode 0x43 (R422). -/
def execRepairFuse (f : Frame) (s : State) : Host.Outcome State Fault Refusal := s.opFrame 0x43 f

/-- IMG_WRITE, opcode 0x44 (R89). -/
def execImgWrite (f : Frame) (s : State) : Host.Outcome State Fault Refusal := s.opFrame 0x44 f

/-- IMG_VERIFY, opcode 0x45 (R89). -/
def execImgVerify (f : Frame) (s : State) : Host.Outcome State Fault Refusal := s.opFrame 0x45 f

/-- IMG_SELECT, opcode 0x46 (R89). -/
def execImgSelect (f : Frame) (s : State) : Host.Outcome State Fault Refusal := s.opFrame 0x46 f

/-- IMG_ACCEPT, opcode 0x47 (R89). -/
def execImgAccept (f : Frame) (s : State) : Host.Outcome State Fault Refusal := s.opFrame 0x47 f

/-- IMG_REJECT, opcode 0x48 (R89). -/
def execImgReject (f : Frame) (s : State) : Host.Outcome State Fault Refusal := s.opFrame 0x48 f

/-- ATTEST, opcode 0x49 (R407). -/
def execAttest (f : Frame) (s : State) : Host.Outcome State Fault Refusal := s.opFrame 0x49 f

end Sys2Proof.Machine
end

