-- ==== Sys2Proof/Machine/Lane.lean ====
section
/-! DEFINITION. What admitted commands do: the Docent lane, the effects of the commands, the ends of the image operations,
promises, heartbeats and offers that run out (R89, R104–R112, R117). -/

namespace Sys2Proof.Machine

/-! ### Effect time (R111) -/

/-- The host of an axis command still owns the axis. -/
def Dev.stillOwns (d : Dev) (c : Cmd) : Bool :=
  match c.op with
  | 0x22 | 0x23 | 0x24 | 0x25 | 0x26 | 0x28 => d.owner c.target == c.id.host
  | _ => true

/-- The matrix allows the opcode to the host of the command: its P cells ask for the injection privilege (R119). -/
def Dev.cellOk (d : Dev) (c : Cmd) : Bool := c.op != 0x31 || d.privInject c.id.host || d.dstate == .service

/-- The effect of the command is, or brings about, a transition of the device state (R25). -/
def Dev.asksTurn (d : Dev) (c : Cmd) : Bool :=
  match c.op with
  | 0x20 | 0x21 | 0x40 | 0x41 => true
  | 0x22 => d.dstate == .armed
  | 0x23 => d.dstate == .run && decide (c.target < 4) &&
      (List.range 4).all (fun a => !d.inTopo a || a == c.target || d.axOf a == .idle)
  | _ => false

/-- The command may take effect now: the matrix and the ownership allow it (R111), and its transition does not lose to one of a fault in
the same cycle (R27). -/
def Dev.mayAct (d : Dev) (c : Cmd) : Bool :=
  d.legal c.op c.target && d.cellOk c && d.stillOwns c && !(d.asksTurn c && d.faultTurn)

/-! ### Commands that take effect in the Docent lane -/

/-- `MEM_WRITE` (R117, R407, R419). -/
def Dev.memWrite (d : Dev) (c : Cmd) : Dev :=
  let a := beAt c.payload 0 3
  let bs := c.payload.drop 4
  if d.attOverlap a bs.length || d.bistUnit == some 5 then d.lapse c stState []
  else if d.poisonedPart a bs.length then d.lapse c stCrc []
  else ((d.mwrite a bs).unpoison a bs.length).finish c stOk []

/-- `SBC_TEST` (R344). -/
def Dev.sbcCommand (d : Dev) (c : Cmd) : Dev :=
  let r := d.sbcStart
  if r.2 then r.1.startCmd c else d.lapse c stState []

/-- `OWN_OFFER`: the recipient, or none (R104). -/
def Dev.offerAxis (d : Dev) (x recipient : Nat) : Dev :=
  { d.wf Reg.HOST_OFFER (3 * x) 3 (if recipient = 0 then 7 else recipient - 1) with
    hosts := { d.hosts with offerAt := tset d.hosts.offerAt x d.now } }

/-- `FLT_CLEAR` (R365). -/
def Dev.clearCommand (d : Dev) (c : Cmd) : Dev :=
  let r := d.fltClear c.id.host (beAt c.payload 0 2)
  r.1.finish c r.2.1 (beBytes 2 r.2.2)

/-- `FLT_INJ` (R371): STATE while an injection runs. -/
def Dev.injCommand (d : Dev) (c : Cmd) : Dev :=
  if d.rgr.inj.isSome then d.lapse c stState []
  else (d.injStart (beAt c.payload 0 2) (beAt c.payload 2 1) (beAt c.payload 3 1)).startCmd c

/-- `CE_CAPTURE` (R286): the unit is armed, or cancelled; the record size is the result. -/
def Dev.captureCommand (d : Dev) (c : Cmd) : Dev :=
  let pl := c.payload
  let sigs := capSigs pl
  if beAt pl 0 1 = 0 then (d.capArm none).finish c stOk []
  else (d.capArm (some ⟨sigs, beAt pl 1 1 + 1, 0, beAt pl 4 4, beAt pl 8 4, 0, beAt pl 2 1, beAt pl 3 1 % 2 == 1, false, 0⟩)).finish c stOk
    (beBytes 2 (capSize sigs))

/-- `ADC_CAL` (R205, R206): without its lane the converter is left as it is. -/
def Dev.calCommand (d : Dev) (c : Cmd) : Dev :=
  let k := beAt c.payload 0 1
  if d.laneUp (adcLane k) then (d.calStart k).startCmd c else d.lapse c stOk [BitVec.ofNat 8 k, 3]

/-- `BIST_RUN` (R418): the units of bits 14:0, REPAIR in bit 15. -/
def Dev.bistCommand (d : Dev) (c : Cmd) : Dev :=
  let m := beAt c.payload 0 2
  (d.startCmd c).bistStart (m % 32768) (m / 32768 == 1)

/-- The uncommitted slot (R90). -/
def Dev.otherSlot (d : Dev) : Nat := 1 - d.rf Reg.IMG_ACTIVE 0 1

/-- `PREF` and `TRIAL` of boot-control word 0 (R87), as `IMG_ACTIVE` then shows them: written at once, outside the preserve lane (DESIGN
CHOICE, log entry 142). -/
def Dev.setPref (d : Dev) (slot : Nat) (trial : Bool) : Dev :=
  (d.ownWord 0 (fset (d.pword 0) 0 2 (slot + 2 * trial.toNat))).showActive

/-- A reset of the device is due 5 ms later. -/
def Dev.resetLater (d : Dev) : Dev := { d with boot := { d.boot with resetDue := true } }

/-- `IMG_ACCEPT`: `ARB` rises to the committed version; `TRIAL` clears. -/
def Dev.imgAccept (d : Dev) : Dev :=
  let v := d.rget Reg.IMG_VERSION
  let d := if (d.pword 1).toNat < v.toNat then d.ownWord 1 v else d
  d.setPref (fget (d.pword 0) 0 1) false

/-- The boot-control words that an image command would program (R87, R89) cannot be programmed now (R45). -/
def Dev.imgBarred (d : Dev) (op : Nat) : Bool :=
  let w := d.pword 0
  match op with
  | 0x46 => d.wordBarred 0 (fset w 0 2 (d.otherSlot + 2))
  | 0x47 => d.wordBarred 0 (fset w 1 1 0) ||
      (decide ((d.pword 1).toNat < (d.rget Reg.IMG_VERSION).toNat) && d.wordBarred 1 (d.rget Reg.IMG_VERSION))
  | 0x48 => d.wordBarred 0 (fset w 0 2 (1 - fget w 0 1))
  | _ => false

/-- The image commands start, or have their whole effect (R89); STATE while `VDD_IO` is too low for the words they need (R45). -/
def Dev.imgCommand (d : Dev) (c : Cmd) : Dev :=
  if d.imgBarred c.op then d.lapse c stState [] else
  match c.op with
  | 0x44 => ({ d with boot := { d.boot with verified := false } } : Dev).startCmd c
  | 0x45 => d.startCmd c
  | 0x46 => ((d.setPref d.otherSlot true).finish c stOk []).resetLater
  | 0x47 => d.imgAccept.finish c stOk []
  | _ => ((d.setPref (1 - fget (d.pword 0) 0 1) false).finish c stOk []).resetLater

/-- The effect of a command of the Docent lane, if it may act (R111). -/
def Dev.docentEffect (d : Dev) (c : Cmd) : Dev :=
  if !d.mayAct c then d.lapse c stState []
  else match c.op with
    | 0x12 => d.memWrite c
    | 0x20 => d.enterArmed.finish c stOk []
    | 0x21 => d.enterReady.finish c stOk []
    | 0x27 => d.sbcCommand c
    | 0x28 => (d.offerAxis c.target (beAt c.payload 0 1)).finish c stOk []
    | 0x30 => d.clearCommand c
    | 0x31 => d.injCommand c
    | 0x32 => (d.sensorStart (beAt c.payload 0 1)).startCmd c
    | 0x33 => d.captureCommand c
    | 0x35 => d.calCommand c
    | 0x40 => d.enterService.finish c stOk []
    | 0x41 => d.enterReady.finish c stOk []
    | 0x42 => d.bistCommand c
    | 0x43 => d.fuseStart c
    | 0x49 => d.attest c
    | _ => d.imgCommand c

/-! ### The lane (R109, R110) -/

/-- A pair of a `REG_WRITE` that is Docent work; a writer that no longer may write gets STATE (R111). -/
def Dev.docPair (d : Dev) (i : CmdId) (payload : List Byte) (k : Nat) : Dev :=
  let p := pairAt payload k
  let r := if d.dstate.writeOk && d.mayWrite i.host p.1 then d.writeReg i.host p.1 p.2 else (d, stState)
  r.1.pairEnd i k r.2

/-- The command that the lane executes next: the earliest lane deadline, then the earlier admission. -/
def nextInLane : List Cmd → Option Cmd
  | [] => none
  | c :: l =>
    if c.phase ≠ .lane then nextInLane l
    else match nextInLane l with
      | some y => if y.laneDl < c.laneDl then some y else some c
      | none => some c

/-- A command has been through the lane and waits for its commit points or words. -/
def Dev.staged (d : Dev) (i : CmdId) : Dev := d.cmdMod i (fun c => { c with phase := .staged, work := 0 })

/-- DOCENT_LANE_EXECUTE. -/
def Dev.laneExec (d : Dev) : Dev :=
  match nextInLane d.hosts.cmds with
  | none => d
  | some c =>
    if c.op = 0x11 then ((c.doc.foldl (fun d k => d.docPair c.id c.payload k) (d.staged c.id)).writeDone c.id)
    else if c.groups.isEmpty then (d.staged c.id).docentEffect c
    else d.staged c.id

/-- DOCENT_LANE_EXECUTE. -/
def execDocentLaneExecute (s : State) : Host.Outcome State Fault Refusal := s.run Dev.laneExec

/-! ### Entries at a commit point (R16, R28, R104, R105, R281) -/

/-- `AXIS_ENABLE`: IDLE to ENABLED, for an aux axis HOLD; the first enabled axis takes the device to RUN (R25, R297). A standing
overvoltage demand takes the axis on to its choice (R317). -/
def Dev.enableAxis (d : Dev) (x : Nat) : Dev :=
  let d := if x < 4 then (d.axGo x .enabled).heed x else d.setAux (x - 4) 1
  if d.dstate = .armed then d.enterRun else d

/-- `AXIS_DISABLE`: ENABLED to IDLE; with the last traction axis the device goes to ARMED (R25, R298). -/
def Dev.disableAxis (d : Dev) (x : Nat) : Dev := if x < 4 then (d.axGo x .idle).idled else d.setAux (x - 4) 0

/-- `AXIS_STOP`. -/
def Dev.stopAxis (d : Dev) (x : Nat) : Dev := if x < 4 then d.axGo x .stopping else d.auxStop (x - 4)

/-- A command of the old owner for the axis that has not taken effect. -/
def waiting (old x : Nat) (c : Cmd) : Bool :=
  c.id.host == old && c.target == x && c.phase != .running && (atCommitPoint c.op || c.op == 0x28)

/-- Ownership of the axis moves to the host of the command: the offer ends, event 0x20 + x; a seizure ends the old owner's
commands (R104, R105). That a seizure ends a standing offer too is a DESIGN CHOICE: R104 names only its 100 ms and its owner (log
entry 114). -/
def Dev.moveOwner (d : Dev) (c : Cmd) (seize : Bool) : Dev :=
  let x := c.target
  let old := d.owner x
  let d := ((d.wf Reg.HOST_OWN (3 * x) 3 c.id.host).wf Reg.HOST_OFFER (3 * x) 3 7).ev (0x20 + x)
  let d := d.finish c stOk []
  if seize && old != c.id.host then (d.hosts.cmds.filter (waiting old x)).foldl (fun d c => d.lapse c stState []) d else d

/-- `CE_MODE` at the common boundary (R281): the result byte names the mode in effect. -/
def Dev.modeCommand (d : Dev) (c : Cmd) : Dev :=
  let r := if d.mayAct c then d.ceModeChange (beAt c.payload 0 1 == 1) else (d, false)
  let res := [if r.1.ceMode = 0 then 0 else 1]
  if r.2 then r.1.finish c stOk res else d.lapse c stState res

/-- An axis command takes effect at its commit point. -/
def Dev.axisEffect (d : Dev) (c : Cmd) : Dev :=
  if c.op = 0x34 then d.modeCommand c
  else if !d.mayAct c then d.lapse c stState []
  else match c.op with
    | 0x22 => (d.enableAxis c.target).finish c stOk []
    | 0x23 => (d.disableAxis c.target).finish c stOk []
    | 0x24 => (d.stopAxis c.target).finish c stOk []
    | 0x25 => ((spLanes c.payload).foldl (fun d p => d.laneSet p.1 p.2) d).finish c stOk []
    | 0x26 => (d.diagStart c.target).startCmd c
    | 0x29 => d.moveOwner c false
    | _ => d.moveOwner c true

/-- A staged pair of a `REG_WRITE` at its commit point (R110, R111). A parameter block that begins settles its pair at the end of
the take (R275). -/
def Dev.groupPair (d : Dev) (i : CmdId) (payload : List Byte) (k : Nat) : Dev :=
  let p := pairAt payload k
  let r := if d.dstate.writeOk && d.mayWrite i.host p.1 then d.applyRws i.host p.1 p.2 (some (i.label, k)) else (d, stState)
  if p.1 = Reg.CE_PBLK ∧ r.2 = stOk then r.1.cmdMod i (fun c => { c with pres := c.pres ++ [k] }) else r.1.pairEnd i k r.2

/-- A group of a command reaches its commit point. -/
def Dev.groupEffect (d : Dev) (i : CmdId) (g : CmdGroup) : Dev :=
  match d.cmdOf i with
  | none => d
  | some c =>
    if c.op = 0x11 then
      let d := d.cmdMod i (fun c => { c with groups := c.groups.filter (fun y => y.axis != g.axis) })
      (g.pairs.foldl (fun d k => d.groupPair i c.payload k) d).writeDone i
    else d.axisEffect c

/-- The groups due at this boundary of the axes `xs`, by admission with their numbers: their commands have been through the lane. -/
def Dev.dueGroups (d : Dev) (xs : List Nat) : List (Nat × CmdId × CmdGroup) :=
  d.hosts.cmds.flatMap (fun c =>
    if c.phase = .lane then []
    else (c.groups.filter (fun g => xs.contains g.axis && decide (g.left ≤ 1))).map (fun g => (c.seq, c.id, g)))

/-- A boundary has passed: every other group of the axes has one fewer to come. -/
def Cmd.passed (c : Cmd) (xs : List Nat) : Cmd :=
  { c with groups := c.groups.map (fun g => if xs.contains g.axis then { g with left := max 1 (g.left - 1) } else g) }

/-- The entries booked at this boundary of the axes `xs` apply in admission order, register writes by rows of their own and commands
(R16, R304). -/
def Dev.commitPoint (d : Dev) (xs : List Nat) : Dev :=
  let due := d.dueGroups xs
  let d := d.setCmds (d.hosts.cmds.map (fun c => c.passed xs))
  (due.foldl (fun d g => (d.portApply xs g.1).groupEffect g.2.1 g.2.2) d).portApply xs d.hosts.seq

/-! ### Promises, heartbeats, offers (R104, R106, R112) -/

/-- The parts of a `REG_WRITE` that wait, as promises and pairs: its groups, its Docent work, its words (R110). -/
def Cmd.parts (c : Cmd) : List (Nat × List Nat) :=
  c.groups.map (fun g => (g.promise, g.pairs)) ++ (if c.doc.isEmpty then [] else [(c.deadline, c.doc)]) ++
    (if c.pres.isEmpty then [] else [(c.deadline, c.pres)])

/-- The pairs whose promise is missed: those of the parts whose promise is over. -/
def Dev.missedPairs (d : Dev) (c : Cmd) : List Nat := (c.parts.filter (fun p => decide (p.1 ≤ d.now))).flatMap (·.2)

/-- A promise of the command is over: of a `REG_WRITE` that of some part (R110, R112). -/
def Dev.promiseOver (d : Dev) (c : Cmd) : Bool :=
  if c.op = 0x11 then c.parts.any (fun p => decide (p.1 ≤ d.now)) else decide (c.deadline ≤ d.now)

/-- The missed pairs of a `REG_WRITE` end with BUSY; parts whose own promise still runs go on (R112). -/
def Dev.missWrite (d : Dev) (c : Cmd) : Dev :=
  let ks := d.missedPairs c
  let d := d.prsMod (fun p => { p with pend := p.pend.filterMap (fun (w : PresWrite) =>
    let src := w.from'.filter (fun x => !(x.1 == c.id && ks.contains x.2))
    if src.isEmpty && !w.from'.isEmpty && !w.row then none else some { w with from' := src }) })
  let d := d.cmdMod c.id (fun c => { c with groups := c.groups.filter (fun g => !g.pairs.any ks.contains) })
  (ks.foldl (fun d k => d.pairEnd c.id k stBusy) d).cmdMod c.id (fun x => { x with effective := c.effective })

/-- PROMISE_MISSED: a command whose promise is over is dropped with BUSY, of a `REG_WRITE` every part whose promise is missed; fault 0x0140, event 0x26. The
record's time of effect is free where nothing took effect (log entry 80). -/
def Dev.missed (d : Dev) (host label : Nat) : Dev :=
  match d.cmdOf ⟨host, label⟩ with
  | none => d
  | some c =>
    if c.phase = .running ∨ d.promiseOver c = false then d
    else
      let free (c : Cmd) : Cmd := { c with effective := d.free 0x112 }
      let d1 := if c.op = 0x11 then
          let none' := c.fails.length + (d.missedPairs c).length == c.payload.length / 8
          let e := d.missWrite c
          (if none' then e.cmdMod c.id free else e).writeDone c.id
        else d.complete (free c) stBusy []
      (d1.tick1.occ 0x0140 0).ev 0x26

/-- PROMISE_MISSED. -/
def execPromiseMissed (host label : Nat) (s : State) : Host.Outcome State Fault Refusal := s.run (·.missed host label)

/-- HEARTBEAT_EXPIRED: no heartbeat of host `h` for `HB_TIME` since the latest, or since the first entry to READY (R106). -/
def Dev.hbExpired (d : Dev) (h : Nat) : Dev :=
  let t := d.rf (Reg.HOST_HB h) 16 10
  if h < 4 ∧ d.hosts.readySeen ∧ t ≠ 0 ∧ (d.hp h).hbAt + t * msTicks ≤ d.now then
    ((d.wb (Reg.HOST_HB h) 31 true).occ (0x0110 + h) 0).ev (0x14 + h)
  else d

/-- HEARTBEAT_EXPIRED. -/
def execHeartbeatExpired (host : Nat) (s : State) : Host.Outcome State Fault Refusal := s.run (·.hbExpired host)

/-- OWN_OFFER_EXPIRED: the standing offer of an axis lapses, 100 ms after it was made (R104). -/
def Dev.offerExpired (d : Dev) (x : Nat) : Dev := if x < 6 ∧ d.offerOver x then d.wf Reg.HOST_OFFER (3 * x) 3 7 else d

/-- OWN_OFFER_EXPIRED. -/
def execOwnOfferExpired (x : Nat) (s : State) : Host.Outcome State Fault Refusal := s.run (·.offerExpired x)

/-! ### Ends of the image operations (R81, R84, R89) -/

/-- An operation of opcode `op` runs. -/
def Dev.opRuns (d : Dev) (op : Nat) : Bool := d.hosts.cmds.any (fun c => c.phase == .running && c.op == op)

/-- IMG_WRITE_END: `ok`: written and compared without error. -/
def Dev.imgWritten (d : Dev) (ok : Bool) : Dev :=
  if d.opRuns 0x44 then (d.occIf (!ok) 0x0203 0).completeRun (fun c => c.op == 0x44) (if ok then stOk else stCrc) [] else d

/-- IMG_WRITE_END. -/
def execImgWriteEnd (ok : Bool) (s : State) : Host.Outcome State Fault Refusal := s.run (·.imgWritten ok)

/-- Checks 1–14 of a slot read anew, from the bytes that its signature covers: a reason of R92. -/
def Dev.slotCheck (d : Dev) (profileOk : Bool) (body : List Byte) (cd aux strobeOk : Bool) (sig : List Byte) : Nat :=
  let hdr := body.take 256
  let r := d.hdrCheck profileOk hdr
  if r ≠ 0 then r
  else
    let n := beAt hdr 0x14 1
    let cat := beAt hdr 0x10 4
    let len := beAt hdr 0x0C 4 - 7856
    let body := signedBytes len body
    let r := readCheck (cat + 16 * n) len (catalogue cat n body) cd aux strobeOk
    if r ≠ 0 then r else if imageSigned (hdrKey hdr) (sha256 body) sig then 0 else 0x0F

/-- The boot-control word with the count of R84 that a verification with result `r` leaves. -/
def Dev.sigWord (d : Dev) (r : Nat) : Word :=
  let w := d.pword 0
  fset w 8 8 (if r = 0 then 0 else if r = 0x0A ∨ r = 0x0F then min 255 (fget w 8 8 + 1) else fget w 8 8)

/-- IMG_VERIFY_END; STATE while `VDD_IO` is too low for the count that it has to write (R45). `IMG_STATUS.REASON` stays: DESIGN CHOICE, a
failed `IMG_VERIFY` rejects no slot at a start-up (log entry 100). -/
def Dev.imgVerified (d : Dev) (r : Nat) : Dev :=
  if d.opRuns 0x45 then
    if d.wordBarred 0 (d.sigWord r) then d.completeRun (fun c => c.op == 0x45) stState [] else
    let d := d.setRes d.otherSlot r
    let d := if r = 0 then d.setSigfail 0 else d.countFail r
    let d := { d with boot := { d.boot with verified := decide (r = 0) } }
    d.completeRun (fun c => c.op == 0x45) (if r = 0 then stOk else stCrc) []
  else d

/-- IMG_VERIFY_END. -/
def execImgVerifyEnd (profileOk : Bool) (body : List Byte) (namesCd usesAux strobeOk : Bool) (sig : List Byte) (s : State) :
    Host.Outcome State Fault Refusal :=
  s.run (fun d => d.imgVerified (d.slotCheck profileOk body namesCd usesAux strobeOk sig))

end Sys2Proof.Machine
end

