-- ==== Sys2Proof/Machine/Boundary.lean ====
section
/-! DEFINITION. Boundaries of the timebases with everything that falls on them, and the ends of conversions, calibrations, takes
and tests (R16, R19, R28, R148, R167, R205, R222, R254, R275, R304, R446). -/

namespace Sys2Proof.Machine

/-! ### Axis states at a commit point (R28) -/

/-- A lane of the axis has a non-zero target. -/
def Dev.hasTarget (d : Dev) (a : Nat) : Bool :=
  (List.range 32).any (fun l => d.rb (Reg.CE_LANE_CFG l) 31 && d.laneAxis l == a && d.rget (Reg.CE_LANE_TGT l) != 0)

/-- The fault is cleared and has no cause. -/
def Dev.faultGone (d : Dev) (code : Nat) : Bool :=
  !d.flt.recs.any (fun r => r.code == code && r.isOpen) && !d.lvlAny code && !d.flt.inbox.any (fun r => r.code == code)

/-- The speed condition of the way back to IDLE. -/
def Dev.slowEnough (d : Dev) (a : Nat) : Bool :=
  let on := 10 * d.rf (Reg.DCL_SEL a) 0 16
  let w := (d.selSpeed a).natAbs
  d.rf (Reg.DCL_SEL a) 30 2 == 1 || (if on = 0 then w == 0 else decide (w < on))

/-- The axis may return to IDLE: its lane is up (R180), every fault that led there is cleared, and the speed condition holds. -/
def Dev.mayIdle (d : Dev) (a : Nat) : Bool :=
  d.axisLaneUp a && (tget d.axCause a).all d.faultGone && d.slowEnough a

/-- ASC or FREEWHEEL to IDLE; an attempt at re-acquisition ends with it. -/
def Dev.backToIdle (d : Dev) (a : Nat) : Dev :=
  if d.mayIdle a then
    ((d.acqEnd a).axGo a .idle).idled
  else d

/-- What an axis does at its commit point by itself, after the commands: at most one transition. -/
def Dev.axisTurn (d : Dev) (a : Nat) : Dev :=
  let d1 := d.resumeAt a
  if d1.axOf a ≠ d.axOf a then d1
  else match d1.axOf a with
    | .enabled => if d1.hasTarget a then d1.axGo a .driving else d1
    | .stopping => d1.stopTest a
    | .asc => d1.backToIdle a
    | .freewheel => d1.backToIdle a
    | .idle => d1
    | .diag => d1
    | .driving => d1

/-! ### Status mirrors (R19) -/

/-- A quantity in Q3.28 as 16 unsigned bits of 2^−12 pu. -/
def pu12 (site : Nat) (x : Int) : Nat := (clampInt 0 65535 (rdiv site x 65536)).toNat

/-- The 16 words of the mirror of axis `a`. -/
def Dev.mirrorWords (d : Dev) (a : Nat) : List Nat :=
  let n := (d.pw a).bcount % 65536
  let f := tget d.fld a
  [ (if d.inTopo a then (d.axOf a).code else 0) * 2 ^ 28 + d.dstate.code * 2 ^ 24 + n,
    (d.rget (Reg.FLD_ANGLE a)).toNat, (d.rget (Reg.FLD_SPEED a)).toNat,
    fromSigned 32 f.id, fromSigned 32 f.iq, fromSigned 32 f.vd, fromSigned 32 f.vq, fromSigned 32 (tget d.ce.iref a),
    (d.rget Reg.DCL_VDC).toNat, (d.rget (Reg.PWM_TRIP a)).toNat, (d.rget (Reg.PWM_STAT a)).toNat,
    (d.rget (Reg.FLD_STAT a)).toNat, (d.rget (Reg.SAFE_TM_STAT a)).toNat,
    pu12 0x1910 (d.lMot a) * 65536 + pu12 0x1911 (d.lReg a),
    8 * d.stoNow.toNat + 4 * (d.choice a).toNat + 2 * (d.lost (d.leader a)).toNat + (!f.valid).toNat, n ]

/-- First byte of the mirror of axis `a`. -/
def mirrorBase (a : Nat) : Nat := 0x260000 + a * 0x40

/-- The mirror of axis `a` is written; not under SRAM_M (R419). -/
def Dev.mirror (d : Dev) (a : Nat) : Dev :=
  if d.bistUnit = some 5 then d
  else (d.mwrite (mirrorBase a) ((d.mirrorWords a).flatMap (beBytes 4))).unpoison (mirrorBase a) 64

/-! ### Boundaries (R148, R167, R304) -/

/-- What one axis keeps from its boundary: the step count of throttling (R432), windows reported narrow, the synchronous pair of the SARs
(R222), the mirror. -/
def Dev.boundaryEnd (d : Dev) (a : Nat) : Dev :=
  ((((d.thermMod (fun t => { t with eff := tset t.eff a (d.steps a) })).narrowEmpty a).sarSync a).mirror a)

/-- PERIOD_BOUNDARY of axis `a`, a leader or alone. -/
def Dev.periodBoundary (d : Dev) (a : Nat) : Dev :=
  if 4 ≤ a ∨ d.leader a ≠ a ∨ !d.committed ∨ d.bistUnit = some 4 then d
  else
    let d := d.commitPoint (d.group a)
    let d := d.each a Dev.axisTurn
    (d.pwmBoundary a).each a Dev.boundaryEnd

/-- PERIOD_BOUNDARY. -/
def execPeriodBoundary (a : Nat) (s : State) : Host.Outcome State Fault Refusal := s.run (·.periodBoundary a)

/-- CHANNEL_BOUNDARY of channel `j`: on channels 4 and 5 it is the commit point of an aux axis. -/
def Dev.channelBoundary (d : Dev) (j : Nat) : Dev :=
  if 6 ≤ j ∨ !d.committed ∨ d.bistUnit = some 4 then d
  else
    let d := if 4 ≤ j then (d.auxFaults (j - 4)).commitPoint [j] else d
    let d := (d.chanBoundary j).chanGate j
    if 4 ≤ j then d.auxBoundary (j - 4) else d

/-- CHANNEL_BOUNDARY. -/
def execChannelBoundary (j : Nat) (s : State) : Host.Outcome State Fault Refusal := s.run (·.channelBoundary j)

/-- PWM_EDGE: a compare edge of phase `p` of traction axis `a`, for `p` = 3 + q the begin (`rise`) or end of a probe pulse of phase
`q` (R252), or for `a` = 4 + j the end of the on-time of bridge `p` of channel j. -/
def execPwmEdge (a p : Nat) (rise : Bool) (s : State) : Host.Outcome State Fault Refusal :=
  s.run (fun d => if a < 4 then (if p < 3 then d.pwmEdge a p rise else d.probeEdge a (p - 3) rise) else d.chanEdge (a - 4) p)

/-! ### Ends of operations -/

/-- DIAG_PHASE_END: with the last half-bridge the test of the axis and its command end (R194, R195), and the device returns to ARMED
when no other axis holds it in RUN (R25). -/
def Dev.diagPhaseEnd (d : Dev) (a : Nat) (vk : Int) (ir var : Nat) : Dev :=
  if !(d.diagOf a).running then d
  else
    let e := d.diagPhase a vk ir var
    if (e.diagOf a).running then e
    else e.idled.completeRun (fun c => c.op == 0x26 && c.target == a) stOk (e.diagBytes a)

/-- DIAG_PHASE_END. -/
def execDiagPhaseEnd (a : Nat) (vk : Int) (ir var : Nat) (s : State) : Host.Outcome State Fault Refusal :=
  s.run (·.diagPhaseEnd a vk ir var)

/-- CALIBRATION_END of converter `k`: `diff` is the largest difference of step 4 (R205, R206). -/
def Dev.calibrated (d : Dev) (k : Nat) (step1 : Bool) (diff : Nat) (words : List Word) : Dev :=
  if d.adcMode k ≠ 2 then d
  else
    (d.calEnd k step1 diff words).completeRun (fun c => c.op == 0x35 && beAt c.payload 0 1 == k) stOk
      ([BitVec.ofNat 8 k, BitVec.ofNat 8 (d.calCode k step1 diff)] ++ beBytes 2 diff ++
        beBytes 2 (min 65535 ((d.now - (d.cv k).calAt) / usTicks)))

/-- CALIBRATION_END. -/
def execCalibrationEnd (k : Nat) (step1 : Bool) (diff : Nat) (words : List Word) (s : State) :
    Host.Outcome State Fault Refusal :=
  s.run (·.calibrated k step1 diff words)

/-- SAR_RESULT of input `i` of SAR `s`: stored, checked, and given to the command decoders (R271) and the brake (R343). -/
def Dev.sarTake (d : Dev) (s i v : Nat) (pair : Bool) : Dev :=
  let d := d.sarStore s i v pair
  let d := if i = 4 ∨ i = 5 then d.cmdAnalog (2 * s + (i - 4)) (v % 4096) else d
  if s = 1 ∧ i = 10 then d.sbcFeedback else d

/-- SAR_RESULT: the slot of SAR `s` that ends now gives `v`. -/
def Dev.sarResult (d : Dev) (s v : Nat) : Dev :=
  match d.sarSlot s with
  | some (i, pair) => d.sarTake s i v pair
  | none => d

/-- SAR_RESULT. -/
def execSarResult (sar v : Nat) (s : State) : Host.Outcome State Fault Refusal := s.run (·.sarResult sar v)

/-- The status of a finished take (R275). -/
def takeStatus (r : Nat) : Nat := if r = 0 then stOk else if r = 1 then stRange else stPriv

/-- PARAM_BLOCK_TAKE_END: the take at the front ends, and with it the pair of the write that started it. -/
def Dev.takeEnd (d : Dev) : Dev :=
  match d.ce.take with
  | [] => d
  | x :: _ =>
    let d := d.blockEnd x
    let st := takeStatus d.blockResult
    match x.pair with
    | some (label, k) => (d.pairEnd ⟨x.host, label⟩ k st).writeDone ⟨x.host, label⟩
    | none => { d with wstat := st }

/-- PARAM_BLOCK_TAKE_END. -/
def execParamBlockTakeEnd (s : State) : Host.Outcome State Fault Refusal := s.run Dev.takeEnd

end Sys2Proof.Machine
end

