-- ==== Sys2Proof/Machine/Pins.lean ====
section
/-! DEFINITION. The levels of the low-voltage output pins (R48, R67, R70, R75, R100, R447): what each is in the Reset and Unpowered
columns, during start-up, in LOCKOUT and while the device runs. -/

namespace Sys2Proof.Machine

/-- What an output pin shows: a level; high-Z; held by its pull; an open drain that is released; a bus under way (frames, scan data);
a clock of so many MHz; a level that the spec does not state. -/
inductive PinLevel where
  | low | high | highZ | pulledHigh | pulledLow | released | active | clock (mhz : Nat) | unstated
  deriving DecidableEq, Repr

/-- A push-pull output: high-Z without `VDD_IO`. -/
def Dev.outLevel (d : Dev) (b : Bool) : PinLevel := if !d.power.ioUp then .highZ else if b then .high else .low

/-- `SBC_HS` and `SBC_LS`: pulled low without `VDD_IO`. -/
def Dev.sbcLevel (d : Dev) (b : Bool) : PinLevel := if !d.power.ioUp then .pulledLow else if b then .high else .low

/-- The step of start-up in which the device is, or none. -/
def Dev.startStep (d : Dev) : Option Nat := if d.dstate = .imageCheck then some (d.rf Reg.IMG_STATUS 16 4) else none

/-- An image command uses the flash of a device that runs (R89). -/
def Dev.flashInUse (d : Dev) : Bool := d.live && d.hosts.cmds.any (fun c => c.phase == .running && (c.op == 0x44 || c.op == 0x45))

/-- The xSPI port: `rest` outside its use, `step1` and `step2` in the flash start and the read; not driven in LOCKOUT (R75). From the
end of the read to the end of commit, and in an image command, the spec states no level. -/
def Dev.xspi (d : Dev) (rest step1 step2 lockout : PinLevel) : PinLevel :=
  if !d.power.ioUp then .highZ
  else if d.dstate = .lockout then lockout
  else match d.startStep with
    | some 1 => step1
    | some 2 => step2
    | some 3 => .unstated
    | some 4 => .unstated
    | _ => if d.flashInUse then .unstated else rest

/-- `nIRQ_A` (0), `nIRQ_B` (1): open drain. -/
def Dev.irqLevel (d : Dev) (h : Nat) : PinLevel := if !d.power.ioUp then .highZ else if d.nIrq h then .released else .low

/-- `CANc_TX`: high, recessive, but while its controller sends a frame (R48, R70). -/
def Dev.canTxLevel (d : Dev) (c : Nat) : PinLevel :=
  if !d.power.ioUp then .highZ else if d.live && (d.cc c).sending.isSome then .active else .high

/-- An input whose level the state holds. -/
def inLevel (b : Bool) : PinLevel := if b then .high else .low

/-- What the device makes of a chain pin by itself, by the model's numbers: 0 `nPOR_OUT`, 1 `SYNC_OUT`, 2 `ALIVE`, 3–6 `POSOUTa`, 7
`nFLT`, 8 `SVC_REQ`, 9 and 10 `nIRQ_A` and `nIRQ_B`, 11 and 12 `SBC_HS` and `SBC_LS`, 13 `XSPI_CK`, 14 `XSPI_nCS`, 15–23 `XSPI_DQ0`–`XSPI_DQ7` and
`XSPI_DQS`, 24–26 `CANc_TX`; of the inputs 27 `nRESET`, 28 and 29 `nSTO_A` and `nSTO_B`, 30–35 the limit and home switches of X and Y. -/
def Dev.ownLevel (d : Dev) (pin : Nat) : PinLevel :=
  match pin with
  | 0 => d.outLevel d.pins.nPorOut
  | 1 => d.outLevel d.pins.syncOut
  | 2 => d.outLevel d.pins.alive
  | 3 | 4 | 5 | 6 => d.outLevel (tget d.pins.posOut (pin - 3))
  | 7 => d.outLevel (d.live && d.nFlt)
  | 8 => d.outLevel (d.rb Reg.SAFE_FLAGS 8)
  | 9 | 10 => d.irqLevel (pin - 9)
  | 11 => d.sbcLevel d.pins.sbcHs
  | 12 => d.sbcLevel d.pins.sbcLs
  | 13 => d.xspi .low (.clock 25) (.clock 100) .highZ
  | 14 => d.xspi .high .active .active .pulledHigh
  | 15 | 16 | 17 | 18 | 19 | 20 | 21 | 22 | 23 => d.xspi .highZ .active .active .highZ
  | 24 | 25 | 26 => d.canTxLevel (pin - 24)
  | 27 => inLevel (!d.power.nResetLow)
  | 28 | 29 => inLevel (tget d.safe.raw (pin - 28))
  | 30 | 31 | 32 | 33 | 34 | 35 => inLevel (tget (tget d.swIn ((pin - 30) / 3)) ((pin - 30) % 3)).1
  | _ => .unstated

/-! ### The boundary-scan chain (R412, R413) -/

/-- The cell of a pin, the pin of a cell: the spec gives the chain no order (log entry 135). -/
def cellOf (pin : Nat) : Nat := (Config.freeFun 0x412 [pin]).natAbs
def pinOf (cell : Nat) : Nat := (Config.freeFun 0x413 [cell]).natAbs

/-- An output pin of the chain under the test port: with EXTEST or CLAMP in effect it shows its boundary cell, with HIGHZ it floats, else
the device drives it (`own`). -/
def Dev.scanned (d : Dev) (pin : Nat) (own : PinLevel) : PinLevel :=
  if !d.power.ioUp then own
  else if d.tap.ir = 0x04 then .highZ
  else if d.tap.ir = 0x00 ∨ d.tap.ir = 0x03 then
    match d.tap.cells[cellOf pin]? with
    | some b => if b then .high else .low
    | none => .unstated
  else own

/-- The level that a cell captures: the one of its pin where the state says it, else what the board gives the pin. -/
def Dev.capturedBit (d : Dev) (levels : List Bool) (cell : Nat) : Bool :=
  match d.ownLevel (pinOf cell) with
  | .low | .pulledLow => false
  | .high | .pulledHigh => true
  | _ => levels.getD cell false

/-- What the chain has captured and shifts out as it takes `n` cells, the first one in the lowest bit of the first byte. -/
def Dev.captured (d : Dev) (levels : List Bool) (n : Nat) : List Byte :=
  (List.range ((n + 7) / 8)).map (fun i =>
    BitVec.ofNat 8 ((List.range 8).foldl (fun x k => x + (decide (8 * i + k < n) && d.capturedBit levels (8 * i + k)).toNat * 2 ^ k) 0))

/-- The cells of the chain are shifted in, and what it captured is shifted out, under an instruction. -/
def Dev.chain (d : Dev) (code : Nat) (cells levels : List Bool) : Dev :=
  (d.tapGo code (d.captured levels cells.length)).tapMod (fun t => { t with cells := cells })

/-- EXTEST, with the cells that it shifts in. -/
def Dev.extest (d : Dev) (cells levels : List Bool) : Dev :=
  if d.scanOk then d.chain 0x00 cells levels else d.tapBypass

/-- EXTEST. -/
def execExtest (cells levels : List Bool) (s : State) : Host.Outcome State Fault Refusal := s.runTap (·.extest cells levels)

/-- SAMPLE/PRELOAD: the cells are loaded and no pin changes. -/
def Dev.preload (d : Dev) (cells levels : List Bool) : Dev := d.chain 0x01 cells levels

/-- SAMPLE_PRELOAD. -/
def execSamplePreload (cells levels : List Bool) (s : State) : Host.Outcome State Fault Refusal := s.runTap (·.preload cells levels)

/-! ### The pins -/

/-- An output pin of the chain. -/
def Dev.pin (d : Dev) (n : Nat) : PinLevel := d.scanned n (d.ownLevel n)

/-- `nPOR_OUT`, `SYNC_OUT`, `ALIVE`, `POSOUTa`, `nFLT`, `SVC_REQ`, `nIRQ_A` and `nIRQ_B`, `SBC_HS`, `SBC_LS`. -/
def Dev.nPorOutPin (d : Dev) : PinLevel := d.pin 0
def Dev.syncOutPin (d : Dev) : PinLevel := d.pin 1
def Dev.alivePin (d : Dev) : PinLevel := d.pin 2
def Dev.posOutPin (d : Dev) (a : Nat) : PinLevel := d.pin (3 + a)
def Dev.nFltPin (d : Dev) : PinLevel := d.pin 7
def Dev.svcReqPin (d : Dev) : PinLevel := d.pin 8
def Dev.nIrqPin (d : Dev) (h : Nat) : PinLevel := d.pin (9 + h)
def Dev.sbcHsPin (d : Dev) : PinLevel := d.pin 11
def Dev.sbcLsPin (d : Dev) : PinLevel := d.pin 12

/-- `XSPI_CK`, `XSPI_nCS`, and `XSPI_DQ0`–`XSPI_DQ7` with `XSPI_DQS` as 8 (R48, R70, R75); `CANc_TX`. -/
def Dev.xspiCkPin (d : Dev) : PinLevel := d.pin 13
def Dev.xspiNcsPin (d : Dev) : PinLevel := d.pin 14
def Dev.xspiDqPin (d : Dev) (i : Nat) : PinLevel := d.pin (15 + i)
def Dev.canTxPin (d : Dev) (c : Nat) : PinLevel := d.pin (24 + c)

/-- `SPIx_MISO` of port A (0) or B (1): driven only while its `nCS` is low and the port is live (R48, R70); `misoBytes` of the held reply
are what it then shows. -/
def Dev.misoPin (d : Dev) (p : Nat) (nCs : Bool) : PinLevel :=
  d.scanned (36 + p) (if !d.power.ioUp || nCs || !d.live || !d.portsLive then .highZ else .active)

/-- `TDO`: driven only while the test port shifts data out (R48, R413). -/
def Dev.tdoPin (d : Dev) (shifting : Bool) : PinLevel := if !d.power.ioUp || !shifting then .highZ else .active

end Sys2Proof.Machine
end

