-- ==== Sys2Proof/Machine/Dispatch.lean ====
section
/-! DEFINITION. One arm per command of the table. -/

namespace Sys2Proof.Machine

def exec (i : Instr) (s : State) : Host.Outcome State Fault Refusal :=
  match i with
  | .powerOnResetEnd testMode => Sys2Proof.Machine.execPowerOnResetEnd testMode s
  | .wakeRecognised => Sys2Proof.Machine.execWakeRecognised s
  | .wakeFall => Sys2Proof.Machine.execWakeFall s
  | .mainRailLoss rail => Sys2Proof.Machine.execMainRailLoss rail s
  | .vkaLoss => Sys2Proof.Machine.execVkaLoss s
  | .vkaReturn => Sys2Proof.Machine.execVkaReturn s
  | .nresetPulse held testMode => Sys2Proof.Machine.execNresetPulse held testMode s
  | .sramClearEnd => Sys2Proof.Machine.execSramClearEnd s
  | .clkinDetectEnd edges => Sys2Proof.Machine.execClkinDetectEnd edges s
  | .clockRomStepEnd romOk mdllLock iloLock => Sys2Proof.Machine.execClockRomStepEnd romOk mdllLock iloLock s
  | .flashStartEnd profileOk hdrA hdrB => Sys2Proof.Machine.execFlashStartEnd profileOk hdrA hdrB s
  | .imageReadEnd body namesCd usesAux strobeOk => Sys2Proof.Machine.execImageReadEnd body namesCd usesAux strobeOk s
  | .verifyEnd sig => Sys2Proof.Machine.execVerifyEnd sig s
  | .commitEnd content => Sys2Proof.Machine.execCommitEnd content s
  | .mandatoryBistEnd outs => Sys2Proof.Machine.execMandatoryBistEnd outs s
  | .islandsStepEnd => Sys2Proof.Machine.execIslandsStepEnd s
  | .keyDerived => Sys2Proof.Machine.execKeyDerived s
  | .replyAgain f => Sys2Proof.Machine.execReplyAgain f s
  | .identity f => Sys2Proof.Machine.execIdentity f s
  | .status f => Sys2Proof.Machine.execStatus f s
  | .heartbeat f => Sys2Proof.Machine.execHeartbeat f s
  | .ringRead f => Sys2Proof.Machine.execRingRead f s
  | .memRead f => Sys2Proof.Machine.execMemRead f s
  | .vitRead f => Sys2Proof.Machine.execVitRead f s
  | .regRead f => Sys2Proof.Machine.execRegRead f s
  | .regWrite f => Sys2Proof.Machine.execRegWrite f s
  | .memWrite f => Sys2Proof.Machine.execMemWrite f s
  | .arm f => Sys2Proof.Machine.execArm f s
  | .disarm f => Sys2Proof.Machine.execDisarm f s
  | .axisEnable f => Sys2Proof.Machine.execAxisEnable f s
  | .axisDisable f => Sys2Proof.Machine.execAxisDisable f s
  | .axisStop f => Sys2Proof.Machine.execAxisStop f s
  | .setpoint f => Sys2Proof.Machine.execSetpoint f s
  | .islDiag f => Sys2Proof.Machine.execIslDiag f s
  | .sbcTest f => Sys2Proof.Machine.execSbcTest f s
  | .ownOffer f => Sys2Proof.Machine.execOwnOffer f s
  | .ownTake f => Sys2Proof.Machine.execOwnTake f s
  | .ownSeize f => Sys2Proof.Machine.execOwnSeize f s
  | .fltClear f => Sys2Proof.Machine.execFltClear f s
  | .fltInj f => Sys2Proof.Machine.execFltInj f s
  | .thermMeasure f => Sys2Proof.Machine.execThermMeasure f s
  | .ceCapture f => Sys2Proof.Machine.execCeCapture f s
  | .ceMode f => Sys2Proof.Machine.execCeMode f s
  | .adcCal f => Sys2Proof.Machine.execAdcCal f s
  | .serviceEnter f => Sys2Proof.Machine.execServiceEnter f s
  | .serviceExit f => Sys2Proof.Machine.execServiceExit f s
  | .bistRun f => Sys2Proof.Machine.execBistRun f s
  | .repairFuse f => Sys2Proof.Machine.execRepairFuse f s
  | .imgWrite f => Sys2Proof.Machine.execImgWrite f s
  | .imgVerify f => Sys2Proof.Machine.execImgVerify f s
  | .imgSelect f => Sys2Proof.Machine.execImgSelect f s
  | .imgAccept f => Sys2Proof.Machine.execImgAccept f s
  | .imgReject f => Sys2Proof.Machine.execImgReject f s
  | .attest f => Sys2Proof.Machine.execAttest f s
  | .docentLaneExecute => Sys2Proof.Machine.execDocentLaneExecute s
  | .promiseMissed host label => Sys2Proof.Machine.execPromiseMissed host label s
  | .heartbeatExpired host => Sys2Proof.Machine.execHeartbeatExpired host s
  | .ownOfferExpired x => Sys2Proof.Machine.execOwnOfferExpired x s
  | .selfReset => Sys2Proof.Machine.execSelfReset s
  | .lossOfLock path => Sys2Proof.Machine.execLossOfLock path s
  | .pathRelock path => Sys2Proof.Machine.execPathRelock path s
  | .clkReturn host => Sys2Proof.Machine.execClkReturn host s
  | .clkStep host steps => Sys2Proof.Machine.execClkStep host steps s
  | .phaseStep => Sys2Proof.Machine.execPhaseStep s
  | .clockMonitorWindow ctrl pwm mgmt can ref watch => Sys2Proof.Machine.execClockMonitorWindow ctrl pwm mgmt can ref watch s
  | .delayLineCalLost => Sys2Proof.Machine.execDelayLineCalLost s
  | .epochTick => Sys2Proof.Machine.execEpochTick s
  | .syncOutPulseEnd => Sys2Proof.Machine.execSyncOutPulseEnd s
  | .syncInEdge ph => Sys2Proof.Machine.execSyncInEdge ph s
  | .snap => Sys2Proof.Machine.execSnap s
  | .syncInMissing => Sys2Proof.Machine.execSyncInMissing s
  | .periodBoundary a => Sys2Proof.Machine.execPeriodBoundary a s
  | .peakUpdate a => Sys2Proof.Machine.execPeakUpdate a s
  | .pwmEdge a p rise => Sys2Proof.Machine.execPwmEdge a p rise s
  | .deadTimeEnd a p high => Sys2Proof.Machine.execDeadTimeEnd a p high s
  | .tripInputChange a src active => Sys2Proof.Machine.execTripInputChange a src active s
  | .blankingEnd a => Sys2Proof.Machine.execBlankingEnd a s
  | .tripLatchClear host a bits => Sys2Proof.Machine.execTripLatchClear host a bits s
  | .sinkAction sink => Sys2Proof.Machine.execSinkAction sink s
  | .channelBoundary j => Sys2Proof.Machine.execChannelBoundary j s
  | .linkFrameReceived lane atCd words checksOk seqOk lossFlag tel => Sys2Proof.Machine.execLinkFrameReceived lane atCd words checksOk seqOk lossFlag tel s
  | .linkTimeout lane atCd => Sys2Proof.Machine.execLinkTimeout lane atCd s
  | .giSafeStateApply g => Sys2Proof.Machine.execGiSafeStateApply g s
  | .cdConfirmOffAssumed n => Sys2Proof.Machine.execCdConfirmOffAssumed n s
  | .retrainStart lane => Sys2Proof.Machine.execRetrainStart lane s
  | .retrainEnd lane ok => Sys2Proof.Machine.execRetrainEnd lane ok s
  | .islandCommandWord lane checksOk => Sys2Proof.Machine.execIslandCommandWord lane checksOk s
  | .statusWordReceived lane checksOk lossFlag => Sys2Proof.Machine.execStatusWordReceived lane checksOk lossFlag s
  | .interlockRelease sw => Sys2Proof.Machine.execInterlockRelease sw s
  | .vgsConfirm sw on => Sys2Proof.Machine.execVgsConfirm sw on s
  | .segmentEnd sw timeout => Sys2Proof.Machine.execSegmentEnd sw timeout s
  | .gateMonitorTimeout sw => Sys2Proof.Machine.execGateMonitorTimeout sw s
  | .scBlankEnd sw => Sys2Proof.Machine.execScBlankEnd sw s
  | .shortDetected sw => Sys2Proof.Machine.execShortDetected sw s
  | .ocDetected a p => Sys2Proof.Machine.execOcDetected a p s
  | .islandSupplyCrossing isl mon beyond => Sys2Proof.Machine.execIslandSupplyCrossing isl mon beyond s
  | .honLimit n => Sys2Proof.Machine.execHonLimit n s
  | .diagPhaseEnd a vk ir var => Sys2Proof.Machine.execDiagPhaseEnd a vk ir var s
  | .supplyFault rail => Sys2Proof.Machine.execSupplyFault rail s
  | .vddIoLow => Sys2Proof.Machine.execVddIoLow s
  | .seqDelayEnd k => Sys2Proof.Machine.execSeqDelayEnd k s
  | .seqWindowWaitExpiry k => Sys2Proof.Machine.execSeqWindowWaitExpiry k s
  | .conversionResult k code urgent diff residue => Sys2Proof.Machine.execConversionResult k code urgent diff residue s
  | .calibrationEnd k step1 diff words => Sys2Proof.Machine.execCalibrationEnd k step1 diff words s
  | .sequencerGo host bits => Sys2Proof.Machine.execSequencerGo host bits s
  | .forceSlice host bits => Sys2Proof.Machine.execForceSlice host bits s
  | .urgentRequest host k value => Sys2Proof.Machine.execUrgentRequest host k value s
  | .urgentArrival k => Sys2Proof.Machine.execUrgentArrival k s
  | .latestValueUpdate k c => Sys2Proof.Machine.execLatestValueUpdate k c s
  | .windowOpen k p => Sys2Proof.Machine.execWindowOpen k p s
  | .windowClose k p => Sys2Proof.Machine.execWindowClose k p s
  | .windowResultReceived k p => Sys2Proof.Machine.execWindowResultReceived k p s
  | .sarResult sar v => Sys2Proof.Machine.execSarResult sar v s
  | .fieldStep a => Sys2Proof.Machine.execFieldStep a s
  | .sectorChange a => Sys2Proof.Machine.execSectorChange a s
  | .reacqTimeout a => Sys2Proof.Machine.execReacqTimeout a s
  | .hallEdge a code => Sys2Proof.Machine.execHallEdge a code s
  | .hallTimeout a => Sys2Proof.Machine.execHallTimeout a s
  | .lposRead a => Sys2Proof.Machine.execLposRead a s
  | .ceStepStart e skew => Sys2Proof.Machine.execCeStepStart e skew s
  | .ceCurrentSection a upset => Sys2Proof.Machine.execCeCurrentSection a upset s
  | .ceStepEnd e upset useA useB => Sys2Proof.Machine.execCeStepEnd e upset useA useB s
  | .stepOverrun e => Sys2Proof.Machine.execStepOverrun e s
  | .laneTimeout l => Sys2Proof.Machine.execLaneTimeout l s
  | .cmdinEdge d perA highA perB highB => Sys2Proof.Machine.execCmdinEdge d perA highA perB highB s
  | .decoderLoss e d => Sys2Proof.Machine.execDecoderLoss e d s
  | .paramBlockWrite host first count => Sys2Proof.Machine.execParamBlockWrite host first count s
  | .paramBlockTakeEnd => Sys2Proof.Machine.execParamBlockTakeEnd s
  | .injectionRun host g run => Sys2Proof.Machine.execInjectionRun host g run s
  | .auxCurrentTrip x bridge peak => Sys2Proof.Machine.execAuxCurrentTrip x bridge peak s
  | .auxOvercurrent x bridge => Sys2Proof.Machine.execAuxOvercurrent x bridge s
  | .auxHonLimit x leg => Sys2Proof.Machine.execAuxHonLimit x leg s
  | .auxBootstrapLow x leg severe => Sys2Proof.Machine.execAuxBootstrapLow x leg severe s
  | .vauxUndervoltage v => Sys2Proof.Machine.execVauxUndervoltage v s
  | .auxSwitchConfirmed x sw => Sys2Proof.Machine.execAuxSwitchConfirmed x sw s
  | .holdDelayEnd x => Sys2Proof.Machine.execHoldDelayEnd x s
  | .auxTarget host x target => Sys2Proof.Machine.execAuxTarget host x target s
  | .home host x => Sys2Proof.Machine.execHome host x s
  | .auxDuty host x duty => Sys2Proof.Machine.execAuxDuty host x duty s
  | .dclEvaluation c => Sys2Proof.Machine.execDclEvaluation c s
  | .vdcStale c => Sys2Proof.Machine.execVdcStale c s
  | .ov3Trip => Sys2Proof.Machine.execOv3Trip s
  | .ov3Release => Sys2Proof.Machine.execOv3Release s
  | .ov3PlausibilityTimer => Sys2Proof.Machine.execOv3PlausibilityTimer s
  | .bcsResult n => Sys2Proof.Machine.execBcsResult n s
  | .noFallTimer n => Sys2Proof.Machine.execNoFallTimer n s
  | .chopperMarkClear host n => Sys2Proof.Machine.execChopperMarkClear host n s
  | .fallbackLevelCross n above => Sys2Proof.Machine.execFallbackLevelCross n above s
  | .dischargeGo host => Sys2Proof.Machine.execDischargeGo host s
  | .dischargeStop host => Sys2Proof.Machine.execDischargeStop host s
  | .dischargeProbeEnd => Sys2Proof.Machine.execDischargeProbeEnd s
  | .dischargeTargetTimeout => Sys2Proof.Machine.execDischargeTargetTimeout s
  | .stoInputChange n high => Sys2Proof.Machine.execStoInputChange n high s
  | .stoFilterExpiry n => Sys2Proof.Machine.execStoFilterExpiry n s
  | .stoDiscrepancy => Sys2Proof.Machine.execStoDiscrepancy s
  | .stoPathTestStart => Sys2Proof.Machine.execStoPathTestStart s
  | .stoPathTestPhaseEnd ok => Sys2Proof.Machine.execStoPathTestPhaseEnd ok s
  | .stoTestOverdue => Sys2Proof.Machine.execStoTestOverdue s
  | .torqueMonitorEval a => Sys2Proof.Machine.execTorqueMonitorEval a s
  | .sbcRel host rel => Sys2Proof.Machine.execSbcRel host rel s
  | .brakeApplySpeedReached => Sys2Proof.Machine.execBrakeApplySpeedReached s
  | .sbcTestWaitExpiry => Sys2Proof.Machine.execSbcTestWaitExpiry s
  | .sbcAutoTestStart => Sys2Proof.Machine.execSbcAutoTestStart s
  | .sbcTestOverdue => Sys2Proof.Machine.execSbcTestOverdue s
  | .degTimeExpired => Sys2Proof.Machine.execDegTimeExpired s
  | .safetyWatchdogExpiry c => Sys2Proof.Machine.execSafetyWatchdogExpiry c s
  | .faultReport ext gone poison => Sys2Proof.Machine.execFaultReport ext gone poison s
  | .causeExpiry code => Sys2Proof.Machine.execCauseExpiry code s
  | .reactionWindowEnd code => Sys2Proof.Machine.execReactionWindowEnd code s
  | .compatRecoveryScan => Sys2Proof.Machine.execCompatRecoveryScan s
  | .recoveryHourEnd => Sys2Proof.Machine.execRecoveryHourEnd s
  | .recovRst host => Sys2Proof.Machine.execRecovRst host s
  | .logclr host => Sys2Proof.Machine.execLogclr host s
  | .fltLookup host code => Sys2Proof.Machine.execFltLookup host code s
  | .logEntryWritten ok => Sys2Proof.Machine.execLogEntryWritten ok s
  | .injectionEnd => Sys2Proof.Machine.execInjectionEnd s
  | .docentCheckIn => Sys2Proof.Machine.execDocentCheckIn s
  | .aliveHalfPeriod selfOk => Sys2Proof.Machine.execAliveHalfPeriod selfOk s
  | .docentStall => Sys2Proof.Machine.execDocentStall s
  | .hltClr host bits => Sys2Proof.Machine.execHltClr host bits s
  | .hltConfigWrite host m lo value => Sys2Proof.Machine.execHltConfigWrite host m lo value s
  | .eventDelivery => Sys2Proof.Machine.execEventDelivery s
  | .canFrameReceived c id ide fdf brs esi remote dlc data tec rec' => Sys2Proof.Machine.execCanFrameReceived c id ide fdf brs esi remote dlc data tec rec' s
  | .canFrameStart c => Sys2Proof.Machine.execCanFrameStart c s
  | .transmitComplete c tec rec' tdc => Sys2Proof.Machine.execTransmitComplete c tec rec' tdc s
  | .canError c lec tec rec' tdc => Sys2Proof.Machine.execCanError c lec tec rec' tdc s
  | .integrationComplete c => Sys2Proof.Machine.execIntegrationComplete c s
  | .restrictedTimer c => Sys2Proof.Machine.execRestrictedTimer c s
  | .restrictionProlonged c => Sys2Proof.Machine.execRestrictionProlonged c s
  | .busOffWaitEnd c => Sys2Proof.Machine.execBusOffWaitEnd c s
  | .recoveryComplete c => Sys2Proof.Machine.execRecoveryComplete c s
  | .bocntResetTimer c => Sys2Proof.Machine.execBocntResetTimer c s
  | .canStop host c => Sys2Proof.Machine.execCanStop host c s
  | .canRecover host c => Sys2Proof.Machine.execCanRecover host c s
  | .txRequest host c bits => Sys2Proof.Machine.execTxRequest host c bits s
  | .txCancel host c bits => Sys2Proof.Machine.execTxCancel host c bits s
  | .objectHeaderRead host c n => Sys2Proof.Machine.execObjectHeaderRead host c n s
  | .objectTimeout c n => Sys2Proof.Machine.execObjectTimeout c n s
  | .tamperAlarm k => Sys2Proof.Machine.execTamperAlarm k s
  | .secTamperClear host bits => Sys2Proof.Machine.execSecTamperClear host bits s
  | .provKeyhash hash => Sys2Proof.Machine.execProvKeyhash hash s
  | .provPolicy policy => Sys2Proof.Machine.execProvPolicy policy s
  | .provIdent entropyOk seed => Sys2Proof.Machine.execProvIdent entropyOk seed s
  | .provLock => Sys2Proof.Machine.execProvLock s
  | .extest cells levels => Sys2Proof.Machine.execExtest cells levels s
  | .samplePreload cells levels => Sys2Proof.Machine.execSamplePreload cells levels s
  | .idcode trst => Sys2Proof.Machine.execIdcode trst s
  | .clamp => Sys2Proof.Machine.execClamp s
  | .highz => Sys2Proof.Machine.execHighz s
  | .bypass => Sys2Proof.Machine.execBypass s
  | .scan => Sys2Proof.Machine.execScan s
  | .dbgChal entropyOk rnd => Sys2Proof.Machine.execDbgChal entropyOk rnd s
  | .dbgResp key sig => Sys2Proof.Machine.execDbgResp key sig s
  | .dbgRespVerified => Sys2Proof.Machine.execDbgRespVerified s
  | .dbgAccess write addr value => Sys2Proof.Machine.execDbgAccess write addr value s
  | .bistUnitComplete out => Sys2Proof.Machine.execBistUnitComplete out s
  | .repairProgramEnd ok n => Sys2Proof.Machine.execRepairProgramEnd ok n s
  | .attestSignatureComplete => Sys2Proof.Machine.execAttestSignatureComplete s
  | .sensorDemand sensor => Sys2Proof.Machine.execSensorDemand sensor s
  | .sensorConversionEnd sensor temp => Sys2Proof.Machine.execSensorConversionEnd sensor temp s
  | .throttleInterval a => Sys2Proof.Machine.execThrottleInterval a s
  | .preserveTurnStart => Sys2Proof.Machine.execPreserveTurnStart s
  | .preserveProgramEnd log ok => Sys2Proof.Machine.execPreserveProgramEnd log ok s
  | .registerWrite host addr value => Sys2Proof.Machine.execRegisterWrite host addr value s
  | .unknownOpcodeFrame op f => Sys2Proof.Machine.execUnknownOpcodeFrame op f s
  | .imgWriteEnd ok => Sys2Proof.Machine.execImgWriteEnd ok s
  | .imgVerifyEnd profileOk body namesCd usesAux strobeOk sig => Sys2Proof.Machine.execImgVerifyEnd profileOk body namesCd usesAux strobeOk sig s
  | .switchRawTransition x sw level => Sys2Proof.Machine.execSwitchRawTransition x sw level s
  | .supplyReturn rail => Sys2Proof.Machine.execSupplyReturn rail s
  | .vauxReturn v => Sys2Proof.Machine.execVauxReturn v s
  | .auxBootstrapRelease x leg severe => Sys2Proof.Machine.execAuxBootstrapRelease x leg severe s
  | .delayLineCalReturn => Sys2Proof.Machine.execDelayLineCalReturn s
  | .sbcSettleEnd => Sys2Proof.Machine.execSbcSettleEnd s

end Sys2Proof.Machine
end

