-- ==== Sys2Proof/Machine/Tick.lean ====
section
/-! DEFINITION. What a tick of `CK_CTRL` (2.5 ns) does whatever is commanded: the step on an empty queue (log entry 2). -/

namespace Sys2Proof.Machine

/-- Drive time counts in RUN and DEGRADED (R337, R346). -/
def Dev.driveTick (d : Dev) : Dev :=
  if d.dstate = .run ∨ d.dstate = .degraded then
    { d with safe := { d.safe with stoT := d.safe.stoT + 1, sbcT := d.safe.sbcT + 1 } }
  else d

/-- Docent lane use of the last 10 µs, in %: free, since the spec gives no work times of every opcode (R375, log entry 7). -/
def Dev.laneUse (d : Dev) : Dev := (d.hlt 0x03 0 ((d.free 0x300 % 101 : Nat) : Int)).tick1

/-- Bad frames of each lane in the last ms (R375). -/
def Dev.badFrames (d : Dev) : Dev :=
  let e := (List.range 14).foldl (fun e i => e.hlt 0x09 i ((tget d.rgr.badMs i : Nat) : Int)) d
  { e with rgr := { e.rgr with badMs := Vector.replicate 14 0 } }

/-- SRAM corrections of the last s (R375). -/
def Dev.corrections (d : Dev) : Dev :=
  let e := d.hlt 0x0E 0 (d.rgr.eccSec : Int)
  { e with rgr := { e.rgr with eccSec := 0 } }

/-- One tick: the time, the registers as they now stand (R18), drive time, and the health-monitor sources that sample by time alone. -/
def Dev.tick (d : Dev) : Dev :=
  let d := { d with now := d.now + 1, regs0 := d.regs, written := [], hwSet := [] }.driveTick
  let d := if d.now % 4000 = 0 then d.laneUse else d
  let d := if d.now % msTicks = 0 then d.badFrames else d
  if d.now % (1000 * msTicks) = 0 then d.corrections else d

end Sys2Proof.Machine
end

