-- ==== Sys2Proof/Safety.lean ====
section
/-! DEFINITION. What claims are stated with: sound states, fuses that only fill up, and the rows that are frames. -/

namespace Sys2Proof.Machine

/-! ### Sound states -/

/-- Every sparse table is in canonical form: registers, SRAM, preserve words and their wear. -/
def Dev.tablesOk (d : Dev) : Bool :=
  canon resetOf d.regs && Memory.wf d.sram && canon (fun _ => (0 : Word)) d.prs.words && canon (fun _ => (0 : Nat)) d.prs.wear

/-- The islands' link interfaces never ask for both switches of a half-bridge at once (R182): switch n is the high one of
half-bridge n, switch n + 12 the low one. -/
def Dev.noBoth (d : Dev) : Bool := (List.range 12).all (fun n => !((d.swi n).cdSent && (d.swi (n + 12)).cdSent))

/-- What every step keeps. -/
def Dev.sound (d : Dev) : Bool := d.tablesOk && d.noBoth

/-! ### Fuses (R401, R404, R422) -/

/-- `y` holds every fuse of `x`: identity and lock stay, a programmed hash or policy never changes, repairs are only added. -/
def FusesKept (x y : Sec) : Prop :=
  y.uid = x.uid ∧ (x.lock = true → y.lock = true) ∧ (∀ h, x.keyHash = some h → y.keyHash = some h) ∧
  (∀ p, x.policy = some p → y.policy = some p) ∧ x.fused <+: y.fused

/-! ### Rows that act while the device sleeps or waits in reset (R61, R63, R65–R67, R45, R48, R332, R412, R413, R445, R447) -/

/-- Power, wake, reset, `VDD_IO`, the program of a preserve word under way, the pulse-inhibit inputs and the test port. -/
def actsAsleep : Instr → Bool
  | .powerOnResetEnd _ | .wakeRecognised | .wakeFall | .mainRailLoss _ | .vkaLoss | .vkaReturn | .nresetPulse _ _ => true
  | .preserveProgramEnd _ _ | .stoInputChange _ _ | .vddIoLow | .supplyReturn _ => true
  | .dbgChal _ _ | .dbgResp _ _ | .dbgAccess _ _ _ | .provKeyhash _ | .provPolicy _ | .provIdent _ _ | .provLock => true
  | .extest _ _ | .samplePreload _ _ | .idcode _ | .clamp | .highz | .bypass | .scan => true
  | _ => false

/-! ### Rows that are host frames (R117) -/

/-- The rows of the ticketed opcodes. -/
def ticketedRows : List (Nat × (Frame → Instr)) :=
  [(0x11, .regWrite), (0x12, .memWrite), (0x20, .arm), (0x21, .disarm), (0x22, .axisEnable), (0x23, .axisDisable),
   (0x24, .axisStop), (0x25, .setpoint), (0x26, .islDiag), (0x27, .sbcTest), (0x28, .ownOffer), (0x29, .ownTake),
   (0x2A, .ownSeize), (0x30, .fltClear), (0x31, .fltInj), (0x32, .thermMeasure), (0x33, .ceCapture), (0x34, .ceMode),
   (0x35, .adcCal), (0x40, .serviceEnter), (0x41, .serviceExit), (0x42, .bistRun), (0x43, .repairFuse), (0x44, .imgWrite),
   (0x45, .imgVerify), (0x46, .imgSelect), (0x47, .imgAccept), (0x48, .imgReject), (0x49, .attest)]

/-- The rows of the direct opcodes. -/
def directRows : List (Nat × (Frame → Instr)) :=
  [(0x01, .replyAgain), (0x02, .identity), (0x03, .status), (0x04, .heartbeat), (0x05, .ringRead), (0x06, .memRead),
   (0x07, .vitRead), (0x10, .regRead)]

/-- A frame with opcode byte `op`, of a row that `pick` says it may belong to, as it arrives: the device without it, and its bytes. On port A or B (0, 1) it comes by itself, and clocks out
what the port held (R100); on C or D (2, 3) it is the next message of the port's queue, and nothing arrives when that is of another
opcode, or while the other CAN port has messages waiting and this one was served last (R98). Before clock lock no port takes any
(R70, R71). -/
def Dev.arrivalOf (d : Dev) (op : Nat) (pick : Option Byte → Bool) (f : Frame) : Option (Dev × List Byte) :=
  if !d.portsLive then none
  else if f.port < 2 then
    if pick (some (BitVec.ofNat 8 op)) then some (d.clockOut f.port (frameBytes op f).length f.early, frameBytes op f) else none
  else if f.port < 4 then
    match (tget d.cport (f.port - 2)).cmdQ with
    | [] => none
    | bs :: rest =>
      if pick bs[2]? = true ∧ d.mayTurn f.port then
        some (({ d.cpMod (f.port - 2) (fun q => { q with cmdQ := rest }) with hosts := { d.hosts with turn := f.port } } : Dev), bs)
      else none
  else none

/-- A frame of the row of opcode `op` as it arrives. -/
def Dev.arrival (d : Dev) (op : Nat) (f : Frame) : Option (Dev × List Byte) :=
  d.arrivalOf op (fun b => b == some (BitVec.ofNat 8 op)) f

/-- The opcode byte that UNKNOWN_OPCODE_FRAME picks: no defined one, or none at all. -/
def unknownByte (b : Option Byte) : Bool := match b with | some x => !known x.toNat | none => true

/-- A frame that ends alone in its cycle of `CK_MGMT` (R98). -/
def Dev.alone (d : Dev) (f : Frame) : Prop := f.more = false ∧ d.hosts.ended = []

/-- What the row of a frame answers in every case: nothing without a frame; with another frame to come in the cycle it waits; else the
frames of the cycle are checked in turns of one per port (R72, R98). -/
def RowArrives (s : State) (op : Nat) (row : Frame → Instr) (f : Frame) : Prop :=
  (s.dev.arrival op f = none → exec (row f) s = .next s) ∧
  (∀ d bs, s.dev.arrival op f = some (d, bs) →
    let l := d.hosts.ended ++ [(f.port, bs)]
    (f.more = true → exec (row f) s = .next ⟨{ d with hosts := { d.hosts with ended := l } }, s.pending⟩) ∧
    (f.more = false → exec (row f) s = .next
      ⟨(inTurns l).foldl (fun d x => d.frameIn x.1 x.2) { d with hosts := { d.hosts with ended := [] } }, s.pending⟩))

/-- Checks 1–13 pass for the bytes on port `p`: the device after the PDU part of check 4, and the request. -/
def Dev.accepts (d : Dev) (p : Nat) (bs : List Byte) : Option (Dev × Req) :=
  if bs.head? ≠ some 0xA5 ∨ d.bistUnit = some 0xE then none
  else match soundness p bs with
    | .inl _ => none
    | .inr l => match d.unwrap p bs l with
      | (_, .inl _) => none
      | (e, .inr (pl, conn)) => if e.verdict (reqOf p bs pl conn) = stOk then some (e, reqOf p bs pl conn) else none

/-- Checks 1–4 pass for the bytes on port `p` and one of the checks 5–13 fails: the device after the PDU part of check 4, the request and
the status of the failing check. -/
def Dev.rejects (d : Dev) (p : Nat) (bs : List Byte) : Option (Dev × Req × Nat) :=
  if bs.head? ≠ some 0xA5 ∨ d.bistUnit = some 0xE then none
  else match soundness p bs with
    | .inl _ => none
    | .inr l => match d.unwrap p bs l with
      | (_, .inl _) => none
      | (e, .inr (pl, conn)) =>
        if e.verdict (reqOf p bs pl conn) = stOk then none else some (e, reqOf p bs pl conn, e.verdict (reqOf p bs pl conn))

/-- What a frame that one of the checks 5–13 refuses leaves behind: the reply with the failing status (of a PDU's frame in a PDU of the same
connection), event 0x18 + p but for NOTREADY, and nothing else but what the health monitors count of the reply. -/
def RefusedOnly (e t : Dev) (p : Nat) (bs : List Byte) (r : Req) (v : Nat) : Prop :=
  t = (e.answer p bs r.conn v (e.infoOf v) []).evIf (v != stNotReady) (0x18 + p) ∧
  t.events = e.events ++ (if v = stNotReady then [] else [0x18 + p]) ∧ t.hosts.cmds = e.hosts.cmds ∧ t.hosts.sram = e.hosts.sram ∧
  t.dstate = e.dstate ∧ t.ax = e.ax ∧ t.flt = e.flt ∧ t.sram = e.sram ∧ t.port = e.port ∧ t.prs = e.prs ∧ t.sec = e.sec ∧ t.ce = e.ce ∧
  t.pwm = e.pwm ∧ t.sw = e.sw ∧ t.aux = e.aux ∧ t.can = e.can ∧ t.boot = e.boot ∧ t.wstat = e.wstat ∧
  (e.tablesOk = true → ∀ a, blockOf a ≠ 0x0D → t.rget a = e.rget a)

end Sys2Proof.Machine
end

