-- ==== Sys2Proof/Certificates/Slice0/Obligations.lean ====
section
/-! DEFINITION. The statements for the provers. -/

open Sys2Proof Sys2Proof.Machine

/-- The queue of commands, first in, first out; the tick is the model's choice (log entry 2). -/
def Obligations.StepRunsTheFrontCommand : Prop :=
  (∀ (c : Instr) (rest : List Instr) (s : State), s.pending = c :: rest → step s = exec c { s with pending := rest }) ∧
  (∀ s : State, s.pending = [] → s.dev.live = false → step s = .next s) ∧
  (∀ s : State, s.pending = [] → s.dev.live = true → ∃ e : Dev, step s = .next ⟨e, []⟩ ∧ e.now = s.dev.now + 1 ∧
    e.regs0 = s.dev.regs ∧ e.written = [] ∧
    e.sram = s.dev.sram ∧ e.sw = s.dev.sw ∧ e.ax = s.dev.ax ∧ e.hosts = s.dev.hosts ∧ e.prs = s.dev.prs ∧ e.sec = s.dev.sec ∧
    e.flt = s.dev.flt ∧
    (s.dev.dstate = .run ∨ s.dev.dstate = .degraded →
      e.safe = { s.dev.safe with stoT := s.dev.safe.stoT + 1, sbcT := s.dev.safe.sbcT + 1 }) ∧
    (s.dev.dstate ≠ .run → s.dev.dstate ≠ .degraded → e.safe = s.dev.safe))

/-- R65, R445: what a device that does not run answers. -/
def Obligations.EveryCommandAnswersANextState : Prop :=
  ∀ (i : Instr) (s : State), ∃ e : Dev, exec i s = .next ⟨e, s.pending⟩ ∧
    (s.dev.live = false → actsAsleep i = false → e = s.dev)

/-- R5, R9, R25, R66, R374, R448: State.reset, and the entry to BOOT. What pins, rails and fuses are at reset is the model's choice (log
entry 3), and so is the preserve array before the first boot, of which the boot count's program is left (log entry 5). -/
def Obligations.ResetLeavesTheReset : Prop :=
  State.reset.pending = [] ∧ State.reset.dev.dstate = .boot ∧ State.reset.dev.now = 0 ∧
  (∀ a, State.reset.dev.rget a = resetOf a) ∧ resetOf Reg.SYS_ID = 0x59419412 ∧
  (∀ a, State.reset.dev.mget a = 0) ∧ State.reset.dev.hosts.cmds = [] ∧ State.reset.dev.flt.recs = [] ∧
  State.reset.dev.events = [] ∧ (∀ n < 28, (State.reset.dev.swi n).cdSent = false ∧ (State.reset.dev.swi n).islOff = true) ∧
  (∀ a < 4, State.reset.dev.axOf a = .idle) ∧ State.reset.dev.prs.words = [(0x3F0, 0x10000)] ∧
  (∀ w, State.reset.dev.wear w = if w = 0x3F0 then 4 else 0) ∧
  (∀ (e : Dev) (c : BootCause), (e.enterBoot c).dstate = .boot ∧ (e.enterBoot c).now = 0 ∧
    (e.enterBoot c).boot.cause = c ∧ ∀ a, (e.enterBoot c).rget a = resetOf a)

/-- The registers (R4) and the SRAM (R12) as stores. That their tables are sparse and in canonical form is the model's own. -/
def Obligations.StoresReadBack : Prop :=
  ∀ (d : Dev), d.tablesOk = true →
    (∀ a v b, (d.rset a v).rget b = (if b = a then v else d.rget b) ∧ (d.rset a v).tablesOk = true) ∧
    (∀ a lo w x, lo + w ≤ 32 → (d.wf a lo w x).rf a lo w = x % 2 ^ w ∧ (d.wf a lo w x).tablesOk = true ∧
      ∀ lo' w', lo' + w' ≤ 32 → lo + w ≤ lo' ∨ lo' + w' ≤ lo → (d.wf a lo w x).rf a lo' w' = d.rf a lo' w') ∧
    (∀ a b c, (d.mset a b).mget c = (if c = a then b else d.mget c) ∧ (d.mset a b).tablesOk = true) ∧
    (∀ a bs, (d.mwrite a bs).mread a bs.length = bs ∧ (d.mwrite a bs).tablesOk = true ∧
      ∀ c, (c < a ∨ a + bs.length ≤ c) → (d.mwrite a bs).mget c = d.mget c)

/-- R182, R183 over every command of the device: no history of commands leads to both switches of a half-bridge on. -/
def Obligations.EveryStepKeepsSound : Prop :=
  ∀ s t : State, s.dev.sound = true → step s = .next t → t.dev.sound = true

/-- The invariant of EveryStepKeepsSound holds at State.reset. -/
def Obligations.ResetIsSound : Prop := State.reset.dev.sound = true

/-- R401, R404, R411, R421, R422 over every command of the device. -/
def Obligations.EveryStepKeepsTheFuses : Prop :=
  ∀ s t : State, step s = .next t → FusesKept s.dev.sec t.dev.sec

/-- R8 for writes at once and for writes that waited in staging; R26. -/
def Obligations.BoundsHoldAndLockoutStays : Prop :=
  (∀ (s : State) (h a : Nat) (v : Word) (r : RegRow) (bs : List FieldBound), s.dev.live = true → h < 4 → rowAt a = some r →
    (r.access = .rw ∨ r.access = .rws ∨ r.access = .rwl) → aget s.dev.img.bounds a = some bs → inBounds v bs = false →
    s.dev.mayWrite h a = true → s.dev.isolated a = false → (r.access = .rws → s.dev.staged? a = true) →
    exec (.registerWrite h a v) s = .next ⟨{ s.dev with wstat := stRange }, s.pending⟩) ∧
  (∀ (d : Dev) (h a : Nat) (v : Word) (r : RegRow) (bs : List FieldBound) (p : Option (Nat × Nat)), rowAt a = some r →
    aget d.img.bounds a = some bs → inBounds v bs = false → d.staged? a = true → d.applyRws h a v p = (d, stRange)) ∧
  (∀ (s : State) (held tm : Bool), s.dev.dstate = .lockout → s.dev.boot.waiting = none → exec (.nresetPulse held tm) s =
    .next ⟨{ s.dev with power := { s.dev.power with nResetLow := held } }, s.pending⟩)

/-- R394. -/
def Obligations.CancelledBuffersBecomeFree : Prop :=
  ∀ (s : State) (h c j : Nat) (v : Word), s.dev.live = true → s.dev.tablesOk = true → h < 4 → c < 3 → j < 32 →
    let d := s.dev
    let pending := d.rb (Reg.CAN_TXREQ c) j
    let sent := (d.cc c).sending = some (.buf j)
    (d.mayWrite h (Reg.CAN_TXCAN c) = true → d.isolated (Reg.CAN_TXCAN c) = false → aget d.img.bounds (Reg.CAN_TXCAN c) = none →
      ∃ t : Dev, exec (.txCancel h c v) s = .next ⟨t, s.pending⟩ ∧ t.wstat = stOk ∧
        (bget v j = true → pending = true → ¬sent → t.rb (Reg.CAN_TXREQ c) j = false ∧ t.rb (Reg.CAN_TXCNC c) j = true) ∧
        (bget v j = true → pending = true → sent → t.rb (Reg.CAN_TXREQ c) j = true ∧ (t.cc c).cancel = true ∧
          (t.cc c).sending = some (.buf j)) ∧
        (bget v j = false ∨ pending = false → t.rb (Reg.CAN_TXREQ c) j = pending ∧
          t.rb (Reg.CAN_TXCNC c) j = d.rb (Reg.CAN_TXCNC c) j)) ∧
    (sent → (d.cc c).cancel = true → (d.canFailed c).rb (Reg.CAN_TXREQ c) j = false ∧
      (d.canFailed c).rb (Reg.CAN_TXCNC c) j = true ∧ ((d.canFailed c).cc c).sending = none) ∧
    (sent → (d.canState c = 3 ∨ d.canState c = 4) → (d.cc c).stopReq = false → ∀ tec rec' tdc, tec < 256 →
      ∃ t : Dev, exec (.transmitComplete c tec rec' tdc) s = .next ⟨t, s.pending⟩ ∧ t.rb (Reg.CAN_TXREQ c) j = false ∧
        t.rb (Reg.CAN_TXDONE c) j = true ∧ t.rb (Reg.CAN_TXCNC c) j = d.rb (Reg.CAN_TXCNC c) j)

/-- R95, R31, R395; the check values of R173 and R350. -/
def Obligations.EncodingsOfTheSpec : Prop :=
  let ascii : List Byte := [0x31, 0x32, 0x33, 0x34, 0x35, 0x36, 0x37, 0x38, 0x39]
  let bit (c : Word) : Word := if bget c 0 then (c >>> 1) ^^^ 0x82F63B78 else c >>> 1
  (∀ bs : List Byte, crc32c bs = (bs.foldl (fun (c : Word) (b : Byte) =>
    bit (bit (bit (bit (bit (bit (bit (bit (c ^^^ b.setWidth 32))))))))) 0xFFFFFFFF) ^^^ 0xFFFFFFFF) ∧
  crc32c ascii = 0xE3069283 ∧ crcPdu ascii = 0x1697D06A ∧ crc8 (ascii.flatMap (fun b => msbFirst 8 b.toNat)) = 0xDF ∧
  (∀ (p l : Nat) (bs : List Byte), soundness p bs = .inr l →
    beBytes 4 (crc32c (bs.take (8 + l))).toNat = (bs.drop (8 + l)).take 4) ∧
  (∀ (p : Nat) (op tk : Byte) (st info : Nat) (pl : List Byte), ∃ body : List Byte,
    replyBytes p op tk st info pl = body ++ beBytes 4 (crc32c body).toNat) ∧
  (∀ (d : Dev), fget (d.peek Reg.SYS_STATE) 0 8 = d.dstate.code ∧ ∀ a < 4, fget (d.peek Reg.SYS_AXSTATE) (4 * a) 4 =
    if d.inTopo a then (d.axOf a).code else 0) ∧
  ([DState.dormant, .boot, .imageCheck, .ready, .armed, .run, .degraded, .safe, .service, .lockout].map DState.code =
    List.range 10) ∧
  ([AState.idle, .diag, .enabled, .driving, .stopping, .asc, .freewheel].map AState.code = List.range 7) ∧
  (∀ dlc ≤ 8, dlcBytes true dlc = dlc ∧ dlcBytes false dlc = dlc) ∧
  ([9, 10, 11, 12, 13, 14, 15].map (dlcBytes true) = [12, 16, 20, 24, 32, 48, 64]) ∧
  (∀ dlc, 9 ≤ dlc → dlc ≤ 15 → dlcBytes false dlc = 8)

/-- R42, R48, R61, R63, R65–R67, R75, R421, R445, R447: POWER_ON_RESET_END, WAKE_RECOGNISED, WAKE_FALL, MAIN_RAIL_LOSS, VKA_LOSS,
VKA_RETURN, NRESET_PULSE and SELF_RESET; the pins of the xSPI port, the CAN controllers and the host ports in reset, in LOCKOUT and
without `VDD_IO`. That the islands' switches are off after a reset or a loss is the model's choice (log entry 101); what VKA's loss and
return do follows R447 by inference (log entry 68), and the kept level of nRESET R61 (log entry 138). -/
def Obligations.PowerWakeAndReset : Prop :=
  ∀ (s : State) (rail : Nat) (held tm : Bool),
    let d := s.dev
    let rails := { d with power := { d.power with railsUp := true, porEnded := true, vddIoLow := false, ioUp := true, testMode := tm } }
    let sampled := held = false ∧ (d.boot.waiting.isSome = true ∨ (d.dstate ≠ .lockout ∧ d.power.porEnded = true))
    let level := { d with power := { d.power with nResetLow := held, testMode := if sampled then tm else d.power.testMode } }
    let asleep := d.dstate = .dormant ∧ d.boot.waiting = none ∧ d.power.vkaUp = true
    let keeps := d.dstate = .lockout ∨ d.power.porEnded = false ∨ (d.power.nResetLow = true ∧ held = false)
    (asleep → d.power.porEnded = false → d.power.wake = false → d.power.nResetLow = false →
      exec (.powerOnResetEnd tm) s = .next ⟨rails, s.pending⟩) ∧
    (asleep → d.power.porEnded = false → d.power.wake = false → d.power.nResetLow = true →
      exec (.powerOnResetEnd tm) s = .next ⟨rails.bootRequest .nreset, s.pending⟩) ∧
    (asleep → d.power.porEnded = false → d.power.wake = true →
      exec (.powerOnResetEnd tm) s = .next ⟨rails.bootRequest .power, s.pending⟩) ∧
    (¬asleep ∨ d.power.porEnded = true → exec (.powerOnResetEnd tm) s = .next s) ∧
    (asleep → d.power.porEnded = true → exec .wakeRecognised s = .next ⟨d.bootRequest .wake, s.pending⟩) ∧
    (asleep → d.power.porEnded = false → exec .wakeRecognised s = .next
      ⟨{ d with power := { d.power with wake := true } }, s.pending⟩) ∧
    (¬asleep → exec .wakeRecognised s = .next s) ∧
    exec .wakeFall s = .next ⟨if d.power.porEnded then d else { d with power := { d.power with wake := false } }, s.pending⟩ ∧
    (∃ e : Dev, exec (.mainRailLoss rail) s = .next ⟨e, s.pending⟩ ∧ e.dstate = .dormant ∧ e.power.porEnded = false ∧
      e.power.railsUp = false ∧ e.power.wake = d.power.wake ∧ e.power.ioUp = (d.power.ioUp && rail != 1) ∧ e.sec.soft = [] ∧
      e.sec.fused = d.sec.fused ∧ e.hosts.cmds = [] ∧ e.flt.recs = [] ∧ e.events = [] ∧ e.sw = Dev.blank.sw) ∧
    (∃ e : Dev, exec .vkaLoss s = .next ⟨e, s.pending⟩ ∧ e.dstate = .dormant ∧ e.power.porEnded = false ∧
      e.power.vkaUp = false ∧ e.power.wake = false ∧ e.hosts.cmds = [] ∧ e.sw = Dev.blank.sw) ∧
    exec .vkaReturn s = .next ⟨{ d with power := { d.power with vkaUp := true } }, s.pending⟩ ∧
    (d.boot.waiting = none → keeps → exec (.nresetPulse held tm) s = .next ⟨level, s.pending⟩) ∧
    (d.boot.waiting = none → ¬keeps → exec (.nresetPulse held tm) s = .next ⟨level.bootRequest .nreset, s.pending⟩) ∧
    (d.boot.waiting.isSome = true → exec (.nresetPulse held tm) s = .next ⟨level.resetEnds, s.pending⟩) ∧
    (d.live = true → d.boot.resetDue = true → exec .selfReset s = .next ⟨d.bootRequest .self, s.pending⟩) ∧
    (d.boot.resetDue = false → exec .selfReset s = .next s) ∧
    (∀ (e : Dev) (c : BootCause), e.prs.cur = none → (∀ r, e.prs.logRun = some r → r.busy = false) → e.power.nResetLow = false →
      e.bootRequest c = e.cleared.enterBoot c) ∧
    (∀ (e : Dev) (c : BootCause), e.prs.cur.isSome = true ∨ (∃ r, e.prs.logRun = some r ∧ r.busy = true) ∨ e.power.nResetLow = true →
      (e.bootRequest c).boot.waiting = some c ∧ (e.bootRequest c).dstate = .dormant) ∧
    (∀ (e : Dev) (c : BootCause), e.boot.waiting = some c → e.prs.cur = none → e.prs.logRun = none → e.power.nResetLow = false →
      e.resetEnds = e.enterBoot c) ∧
    (∀ (e : Dev), (∀ r, e.prs.logRun = some r → r.busy = true →
        e.cleared.prs.logRun = some r ∧ e.cleared.prs.log = e.prs.log.take 1) ∧
      ((∀ r, e.prs.logRun = some r → r.busy = false) → e.cleared.prs.logRun = none ∧ e.cleared.prs.log = []) ∧
      e.cleared.prs.words = e.prs.words ∧ e.cleared.prs.wear = e.prs.wear ∧ e.cleared.prs.cur = e.prs.cur ∧
      e.cleared.prs.pend = [] ∧ e.cleared.sec.lock = e.sec.lock ∧ e.cleared.sec.seed = e.sec.seed ∧
      e.cleared.sec.keyHash = e.sec.keyHash ∧ e.cleared.sec.policy = e.sec.policy ∧ e.cleared.sec.fused = e.sec.fused ∧
      e.cleared.sec.soft = e.sec.soft ∧ e.cleared.sec.uid = e.sec.uid ∧ e.cleared.sec.key = none ∧ e.cleared.tap = e.tap ∧
      e.cleared.safe.raw = e.safe.raw ∧ e.cleared.swIn = e.swIn ∧ e.cleared.regs = Dev.blank.regs ∧
      e.cleared.sram = Dev.blank.sram) ∧
    (∀ (e : Dev) (i c p : Nat) (nCs : Bool), i < 8 → c < 3 → p < 2 → e.tap.ir ≠ 0 → e.tap.ir ≠ 3 → e.tap.ir ≠ 4 →
      let pins := [e.xspiCkPin, e.xspiNcsPin, e.xspiDqPin i, e.canTxPin c, e.misoPin p nCs]
      (e.power.ioUp = true → e.dstate = .dormant → pins = [.low, .high, .highZ, .high, .highZ]) ∧
      (e.power.ioUp = true → e.dstate = .lockout → pins.take 3 = [.highZ, .pulledHigh, .highZ]) ∧
      (e.power.ioUp = false → pins = List.replicate 5 .highZ))

/-- R68, R74, R81–R84, R87, R88, R416, R421, R448: SRAM_CLEAR_END, CLOCK_ROM_STEP_END, FLASH_START_END, IMAGE_READ_END, VERIFY_END,
COMMIT_END, MANDATORY_BIST_END and ISLANDS_STEP_END, and the failure of a slot. The verification is computed as FIPS 205 describes it
(log entry 50); that a header result with which a fallback ends is a rejection of its own, and that the link of the AX counts as trained
after the islands step, are the model's choices (log entries 100 and 22). -/
def Obligations.StartupStepsAndSlots : Prop :=
  ∀ (s : State) (po cd aux strobe rom mdll ilo : Bool) (ha hb body sig : List Byte) (c : ImageContent) (outs : List BistOut),
    s.dev.live = true → s.dev.tablesOk = true →
    let d := s.dev
    let at' (n : Nat) := d.dstate = .imageCheck ∧ d.rf Reg.IMG_STATUS 16 4 = n
    let caused := ((d.rset Reg.IMG_CAUSE (BitVec.ofNat 32 d.boot.cause.code)).wb Reg.CLK_STATUS 3 mdll).wb Reg.CLK_STATUS 4 ilo
    let begun := { caused.wf Reg.CLK_STATUS 1 2 (if mdll then 0 else if ilo then 1 else 2) with
      clk := { d.clk with mdllFaultAtCommit := !mdll && ilo }, boot := { d.boot with clearing := true } }
    let closed (code : Nat) := ∀ r ∈ d.flt.recs, r.code = code → r.isOpen = false
    let ra := d.hdrCheck po ha
    let rb := d.hdrCheck po hb
    let ends (h : List Byte) := beAt h 0x10 4 + 16 * beAt h 0x14 1
    let heads := { d with boot := { d.boot with
      res := #v[ra, rb], len := #v[beAt ha 0x0C 4, beAt hb 0x0C 4], ver := #v[beAt ha 8 4, beAt hb 8 4], catEnd := #v[ends ha, ends hb]
      count := #v[beAt ha 0x14 1, beAt hb 0x14 1], key := #v[hdrKey ha, hdrKey hb] } }
    let pref := fget (d.pword 0) 0 1
    let shown := (((heads.rset Reg.IMG_RES_A (BitVec.ofNat 32 (0x80000000 + ra))).rset Reg.IMG_RES_B
      (BitVec.ofNat 32 (0x80000000 + rb))).rset Reg.IMG_ARB (d.pword 1)).wf Reg.IMG_STATUS 8 1 pref
    let rp := if pref = 0 then ra else rb
    let last := tget d.boot.catEnd d.slot
    let bytes := padTo (tget d.boot.len d.slot - 7856) body
    let read := readCheck last (tget d.boot.len d.slot - 7856)
      (catalogue (last - 16 * tget d.boot.count d.slot) (tget d.boot.count d.slot) bytes) cd aux strobe
    let signed := imageSigned (tget d.boot.key d.slot) d.boot.hash sig
    let hashed := { d with boot := { d.boot with hash := sha256 bytes } }
    let tested := (bootUnits.zip outs).foldl (fun d x => (d.bistStore x.1 true x.2).ev 0x05) d
    let res (u : Nat) := tested.rf (Reg.BIST_U_RES u) 28 4
    let units := (bootUnits.zip outs).map Prod.fst
    let islands := (d.lanesNeeded.foldl Dev.untrained d).seqGo d.img.adcGo
    exec .sramClearEnd s = .next ⟨d.hosts.sram.foldl (fun e x => (e.direct x.1).1.answerFrom x.1.port x.2 x.1.conn
        (e.direct x.1).2.1 0 (e.direct x.1).2.2 (e.sampledAt x.1))
      { d with boot := { d.boot with clearing := false }, hosts := { d.hosts with sram := [] } }, s.pending⟩ ∧
    (d.dstate ≠ .boot → exec (.clockRomStepEnd rom mdll ilo) s = .next s) ∧
    (d.dstate = .boot → (mdll = true ∨ ilo = true) → d.power.testMode = false → exec (.clockRomStepEnd true mdll ilo) s =
      .next ⟨(begun.setState .imageCheck).setStep 1, s.pending⟩) ∧
    (d.dstate = .boot → (mdll = true ∨ ilo = true) → d.power.testMode = true → ∃ t : Dev,
      exec (.clockRomStepEnd true mdll ilo) s = .next ⟨t, s.pending⟩ ∧ t = (begun.setStep 8).reports [⟨0x0213, 0, false⟩] ∧
      (d.mapClass 0x0213 = 4 → closed 0x0213 → t.dstate = .lockout)) ∧
    (d.dstate = .boot → (rom = false ∨ (mdll = false ∧ ilo = false)) → ∃ t : Dev,
      exec (.clockRomStepEnd rom mdll ilo) s = .next ⟨t, s.pending⟩ ∧ t = begun.reports
        ((if rom then [] else [⟨0x0001, 0, false⟩]) ++ (if mdll || ilo then [] else [⟨0x0002, 0, false⟩])) ∧
      (d.mapClass 0x0001 = 4 → d.mapClass 0x0002 = 4 → closed 0x0001 → closed 0x0002 → t.dstate = .lockout)) ∧
    (¬at' 1 → exec (.flashStartEnd po ha hb) s = .next s) ∧
    (at' 1 → rp = 0 → exec (.flashStartEnd po ha hb) s = .next ⟨shown.setStep 2, s.pending⟩) ∧
    (at' 1 → rp ≠ 0 → exec (.flashStartEnd po ha hb) s = .next ⟨shown.slotFail rp, s.pending⟩) ∧
    (¬at' 2 → exec (.imageReadEnd body cd aux strobe) s = .next s) ∧
    (at' 2 → read = 0 → exec (.imageReadEnd body cd aux strobe) s = .next ⟨hashed.setStep 3, s.pending⟩) ∧
    (at' 2 → read ≠ 0 → exec (.imageReadEnd body cd aux strobe) s = .next ⟨hashed.slotFail read, s.pending⟩) ∧
    (¬at' 3 → exec (.verifyEnd sig) s = .next s) ∧
    (at' 3 → signed = true → exec (.verifyEnd sig) s = .next ⟨(d.setSigfail 0).setStep 4, s.pending⟩) ∧
    (at' 3 → signed = false → exec (.verifyEnd sig) s = .next ⟨d.slotFail 0x0F, s.pending⟩) ∧
    (¬at' 4 → exec (.commitEnd c) s = .next s) ∧
    (at' 4 → d.contentOk c = true → exec (.commitEnd c) s = .next ⟨(d.setRes d.slot 0).commit c, s.pending⟩) ∧
    (at' 4 → d.contentOk c = false → exec (.commitEnd c) s = .next ⟨d.slotFail 0x10, s.pending⟩) ∧
    (∀ (e : Dev) (r : Nat),
      let x := (e.rset (if e.slot = 0 then Reg.IMG_RES_A else Reg.IMG_RES_B) (BitVec.ofNat 32 (0x80000000 + r))).wf Reg.IMG_STATUS 0 8 r
      e.slotBad r = if r = 0x0A ∨ r = 0x0F then x.setSigfail (fget (x.pword 0) 8 8 + 1) else x) ∧
    (∀ (e : Dev) (r : Nat), e.boot.fellBack = true → e.slotFail r = ((e.slotBad r).setStep 8).reports [⟨0x0202, 0, false⟩]) ∧
    (∀ (e : Dev) (r : Nat), e.boot.fellBack = false →
      let x := e.slotBad r
      let o := 1 - x.slot
      let y := (x.ownWord 0 (bset (x.pword 0) 1 false)).wf Reg.IMG_STATUS 8 1 o
      let y := { y with boot := { y.boot with fellBack := true } }
      (tget y.boot.res o = 0 → e.slotFail r = y.setStep 2) ∧
      (tget y.boot.res o ≠ 0 → e.slotFail r = ((y.slotBad (tget y.boot.res o)).setStep 8).reports [⟨0x0202, 0, false⟩])) ∧
    (¬at' 5 → exec (.mandatoryBistEnd outs) s = .next s) ∧
    (at' 5 → (∃ u ∈ units, res u = 1 ∨ res u = 3) →
      exec (.mandatoryBistEnd outs) s = .next ⟨tested.reports [⟨0x0F03, 0, false⟩], s.pending⟩) ∧
    (at' 5 → (∀ u ∈ units, res u ≠ 1 ∧ res u ≠ 3) → (∀ u ∈ units, res u ≠ 2) →
      exec (.mandatoryBistEnd outs) s = .next ⟨tested.islandsStart, s.pending⟩) ∧
    (at' 5 → (∀ u ∈ units, res u ≠ 1 ∧ res u ≠ 3) → (∃ u ∈ units, res u = 2) →
      exec (.mandatoryBistEnd outs) s = .next ⟨(tested.occ 0x0F02 0).islandsStart, s.pending⟩) ∧
    (¬at' 6 → exec .islandsStepEnd s = .next s) ∧
    (at' 6 → exec .islandsStepEnd s = .next
      ⟨({ islands with boot := { islands.boot with axLink := true } } : Dev).enterReady, s.pending⟩)

/-- R44, R45, R84, R89, R90, R92: SUPPLY_FAULT, SUPPLY_RETURN, VDD_IO_LOW, IMG_WRITE_END and IMG_VERIFY_END. That the return of `VDD_IO`
ends the bar on preserve writes is the model's choice (log entry 102), and that IMG_VERIFY ends with STATE where it cannot write its count
follows R45 by inference (log entry 92); REASON then stays (log entry 100), and a signature is judged as log entry 50 says. -/
def Obligations.SuppliesAndFieldImages : Prop :=
  ∀ (s : State) (rail : Nat) (ok po cd aux strobe : Bool) (body sig : List Byte),
    s.dev.live = true → rail < 5 →
    let d := s.dev
    let r := d.slotCheck po body cd aux strobe sig
    let verify : Instr := .imgVerifyEnd po body cd aux strobe sig
    let barred := d.wordBarred 0 (d.sigWord r)
    let shown := d.setRes d.otherSlot r
    let kept (e : Dev) (b : Bool) : Dev := { e with boot := { e.boot with verified := b } }
    exec (.supplyFault rail) s = .next ⟨d.lvlOn (0x0020 + rail) 0, s.pending⟩ ∧
    (rail ≠ 1 → exec (.supplyReturn rail) s = .next ⟨d.lvlOff (0x0020 + rail) 0, s.pending⟩) ∧
    (rail = 1 → ∃ e : Dev, exec (.supplyReturn rail) s = .next ⟨e, s.pending⟩ ∧
      e = ({ d.lvlOff 0x0021 0 with power := { (d.lvlOff 0x0021 0).power with vddIoLow := false, ioUp := true } } : Dev).logResume) ∧
    exec .vddIoLow s = .next ⟨{ d with power := { d.power with vddIoLow := true } }, s.pending⟩ ∧
    (d.opRuns 0x44 = false → exec (.imgWriteEnd ok) s = .next s) ∧
    (d.opRuns 0x44 = true → exec (.imgWriteEnd true) s = .next
      ⟨d.completeRun (fun c => c.op == 0x44) stOk [], s.pending⟩) ∧
    (d.opRuns 0x44 = true → exec (.imgWriteEnd false) s = .next
      ⟨(d.occ 0x0203 0).completeRun (fun c => c.op == 0x44) stCrc [], s.pending⟩) ∧
    (d.opRuns 0x45 = false → exec verify s = .next s) ∧
    (d.opRuns 0x45 = true → barred = true → exec verify s = .next
      ⟨d.completeRun (fun c => c.op == 0x45) stState [], s.pending⟩) ∧
    (d.opRuns 0x45 = true → barred = false → r = 0 → exec verify s = .next
      ⟨(kept (shown.setSigfail 0) true).completeRun (fun c => c.op == 0x45) stOk [], s.pending⟩) ∧
    (d.opRuns 0x45 = true → barred = false → r ≠ 0 → exec verify s = .next
      ⟨(kept (shown.countFail r) false).completeRun (fun c => c.op == 0x45) stCrc [], s.pending⟩)

/-- R94–R98, R107–R109, R117: REG_WRITE, MEM_WRITE, ARM, DISARM, AXIS_ENABLE, AXIS_DISABLE, AXIS_STOP, SETPOINT, ISL_DIAG, SBC_TEST,
OWN_OFFER, OWN_TAKE, OWN_SEIZE, FLT_CLEAR, FLT_INJ, THERM_MEASURE, CE_CAPTURE, CE_MODE, ADC_CAL, SERVICE_ENTER, SERVICE_EXIT, BIST_RUN,
REPAIR_FUSE, IMG_WRITE, IMG_VERIFY, IMG_SELECT, IMG_ACCEPT, IMG_REJECT and ATTEST. What the admitted command then does is stated in
DocentLaneCarriesOutCommands and AxisCommandsAtTheirCommitPoint. The form of a frame as a row is the model's (log entry 74), and so is the
way the frames of one cycle come as rows (log entry 104). -/
def Obligations.TicketedFramesAreAdmitted : Prop :=
  ∀ (s : State) (op : Nat) (row : Frame → Instr) (f : Frame), (op, row) ∈ ticketedRows → s.dev.live = true →
    RowArrives s op row f ∧
    (∀ d bs e r, s.dev.alone f → s.dev.arrival op f = some (d, bs) → d.accepts f.port bs = some (e, r) →
      r.op = op ∧
      (∀ c, e.admission r = .inr c → ∃ t : Dev, exec (row f) s = .next ⟨t, s.pending⟩ ∧
        t = (e.admitCmd c r).answer f.port bs r.conn stOk 0 [] ∧ t.hosts.cmds = e.hosts.cmds ++ [c] ∧
        c.id = ⟨f.port, r.ticket⟩ ∧ c.op = op ∧ c.flags = r.flags ∧ c.target = r.target ∧ c.payload = r.payload ∧
        c.phase = .lane ∧ c.admitted = e.now ∧ t.flt.recs = e.flt.recs ∧ t.ax = e.ax ∧ t.dstate = e.dstate) ∧
      (∀ info, e.admission r = .inl info → ∃ t : Dev, exec (row f) s = .next ⟨t, s.pending⟩ ∧
        t = (e.answer f.port bs r.conn stBusy info []).ev (0x1C + f.port) ∧ t.hosts.cmds = e.hosts.cmds ∧
        t.flt.recs = e.flt.recs ∧ t.ax = e.ax ∧ t.dstate = e.dstate))

/-- R93–R100, R106, R114, R117, R397, R448: REPLY_AGAIN, IDENTITY, STATUS, HEARTBEAT, RING_READ, MEM_READ, VIT_READ, REG_READ and
UNKNOWN_OPCODE_FRAME. The form of a frame as a row and its way through the CAN queue (log entries 74 and 89), the frames of one cycle
(104), the age of the data in a reply (42), the reserved bytes of MEM_READ (72), the counters of unsound frames (73) and the
acknowledgement before the read (78) are the model's readings. -/
def Obligations.DirectFramesAreAnswered : Prop :=
  ∀ (s : State) (f : Frame), s.dev.live = true →
    let p := f.port
    let answered (row : Frame → Instr) (u : Dev) (bs : List Byte) (r : Req) (st : Nat) (pl : List Byte) : Prop :=
      exec (row f) s = .next ⟨u.answer p bs r.conn st 0 pl, s.pending⟩
    let aged (row : Frame → Instr) (u : Dev) (bs : List Byte) (r : Req) (st : Nat) (pl : List Byte) (t : Nat) : Prop :=
      exec (row f) s = .next ⟨u.answerFrom p bs r.conn st 0 pl t, s.pending⟩
    (∀ op row, (op, row) ∈ directRows → RowArrives s op row f) ∧
    (s.dev.alone f →
      (∀ d bs e r, s.dev.arrival 0x01 f = some (d, bs) → d.accepts p bs = some (e, r) →
        exec (.replyAgain f) s = .next ⟨e.replyAgain p, s.pending⟩) ∧
      (∀ d bs e r, s.dev.arrival 0x02 f = some (d, bs) → d.accepts p bs = some (e, r) →
        answered .identity e bs r stOk (e.identity p)) ∧
      (∀ d bs e r, s.dev.arrival 0x03 f = some (d, bs) → d.accepts p bs = some (e, r) →
        answered .status e bs r stOk e.statusBytes) ∧
      (∀ d bs e r, s.dev.arrival 0x04 f = some (d, bs) → d.accepts p bs = some (e, r) →
        answered .heartbeat (e.heartbeat p) bs r stOk (r.payload ++ beBytes 2 ((e.heartbeat p).hp p).hb)) ∧
      (∀ op row, (op, row) ∈ [(0x05, Instr.ringRead), (0x06, .memRead), (0x07, .vitRead)] →
        ∀ d bs e r, s.dev.arrival op f = some (d, bs) → d.accepts p bs = some (e, r) → e.boot.clearing = true →
        exec (row f) s = .next ⟨{ e with hosts := { e.hosts with sram := e.hosts.sram ++ [(r, bs)] } }, s.pending⟩) ∧
      (∀ d bs e r, s.dev.arrival 0x05 f = some (d, bs) → d.accepts p bs = some (e, r) → e.boot.clearing = false →
        let u := e.acknowledge p (beAt r.payload 0 2)
        answered .ringRead u bs r (u.ringRead p (beAt r.payload 2 2)).1 (u.ringRead p (beAt r.payload 2 2)).2) ∧
      (∀ d bs e r, s.dev.arrival 0x06 f = some (d, bs) → d.accepts p bs = some (e, r) → e.boot.clearing = false →
        let a := beAt r.payload 0 3
        let n := beAt r.payload 4 2
        (e.poisoned a n = false → aged .memRead e bs r stOk (e.mread a n) (e.sramAt a n)) ∧
        (e.poisoned a n = true → aged .memRead e bs r stCrc [] (e.sramAt a n))) ∧
      (∀ d bs e r, s.dev.arrival 0x07 f = some (d, bs) → d.accepts p bs = some (e, r) → e.boot.clearing = false →
        let a := 0x260000 + r.target * 0x40 + 4 * beAt r.payload 0 1
        let n := 4 * beAt r.payload 1 1
        (e.poisoned a n = false → aged .vitRead e bs r stOk (e.mread a n) (e.sramAt a n)) ∧
        (e.poisoned a n = true → aged .vitRead e bs r stCrc [] (e.sramAt a n))) ∧
      (∀ d bs e r, s.dev.arrival 0x10 f = some (d, bs) → d.accepts p bs = some (e, r) →
        let x := e.regRead p (readAddrs r.payload)
        answered .regRead x.1 bs r stOk x.2) ∧
      (∀ (op : Byte) d bs e r v, s.dev.arrivalOf op.toNat unknownByte f = some (d, bs) → d.rejects p bs = some (e, r, v) →
        ∃ t : Dev, exec (.unknownOpcodeFrame op f) s = .next ⟨t, s.pending⟩ ∧ RefusedOnly e t p bs r v) ∧
      (∀ (op : Byte) l, p < 2 → s.dev.portsLive = true → known op.toNat = false →
        let bs := frameBytes op.toNat f
        bs.head? = some 0xA5 → s.dev.bistUnit ≠ some 0xE → soundness p bs = .inr l → beAt bs 6 1 / 8 % 2 = 0 →
        beAt bs 1 1 = p + 1 → beAt bs 6 1 < 16 → (beAt bs 7 1 ≤ 5 ∨ beAt bs 7 1 = 15) →
        exec (.unknownOpcodeFrame op f) s = .next
          ⟨((s.dev.clockOut p bs.length f.early).answer p bs none stUnknown 0 []).ev (0x18 + p), s.pending⟩)) ∧
    (∀ (d : Dev) (n : Nat) (early : Bool), p < 4 → ((d.clockOut p n early).hp p).miso =
      (List.range n).map (fun i => (((if early then (d.hp p).old else (d.hp p).reply).getD [])[i]?).getD 0)) ∧
    (∀ (d : Dev) (bs : List Byte), bs.head? ≠ some 0xA5 → d.frameIn p bs = d.wsat (Reg.HOST_ERR p) 24 8) ∧
    (∀ (d : Dev) (bs : List Byte) st lo, bs.head? = some 0xA5 → d.bistUnit ≠ some 0xE → soundness p bs = .inl (st, lo) →
      d.frameIn p bs = (d.wsat (Reg.HOST_ERR p) lo 8).refuse p bs none st)

/-- R97–R99, R101, R119, R419, R444: checks 5–13, what a frame that one of them refuses leaves behind, and the order of frames that end in
one cycle. The verdict and the order are what the rows of the frames above use. Which refusals belong to checks 11 and 12 for a long reply,
an offer, a silent host and the image commands is the model's reading (log entries 116 and 70), and so are frames of one cycle as rows (log
entry 104). -/
def Obligations.ChecksOfAFrameInOrder : Prop :=
  (∀ (s : State) (op : Nat) (row : Frame → Instr) (f : Frame) d bs e r v, (op, row) ∈ ticketedRows ++ directRows → s.dev.live = true →
    s.dev.alone f → s.dev.arrival op f = some (d, bs) → d.rejects f.port bs = some (e, r, v) →
    ∃ t : Dev, exec (row f) s = .next ⟨t, s.pending⟩ ∧ RefusedOnly e t f.port bs r v) ∧
  ∀ (d : Dev) (r : Req),
    let c5 := r.host = r.port + 1
    let c6 := r.flags < 16 ∧ ¬(r.port = 3 ∧ r.flags / 8 % 2 = 0) ∧ (r.target ≤ 5 ∨ r.target = 0xF)
    let c7 := known r.op = true
    let c8 := d.dstate.readOk = true ∨ r.op = 0x02 ∨ r.op = 0x03 ∨ r.op = 0x04
    let c9 := d.privOk r = true
    let c10 := lenOk r.op r.payload = true
    let c11 := classOk r.op r.cls = true ∧ targetOk r.op r.target = true ∧ d.paramsOk r = true
    let c12 := d.stateOk r = true
    let c13 := ¬(ticketed r.op = true ∧ d.labelHeld r.port r.ticket = true)
    (¬c5 → d.verdict r = stPriv) ∧
    (c5 → ¬c6 → d.verdict r = stRange) ∧
    (c5 → c6 → ¬c7 → d.verdict r = stUnknown) ∧
    (c5 → c6 → c7 → ¬c8 → d.verdict r = stNotReady) ∧
    (c5 → c6 → c7 → c8 → ¬c9 → d.verdict r = stPriv) ∧
    (c5 → c6 → c7 → c8 → c9 → ¬c10 → d.verdict r = stLen) ∧
    (c5 → c6 → c7 → c8 → c9 → c10 → ¬c11 → d.verdict r = stRange) ∧
    (c5 → c6 → c7 → c8 → c9 → c10 → c11 → ¬c12 → d.verdict r = stState) ∧
    (c5 → c6 → c7 → c8 → c9 → c10 → c11 → c12 → ¬c13 → d.verdict r = stSeq) ∧
    (c5 → c6 → c7 → c8 → c9 → c10 → c11 → c12 → c13 → d.verdict r = stOk) ∧
    (ticketed r.op = true → d.rb Reg.BIST_STAT 31 = true → d.stateOk r = false) ∧
    (∀ u v w x : List Byte, inTurns [(3, u), (0, v), (0, w), (1, x)] = [(0, v), (1, x), (3, u), (0, w)])

/-- R25, R104, R106, R109–R112, R117, R206, R428: DOCENT_LANE_EXECUTE, PROMISE_MISSED, HEARTBEAT_EXPIRED and OWN_OFFER_EXPIRED. The model's
own readings: pairs judged again (log entry 14), a BIST run and an attestation (22), the first count of a ring (64), a MEM_WRITE over part
of a poisoned word (77), ADC_CAL with its lane down (79), the free Effective field (80), the low `VDD_IO` (92), the boot control written at
once (142). -/
def Obligations.DocentLaneCarriesOutCommands : Prop :=
  ∀ (s : State) (h x label : Nat), s.dev.live = true → h < 4 → x < 6 →
    let d := s.dev
    let watched := d.hosts.readySeen = true ∧ d.rf (Reg.HOST_HB h) 16 10 ≠ 0 ∧
      (tget d.hosts.port h).hbAt + d.rf (Reg.HOST_HB h) 16 10 * msTicks ≤ d.now
    let armed (pl : List Byte) : CeCap :=
      ⟨capSigs pl, beAt pl 1 1 + 1, 0, beAt pl 4 4, beAt pl 8 4, 0, beAt pl 2 1, decide (beAt pl 3 1 % 2 = 1), false, 0⟩
    (nextInLane d.hosts.cmds = none → exec .docentLaneExecute s = .next s) ∧
    (∀ c, nextInLane d.hosts.cmds = some c →
      let e := d.cmdMod c.id (fun c => { c with phase := .staged, work := 0 })
      let does (u : Dev) : Prop := exec .docentLaneExecute s = .next ⟨u, s.pending⟩
      let now := c.op ≠ 0x11 ∧ c.groups = [] ∧ e.mayAct c = true
      (c ∈ d.hosts.cmds ∧ c.phase = .lane ∧ ∀ y ∈ d.hosts.cmds, y.phase = .lane → c.laneDl ≤ y.laneDl) ∧
      (c.op = 0x11 → does ((c.doc.foldl (fun d k => d.docPair c.id c.payload k) e).writeDone c.id)) ∧
      (c.op ≠ 0x11 → c.groups ≠ [] → does e) ∧
      (c.op ≠ 0x11 → c.groups = [] → e.mayAct c = false → does (e.lapse c stState [])) ∧
      (now → c.op = 0x12 → e.attOverlap (beAt c.payload 0 3) (c.payload.drop 4).length = false → e.bistUnit ≠ some 5 →
        e.poisonedPart (beAt c.payload 0 3) (c.payload.drop 4).length = false →
        does (((e.mwrite (beAt c.payload 0 3) (c.payload.drop 4)).unpoison (beAt c.payload 0 3) (c.payload.drop 4).length).finish c
          stOk [])) ∧
      (now → c.op = 0x20 → does (e.enterArmed.finish c stOk [])) ∧
      (now → c.op = 0x21 → does (e.enterReady.finish c stOk [])) ∧
      (now → c.op = 0x27 → e.sbcStart.2 = true → does (e.sbcStart.1.startCmd c)) ∧
      (now → c.op = 0x27 → e.sbcStart.2 = false → does (e.lapse c stState [])) ∧
      (now → c.op = 0x28 → let who := if beAt c.payload 0 1 = 0 then 7 else beAt c.payload 0 1 - 1
        does (({ e.wf Reg.HOST_OFFER (3 * c.target) 3 who with
          hosts := { e.hosts with offerAt := tset e.hosts.offerAt c.target e.now } } : Dev).finish c stOk [])) ∧
      (now → c.op = 0x30 → let r := e.fltClear c.id.host (beAt c.payload 0 2)
        does (r.1.finish c r.2.1 (beBytes 2 r.2.2))) ∧
      (now → c.op = 0x31 → e.rgr.inj = none →
        does ((e.injStart (beAt c.payload 0 2) (beAt c.payload 2 1) (beAt c.payload 3 1)).startCmd c)) ∧
      (now → c.op = 0x32 → does ((e.sensorStart (beAt c.payload 0 1)).startCmd c)) ∧
      (now → c.op = 0x33 → beAt c.payload 0 1 = 0 → e.ce.cap = none → does (e.finish c stOk [])) ∧
      (now → c.op = 0x33 → beAt c.payload 0 1 = 0 → e.ce.cap ≠ none →
        does (((({ e with ce := { e.ce with cap := none } } : Dev).wf Reg.CE_CAPSTAT 30 2 0).wb Reg.CE_CAPSTAT 29 true).finish c stOk [])) ∧
      (now → c.op = 0x33 → beAt c.payload 0 1 ≠ 0 → let k := armed c.payload
        let u := (e.rset Reg.CE_CAPSTAT (if e.ce.cap = none then 0x40000000 else 0x60000000)).rset Reg.CE_CAPPOS
          (BitVec.ofNat 32 (65536 * capSize k.sigs))
        does (({ u with ce := { u.ce with cap := some k } } : Dev).capAct.finish c stOk (beBytes 2 (capSize k.sigs)))) ∧
      (now → c.op = 0x35 → e.laneUp (adcLane (beAt c.payload 0 1)) = true → does ((e.calStart (beAt c.payload 0 1)).startCmd c)) ∧
      (now → c.op = 0x35 → e.laneUp (adcLane (beAt c.payload 0 1)) = false →
        does (e.lapse c stOk [BitVec.ofNat 8 (beAt c.payload 0 1), 3])) ∧
      (now → c.op = 0x40 → does (e.enterService.finish c stOk [])) ∧
      (now → c.op = 0x41 → does (e.enterReady.finish c stOk [])) ∧
      (now → c.op = 0x42 → let m := beAt c.payload 0 2
        let u := (e.startCmd c).wb Reg.BIST_STAT 31 true
        does (u.bistNext ⟨[], m / 32768 == 1, 0, 0, u.now, u.ceMode == 1⟩
          ((List.range 15).filter (fun k => m % 32768 / 2 ^ k % 2 == 1)))) ∧
      (now → c.op = 0x43 → let u := beAt c.payload 0 1
        let n := (e.sec.soft.filter (fun x => x.unit == u)).length
        let left := 64 - e.sec.fused.length
        let res (code : Nat) : List Byte := [BitVec.ofNat 8 u, 0, BitVec.ofNat 8 left, BitVec.ofNat 8 code]
        (n = 0 → does (e.finish c stState (res 1))) ∧
        (0 < n → 64 < e.sec.fused.length + n → does (e.finish c stState (res 2))) ∧
        (0 < n → e.sec.fused.length + n ≤ 64 →
          does (({ e with sec := { e.sec with fuseRun := some u } } : Dev).startCmd c))) ∧
      (now → c.op = 0x44 → ∃ u : Dev, does (u.startCmd c) ∧ u.boot.verified = false ∧ u.regs = e.regs ∧ u.sram = e.sram) ∧
      (now → c.op = 0x45 → does (e.startCmd c)) ∧
      (now → c.op ∈ [0x46, 0x47, 0x48] → e.imgBarred c.op = true → does (e.lapse c stState [])) ∧
      (now → c.op = 0x46 → e.imgBarred c.op = false → does (((e.setPref e.otherSlot true).finish c stOk []).resetLater)) ∧
      (now → c.op = 0x47 → e.imgBarred c.op = false → does (e.imgAccept.finish c stOk [])) ∧
      (now → c.op = 0x48 → e.imgBarred c.op = false →
        does (((e.setPref (1 - fget (e.pword 0) 0 1) false).finish c stOk []).resetLater)) ∧
      (now → c.op = 0x49 → (e.sec.att ≠ none ∨ e.rb Reg.BIST_STAT 31 = true) → does (e.lapse c stState [])) ∧
      (now → c.op = 0x49 → e.sec.att = none → e.rb Reg.BIST_STAT 31 = false → e.sec.key = none →
        let u := ((e.mwrite 0x25B000 (List.replicate 17264 0)).unpoison 0x25B000 17264).wf Reg.SEC_ATT 24 2 1
        does (u.finish c stState ([0xB0, 0, 0x43, 0x70, 1, 0, 0, 0] ++ beBytes 4 (e.rf Reg.SEC_ATT 0 24)))) ∧
      (∀ key, now → c.op = 0x49 → e.sec.att = none → e.rb Reg.BIST_STAT 31 = false → e.sec.key = some key →
        let u := (e.wf Reg.SEC_ATT 0 24 ((e.rf Reg.SEC_ATT 0 24 + 1) % 2 ^ 24)).wb Reg.SEC_ATT 31 true
        let r := u.attReport (c.id.host + 1) c.payload
        let u := (u.mwrite 0x25B000 r).unpoison 0x25B000 176
        does (({ u with sec := { u.sec with att := some (key, r) } } : Dev).startCmd c))) ∧
    (∀ (e : Dev) (c : Cmd) (st : Nat) (res : List Byte), c.id.host < 4 → e.tablesOk = true →
      let h' := c.id.host
      let i := e.rf (Reg.HOST_CQ h') 16 9
      let n := ((tget e.hosts.port h').count + 1) % 2 ^ 32
      let rec' := [BitVec.ofNat 8 c.id.label, BitVec.ofNat 8 c.op, BitVec.ofNat 8 st, BitVec.ofNat 8 (c.flags % 8)] ++ beBytes 4 n ++
        beBytes 4 (c.admitted / 400) ++ beBytes 4 (c.effective / 400) ++ (res ++ List.replicate 16 0).take 16
      let t := e.complete c st res
      t.mread (0x240000 + h' * 0x4000 + i * 32) 32 = rec' ∧ t.rf (Reg.HOST_CQ h') 16 9 = (i + 1) % 512 ∧
      (tget t.hosts.port h').count = n ∧
      (tget t.hosts.port h').recs = (tget e.hosts.port h').recs ++ [(c.id.label, decide (c.flags / 4 % 2 = 1))] ∧ t.hosts.cmds = e.hosts.cmds.filter (fun y => !(y.id == c.id)) ∧
      (c.flags / 4 % 2 = 1 → t.rb (Reg.HOST_IRQ h') 0 = true) ∧
      (c.flags / 4 % 2 = 0 → t.rb (Reg.HOST_IRQ h') 0 = e.rb (Reg.HOST_IRQ h') 0 ∧ t.cport = e.cport) ∧
      t.events = e.events ++ [0x10 + h'] ∧
      (∀ a, (a < 0x240000 + h' * 0x4000 + i * 32 ∨ 0x240000 + h' * 0x4000 + i * 32 + 32 ≤ a) → t.mget a = e.mget a)) ∧
    (d.cmdOf ⟨h, label⟩ = none → exec (.promiseMissed h label) s = .next s) ∧
    (∀ c, d.cmdOf ⟨h, label⟩ = some c →
      (c.phase = .running ∨ (c.op ≠ 0x11 ∧ d.now < c.deadline) ∨ (c.op = 0x11 ∧ ∀ p ∈ c.parts, d.now < p.1) →
        exec (.promiseMissed h label) s = .next s) ∧
      (c.phase ≠ .running → c.op ≠ 0x11 → c.deadline ≤ d.now → ∃ t : Nat, exec (.promiseMissed h label) s = .next
        ⟨(((d.complete { c with effective := t } stBusy []).tick1).occ 0x0140 0).ev 0x26, s.pending⟩) ∧
      (c.phase ≠ .running → c.op = 0x11 → (∃ p ∈ c.parts, p.1 ≤ d.now) → ∃ u : Dev, exec (.promiseMissed h label) s = .next
        ⟨(((u.writeDone c.id).tick1).occ 0x0140 0).ev 0x26, s.pending⟩ ∧
        (c.fails.length + (d.missedPairs c).length ≠ c.payload.length / 8 → u = d.missWrite c) ∧
        (c.fails.length + (d.missedPairs c).length = c.payload.length / 8 → ∃ t : Nat,
          u = (d.missWrite c).cmdMod c.id (fun x => { x with effective := t })))) ∧
    (watched → exec (.heartbeatExpired h) s = .next
      ⟨((d.wb (Reg.HOST_HB h) 31 true).occ (0x0110 + h) 0).ev (0x14 + h), s.pending⟩) ∧
    (¬watched → exec (.heartbeatExpired h) s = .next s) ∧
    (tget d.hosts.offerAt x + 100 * msTicks ≤ d.now →
      exec (.ownOfferExpired x) s = .next ⟨d.wf Reg.HOST_OFFER (3 * x) 3 7, s.pending⟩) ∧
    (d.now < tget d.hosts.offerAt x + 100 * msTicks → exec (.ownOfferExpired x) s = .next s)

/-- R28, R104, R105, R111, R268, R297: the effect of AXIS_ENABLE, AXIS_DISABLE, AXIS_STOP, SETPOINT, ISL_DIAG, OWN_TAKE and OWN_SEIZE in a
boundary's commit point. The boundary itself is stated in BoundariesPeaksAndPairLock. R281-R283: CE_MODE and the steps of a join. The
model's own readings: the duty at AXIS_STOP (log entry 57), reserved bytes of SETPOINT (72), the waiting commands at a seizure (83), its
end of an offer (114), the Effective field (115), a return from BIST (23, 130), the engine that a record names (127). -/
def Obligations.AxisCommandsAtTheirCommitPoint : Prop :=
  ∀ (d : Dev) (c : Cmd) (g : CmdGroup),
    let x := c.target
    let may := d.mayAct c = true
    let seized (y : Cmd) : Bool := y.id.host == d.owner x && y.target == x && y.phase != .running && (atCommitPoint y.op || y.op == 0x28)
    let given := (((d.wf Reg.HOST_OWN (3 * x) 3 c.id.host).wf Reg.HOST_OFFER (3 * x) 3 7).ev (0x20 + x)).finish c stOk []
    (d.cmdOf c.id = none → d.groupEffect c.id g = d) ∧
    (d.cmdOf c.id = some c → c.op ≠ 0x11 → d.groupEffect c.id g = d.axisEffect c) ∧
    (c.op ≠ 0x34 → ¬may → d.axisEffect c = d.complete { c with effective := d.now } stState []) ∧
    (may → c.op = 0x22 → x < 4 → let v := d.axGo x .enabled
      let u := if v.rb Reg.DCL_STAT 23 && v.axisLaneUp x then
          (v.toSafe x).blame (if v.rb Reg.DCL_STAT 26 then 0x0B06 else 0x0B07) x
        else v
      (u.dstate = .armed → d.axisEffect c = u.enterRun.finish c stOk []) ∧ (u.dstate ≠ .armed → d.axisEffect c = u.finish c stOk [])) ∧
    (may → c.op = 0x22 → 4 ≤ x → let u := d.setAux (x - 4) 1
      (u.dstate = .armed → d.axisEffect c = u.enterRun.finish c stOk []) ∧ (u.dstate ≠ .armed → d.axisEffect c = u.finish c stOk [])) ∧
    (may → c.op = 0x23 → x < 4 → d.axisEffect c = ((d.axGo x .idle).idled).finish c stOk []) ∧
    (may → c.op = 0x23 → 4 ≤ x → d.axisEffect c = (d.setAux (x - 4) 0).finish c stOk []) ∧
    (may → c.op = 0x24 → x < 4 → d.axisEffect c = (d.axGo x .stopping).finish c stOk []) ∧
    (may → c.op = 0x24 → 4 ≤ x → d.axisEffect c = (d.auxStop (x - 4)).finish c stOk []) ∧
    (may → c.op = 0x25 → d.axisEffect c = ((spLanes c.payload).foldl (fun d p => d.laneSet p.1 p.2) d).finish c stOk []) ∧
    (may → c.op = 0x26 → d.axisEffect c = (d.diagStart x).startCmd c) ∧
    (may → c.op = 0x29 → d.axisEffect c = given) ∧
    (may → c.op = 0x2A → d.owner x = c.id.host → d.axisEffect c = given) ∧
    (may → c.op = 0x2A → d.owner x ≠ c.id.host →
      d.axisEffect c = (given.hosts.cmds.filter seized).foldl (fun d y => d.complete { y with effective := d.now } stState []) given) ∧
    (c.op = 0x34 →
      let split := beAt c.payload 0 1 = 1
      let stopped := (d.injEnd 0 5).injEnd 1 5
      let refused := d.axisEffect c = d.complete { c with effective := d.now } stState [if d.ceMode = 0 then 0 else 1]
      (¬may → refused) ∧ (2 ≤ d.ceMode → refused) ∧ (split → d.ceMode = 1 → refused) ∧ (¬split → d.ceMode = 0 → refused) ∧
      (may → split → d.ceMode = 0 → let u := (stopped.setCeMode 1 0).ev 0xCB
        d.axisEffect c = u.finish c stOk [if u.ceMode = 0 then 0 else 1]) ∧
      (may → ¬split → d.ceMode = 1 → let u := stopped.setCeMode 2 1
        let u := { u with ce := { u.ce with joinBad := false } }
        d.axisEffect c = u.finish c stOk [if u.ceMode = 0 then 0 else 1])) ∧
    (∀ m j, d.tablesOk = true → m < 8 → j < 16 → (d.setCeMode m j).ceMode = m ∧ (d.setCeMode m j).joinStep = j ∧
      (d.setCeMode m j).rb Reg.CE_STATUS 23 = (m != 4) ∧ (d.setCeMode m j).rb Reg.CE_STATUS 22 = (m != 3)) ∧
    (d.ce.joinBad = false → d.joinStep ≠ 3 → d.joinStep < 11 → d.joinEnd = d.setCeMode 2 (d.joinStep + 1)) ∧
    (d.ce.joinBad = false → d.joinStep = 3 → d.joinEnd = (d.setCeMode 2 4).joinCopy) ∧
    (d.ce.joinBad = false → 11 ≤ d.joinStep → d.joinEnd = (d.setCeMode 0 0).ev 0xCB) ∧
    (d.ce.joinBad = true → ∃ n : Nat, (∀ k, d.ce.rejoin = some k → n = k) ∧
      let u := d.setCeMode 1 0
      d.joinEnd = ((({ u with ce := { u.ce with joinBad := false } } : Dev).wb Reg.CE_FLAGS 5 true).ev 0xCC).occ 0x0906 n)

/-- R4, R6, R16, R18, R85, R102, R103, R419, R434, R435, R440, R441: REGISTER_WRITE. The model's own readings: the deadline of a preserve
write (log entry 13), values outside a table's ranges (15), the lane that decides for CE_PGg (17), the cycle as a tick (137). -/
def Obligations.RegisterWritesAreJudged : Prop :=
  ∀ (s : State) (h a : Nat) (v : Word), s.dev.live = true → h < 4 →
    let d := s.dev
    let ends (u : Dev) (st : Nat) : Prop := exec (.registerWrite h a v) s = .next ⟨{ u with wstat := st }, s.pending⟩
    (rowAt a = none → ends d stRange) ∧
    (∀ r, rowAt a = some r → d.mayWrite h a = false → ends d stPriv) ∧
    (∀ r, rowAt a = some r → d.mayWrite h a = true →
      (r.access = .ro → ends d stOk) ∧
      (r.access ≠ .ro → (d.locked a r = true ∨ d.isolated a = true ∨ (r.access = .rws ∧ d.staged? a = false)) → ends d stState) ∧
      (r.access ≠ .ro → d.locked a r = false → d.isolated a = false → (r.access = .rws → d.staged? a = true) →
        (r.access ≠ .prs → d.valueOk a r v = false → ends d stRange) ∧
        (r.access = .prs → ownWordRange ((a - Reg.PRES_W 0) / 4) = true → ends d stOk) ∧
        (r.access = .prs → ownWordRange ((a - Reg.PRES_W 0) / 4) = false →
          ends (d.laneAdmit [] ((a - Reg.PRES_W 0) / 4) v (d.now + 50 * msTicks)) stOk) ∧
        (r.access = .rws → d.valueOk a r v = true →
          ends { d with port := d.port ++ [⟨h, a, v, d.commitAxis a v, d.hosts.seq⟩], hosts := { d.hosts with seq := d.hosts.seq + 1 } } stOk) ∧
        (r.access ≠ .prs → r.access ≠ .rws → d.valueOk a r v = true → ∀ u st, d.writeOwn h a v = some (u, st) → ends u st) ∧
        (r.access = .w1c → d.valueOk a r v = true → d.writeOwn h a v = none →
          ends (d.rset a (d.rget a &&& ~~~(v &&& BitVec.ofNat 32 r.cmask &&& d.clearable a))) stOk) ∧
        (r.access = .wo → d.valueOk a r v = true → d.writeOwn h a v = none → ends d stOk) ∧
        ((r.access = .rw ∨ r.access = .rwl) → d.valueOk a r v = true → d.writeOwn h a v = none →
          ends { d.rset a (v &&& BitVec.ofNat 32 r.wmask) with written := d.written ++ [a] } stOk)))

/-- R18, R45, R158, R203, R204, R210, R211, R321, R358, R367, R374, R376, R411: TRIP_LATCH_CLEAR, SEQUENCER_GO, FORCE_SLICE,
URGENT_REQUEST, CHOPPER_MARK_CLEAR, RECOV_RST, LOGCLR, FLT_LOOKUP, HLT_CLR, HLT_CONFIG_WRITE and SEC_TAMPER_CLEAR. The model's own
readings: the fault of a chopper mark (log entry 38), the recovery word (43), a tamper write that names no bit (91), the low `VDD_IO` (92),
the cycle as a tick (137), SLICE in CAL (150). -/
def Obligations.ImmediateRegisterRows : Prop :=
  ∀ (s : State) (h k bits : Nat) (v : Word), s.dev.live = true → h < 4 → k < 4 → bits < 16 →
    let d := s.dev
    let may (a : Nat) := d.mayWrite h a = true ∧ d.isolated a = false ∧ aget d.img.bounds a = none
    let ends (i : Instr) (u : Dev) (st : Nat) : Prop := exec i s = .next ⟨{ u with wstat := st }, s.pending⟩
    (may (Reg.PWM_TRIP k) → ends (.tripLatchClear h k bits)
      (d.tripClear k (fget (BitVec.ofNat 32 bits &&& d.clearable (Reg.PWM_TRIP k)) 0 4)) stOk) ∧
    (may Reg.ADC_CTRL → ends (.sequencerGo h bits) (d.seqGo bits) stOk) ∧
    (may Reg.ADC_CMD → ends (.forceSlice h bits) (d.forceSlice bits) stOk) ∧
    (may (Reg.ADC_URG k) → chanValid k (fget v 24 4) = true → ends (.urgentRequest h k v)
      ((d.rset (Reg.ADC_URG k) (v &&& 0x0F0000FF)).urgSend k (fget v 24 4) (fget v 0 8)) stOk) ∧
    (may (Reg.ADC_URG k) → chanValid k (fget v 24 4) = false → ends (.urgentRequest h k v) d stRange) ∧
    (∀ i < 2, may Reg.DCL_FLAGS → ∃ u : Dev, ends (.chopperMarkClear h i) u stOk ∧
      let w := BitVec.ofNat 32 (2 ^ i) &&& d.clearable Reg.DCL_FLAGS
      u = (if bget w i then d.chopClear i else d).rmod Reg.DCL_FLAGS (fun o => o &&& ~~~(w &&& 0xC))) ∧
    (may Reg.FLT_CMD → d.dstate ≠ .service → ends (.recovRst h) d stState ∧ ends (.logclr h) d stState) ∧
    (may Reg.FLT_CMD → d.dstate = .service →
      let u := d.rgrMod (fun g => { g with recov := 0 })
      let floor := BitVec.ofNat 32 d.rgr.logSeq
      (u.wordBarred 0x3F1 u.recovWord = true → ends (.recovRst h) d stState) ∧
      (u.wordBarred 0x3F1 u.recovWord = false → ends (.recovRst h) (u.ownWord 0x3F1 u.recovWord) stOk) ∧
      (d.wordBarred 0x3F2 floor = true → ends (.logclr h) d stState) ∧
      (d.wordBarred 0x3F2 floor = false →
        ends (.logclr h) ((d.ownWord 0x3F2 floor).rgrMod (fun g => { g with logNew := none })) stOk)) ∧
    (∀ code < 65536, may Reg.FLT_LOOKUP →
      (∀ n, slotOf code = some n →
        ends (.fltLookup h code) (d.rset Reg.FLT_LOOKUP (BitVec.ofNat 32 (0x80000000 + n * 65536 + code))) stOk) ∧
      (slotOf code = none → ends (.fltLookup h code) (d.rset Reg.FLT_LOOKUP (BitVec.ofNat 32 code)) stOk)) ∧
    (may Reg.HLT_CLR → ends (.hltClr h v)
      ((List.range 32).foldl (fun d m => if bget v m then d.hltZero m else d) d) stOk) ∧
    (∀ m < 32, may (Reg.HLT_LO m) → ends (.hltConfigWrite h m true v) ((d.rset (Reg.HLT_LO m) v).hltZero m) stOk) ∧
    (∀ m < 32, may (Reg.HLT_CFG m) →
      (hltValid v = true → ends (.hltConfigWrite h m false v) ((d.rset (Reg.HLT_CFG m) (v &&& 0x8FFF00FF#32)).hltZero m) stOk) ∧
      (hltValid v = false → ends (.hltConfigWrite h m false v) d stRange)) ∧
    (may Reg.SEC_TAMPER →
      (d.dstate = .service → ends (.secTamperClear h v) (d.rmod Reg.SEC_TAMPER (fun t => t &&& ~~~(v &&& d.clearable Reg.SEC_TAMPER))) stOk) ∧
      (d.dstate ≠ .service → fget v 0 6 = 0 → ends (.secTamperClear h v) d stOk) ∧
      (d.dstate ≠ .service → fget v 0 6 ≠ 0 → ends (.secTamperClear h v) d stState))

/-- R388, R392, R394: CAN_STOP, CAN_RECOVER, TX_REQUEST and TX_CANCEL. That only a frame being sent holds STOP back is the model's reading
(log entry 99). -/
def Obligations.CanCommandsAndRequests : Prop :=
  ∀ (s : State) (h c : Nat) (v : Word), s.dev.live = true → h < 4 → c < 3 →
    let d := s.dev
    let st := d.canState c
    let may (a : Nat) := d.mayWrite h a = true ∧ d.isolated a = false ∧ aget d.img.bounds a = none
    let ends (i : Instr) (u : Dev) (st : Nat) : Prop := exec i s = .next ⟨{ u with wstat := st }, s.pending⟩
    let bad (j : Nat) : Bool := (d.rb (Reg.CAN_TX_CTL c j) 31 && !d.rb (Reg.CAN_CFG c) 30) ||
      (d.rb (Reg.CAN_TX_CTL c j) 30 && !d.rb (Reg.CAN_TX_CTL c j) 31)
    let asked := (List.range 32).filter (fun j => bget v j && !d.rb (Reg.CAN_TXREQ c) j)
    (may (Reg.CAN_CMD c) →
      (st = 0 ∨ st = 7 → ends (.canStop h c) d stState) ∧
      (st ≠ 0 → st ≠ 7 → (d.cc c).sending.isSome = true →
        ends (.canStop h c) (d.ccMod c (fun x => { x with stopReq := true })) stOk) ∧
      (st ≠ 0 → st ≠ 7 → (d.cc c).sending = none → ends (.canStop h c) (d.canGo c 7) stOk) ∧
      (st = 5 → ends (.canRecover h c) (d.canGo c 6) stOk) ∧
      (st = 7 → ends (.canRecover h c) ((d.wf (Reg.CAN_STAT c) 0 24 0).canGo c 1) stOk) ∧
      (st ≠ 5 → st ≠ 7 → ends (.canRecover h c) d stState)) ∧
    (may (Reg.CAN_TXREQ c) → ends (.txRequest h c v)
      ((asked.filter (fun j => !bad j)).foldl (fun d j => d.wb (Reg.CAN_TXREQ c) j true) d)
      (if asked.any bad then stRange else stOk)) ∧
    (may (Reg.CAN_TXCAN c) → ∃ u : Dev, ends (.txCancel h c v) u stOk ∧ u.sram = d.sram ∧ u.flt = d.flt ∧
      ((d.cc c).sending = none → u = (List.range 32).foldl (fun e j => if bget v j && e.rb (Reg.CAN_TXREQ c) j then
        (e.wb (Reg.CAN_TXREQ c) j false).wb (Reg.CAN_TXCNC c) j true else e) d))

/-- R16, R275, R285, R303, R307, R309, R325, R342: PARAM_BLOCK_WRITE, INJECTION_RUN, AUX_TARGET, HOME, AUX_DUTY, DISCHARGE_GO,
DISCHARGE_STOP and SBC_REL. The model's own readings: values outside a table's ranges (log entry 15), two blocks at one point (19), homing
with a limit switch active (98). -/
def Obligations.StagedRegisterRows : Prop :=
  ∀ (s : State) (h g first count : Nat) (v : Word) (b : Bool), s.dev.live = true → h < 4 → g < 2 → first < 4096 → count < 2048 →
    let d := s.dev
    let may (a : Nat) (v : Word) := d.mayWrite h a = true ∧ d.isolated a = false ∧ d.staged? a = true ∧
      ∀ r, rowAt a = some r → d.locked a r = false ∧ d.valueOk a r v = true
    let waits (i : Instr) (a : Nat) (v : Word) : Prop :=
      exec i s = .next ⟨{ d with
        port := d.port ++ [⟨h, a, v, d.commitAxis a v, d.hosts.seq⟩]
        hosts := { d.hosts with seq := d.hosts.seq + 1 }
        wstat := stOk }, s.pending⟩
    let block := BitVec.ofNat 32 (first * 65536 + count)
    let held (e : Dev) (a : Nat) (v : Word) := e.staged? a = true ∧
      ∀ r, rowAt a = some r → e.locked a r = false ∧ e.valueOk a r v = true
    (may Reg.CE_PBLK block → waits (.paramBlockWrite h first count) Reg.CE_PBLK block) ∧
    (may (Reg.CE_INJ_CTL g) (BitVec.ofNat 32 b.toNat) →
      waits (.injectionRun h g b) (Reg.CE_INJ_CTL g) (BitVec.ofNat 32 b.toNat)) ∧
    (may (Reg.AUX_TGT g) v → waits (.auxTarget h g v) (Reg.AUX_TGT g) v ∧ d.commitAxis (Reg.AUX_TGT g) v = 4 + g) ∧
    (may (Reg.AUX_CMD g) 1 → waits (.home h g) (Reg.AUX_CMD g) 1 ∧ d.commitAxis (Reg.AUX_CMD g) 1 = 4 + g) ∧
    (may (Reg.AUX_DUTY g) v → waits (.auxDuty h g v) (Reg.AUX_DUTY g) v ∧ d.commitAxis (Reg.AUX_DUTY g) v = 4 + g) ∧
    (may Reg.DCL_DISCH 1 → waits (.dischargeGo h) Reg.DCL_DISCH 1) ∧
    (may Reg.DCL_DISCH 2 → waits (.dischargeStop h) Reg.DCL_DISCH 2) ∧
    (may Reg.SAFE_SBC_CTL (BitVec.ofNat 32 b.toNat) →
      waits (.sbcRel h b) Reg.SAFE_SBC_CTL (BitVec.ofNat 32 b.toNat)) ∧
    (∀ (e : Dev) (p : Option (Nat × Nat)),
      (held e (Reg.AUX_TGT g) v → e.rb (Reg.AUX_CFG g) 29 = true → e.applyRws h (Reg.AUX_TGT g) v p = (e, stPriv)) ∧
      (held e (Reg.AUX_TGT g) v → e.rb (Reg.AUX_CFG g) 29 = false →
        e.applyRws h (Reg.AUX_TGT g) v p = ((e.auxTarget g v false).1,
          match (e.auxTarget g v false).2 with | .accepted => stOk | .state => stState | .limit => stLimit)) ∧
      (held e (Reg.AUX_CMD g) 1 → e.applyRws h (Reg.AUX_CMD g) 1 p =
        ((e.homeStart g).1, if (e.homeStart g).2 then stOk else stState)) ∧
      (held e Reg.DCL_DISCH 1 → (e.dstate = .ready ∨ e.dstate = .safe ∨ e.dstate = .service) →
        e.applyRws h Reg.DCL_DISCH 1 p = (e.dischargeStart, stOk)) ∧
      (held e Reg.DCL_DISCH 1 → e.dstate ≠ .ready → e.dstate ≠ .safe → e.dstate ≠ .service →
        e.applyRws h Reg.DCL_DISCH 1 p = (e, stState)) ∧
      (held e Reg.DCL_DISCH 2 → e.applyRws h Reg.DCL_DISCH 2 p = (e.dischargeEnd, stOk)) ∧
      (held e Reg.SAFE_SBC_CTL (BitVec.ofNat 32 b.toNat) → e.applyRws h Reg.SAFE_SBC_CTL (BitVec.ofNat 32 b.toNat) p =
        (({ e.rset Reg.SAFE_SBC_CTL (BitVec.ofNat 32 b.toNat) with written := e.written ++ [Reg.SAFE_SBC_CTL] } : Dev).sbcUpdate,
          stOk)) ∧
      (held e (Reg.CE_INJ_CTL g) (BitVec.ofNat 32 b.toNat) →
        e.applyRws h (Reg.CE_INJ_CTL g) (BitVec.ofNat 32 b.toNat) p = (e.injRun g b, stOk)) ∧
      (held e Reg.CE_PBLK block → e.applyRws h Reg.CE_PBLK block p = (e.blockStart h block p, stOk)))

/-- R125–R127, R139: the whole next state of LOSS_OF_LOCK and of PATH_RELOCK. Whether a path feeds and whether the other is locked is read
after the lock bit of the lost path has been cleared and its fault raised. That the move to the free-running ILO raises no event and counts
as no switch-over is the model's choice (log entry 106). -/
def Obligations.ClockPathLossAndRelock : Prop :=
  ∀ (s : State) (p : Nat), s.dev.live = true → p < 2 →
    let d := (s.dev.wb Reg.CLK_STATUS (3 + p) false).lvlOn (0x0301 + p) 0
    let feeds := if d.rf Reg.CLK_STATUS 1 2 = 0 then 0 else 1
    let moved (e : Dev) : Dev := { e with clk := { e.clk with lastSwitch := some e.now } }.ev 0x08
    let u := (s.dev.wb Reg.CLK_STATUS (3 + p) true).lvlOff (0x0301 + p) 0
    (p ≠ feeds → exec (.lossOfLock p) s = .next { s with dev := d }) ∧
    (p = feeds → d.rb Reg.CLK_STATUS (4 - p) = false →
      exec (.lossOfLock p) s = .next { s with dev := d.wf Reg.CLK_STATUS 1 2 2 }) ∧
    (p = feeds → d.rb Reg.CLK_STATUS (4 - p) = true → p = 0 →
      exec (.lossOfLock p) s = .next { s with dev := moved (d.wf Reg.CLK_STATUS 1 2 1) }) ∧
    (p = feeds → d.rb Reg.CLK_STATUS (4 - p) = true → p = 1 →
      exec (.lossOfLock p) s = .next { s with dev := moved ((d.wf Reg.CLK_STATUS 1 2 0).rset Reg.CLK_PHASE 0) }) ∧
    exec (.pathRelock p) s = .next ⟨
      if p = 1 ∧ u.rf Reg.CLK_STATUS 1 2 = 2 then u.wf Reg.CLK_STATUS 1 2 1 else u, s.pending⟩

/-- R126, R137, R441, R450: the whole next state of CLK_RETURN, CLK_STEP and PHASE_STEP. The image bounds tuning registers only (R85), so
none of it is `CLK_CMD`. That X and Y count among the axes that must be idle and that a RETURN takes no step are the model's choices (log
entries 55 and 21). -/
def Obligations.ClockReturnAndPhaseSteps : Prop :=
  ∀ (s : State) (h n : Nat), s.dev.live = true → h < 4 → n < 256 → aget s.dev.img.bounds Reg.CLK_CMD = none →
    let d := s.dev
    let feeds := if d.rf Reg.CLK_STATUS 1 2 = 0 then 0 else 1
    let prim := d.rf Reg.CLK_CFG 0 1
    let e := d.wf Reg.CLK_STATUS 1 2 prim
    let f := if prim = 0 then e.rset Reg.CLK_PHASE 0 else e
    let moved := { f with clk := { f.clk with lastSwitch := some f.now } }.ev 0x08
    let may := d.rb (Reg.HOST_TEN h) 8
    let pend := d.rfs Reg.CLK_PHASE 16 8
    let tap := d.rf Reg.CLK_PHASE 0 6
    (may = false →
      exec (.clkReturn h) s = .next { s with dev := { d with wstat := stPriv } } ∧
      exec (.clkStep h n) s = .next { s with dev := { d with wstat := stPriv } }) ∧
    (may = true → d.allIdle = true → d.rb Reg.CLK_STATUS (3 + prim) = true → feeds ≠ prim →
      exec (.clkReturn h) s = .next { s with dev := { moved with wstat := stOk } }) ∧
    (may = true → ¬(d.allIdle = true ∧ d.rb Reg.CLK_STATUS (3 + prim) = true ∧ feeds ≠ prim) →
      exec (.clkReturn h) s = .next { s with dev := { d with wstat := stState } }) ∧
    (may = true → d.rf Reg.CLK_CFG 16 3 ≠ 2 → feeds = 1 →
      exec (.clkStep h n) s = .next { s with dev := { d.wf Reg.CLK_PHASE 16 8 n with wstat := stOk } }) ∧
    (may = true → (d.rf Reg.CLK_CFG 16 3 = 2 ∨ feeds = 0) →
      exec (.clkStep h n) s = .next { s with dev := { d with wstat := stState } }) ∧
    (let up := (d.wf Reg.CLK_PHASE 0 6 ((tap + 1) % 64)).wf Reg.CLK_PHASE 16 8 (fromSigned 8 (pend - 1))
     let down := (d.wf Reg.CLK_PHASE 0 6 ((tap + 63) % 64)).wf Reg.CLK_PHASE 16 8 (fromSigned 8 (pend + 1))
     let free := ∀ t, d.clk.stepAt = some t → t + 400 ≤ d.now
     let moved (e : Dev) (k : Int) (f : Nat → Nat) : Dev := { e with
       clk := { e.clk with stepAt := some d.now, epochAt := d.clk.epochAt + k }
       pwm := d.pwm.map (fun w => { w with lastB := f w.lastB }), chan := d.chan.map (fun c => { c with lastB := f c.lastB }) }
     (feeds = 1 → free → 0 < pend → tap ≠ 63 →
       exec .phaseStep s = .next ⟨{ up with clk := { up.clk with stepAt := some d.now } }, s.pending⟩) ∧
     (feeds = 1 → free → 0 < pend → tap = 63 → exec .phaseStep s = .next ⟨moved up 1 (fun n => n + 1), s.pending⟩) ∧
     (feeds = 1 → free → pend < 0 → tap ≠ 0 →
       exec .phaseStep s = .next ⟨{ down with clk := { down.clk with stepAt := some d.now } }, s.pending⟩) ∧
     (feeds = 1 → free → pend < 0 → tap = 0 → exec .phaseStep s = .next ⟨moved down (-1) (fun n => n - 1), s.pending⟩) ∧
     (feeds = 0 ∨ pend = 0 ∨ ¬free → exec .phaseStep s = .next s))

/-- R121, R127, R131, R138, R139: the whole next state of CLKIN_DETECT_END, CLOCK_MONITOR_WINDOW, DELAY_LINE_CAL_LOST and
DELAY_LINE_CAL_RETURN. The table of R121 is written out as pairs of edges in 100 µs and factor M. That a window judges the reference only
once M is known, and that the lock bits fall without their faults, are the model's (log entries 143 and 144). -/
def Obligations.ClockChoiceWindowsAndCalibration : Prop :=
  ∀ (s : State) (n ctrl pwm mgmt can ref watch : Nat), s.dev.live = true →
    let d := s.dev
    let near (f : Nat) : Prop := 92 * f ≤ 100 * n ∧ 100 * n ≤ 108 * f
    let table : List (Nat × Nat) := [(1000, 40), (1250, 32), (1600, 25), (2000, 20), (2500, 16), (4000, 10), (5000, 8)]
    let out (c e : Nat) : Bool := decide (100 * c < 94 * e ∨ 106 * e < 100 * c)
    let w := ((((d.lvlSet (out ctrl 800) 0x0304 0).lvlSet (out pwm 800) 0x0305 0).lvlSet (out mgmt 400) 0x0306 0).lvlSet
      (out can 160) 0x030A 0).lvlSet (out watch 100) 0x030B 0
    let m := w.rf Reg.CLK_STATUS 8 6
    let lost := decide (m ≠ 0 ∧ 2 * ref * m < 800)
    (d.dstate ≠ .boot → exec (.clkinDetectEnd n) s = .next s) ∧
    (d.dstate = .boot → ∀ x ∈ table, near x.1 →
      exec (.clkinDetectEnd n) s = .next { s with dev := (d.wf Reg.CLK_STATUS 8 6 x.2).wb Reg.CLK_STATUS 0 true }) ∧
    (d.dstate = .boot → (∀ x ∈ table, ¬ near x.1) →
      exec (.clkinDetectEnd n) s = .next { s with dev := (d.wf Reg.CLK_STATUS 8 6 20).wb Reg.CLK_STATUS 0 false }) ∧
    (let gone := ((w.wb Reg.CLK_STATUS 3 false).wb Reg.CLK_STATUS 4 false).wf Reg.CLK_STATUS 1 2 2
     let v := (if lost && !w.clk.refLost then gone.ev 0x09 else w).lvlSet lost 0x0303 0
     exec (.clockMonitorWindow ctrl pwm mgmt can ref watch) s =
       .next { s with dev := { v with clk := { v.clk with refLost := lost } } }) ∧
    exec .delayLineCalLost s = .next { s with dev := (d.wb Reg.CLK_STATUS 5 false).lvlOn 0x0309 0 } ∧
    exec .delayLineCalReturn s = .next { s with dev := (d.wb Reg.CLK_STATUS 5 true).lvlOff 0x0309 0 } ∧
    (∀ e : Dev, (e.rb Reg.CLK_STATUS 5 = false → ∀ x, e.edgeCmp x = x / 16 * 16) ∧ (e.rb Reg.CLK_STATUS 5 = true → ∀ x, e.edgeCmp x = x))

/-- R132–R137, R145: EPOCH_TICK, SYNC_OUT_PULSE_END, SYNC_IN_EDGE, SNAP and SYNC_IN_MISSING. That the epoch counter starts at the end of
commit (log entry 118) and that the move to the free-running ILO is no switch-over (106) are the model's readings. -/
def Obligations.EpochAndSynchronisation : Prop :=
  ∀ (s : State) (ph : Nat), s.dev.live = true → ph < 16 →
    let d := s.dev
    let m : Int := 16 * d.rf Reg.CLK_TBPER 0 24
    let r0 : Int := (16 * ((d.now : Int) - d.clk.epochAt) + ph) % m
    let r : Int := if m < 2 * r0 then r0 - m else r0
    let ok := (match d.clk.lastSwitch with | some t => decide (t + 40 ≤ d.now) | none => true) &&
      (match d.clk.lastEdge with | some t => decide (t + usTicks ≤ d.now) | none => true)
    let c := ((((d.rset Reg.CLK_SYNCCAP (wordOfInt r)).wmod Reg.CLK_SYNCCNT 0 15).wb Reg.CLK_SYNCCNT 15 ok).ev 0x0A).hlt 0x0D 0 r
    let c' := if ok then { c with clk := { c.clk with lastEdge := some c.now } } else c
    let g := { c'.lvlOff 0x0308 0 with clk := { c'.clk with aligned := some c'.now } }
    (let wraps := (tget d.pwm 0).running = true ∧ (d.rf Reg.CLK_TBPER 0 24 : Int) ≤ (d.now : Int) - d.clk.epochAt
     let clk := { d.clk with epochs := d.clk.epochs + 1, epochAt := d.clk.epochAt + d.rf Reg.CLK_TBPER 0 24, syncAt := d.now }
     let pins := { d.pins with syncOut := d.rf Reg.CLK_CFG 24 8 != 0 }
     (wraps → exec .epochTick s = .next { s with dev := { d with clk := clk, pins := pins }.ev 0x0C }) ∧
     (¬wraps → exec .epochTick s = .next s)) ∧
    (d.clk.syncAt + d.rf Reg.CLK_CFG 24 8 ≤ d.now →
      exec .syncOutPulseEnd s = .next { s with dev := { d with pins := { d.pins with syncOut := false } } }) ∧
    (d.now < d.clk.syncAt + d.rf Reg.CLK_CFG 24 8 → exec .syncOutPulseEnd s = .next s) ∧
    (d.rf Reg.CLK_CFG 16 3 = 0 ∨ (tget d.pwm 0).running = false → exec (.syncInEdge ph) s = .next s) ∧
    (d.rf Reg.CLK_CFG 16 3 ≠ 0 → (tget d.pwm 0).running = true → c'.rf Reg.CLK_CFG 16 3 ≠ 2 →
      exec (.syncInEdge ph) s = .next { s with dev := c' }) ∧
    (d.rf Reg.CLK_CFG 16 3 ≠ 0 → (tget d.pwm 0).running = true → c'.rf Reg.CLK_CFG 16 3 = 2 →
      exec (.syncInEdge ph) s = .next
        ⟨if ok then g.alignEdge (r - g.rfs Reg.CLK_SYNCOFS 0 16) else g, s.pending⟩) ∧
    (d.clk.snap = none ∨ (∃ t, d.clk.lastEdge = some t ∧ d.now < t + 40) → exec .snap s = .next s) ∧
    (∀ n, d.clk.snap = some n → (∀ t, d.clk.lastEdge = some t → t + 40 ≤ d.now) →
      let base := d.clk.epochAt + n
      let k := { d with clk := { d.clk with snap := none, epochAt := base, divAt := base } }.wsat Reg.CLK_SYNCCNT 16 16
      let from' (l : Nat) : Int := base + (k.rf (Reg.PWM_PHS l) 0 24 : Int)
      let lastB (l : Nat) : Nat := ((k.now : Int) - ((k.now : Int) - from' l) % (k.rf (Reg.PWM_PER l) 0 24 : Int)).toNat
      let pwm := Vector.ofFn (fun a : Fin 4 =>
        if k.rb (Reg.PWM_CFG (k.leader a)) 1 then { k.pwm[a] with lastB := lastB (k.leader a) } else k.pwm[a])
      exec .snap s = .next { s with dev := { k with pwm := pwm }.ev 0x0B }) ∧
    (let missing := d.rf Reg.CLK_CFG 16 3 = 2 ∧ ∃ t, d.clk.aligned = some t ∧ t + 2 * d.rf Reg.CLK_TBPER 0 24 ≤ d.now
     (missing → exec .syncInMissing s = .next { s with dev := d.lvlOn 0x0308 0 }) ∧
     (¬missing → exec .syncInMissing s = .next s))

/-- R135: the action on a valid capture, from the pseudocode of the rule. Pending steps stay within the signed 8 bits of `CLK_PHASE.PEND`:
the model's choice (log entry 107). X and Y count among the axes that must be idle (log entry 55). -/
def Obligations.AlignActsOnCapture : Prop :=
  ∀ (d : Dev) (e : Int),
    (16 ≤ e.natAbs → d.allIdle = true →
      d.alignEdge e = { d with clk := { d.clk with snap := some (Int.tdiv e 16) } }) ∧
    (¬(16 ≤ e.natAbs ∧ d.allIdle = true) → d.rf Reg.CLK_SYNCLIM 0 16 < e.natAbs → d.alignEdge e = d.occ 0x0307 0) ∧
    (¬(16 ≤ e.natAbs ∧ d.allIdle = true) → e.natAbs ≤ d.rf Reg.CLK_SYNCLIM 0 16 → d.rf Reg.CLK_STATUS 1 2 ≠ 0 → 0 < e →
      d.alignEdge e = d.wf Reg.CLK_PHASE 16 8 (fromSigned 8 (min 127 (d.rfs Reg.CLK_PHASE 16 8 + 1)))) ∧
    (¬(16 ≤ e.natAbs ∧ d.allIdle = true) → e.natAbs ≤ d.rf Reg.CLK_SYNCLIM 0 16 → d.rf Reg.CLK_STATUS 1 2 ≠ 0 → e < 0 →
      d.alignEdge e = d.wf Reg.CLK_PHASE 16 8 (fromSigned 8 (max (-128) (d.rfs Reg.CLK_PHASE 16 8 - 1)))) ∧
    (¬(16 ≤ e.natAbs ∧ d.allIdle = true) → e.natAbs ≤ d.rf Reg.CLK_SYNCLIM 0 16 →
      (d.rf Reg.CLK_STATUS 1 2 = 0 ∨ e = 0) → d.alignEdge e = d)

/-- R142, R143, R155, R156, R167, R168, R192, R252, R293: PWM_EDGE and DEAD_TIME_END. `e` is the device after a refresh has begun, where
the edge is the begin of one; before its gates follow, an edge of a request leaves the device `u`. The model's own: the rounding of half of
an odd refresh (log entry 8), dead times under a cut (94), the rows of the probe pulses (97), the free peak of a bridge (7). -/
def Obligations.CompareEdgesAndDeadTimes : Prop :=
  ∀ (s : State) (a p : Nat) (up : Bool), s.dev.live = true → a < 4 → p < 3 →
    let d := s.dev
    let w := tget d.pwm a
    let on := if up then 2 * p else 2 * p + 1
    let off := if up then 2 * p + 1 else 2 * p
    let dt := d.rf (Reg.PWM_DT (d.leader a)) (if up then 16 else 0) 12
    let pr := d.rget (Reg.FLD_PROBE (d.leader a))
    let ended := { d with pwm := tmod d.pwm a (fun w => { w with dead := tset w.dead on false }) }
    let waits := !up && tget w.cutWait p
    let cutOn := { d with pwm := tmod d.pwm a (fun w => { w with
      cutWait := tset w.cutWait p false, cutLow := tset w.cutLow p true,
      on := tset w.on (2 * p + 1) (tget w.on (2 * p + 1) || (!tget w.reqH p && !tget w.dead (2 * p + 1))) }) }
    let turned := { ended with pwm := tmod ended.pwm a (fun w => { w with on := tset w.on on true }) }
    let e := if !up && d.isRefresh a p then d.refreshBegin a p else d
    let tick := min (e.now - (tget e.pwm (e.leader a)).lastB) (e.rf (Reg.PWM_PER (e.leader a)) 0 24 - 1)
    let cmp (i : Nat) : Nat := let x := (tget (tget e.pwm a).eff i).toNat; if e.rb Reg.CLK_STATUS 5 then x else x / 16 * 16
    let carrier := tick < cmp (2 * p) / 16 ∨ (16 * e.rf (Reg.PWM_PER (e.leader a)) 0 24 - cmp (2 * p + 1)) / 16 ≤ tick
    let held := ∃ t, tget (tget e.pwm a).refreshing p = some t ∧ e.now < t
    let given := (carrier ∧ ¬held) ↔ up = true
    (let pulse := up && (tget d.ax a == .freewheel && d.rf (Reg.FLD_STAT (d.leader a)) 10 2 == 2 &&
       d.now + fget pr 0 13 / 2 == d.nextPeak a && decide ((tget d.fld (d.leader a)).acqN < fget pr 16 4))
     exec (.pwmEdge a (3 + p) up) s = .next { s with dev :=
       ({ d with pwm := tmod d.pwm a (fun w => { w with probe := tset w.probe p pulse }) }).syncGates a }) ∧
    (tget w.refresh p = none → d.isRefresh a p = false) ∧
    (d.refreshBegin a p).regs = ((if d.maskPass a p false then d else d.wb (Reg.ISL_H_FLAGS (3 * a + p)) 4 true).wb
      (Reg.ISL_H_FLAGS (3 * a + p)) 3 true).regs ∧
    (d.refreshBegin a p).events = d.events ++ [0x78 + (3 * a + p)] ∧
    (d.isRefresh a p = true → ∃ t, tget w.refresh p = some t ∧ (tget d.ax a).active = true ∧
      d.now + d.rf (Reg.PWM_DT (d.leader a)) 0 12 + d.refreshHalf a p = d.nextPeak a ∧
      t + d.refreshHalf a p + d.rf (Reg.PWM_DT (d.leader a)) 0 12 + 20 ≤ d.nextPeak a) ∧
    (¬given ∨ tget (tget e.pwm a).reqH p = up → exec (.pwmEdge a p up) s = .next ⟨e, s.pending⟩) ∧
    (given → tget (tget e.pwm a).reqH p ≠ up → ∃ u : Dev, exec (.pwmEdge a p up) s = .next ⟨u.syncGates a, s.pending⟩ ∧
      u.sram = d.sram ∧ u.ax = d.ax ∧ u.sw = d.sw ∧ u.regs = e.regs ∧ u.events = e.events ∧ u.flt = e.flt ∧
      tget (tget u.pwm a).reqH p = up ∧ tget (tget u.pwm a).on off = false ∧ tget (tget u.pwm a).dead off = false ∧
      tget (tget u.pwm a).on on = decide (dt = 0) ∧ tget (tget u.pwm a).dead on = decide (dt ≠ 0) ∧
      ∀ b < 4, b ≠ a → tget u.pwm b = tget d.pwm b) ∧
    (waits = true → exec (.deadTimeEnd a p up) s = .next { s with dev := cutOn.syncGates a }) ∧
    (waits = false → tget w.dead on = false → exec (.deadTimeEnd a p up) s = .next s) ∧
    (waits = false → tget w.dead on = true → ended.isCut a = true →
      exec (.deadTimeEnd a p up) s = .next { s with dev := turned }) ∧
    (waits = false → tget w.dead on = true → ended.isCut a = false → ended.tripNow a = true →
      exec (.deadTimeEnd a p up) s = .next { s with dev :=
        { ended.cutPulses a with pwm := tmod (ended.cutPulses a).pwm a (fun w => { w with on := tset w.on on true }) } }) ∧
    (waits = false → tget w.dead on = true → ended.isCut a = false → ended.tripNow a = false →
      exec (.deadTimeEnd a p up) s = .next { s with dev := turned.syncGates a }) ∧
    (let per := 16 * d.rf (Reg.PWM_C_PER a) 0 24
     exec (.pwmEdge (4 + a) p up) s = .next
       ⟨if d.onTime a (d.rget (Reg.PWM_C_CMP0 a)).toNat < per then d.ilkOff (24 + a) else d, s.pending⟩) ∧
    (∀ x < 2,
      let ends := tget (tget d.aux x).driving p = true ∧ 16 * (tget d.chan (4 + x)).lastB + d.auxOnTime x p ≤ 16 * d.now + 15
      (¬ ends → exec (.pwmEdge (8 + x) p up) s = .next s) ∧
      (ends → exec (.pwmEdge (8 + x) p up) s = .next ⟨(d.driveEnd x p (Config.freeNat 293 d.freeCtr % 256)).tick1, s.pending⟩))

/-- R154, R155, R159, R160, R190: TRIP_INPUT_CHANGE, OC_DETECTED and BLANKING_END, and the cut itself. The blanking timer of a
six-phase machine is its leader's (R146, log entry 111). -/
def Obligations.TripSourcesCutPulses : Prop :=
  ∀ (s : State) (a src p : Nat) (active : Bool), s.dev.live = true → a < 4 → src < 4 → p < 3 →
    let d := s.dev
    let e := d.wb (Reg.PWM_TRIP a) (8 + src) active
    let o := d.wb (Reg.PWM_TRIP a) 11 true
    let enabled := if src < 2 then e.rb (Reg.PWM_TRIPCFG a) src else true
    let held (e : Dev) (src : Nat) : Bool := e.rb (Reg.PWM_STAT (e.leader a)) 11 && src != 2 &&
      e.rb (Reg.PWM_BLK (e.leader a)) (if src = 3 then 18 else 16 + src)
    let b := (d.group a).foldl (fun d x => d.wb (Reg.PWM_STAT x) 11 false) d
    exec (.tripInputChange a src active) s = .next
      ⟨if active && enabled && !held e src then e.cutPulses a else e, s.pending⟩ ∧
    exec (.ocDetected a p) s = .next
      ⟨(if held o 3 then o else o.cutPulses a).occ 0x0509 (3 * a + p), s.pending⟩ ∧
    exec (.blankingEnd a) s = .next ⟨if b.tripNow a then b.cutPulses a else b, s.pending⟩ ∧
    (∀ c : Dev, c.rb (Reg.PWM_TRIP a) 24 = true → c.cutAxis a = c) ∧
    (∀ c : Dev, c.rb (Reg.PWM_TRIP a) 24 = false → ∃ u : Dev, c.cutAxis a = u.syncGates a ∧
      u.regs = (c.wb (Reg.PWM_TRIP a) 24 true).regs ∧ u.events = c.events ++ [0x32 + 10 * a] ∧ u.sram = c.sram ∧ u.sw = c.sw)

/-- R147, R148, R150–R152, R157, R167: PERIOD_BOUNDARY, PEAK_UPDATE and CHANNEL_BOUNDARY, with the two decisions of the boundary for an
axis that is alone. R19, R28: the natural transitions of an axis and its mirror. The model's own readings: the order at a commit point (log
entry 12), a resume that is due (37), one natural transition at a point (84), the way out of a safe state (85), mirrors and boundaries
under test (86), the follower's row (87), the first count (93), EPOCH and the halves (94), a blanked source at a boundary (110), a pair
that forms (145). -/
def Obligations.BoundariesPeaksAndPairLock : Prop :=
  ∀ (s : State) (a j : Nat), s.dev.live = true → a < 4 → j < 6 →
    let d := s.dev
    let idle := d.leader a ≠ a ∨ d.committed = false ∨ d.bistUnit = some 4
    (idle → exec (.periodBoundary a) s = .next s) ∧
    (¬ idle →
      let d1 := d.commitPoint (d.group a)
      let d2 := (d1.group a).foldl Dev.axisTurn d1
      let d3 := d2.pwmBoundary a
      exec (.periodBoundary a) s = .next ⟨(d3.group a).foldl Dev.boundaryEnd d3, s.pending⟩) ∧
    (d.rb (Reg.PWM_CFG (d.leader a)) 0 = false → exec (.peakUpdate a) s = .next s) ∧
    (d.rb (Reg.PWM_CFG (d.leader a)) 0 = true →
      exec (.peakUpdate a) s = .next ⟨(d.group a).foldl Dev.peakAxis d, s.pending⟩) ∧
    (d.committed = false ∨ d.bistUnit = some 4 → exec (.channelBoundary j) s = .next s) ∧
    (d.committed = true → d.bistUnit ≠ some 4 →
      let d1 := if 4 ≤ j then (d.auxFaults (j - 4)).commitPoint [j] else d
      let d2 := (d1.chanBoundary j).chanGate j
      exec (.channelBoundary j) s = .next ⟨if 4 ≤ j then d2.auxBoundary (j - 4) else d2, s.pending⟩) ∧
    (∀ e : Dev, e.group a = [a] → e.rb (Reg.PWM_CFG a) 2 = false →
      let due := e.rb (Reg.PWM_CFG a) 1 = false ∨
        ((e.now : Int) - e.clk.epochAt - e.rf (Reg.PWM_PHS a) 0 24) % (e.rf Reg.CLK_TBPER 0 24 : Int) = 0
      let per := (tget e.pwm a).per
      let some' := ∃ i < 6, tget (tget e.pwm a).ncmp i ≠ none
      let f := e.takeCmps a
      let half := (per ≠ none ∧ ¬some') ∨ (per = none ∧ some')
      let waited (k : Nat) : Dev := { f with pwm := tmod f.pwm a (fun w => { w with waitAge := k }) }
      (¬due → e.pairLock a = f) ∧
      (∀ v, due → per = some v → some' →
        e.pairLock a = ((e.rset (Reg.PWM_PER a) v).takeNcmps a).wb (Reg.PWM_STAT a) 8 false) ∧
      (due → per = none → ¬some' → e.pairLock a = f) ∧
      (due → half → f.rb (Reg.PWM_STAT a) 8 = false → let g := (f.wb (Reg.PWM_STAT a) 8 true).wf (Reg.PWM_STAT a) 4 4 1
        e.pairLock a = ({ g with pwm := tmod g.pwm a (fun w => { w with waitAge := 0 }) } : Dev).ev (0x34 + 10 * a)) ∧
      (due → half → f.rb (Reg.PWM_STAT a) 8 = true → (tget f.pwm a).waitAge + 1 < f.rf (Reg.PWM_CFG a) 8 4 →
        e.pairLock a = (waited ((tget f.pwm a).waitAge + 1)).wsat (Reg.PWM_STAT a) 4 4) ∧
      (due → half → f.rb (Reg.PWM_STAT a) 8 = true → f.rf (Reg.PWM_CFG a) 8 4 ≤ (tget f.pwm a).waitAge + 1 →
        e.pairLock a = ((((f.dropHalves a).wb (Reg.PWM_STAT a) 8 false).wb (Reg.PWM_FLAGS a) 0 true).ev (0x35 + 10 * a)).occ
          (0x0401 + 0x10 * a) 0)) ∧
    (∀ e : Dev, e.tripAny a = false →
      let f := e.wf (Reg.PWM_TRIP a) 16 8 0
      f.group a = [a] → e.tripsAtBoundary a = if f.latch a = 0 then f.liftAxis a else f) ∧
    (∀ e : Dev, e.tripAny a = true →
      let f := (e.wsat (Reg.PWM_TRIP a) 16 8).cutPulses a
      f.group a = [a] →
      let g := f.latchAxis a
      let reached := f.rf (Reg.PWM_TRIPCFG a) 16 8 ≤ f.rf (Reg.PWM_TRIP a) 16 8
      (¬reached → e.tripsAtBoundary a = f) ∧
      (reached → g.rf (Reg.PWM_TRIP a) 0 4 = f.rf (Reg.PWM_TRIP a) 0 4 → e.tripsAtBoundary a = g) ∧
      (reached → g.rf (Reg.PWM_TRIP a) 0 4 ≠ f.rf (Reg.PWM_TRIP a) 0 4 →
        e.tripsAtBoundary a = (g.ev (0x33 + 10 * a)).lvlAgain (0x0402 + 0x10 * a) 0)) ∧
    (∀ e : Dev,
      let u := e.resumeAt a
      let st := tget u.ax a
      let target := ∃ l < 32, u.rb (Reg.CE_LANE_CFG l) 31 = true ∧ u.laneAxis l = a ∧ u.rget (Reg.CE_LANE_TGT l) ≠ 0
      let stops := (tget u.ce.iref a).natAbs ≤ fget (u.rget (Reg.FLD_STOP a)) 16 16 * 65536 ∧
        (sword (u.rget (Reg.FLD_SPEED (u.leader a)))).natAbs < fget (u.rget (Reg.FLD_STOP a)) 0 16 * 10
      let on := 10 * u.rf (Reg.DCL_SEL a) 0 16
      let slow := u.rf (Reg.DCL_SEL a) 30 2 = 1 ∨ (on = 0 ∧ u.selSpeed a = 0) ∨ (u.selSpeed a).natAbs < on
      let gone (code : Nat) := ¬(∃ r ∈ u.flt.recs, r.code = code ∧ r.isOpen = true) ∧ u.lvlAny code = false ∧
        ∀ r ∈ u.flt.inbox, r.code ≠ code
      let mayIdle := (tget u.link (if a < 2 then 12 else 13)).cdLost = false ∧ (∀ c ∈ tget u.axCause a, gone c) ∧ slow
      (st ≠ tget e.ax a → e.axisTurn a = u) ∧
      (st = tget e.ax a →
        (st = .enabled → target → e.axisTurn a = u.axGo a .driving) ∧ (st = .enabled → ¬target → e.axisTurn a = u) ∧
        (st = .stopping → stops → e.axisTurn a = u.axGo a .enabled) ∧ (st = .stopping → ¬stops → e.axisTurn a = u) ∧
        (st = .asc ∨ st = .freewheel → mayIdle → let v := (u.acqEnd a).axGo a .idle
          (v.dstate = .run → v.tractionIdle = true → e.axisTurn a = v.enterArmed) ∧
          (v.dstate ≠ .run ∨ v.tractionIdle = false → e.axisTurn a = v)) ∧
        (st = .asc ∨ st = .freewheel → ¬mayIdle → e.axisTurn a = u) ∧
        (st = .idle ∨ st = .diag ∨ st = .driving → e.axisTurn a = u)) ∧
      ((tget e.fld a).resume = false → u = e) ∧
      (e.bistUnit = some 5 → e.mirror a = e) ∧
      (e.tablesOk = true → e.bistUnit ≠ some 5 →
        let f := tget e.fld a
        let n := (tget e.pwm a).bcount % 65536
        let pu (site : Nat) (x : Int) : Nat := (clampInt 0 65535 (rdiv site x 65536)).toNat
        let ws : List Nat :=
          [(if e.inTopo a then (tget e.ax a).code else 0) * 2 ^ 28 + e.dstate.code * 2 ^ 24 + n,
           (e.rget (Reg.FLD_ANGLE a)).toNat, (e.rget (Reg.FLD_SPEED a)).toNat,
           fromSigned 32 f.id, fromSigned 32 f.iq, fromSigned 32 f.vd, fromSigned 32 f.vq, fromSigned 32 (tget e.ce.iref a),
           (e.rget Reg.DCL_VDC).toNat, (e.rget (Reg.PWM_TRIP a)).toNat, (e.rget (Reg.PWM_STAT a)).toNat,
           (e.rget (Reg.FLD_STAT a)).toNat, (e.rget (Reg.SAFE_TM_STAT a)).toNat,
           pu 0x1910 (e.lMot a) * 65536 + pu 0x1911 (e.lReg a),
           8 * (e.rb Reg.SAFE_STO 31).toNat + 4 * (e.rb Reg.DCL_SELSTAT (4 * a)).toNat +
             2 * (e.rb (Reg.FLD_STAT (e.leader a)) 7).toNat + (!f.valid).toNat, n]
        (e.mirror a).mread (0x260000 + a * 0x40) 64 = ws.flatMap (beBytes 4) ∧ (e.mirror a).regs = e.regs ∧
        ∀ b, (b < 0x260000 + a * 0x40 ∨ 0x260000 + a * 0x40 + 64 ≤ b) → (e.mirror a).mget b = e.mget b))

/-- R173, R178, R182, R183: the whole next state of INTERLOCK_RELEASE, VGS_CONFIRM, CD_CONFIRM_OFF_ASSUMED and ISLAND_COMMAND_WORD. R319,
R333: what the comparator holds on and what safe pulse inhibit bars, as log entry 99 reads it. -/
def Obligations.InterlockAndIslandCommands : Prop :=
  ∀ (s : State) (sw lane : Nat) (on : Bool), s.dev.live = true → sw < 28 →
    let d := s.dev
    let x := tget d.sw sw
    let y := tget d.sw (if sw < 12 then sw + 12 else sw - 12)
    let carries := !(tget d.link (laneOf sw)).cdLost
    let off40 := ∃ t, y.cdOff = some t ∧ t + 16 ≤ d.now
    let free := x.cdReq = true ∧ carries = true ∧ (24 ≤ sw ∨ y.cdReq = false ∧ y.cdSent = false ∧ off40)
    let sent := d.swMod sw (fun x => { x with cdReq := true, cdSent := true, cdAt := d.now, cdHeld := none })
    (∀ t, x.cdHeld = some t → free →
      exec (.interlockRelease sw) s = .next ⟨if sw < 24 then sent.ilkExt sw (d.now - t) else sent, s.pending⟩) ∧
    (x.cdHeld = none ∨ ¬ free → exec (.interlockRelease sw) s = .next s) ∧
    exec (.vgsConfirm sw on) s = .next
      ⟨d.swMod sw (fun x => { x with islOnConf := on, islOff := !on, confAt := d.now }), s.pending⟩ ∧
    ((tget d.link sw).cdLost = true → exec (.cdConfirmOffAssumed sw) s =
      .next ⟨d.swMod sw (fun x => { x with cdOff := some d.now }), s.pending⟩) ∧
    ((tget d.link sw).cdLost = false → exec (.cdConfirmOffAssumed sw) s = .next s) ∧
    (d.laneUp lane = true → d.laneTest lane = false →
      exec (.islandCommandWord lane true) s = .next
        ⟨(laneSwitches lane).foldl (fun e sw => e.swMod sw (fun x =>
          if e.heldOn sw then x.islTurnOn else if !e.stoBars sw && x.cdSent then x.islTurnOn else x.islTurnOff)) d, s.pending⟩) ∧
    (∀ (e : Dev) (sw : Nat), sw < 12 → e.stoBars sw = e.rb Reg.SAFE_STO 31) ∧
    (∀ (e : Dev) (sw : Nat), 12 ≤ sw → sw < 24 → e.stoBars sw =
      (e.rb Reg.SAFE_STO 31 && (!e.rb Reg.SAFE_CFG 29 || !e.rb Reg.DCL_SELSTAT (4 * (sw % 12 / 3))))) ∧
    (∀ (e : Dev) (sw : Nat), 24 ≤ sw → e.stoBars sw = false) ∧
    (∀ (e : Dev) (i : Nat), i < 2 → e.heldOn (24 + i) =
      (e.dcl.tripped && ((tget e.dcl.chop i).giMode != 0 && !(tget e.dcl.chop i).giFaulty))) ∧
    (∀ (e : Dev) (sw : Nat), sw < 24 → e.heldOn sw = false) ∧
    (d.laneUp lane = false ∨ d.laneTest lane = true → exec (.islandCommandWord lane on) s = .next s) ∧
    exec (.islandCommandWord lane false) s = .next s

/-- R182, R183, R419: a turn-on request at the interlock, and what never results from it. That a request which is only held conflicts too
is the model's reading (log entry 148). -/
def Obligations.BothOnRequestIsRefused : Prop :=
  ∀ (d : Dev) (n : Nat) (high : Bool), n < 12 →
    let sw := if high then n else n + 12
    let q := if high then n + 12 else n
    let y := tget d.sw q
    let carries := !(tget d.link (laneOf sw)).cdLost
    let held := d.swMod sw (fun x => { x with cdReq := true, cdHeld := some (x.cdHeld.getD d.now) })
    let back := if y.cdSent && y.cdAt == d.now then held.swMod q (fun y => { y with cdSent := false, cdHeld := some d.now }) else held
    let off40 := ∃ t, y.cdOff = some t ∧ t + 16 ≤ d.now
    (d.bistUnit = some 4 → d.ilkOn sw = d) ∧
    (d.bistUnit ≠ some 4 → (y.cdReq || y.cdSent) = true →
      d.ilkOn sw = ((back.wb (Reg.ISL_H_FLAGS n) 0 true).ev (0x6C + n)).occ (0x0543 + 0x10 * n) 0) ∧
    (d.bistUnit ≠ some 4 → (y.cdReq || y.cdSent) = false → carries = true → off40 →
      d.ilkOn sw = (d.swMod sw (fun x => { x with cdReq := true, cdSent := true, cdAt := d.now, cdHeld := none })).ilkExt sw 0) ∧
    (d.bistUnit ≠ some 4 → (y.cdReq || y.cdSent) = false → carries = false ∨ ¬ off40 → d.ilkOn sw = held) ∧
    (y.cdSent = true → y.cdAt = d.now → d.bistUnit ≠ some 4 → (tget (d.ilkOn sw).sw q).cdSent = false) ∧
    (¬((tget d.sw n).cdSent = true ∧ (tget d.sw (n + 12)).cdSent = true) →
      ¬((tget (d.ilkOn sw).sw n).cdSent = true ∧ (tget (d.ilkOn sw).sw (n + 12)).cdSent = true))

/-- R184–R186, R188, R189, R196, R321: the whole next state of SEGMENT_END, GATE_MONITOR_TIMEOUT, SC_BLANK_END and SHORT_DETECTED. `f c g`
is the fault of the switch: code c of a high switch, or the GI code g that names the channel. That a chopper's mark is a level cause is the
model's reading (log entry 38). -/
def Obligations.SegmentsGateMonitorAndShortCircuit : Prop :=
  ∀ (s : State) (sw : Nat) (timeout : Bool), s.dev.live = true → sw < 28 →
    let d := s.dev
    let x := tget d.sw sw
    let f (c g : Nat) (e : Dev) : Dev := if sw < 12 then e.occ (0x0540 + 0x10 * sw + c) 0 else e.occ g (sw - 12)
    let flags := if sw < 12 then Reg.ISL_H_FLAGS sw else Reg.ISL_GC_FLAGS (sw - 12)
    let ok := if x.islOn then x.islOnConf else x.islOff
    let hold := d.rf (if sw < 12 then Reg.ISL_H_SC sw else Reg.ISL_GC_SC (sw - 12)) 12 4
    let soft (x : Switch) : Switch :=
      { x with islOn := false, islOnConf := false, edge := some (2, 0), sc := true, scArmed := false, scLeft := hold }
    (x.edge = none → exec (.segmentEnd sw timeout) s = .next s) ∧
    (∀ e i, x.edge = some (e, i) →
      let seg := d.rget (if sw < 12 then Reg.ISL_H_SEG sw (4 * e + i) else Reg.ISL_GC_SEG (sw - 12) (4 * e + i))
      let d1 := if timeout && fget seg 29 2 == 1 then f 0xC 0x050B (d.wb flags 2 true) else d
      exec (.segmentEnd sw timeout) s = .next
        ⟨d1.swMod sw (fun x => { x with edge := if bget seg 31 || decide (3 ≤ i) then none else some (e, i + 1) }), s.pending⟩) ∧
    (ok = true → exec (.gateMonitorTimeout sw) s = .next s) ∧
    (ok = false → ¬(sw = 24 ∨ sw = 25) → exec (.gateMonitorTimeout sw) s = .next ⟨f 0xB 0x050A d, s.pending⟩) ∧
    (ok = false → (sw = 24 ∨ sw = 25) → exec (.gateMonitorTimeout sw) s = .next
      ⟨if (tget (f 0xB 0x050A d).dcl.chop (sw - 24)).faulty then f 0xB 0x050A d else (f 0xB 0x050A d).chopMark (sw - 24) 5,
        s.pending⟩) ∧
    exec (.scBlankEnd sw) s = .next
      ⟨if sw < 24 then d.swMod sw (fun x => { x with scArmed := x.islOn }) else d, s.pending⟩ ∧
    (sw < 24 → x.scArmed = true → exec (.shortDetected sw) s = .next
      ⟨f 0x2 0x0508 (((d.swMod sw soft).wb flags 1 true).ev (0x60 + sw % 12)), s.pending⟩) ∧
    (24 ≤ sw ∨ x.scArmed = false → exec (.shortDetected sw) s = .next s)

/-- R172, R176–R178, R181, R419: LINK_FRAME_RECEIVED, LINK_TIMEOUT, RETRAIN_START and RETRAIN_END; the declarations for the lanes of the
islands Hn. An end that has declared the loss flags whatever it still sends. R179, R180, R323: the declaration for a lane of the GI, and
the return of a lane. The model's own readings: an untrained lane (log entry 69), the bits of the CRC (112), the side of the fallback level
(149), the choice last sent (152), the temperature of a frame (154). -/
def Obligations.LanesAreLostAndRetrained : Prop :=
  ∀ (s : State) (lane : Nat) (words : List Nat) (checksOk seqOk flag ok : Bool) (t : Telemetry), s.dev.live = true → lane < 14 →
    let d := s.dev
    let l := tget d.link lane
    let n := l.badCd + 1
    let bad := !frameCrcOk words || !checksOk || !seqOk
    let counted := { d.badCount lane with link := tmod (d.badCount lane).link lane (fun l => { l with badCd := n }) }
    let good := { d with link := tmod d.link lane (fun l => { l with badCd := 0 }) }
    let gone := l.cdLost = true ∨ l.trained = false
    let mute := l.islLost = true ∨ l.trained = false
    let atCd := exec (.linkFrameReceived lane true words checksOk seqOk flag t) s
    let atIsl := exec (.linkFrameReceived lane false words checksOk seqOk flag t) s
    (gone → atCd = .next s) ∧
    (¬ gone → bad = true → atCd = .next ⟨if 3 ≤ n then counted.cdDeclare lane else counted, s.pending⟩) ∧
    (¬ gone → bad = false → flag = true ∨ l.islLost = true → atCd = .next ⟨good.cdDeclare lane, s.pending⟩) ∧
    (¬ gone → bad = false → flag = false → l.islLost = false → atCd = .next
      ⟨if 12 ≤ lane then ((good.telemetry lane t).tempFrame lane).frameSamples (lane - 12) else (good.telemetry lane t).tempFrame lane,
        s.pending⟩) ∧
    (mute → atIsl = .next s) ∧
    (¬ mute → bad = false → flag = true ∧ lane < 12 ∨ l.cdLost = true →
      atIsl = .next ⟨({ d with link := tmod d.link lane (fun l => { l with badIsl := 0 }) }).islDeclare lane, s.pending⟩) ∧
    exec (.linkTimeout lane true) s = .next ⟨d.cdDeclare lane, s.pending⟩ ∧
    exec (.linkTimeout lane false) s = .next ⟨d.islDeclare lane, s.pending⟩ ∧
    (gone ∨ d.laneTest lane = true → d.cdDeclare lane = d) ∧
    (mute ∨ d.laneTest lane = true → d.islDeclare lane = d) ∧
    (lane < 12 → ¬ gone → d.laneTest lane = false →
      let e := { d with link := tmod d.link lane (fun l => { l with cdLost := true, retraining := false, badCd := 0 }) }
      let f := e.laneMod lane (fun x => { x with cdSent := false, cdHeld := none, cdOff := none })
      d.cdDeclare lane = ((((f.wb (Reg.ISL_H_STAT lane) 15 false).wb (Reg.ISL_H_STAT lane) 14 true).tempLost lane).lvlOn
        (0x0540 + 0x10 * lane) 0).ev 0x86) ∧
    (12 ≤ lane → ¬ gone → d.laneTest lane = false →
      let g := lane - 12
      let asc (a : Nat) : Bool := d.rb Reg.DCL_SELSTAT (4 * a)
      let e := { d with link := tmod d.link lane (fun l => { l with sent := Vector.ofFn (fun a : Fin 4 => asc a) }) }
      let e := (e.wb Reg.ISL_GI_SAFE (2 * g) (asc (2 * g))).wb Reg.ISL_GI_SAFE (2 * g + 1) (asc (2 * g + 1))
      let e := { e with link := tmod e.link lane (fun l => { l with cdLost := true, retraining := false, badCd := 0 }) }
      let e := e.laneMod lane (fun x => { x with cdSent := false, cdHeld := none, cdOff := none })
      let e := ((((e.wb Reg.ISL_GI_STAT (6 + g) false).wb Reg.ISL_GI_STAT (8 + g) true).tempLost lane).lvlOn (0x0501 + g) 0).ev (0x84 + g)
      let off (u : Dev) (a : Nat) : Dev :=
        let u := (if (tget u.ax a).active then u.axGo a (if asc a then .asc else .freewheel) else u).blame (0x0501 + g) a
        ((u.ilkOff (3 * a)).ilkOff (3 * a + 1)).ilkOff (3 * a + 2)
      let f := (((off (off e (2 * g)) (2 * g + 1)).adcLaneLost g).adFail g).wb (Reg.DCL_CH_STAT g) 26 true
      d.cdDeclare lane = if g = 0 then f.dclEval else f) ∧
    (12 ≤ lane → ¬ mute → d.laneTest lane = false →
      let g := lane - 12
      let e := { d with link := tmod d.link lane (fun l => { l with islLost := true, badIsl := 0 }) }
      let e := ((laneSwitches lane).filter (fun sw => sw ≠ 24 + g)).foldl (fun e sw => e.swMod sw Switch.islTurnOff) e
      let e := { e with dcl := { e.dcl with chop := tmod e.dcl.chop g (fun c => { c with fbk := true }) } }
      ((tget e.dcl.chop g).fbkOn = true → e.giMayChop g = true → d.islDeclare lane = e.swMod (24 + g) Switch.islTurnOn) ∧
      ((tget e.dcl.chop g).fbkOn = false → e.dcl.tripped = true → e.giMayChop g = true → d.islDeclare lane = e) ∧
      (e.giMayChop g = false ∨ ((tget e.dcl.chop g).fbkOn = false ∧ e.dcl.tripped = false) →
        d.islDeclare lane = e.swMod (24 + g) Switch.islTurnOff)) ∧
    (lane < 12 → ¬ mute → d.laneTest lane = false →
      let e := { d with link := tmod d.link lane (fun l => { l with islLost := true, badIsl := 0 }) }
      d.islDeclare lane = e.swMod lane Switch.islTurnOff) ∧
    exec (.retrainStart lane) s = .next
      ⟨if l.cdLost then { d with link := tmod d.link lane (fun l => { l with retraining := true }) } else d, s.pending⟩ ∧
    (l.retraining = false → exec (.retrainEnd lane ok) s = .next s) ∧
    (let ended := { d with link := tmod d.link lane (fun l => { l with retraining := false }) }
     l.retraining = true → exec (.retrainEnd lane false) s = .next
       ⟨if d.dstate = .imageCheck then ended else ended.untrained lane, s.pending⟩) ∧
    (l.trained = true → d.untrained lane = d) ∧
    (l.trained = false → lane < 12 →
      let e := { d with link := tmod d.link lane (fun l => { l with cdLost := true, retraining := false }) }
      d.untrained lane = ((e.wb (Reg.ISL_H_STAT lane) 15 false).wb (Reg.ISL_H_STAT lane) 14 true).lvlOn (0x0541 + 0x10 * lane) 0) ∧
    (l.retraining = true → exec (.retrainEnd lane true) s = .next ⟨d.laneBack lane, s.pending⟩) ∧
    (let up := { d with link := tmod d.link lane (fun l =>
       { l with trained := true, cdLost := false, islLost := false, retraining := false, badCd := 0, badIsl := 0 }) }
     let g := lane - 12
     (lane < 12 →
       let e := (((up.wb (Reg.ISL_H_STAT lane) 15 true).wb (Reg.ISL_H_STAT lane) 14 false).lvlOff (0x0540 + 0x10 * lane) 0).lvlOff
         (0x0541 + 0x10 * lane) 0
       d.laneBack lane = (if l.cdLost then e.wsat (Reg.ISL_H_LINK lane) 24 8 else e).reissue lane) ∧
     (12 ≤ lane →
       let e := (((up.wb Reg.ISL_GI_STAT (6 + g) true).wb Reg.ISL_GI_STAT (8 + g) false).lvlOff (0x0501 + g) 0).lvlOff 0x0503 g
       let e := ((e.wb Reg.ISL_GI_STAT (12 + 2 * g) false).wb Reg.ISL_GI_STAT (12 + (2 * g + 1)) false).wb (Reg.DCL_CH_STAT g) 26 false
       let e := { e with dcl := { e.dcl with chop := tmod e.dcl.chop g (fun c => { c with fbk := false }) } }
       let e := (e.ilkOff (24 + g)).sendChoices lane true
       (e.dstate ≠ .imageCheck → d.laneBack lane = (((e.adcLaneBack g).select (2 * g)).select (2 * g + 1)).reissue lane) ∧
       (e.dstate = .imageCheck → d.laneBack lane = ((e.giTrained.select (2 * g)).select (2 * g + 1)).reissue lane) ∧
       ∀ (u : Dev) (a : Fin 4), (tget (u.sendChoices lane true).link lane).sent[a] = u.rb Reg.DCL_SELSTAT (4 * a.val) ∧
         (tget (u.sendChoices lane true).link lane).recv[a] = u.rb Reg.DCL_SELSTAT (4 * a.val)))

/-- R175, R179, R191–R194: GI_SAFE_STATE_APPLY, STATUS_WORD_RECEIVED, HON_LIMIT, ISLAND_SUPPLY_CROSSING (its gate reaction and its flag)
and DIAG_PHASE_END. The model's own readings: the link voltage and the lanes of an off-state test (log entry 58), the choice last sent
(152). -/
def Obligations.IslandSafetyStatusSuppliesAndDiagnostics : Prop :=
  ∀ (s : State) (g lane n a mon : Nat) (beyond flag : Bool) (vk : Int) (ir var : Nat), s.dev.live = true →
    g < 2 → lane < 14 → n < 12 → a < 4 → mon < 6 →
    let d := s.dev
    let l := tget d.link lane
    let apply (d : Dev) (a : Nat) : Dev :=
      let e := d.wb Reg.ISL_GI_STAT (12 + a) true
      if tget (tget e.link (12 + g)).recv a then
        [0, 1, 2].foldl (fun d p => d.swMod (12 + 3 * a + p) Switch.islTurnOn) e
      else e
    let boot := d.rb (Reg.ISL_H_SUP n) 31
    let asked := { d with pwm := tmod d.pwm (n / 3) (fun w =>
      { w with refresh := tset w.refresh (n % 3) (some ((tget w.refresh (n % 3)).getD d.now)) }) }
    let gone := l.cdLost = true ∨ l.trained = false
    ((tget d.link (12 + g)).islLost = false → exec (.giSafeStateApply g) s = .next s) ∧
    ((tget d.link (12 + g)).islLost = true →
      exec (.giSafeStateApply g) s = .next ⟨apply (apply d (2 * g)) (2 * g + 1), s.pending⟩) ∧
    exec (.statusWordReceived lane false flag) s = .next s ∧
    (gone → exec (.statusWordReceived lane true flag) s = .next s) ∧
    (¬ gone → flag = true ∨ l.islLost = true → exec (.statusWordReceived lane true flag) s = .next ⟨d.cdDeclare lane, s.pending⟩) ∧
    (¬ gone → l.islLost = false → lane < 12 →
      let x := tget d.sw lane
      let r := Reg.ISL_H_STAT lane
      let e := ((((d.wb r 7 x.islOn).wb r 9 x.islOnConf).wb r 8 x.islOff).wb r 11 x.sc).swMod lane
        (fun x => { x with cdOff := if x.islOff then some (x.cdOff.getD d.now) else none })
      exec (.statusWordReceived lane true false) s = .next ⟨(e.supSeen lane).scFollow (lane / 3), s.pending⟩) ∧
    (∀ e : Dev, e.supSeen n = [0, 1, 2, 3, 4, 5].foldl (fun d m => d.supFlag n m) e) ∧
    (let now := tget (tget d.sup n) mon
     (now = d.rb (Reg.ISL_H_STAT n) (supBit mon) → d.supFlag n mon = d) ∧
     (now ≠ d.rb (Reg.ISL_H_STAT n) (supBit mon) →
       (d.supFlag n mon).regs = (d.wb (Reg.ISL_H_STAT n) (supBit mon) now).regs ∧
       (d.supFlag n mon).flt = (d.lvlSet now (supFault n mon) 0).flt ∧ (d.supFlag n mon).sw = d.sw)) ∧
    (boot = true → exec (.honLimit n) s = .next ⟨asked, s.pending⟩) ∧
    (boot = false → exec (.honLimit n) s = .next s) ∧
    (4 ≤ mon → boot = false → exec (.islandSupplyCrossing n mon beyond) s = .next s) ∧
    (4 ≤ mon → exec (.islandSupplyCrossing 12 mon beyond) s = .next s) ∧
    (∃ e : Dev, exec (.islandSupplyCrossing n 1 beyond) s = .next ⟨e, s.pending⟩ ∧ e.sram = d.sram ∧ e.ax = d.ax ∧
      tget e.sw n = (if beyond then { (tget d.sw n).islTurnOff with vposRef := true } else { tget d.sw n with vposRef := false }) ∧
      tget (tget e.sup n) 1 = beyond ∧ ∀ m, m ≠ n → tget e.sw m = tget d.sw m) ∧
    ((tget d.diag a).running = false → exec (.diagPhaseEnd a vk ir var) s = .next s) ∧
    ((tget d.diag a).running = true → (tget d.diag a).phase < 2 →
      exec (.diagPhaseEnd a vk ir var) s = .next ⟨d.diagPhase a vk ir var, s.pending⟩) ∧
    ((tget d.diag a).running = true → (tget d.diag a).phase = 2 → tget d.ax a = .diag → let e := d.diagPhase a vk ir var
      (e.dstate = .run ∧ e.tractionIdle = true → exec (.diagPhaseEnd a vk ir var) s = .next
        ⟨e.enterArmed.completeRun (fun c => c.op == 0x26 && c.target == a) stOk (e.diagBytes a), s.pending⟩) ∧
      (¬(e.dstate = .run ∧ e.tractionIdle = true) → exec (.diagPhaseEnd a vk ir var) s = .next
        ⟨e.completeRun (fun c => c.op == 0x26 && c.target == a) stOk (e.diagBytes a), s.pending⟩) ∧
      tget e.ax a = .idle ∧ (tget e.diag a).running = false ∧ e.sram = d.sram) ∧
    (let q := (tget d.diag a).phase
     let blind := d.laneUp (3 * a + q) = false ∨ d.laneUp (if a < 2 then 12 else 13) = false ∨ (d.vdcStale 0 = true ∧ d.vdcStale 1 = true)
     let r := diagClass (decide blind) vk ir var d.dcl.vm
     let e := d.wf (Reg.ISL_GI_DIAG a) (4 * q) 4 r
     let e := if r = 0 ∨ r = 6 then e else e.occ (0x054D + 0x10 * (3 * a + q)) 0
     let volts := (rdiv 195 d.dcl.vm 131072).toNat
     let pass (p : Nat) : Bool := e.rf (Reg.ISL_GI_DIAG a) (4 * p) 4 == 0 || e.rf (Reg.ISL_GI_DIAG a) (4 * p) 4 == 6
     let ok := pass 0 && pass 1 && pass 2
     let f := (e.wb (Reg.ISL_GI_DIAG a) 31 true).wb (Reg.ISL_GI_DIAG a) 30 ok
     (q < 2 → d.diagPhase a vk ir var = { e with diag := tmod e.diag a (fun x => { x with phase := q + 1, vdc := volts }) }) ∧
     (2 ≤ q → d.diagPhase a vk ir var =
       (({ f with diag := tmod f.diag a (fun _ => ⟨false, 0, volts, ok⟩) } : Dev).ev (0x87 + a)).axGo a .idle)) ∧
    (∀ v, let c := diagClass false vk ir var v
      let high := 60 * 131072 ≤ v ∧ (v - 10 * 131072) * 1000 ≤ vk * 131072
      diagClass true vk ir var v = 5 ∧ (2000 < var → c = 4) ∧ (var ≤ 2000 → high → c = 1) ∧
      (var ≤ 2000 → ¬high → vk ≤ 1000 → c = 2) ∧ (var ≤ 2000 → ¬high → 1000 < vk → ir < 500 → c = 3) ∧
      (var ≤ 2000 → ¬high → 1000 < vk → 500 ≤ ir → v < 60 * 131072 → c = 6) ∧
      (var ≤ 2000 → ¬high → 1000 < vk → 500 ≤ ir → 60 * 131072 ≤ v → c = 0))

/-- R200, R203, R204, R208–R213: SEQ_DELAY_END, SEQ_WINDOW_WAIT_EXPIRY, CONVERSION_RESULT, URGENT_ARRIVAL and LATEST_VALUE_UPDATE. The
model's own readings: NTC sources (log entries 24 and 52), the moment of a result (96), an urgent request over a lost
lane (155). -/
def Obligations.SequencerConversionsAndUrgentRequests : Prop :=
  ∀ (s : State) (k c code : Nat) (urgent res : Bool) (diff : Option Nat), s.dev.live = true → k < 4 → c < 12 →
    let d := s.dev
    let v := tget d.conv k
    let i := d.rf (Reg.ADC_STAT k) 8 6
    let rep := fget v.ent 16 8
    let mode := d.rf (Reg.ADC_STAT k) 30 2
    let runs := mode < 2 ∧ d.laneUp (adcLane k) = true
    let skipped := d.wsat (Reg.ADC_STAT k) 16 8
    let ntc (f : Dev) : Dev :=
      let n := 30 + 4 * (k - 2) + (c - 5)
      if 2 ≤ k ∧ 5 ≤ c ∧ c ≤ 8 ∧ f.rb (Reg.THERM_S_CFG n) 31 = true then f.tempResult n (ntcTemp (f.rf (Reg.ADC_LAT k c) 2 14)
        (f.rf (Reg.THERM_S_NTC n) 16 16) (f.rf (Reg.THERM_S_NTC n) 0 16)) else f
    let gave (e : Dev) : Dev := e.cvMod k (fun x => { x with left := x.left - 1, rot := (x.rot + 1) % 3 })
    (v.phase = .delay → exec (.seqDelayEnd k) s = .next ⟨{ d with conv := tmod d.conv k (fun c =>
      { c with phase := .convert, left := if rep = 0 then 256 else rep }) }, s.pending⟩) ∧
    (v.phase = .spin → exec (.seqDelayEnd k) s = .next ⟨d.seqNext k i, s.pending⟩) ∧
    (v.phase ≠ .delay → v.phase ≠ .spin → exec (.seqDelayEnd k) s = .next s) ∧
    (∀ p, v.phase = .waitWin p →
      exec (.seqWindowWaitExpiry k) s = .next ⟨skipped.seqNext k i, s.pending⟩) ∧
    ((∀ p, v.phase ≠ .waitWin p) → exec (.seqWindowWaitExpiry k) s = .next s) ∧
    (2 ≤ mode ∨ d.laneUp (adcLane k) = false → exec (.conversionResult k code urgent diff res) s = .next s) ∧
    (runs → v.phase ≠ .convert → v.phase ≠ .last →
      exec (.conversionResult k code false diff res) s = .next ⟨d.adcCheck k diff res, s.pending⟩) ∧
    (runs → v.urgHere = none →
      exec (.conversionResult k code true diff res) s = .next ⟨d.adcCheck k diff res, s.pending⟩) ∧
    (runs → v.phase = .convert → let e := gave (d.entryResult k code)
      exec (.conversionResult k code false diff res) s = .next
        ⟨(if (e.cv k).left = 0 then e.seqNext k i else e).adcCheck k diff res, s.pending⟩) ∧
    (runs → v.phase = .last → exec (.conversionResult k code false diff res) s = .next
      ⟨((d.entryResult k code).seqStop k).adcCheck k diff res, s.pending⟩) ∧
    (d.entryChan k = 15 → d.entryResult k code = d) ∧
    (c < 3 → d.entryChan k = c → fget v.ent 0 8 < 64 →
      d.entryResult k code = d.toExtractor k c (d.resCode k code) (atEnd c (d.resCode k code) (mode == 1)) (mode == 1)) ∧
    (∀ x, atEnd 0 x false = decide (x = 8192 ∨ x = 8191) ∧ atEnd 4 x false = decide (x = 0 ∨ x = 16383)) ∧
    (∀ ch dest, runs → v.urgHere = some (ch, dest) → dest < 64 →
      let w := { d with conv := tmod d.conv k (fun x => { x with urgHere := none }) }.wb (Reg.ADC_STAT k) 6 false
      let c := if ch = 3 then 0 else ch
      let x := d.resCode k code
      exec (.conversionResult k code true diff res) s = .next
        ⟨((w.toExtractor k c x (atEnd c x (mode == 1)) (mode == 1)).ev (0x94 + k)).adcCheck k diff res, s.pending⟩) ∧
    (v.urgSent = [] → exec (.urgentArrival k) s = .next s) ∧
    (∀ r rs, v.urgSent = r :: rs →
      let e := { d with conv := tmod d.conv k (fun x => { x with urgSent := rs }) }
      let taken := { e with conv := tmod e.conv k (fun x => { x with urgHere := some r }) }
      (d.laneUp (adcLane k) = false → exec (.urgentArrival k) s = .next ⟨e, s.pending⟩) ∧
      (d.laneUp (adcLane k) = true → v.urgHere.isSome = true ∨ 2 ≤ mode →
        exec (.urgentArrival k) s = .next ⟨(e.wb (Reg.ADC_FLAGS k) 0 true).occ (0x0608 + 0x10 * k) 0, s.pending⟩) ∧
      (v.urgHere = none → runs →
        exec (.urgentArrival k) s = .next ⟨taken.wb (Reg.ADC_STAT k) 6 true, s.pending⟩)) ∧
    (let due (w : Nat) : Prop := d.oldestLat (k / 2) = some (k, c, w) ∧ d.laneUp (adcLane k) = true ∧
       (tget d.link (adcLane k)).used < 2
     (v.lat = [] → ∀ w, ¬ due w) ∧
     ((∀ w, ¬ due w) → exec (.latestValueUpdate k c) s = .next s) ∧
     (∀ w, due w →
      let l := { d with link := tmod d.link (adcLane k) (fun l => { l with used := l.used + 1 }) }
      let e := { l with conv := tmod l.conv k (fun x => { x with lat := x.lat.drop 1 }) }
      let f := ((e.wmod (Reg.ADC_LAT k c) 24 8).wb (Reg.ADC_LAT k c) 16 false).wf (Reg.ADC_LAT k c) 0 16 w
      exec (.latestValueUpdate k c) s = .next ⟨ntc f, s.pending⟩)) ∧
    (∀ ch dest, runs → v.urgHere = some (ch, dest) → 128 ≤ dest → dest < 192 → (if ch = 3 then 0 else ch) = c →
      let w := { d with conv := tmod d.conv k (fun x => { x with urgHere := none }) }.wb (Reg.ADC_STAT k) 6 false
      let x := d.resCode k code
      let y := sampleWord x (mode == 1) (atEnd c x (mode == 1))
      let u := w.toExtractor k c x (atEnd c x (mode == 1)) (mode == 1)
      exec (.conversionResult k code true diff res) s = .next ⟨((ntc (u.latWrite k c y)).ev (0x94 + k)).adcCheck k diff res, s.pending⟩)

/-- R205, R214, R217, R218, R222, R223: WINDOW_OPEN, WINDOW_CLOSE, WINDOW_RESULT_RECEIVED, CALIBRATION_END and SAR_RESULT. The model's own
readings: the status of a calibration (log entry 79), the moment a result is ready and a window that never opened (96), one reported EMPTY
before (125). -/
def Obligations.WindowsSetsCalibrationAndSar : Prop :=
  ∀ (s : State) (k p sar i v : Nat) (st1 : Bool) (diff : Nat) (ws : List Word), s.dev.live = true → k < 4 → p < 3 →
    sar < 2 → i < 14 → diff < 65536 →
    let d := s.dev
    let c := tget d.conv k
    let fresh : Win := ⟨true, 0, 0, 0, false, false, 0, false, false, false, false, d.now, none, false⟩
    let opened := { d with conv := tmod d.conv k (fun c => { c with win := tset c.win p fresh }) }
    let stored := (d.wmod (Reg.ADC_SAR_D sar i) 16 16).wf (Reg.ADC_SAR_D sar i) 0 12 v
    (c.phase ≠ .waitWin p → exec (.windowOpen k p) s = .next ⟨opened, s.pending⟩) ∧
    (c.phase = .waitWin p → exec (.windowOpen k p) s = .next
      ⟨{ opened with conv := tmod opened.conv k (fun c => { c with phase := .delay }) }, s.pending⟩) ∧
    let w := tget d.pwm (d.leader k)
    let peak := if d.now ≤ w.lastB then w.lastB - w.prev.per / 2 else w.lastB + d.rf (Reg.PWM_PER (d.leader k)) 0 24 / 2
    let tol := d.rf (Reg.ADC_CFG k) 24 8
    let missed := tget c.out p = none ∧ tget c.set p = none ∧ d.laneUp (adcLane k) = true
    ((tget c.win p).gone = true → exec (.windowClose k p) s = .next
      ⟨{ d with conv := tmod d.conv k (fun c => { c with win := tset c.win p default }) }, s.pending⟩) ∧
    ((tget c.win p).gone = false → (tget c.win p).isOpen = false → ¬missed → exec (.windowClose k p) s = .next s) ∧
    ((tget c.win p).gone = false → (tget c.win p).isOpen = false → missed →
      exec (.windowClose k p) s = .next ⟨{ d with conv := tmod d.conv k (fun c =>
        { c with peakT := peak, winT := d.now, out := tset c.out p (some default) }) }, s.pending⟩) ∧
    ((tget c.win p).gone = false → (tget c.win p).isOpen = true →
      exec (.windowClose k p) s = .next ⟨{ d with conv := tmod d.conv k (fun x =>
        { x with peakT := peak, winT := d.now, win := tset x.win p default,
                 out := tset x.out p (some { tget c.win p with isOpen := false, closeT := some d.now }) }) }, s.pending⟩) ∧
    (∀ (w : Win) (now : Nat) (x : Int) (slice sat : Bool), w.holds now slice = true → 0 < w.n →
      w.take now x sat slice = { w with
        n := w.n + 1, sum := w.sum + x, min := Min.min w.min x, max := Max.max w.max x,
        minSat := if x < w.min then sat else w.minSat, minSlice := if x < w.min then slice else w.minSlice,
        maxSat := if w.max < x then sat else w.maxSat, maxSlice := if w.max < x then slice else w.maxSlice,
        sat := w.sat || sat, slice := w.slice || slice }) ∧
    (∀ (w : Win) (now : Nat) (x : Int) (slice sat : Bool), w.holds now slice = false → w.take now x sat slice = w) ∧
    (tget c.out p = none → exec (.windowResultReceived k p) s = .next s) ∧
    (∀ w, tget c.out p = some w → let r := w.result; ∃ e : Dev,
      exec (.windowResultReceived k p) s = .next ⟨e.setPhase k p r, s.pending⟩ ∧ e.sram = d.sram ∧ e.flt = d.flt ∧
      e.regs = (((((d.wf (Reg.ADC_WIN k p) 16 16 (fromSigned 16 r.mean)).wf (Reg.ADC_WIN k p) 8 8 (min r.n 255)).wf
        (Reg.ADC_WIN k p) 0 8 (winFlags p r)).wf (Reg.ADC_WMM k p) 16 16 r.min).wf (Reg.ADC_WMM k p) 0 16 r.max).regs) ∧
    (∀ r : Vector WinRes 3, ∀ q : Fin 3, r[q].empty = true → (∀ j, j ≠ q → r[j].empty = false) → r[q].mean = 0 →
      (reconstruct r)[q].mean = -((r[0].mean + r[1].mean) + r[2].mean) ∧ (reconstruct r)[q].recon = true) ∧
    (d.rf (Reg.ADC_STAT k) 30 2 ≠ 2 → exec (.calibrationEnd k st1 diff ws) s = .next s) ∧
    (d.rf (Reg.ADC_STAT k) 30 2 = 2 →
      exec (.calibrationEnd k st1 diff ws) s = .next
        ⟨(d.calEnd k st1 diff ws).completeRun (fun c => c.op == 0x35 && beAt c.payload 0 1 == k) stOk
          ([BitVec.ofNat 8 k, if st1 = false then 2 else if diff ≤ tol then 0 else 1] ++ beBytes 2 diff ++
            beBytes 2 (min 65535 ((d.now - c.calAt) / 400))), s.pending⟩) ∧
    (d.tablesOk = true → let t := d.calEnd k st1 diff ws
      (∀ n < 13, t.rget (Reg.ADC_CAL k n) = ws.getD n 0 &&& calMask n) ∧
      (st1 = true → diff ≤ tol → t.rf (Reg.ADC_STAT k) 30 2 = 0 ∧ t.flt = d.flt ∧ t.rget (Reg.ADC_CAL k 13) = BitVec.ofNat 32 diff) ∧
      (st1 = true → tol < diff → t.rf (Reg.ADC_STAT k) 30 2 = 1 ∧ t.flt = (d.occ (0x0603 + 0x10 * k) 0).flt ∧
        t.rget (Reg.ADC_CAL k 13) = BitVec.ofNat 32 (0x10000 + diff)) ∧
      (st1 = false → t.rf (Reg.ADC_STAT k) 30 2 = 3 ∧ t.flt = (d.occ (0x0603 + 0x10 * k) 0).flt ∧
        t.rget (Reg.ADC_CAL k 13) = BitVec.ofNat 32 (0x20000 + diff))) ∧
    (∀ (e : Dev) (r : WinRes), let f : Dev := { e with conv := tmod e.conv k (fun c => { c with set := tset c.set p (some r) }) }
      ((∃ q < 3, tget (tget f.conv k).set q = none) → e.setPhase k p r = f) ∧
      (∀ x y z, tget (tget f.conv k).set 0 = some x → tget (tget f.conv k).set 1 = some y → tget (tget f.conv k).set 2 = some z →
        e.setPhase k p r = f.judgeSet k #v[x, y, z])) ∧
    (∀ (e : Dev) (r : Vector WinRes 3),
      let m := (r.toList.filter (fun x => !x.empty)).length
      let e1 := (e.ev (0x98 + k)).hlt 0x05 k (e.now - (tget e.conv k).winT : Nat)
      let put (u : Dev) (n : Nat) : Dev := { u with conv := tmod u.conv k (fun c => { c with setT := e.now, inv := n }) }
      let sum := r[0].mean + r[1].mean + r[2].mean
      let off := 0 < e1.rf Reg.ADC_RECON 16 8 ∧ 64 * e1.rf Reg.ADC_RECON 16 8 < sum.natAbs
      let bad := put (e1.wb (Reg.ADC_FLAGS k) 4 true) ((tget e.conv k).inv + 1)
      (m = 3 → ¬off → e.judgeSet k r = ((put e1 0).wf (Reg.ADC_STAT k) 0 2 0).deliver k true r) ∧
      (m = 3 → off → e1.rf (Reg.ADC_STAT k) 0 2 ≠ 2 → e.judgeSet k r = ((put e1 0).wsat (Reg.ADC_STAT k) 0 2).deliver k true r) ∧
      (m = 3 → off → e1.rf (Reg.ADC_STAT k) 0 2 = 2 → e.judgeSet k r =
        ((((put e1 0).wsat (Reg.ADC_STAT k) 0 2).wb (Reg.ADC_FLAGS k) 3 true).occ (0x0606 + 0x10 * k) 0).deliver k true r) ∧
      (m = 2 → e1.rb Reg.ADC_RECON k = true → e.judgeSet k r = (put e1 0).deliver k true (reconstruct r)) ∧
      (m < 2 ∨ (m = 2 ∧ e1.rb Reg.ADC_RECON k = false) →
        ((tget e.conv k).inv + 1 = bad.rf Reg.ADC_RECON 8 8 → e.judgeSet k r = (bad.occ (0x0605 + 0x10 * k) 0).deliver k false r) ∧
        ((tget e.conv k).inv + 1 ≠ bad.rf Reg.ADC_RECON 8 8 → e.judgeSet k r = bad.deliver k false r))) ∧
    (∀ (e : Dev) (ok : Bool) (r : Vector WinRes 3), ∃ cs : CurSet, (tget (e.deliver k ok r).conv k).ready = some cs ∧ cs.valid = ok ∧
      ∀ q : Fin 3, cs.i[q] = rdiv 217 (r[q].mean * sword (e.rget (Reg.ADC_ISCALE k))) 4) ∧
    (d.sarSlot sar = none → exec (.sarResult sar v) s = .next s) ∧
    ((tget d.sar sar).sync = [] → (∀ j < 16, d.rb Reg.ADC_SARSCAN (16 * sar + j) = false) → d.sarSlot sar = none) ∧
    (d.sarSlot sar = some (i, false) → i ≠ 4 → i ≠ 5 → i ≠ 10 → i ≠ 13 →
      let bad := i == 11 && (decide (v < 2028) || decide (2068 < v))
      exec (.sarResult sar v) s = .next
        ⟨{ stored with sar := tmod stored.sar sar (fun x => { x with scanBad := x.scanBad || bad, next := i + 1 }) }, s.pending⟩) ∧
    (d.sarSlot sar = some (i, true) → i < 4 → exec (.sarResult sar v) s = .next
      ⟨{ stored with sar := tmod stored.sar sar (fun x => { x with sync := x.sync.drop 1 }),
                     safe := { stored.safe with pairAt := tset stored.safe.pairAt i (d.now - 80) } }, s.pending⟩) ∧
    (d.sarSlot sar = some (13, false) →
     let n := if (tget d.sar sar).scanBad || decide (8 < v) then (tget d.sar sar).bad + 1 else 0
     let e := (d.wmod (Reg.ADC_SAR_D sar 13) 16 16).wf (Reg.ADC_SAR_D sar 13) 0 12 v
     ∃ f : Dev, exec (.sarResult sar v) s = .next ⟨f.lvlSet (decide (2 ≤ n)) (0x0641 + sar) 0, s.pending⟩ ∧ f.regs = e.regs ∧
       f.flt = d.flt ∧ f.sram = d.sram ∧ tget f.sar sar = ⟨n, false, 14, (tget d.sar sar).sync⟩)

/-- R241–R244, R246, R162, R237: HALL_EDGE, HALL_TIMEOUT and LPOS_READ. With the hall angle as the active source an edge commutates. The
sector at the edge itself is the model's reading (log entry 157). -/
def Obligations.HallEdgesCountAndLatch : Prop :=
  ∀ (s : State) (a code : Nat), s.dev.live = true → a < 4 → code < 8 →
    let d := s.dev
    let old := d.rf (Reg.POS_STAT a) 0 3
    let idx := d.hallIndex a code
    let c := (d.wf (Reg.POS_STAT a) 0 3 code).hallMod a (fun h => { h with lastT := d.now })
    let k := (idx + 6 - (d.hall a).sector) % 6
    let fin (u : Dev) : Dev :=
      if u.rb (Reg.POS_CFG a) 0 && u.leader a == a && u.src a == 1 then (u.group a).foldl Dev.sectorChange u else u
    let toMasks (u : Dev) : Dev :=
      fin (((u.hallMod a (fun h => { h with sector := idx })).wf (Reg.POS_STAT a) 4 3 idx).commutate a 1 idx)
    let counts := d.rb (Reg.POS_CFG a) 0 = true ∧ codeValid old = true ∧ codeValid code = true
    (d.rb (Reg.POS_CFG a) 0 = false → exec (.hallEdge a code) s = .next s ∧ exec (.hallTimeout a) s = .next s) ∧
    (d.rb (Reg.POS_CFG a) 0 = true → codeValid code = false →
      exec (.hallEdge a code) s = .next ⟨fin ((c.wf (Reg.POS_STAT a) 4 3 idx).commutate a 1 idx), s.pending⟩) ∧
    (d.rb (Reg.POS_CFG a) 0 = true → codeValid code = true → codeValid old = false →
      exec (.hallEdge a code) s = .next ⟨fin ((c.wf (Reg.POS_STAT a) 4 3 (d.hall a).sector).commutate a 1 idx), s.pending⟩) ∧
    (counts → k = 0 → exec (.hallEdge a code) s = .next ⟨toMasks c, s.pending⟩) ∧
    (counts → k = 1 → exec (.hallEdge a code) s = .next ⟨toMasks (c.singleStep a false), s.pending⟩) ∧
    (counts → k = 5 → exec (.hallEdge a code) s = .next ⟨toMasks (c.singleStep a true), s.pending⟩) ∧
    (counts → k = 2 → exec (.hallEdge a code) s = .next
      ⟨toMasks (((((c.posCount a 2).wb (Reg.POS_STAT a) 7 false).wb (Reg.POS_STAT a) 8 false).latchEdge a).posOut a 2), s.pending⟩) ∧
    (counts → k = 4 → exec (.hallEdge a code) s = .next
      ⟨toMasks (((((c.posCount a (-2)).wb (Reg.POS_STAT a) 7 true).wb (Reg.POS_STAT a) 8 false).latchEdge a).posOut a 2), s.pending⟩) ∧
    (counts → k = 3 → exec (.hallEdge a code) s = .next ⟨toMasks (c.wb (Reg.POS_STAT a) 8 false), s.pending⟩) ∧
    (∀ (e : Dev) (rev : Bool),
      let moved := (e.posCount a (if rev then -1 else 1)).wb (Reg.POS_STAT a) 7 rev
      let done (u : Dev) : Dev := ((u.hallMod a (fun h => { h with single := some e.now })).latchEdge a).posOut a 1
      ((e.hall a).single = none → e.singleStep a rev = done (moved.wb (Reg.POS_STAT a) 8 false)) ∧
      (∀ t, (e.hall a).single = some t → e.singleStep a rev = done (((moved.hlt 0x0F a (e.now - t : Nat)).rset (Reg.POS_INT a)
        (BitVec.ofNat 32 (e.now - t))).wb (Reg.POS_STAT a) 8 (e.rb (Reg.POS_STAT a) 7 == rev)))) ∧
    (∀ (e : Dev), ∃ u : Dev, e.latchEdge a = u.ev (0xB0 + 6 * a) ∧ (u.hall a).edgeT = e.now ∧ u.sram = e.sram ∧ u.flt = e.flt ∧
      u.regs = (((e.wmod (Reg.POS_LPOS a) 16 16).wf (Reg.POS_LPOS a) 0 16 (e.rf (Reg.POS_STAT a) 16 16)).rset (Reg.POS_LTS a)
        (BitVec.ofNat 32 e.now)).regs) ∧
    (d.now < (d.hall a).lastT + d.rf (Reg.POS_TMO a) 0 14 * msTicks → exec (.hallTimeout a) s = .next s) ∧
    (d.rb (Reg.POS_CFG a) 0 = true → (d.hall a).lastT + d.rf (Reg.POS_TMO a) 0 14 * msTicks ≤ d.now → exec (.hallTimeout a) s = .next
      ⟨(d.hallMod a (fun h => { h with single := none })).wb (Reg.POS_STAT a) 8 false, s.pending⟩) ∧
    exec (.lposRead a) s = .next
      ⟨d.hallMod a (fun h => { h with hold := some (d.rget (Reg.POS_LTS a)) }), s.pending⟩

/-- R227, R235, R237, R238, R247–R249, R251–R253, R255: FIELD_STEP, SECTOR_CHANGE and REACQ_TIMEOUT: the order of a step's parts, its
decisions, and the loss by residual. The model's own: a loss and the source (log entry 97), the applied voltage (120), HFI in FREEWHEEL
(121), the PLL (122), invalid sets in an attempt (123), the sector at an edge (157), the step of a six-phase machine (159). -/
def Obligations.FieldStepsLossAndReacquisition : Prop :=
  ∀ (s : State) (a : Nat), s.dev.live = true → a < 4 →
    let d := s.dev
    let u := d.cvMod a (fun c => { c with ready := none })
    let v := u.appliedAB a
    let dt := u.sampleTick a - (u.fu a).angT
    let rest (e : Dev) (cs : CurSet) : Dev :=
      let f := (e.currents a cs).appliedV a v
      let g := ((f.fuMod a (fun x => { x with angT := f.sampleTick a })).sectorChange a).select a
      if g.acqPath (g.leader a) = 3 ∧ g.axOf a = .freewheel then g.stageVolts a 0 0 else g
    let l := a / 2 * 2
    let failed := (((d.setAcq a .none).wsat (Reg.FLD_STAT a) 16 2).ev (0xB5 + 6 * a)).fuMod a (fun f => { f with acqSpeed := none })
    let sector := if d.src (d.leader a) = 1 then d.hallSector a
      else (angleWord ((d.angleNow a).toNat + d.rfs (Reg.FLD_BADV a) 0 16 * 65536)).toNat * 6 / 4294967296
    (d.paired a = false → exec (.fieldStep a) s = .next ⟨d.unitStep a, s.pending⟩) ∧
    (d.paired a = true → (d.cv l).ready ≠ none → (d.cv (l + 1)).ready ≠ none →
      exec (.fieldStep a) s = .next ⟨(d.unitStep l).unitStep (l + 1), s.pending⟩) ∧
    (d.paired a = true → (d.cv l).ready = none ∨ (d.cv (l + 1)).ready = none → exec (.fieldStep a) s = .next s) ∧
    ((d.cv a).ready = none → d.unitStep a = d) ∧
    (∀ e : Dev, e.leader a = a → (e.hall a).edgeT = e.now → e.rf (Reg.POS_OFS a) 0 16 = 0 → e.rf (Reg.FLD_BADV a) 0 16 = 0 →
      e.hallSector a = (e.hall a).sector % 6) ∧
    (∀ cs, (d.cv a).ready = some cs →
      (u.leader a ≠ a →
        let ang := turned (u.rget (Reg.FLD_ANGLE (u.leader a))) (if u.rb (Reg.FLD_CFG a) 28 then -4 else 4)
        let e := u.rset (Reg.FLD_ANGLE a) ang
        d.unitStep a = rest (e.rset (Reg.FLD_SPEED a) (u.rget (Reg.FLD_SPEED (u.leader a)))) cs) ∧
      (u.leader a = a →
        let r := (u.observe a dt cs v).hfiStep a dt cs
        let q := u.rget (Reg.FLD_REACQ a)
        let asc := r.1.acqPath a == 1
        let w := if cs.valid then
          r.1.recordPhi a (u.sampleTick a) (clarke cs.i) (if asc then fget q 0 4 else 0) (if asc then fget q 4 6 - 1 else 15) else r.1
        d.unitStep a = rest ((w.fieldSource a cs.valid r.2).showAngle a) cs) ∧
      (cs.valid = false → ((u.observe a dt cs v).fu a).obs = (u.fu a).obs.go dt ∧
        ((u.observe a dt cs v).fu a).resid = (u.fu a).resid)) ∧
    (∀ (e : Dev) (valid ok : Bool),
      let idle := e.acqPath a = 0 ∧ (e.fu a).acqNext = false
      let source (u : Dev) : Dev := if u.src a = 3 ∧ ok = false then (u.occ (0x0703 + 0x10 * a) 0).setSrc a 0 else u.chooseSrc a
      (idle → valid = false → e.fieldSource a valid ok = source e) ∧
      (idle → valid = true → (e.lossChecks a).2 = none → e.fieldSource a valid ok = source (e.lossChecks a).1) ∧
      (∀ cause held, idle → valid = true → (e.lossChecks a).2 = some (cause, held) →
        e.fieldSource a valid ok = (e.lossChecks a).1.observerLost a cause held) ∧
      (e.acqPath a = 0 → (e.fu a).acqNext = true → e.fieldSource a valid ok = e.attempt a) ∧
      (e.acqPath a = 3 → e.fieldSource a valid ok = e.acqHfi a ok) ∧
      (e.acqPath a = 1 → valid = true → e.fieldSource a valid ok = e.acqAsc a) ∧
      (e.acqPath a = 2 → valid = true → e.fieldSource a valid ok = e.acqProbe a) ∧
      (e.acqPath a = 1 ∨ e.acqPath a = 2 → valid = false → e.fieldSource a valid ok = e)) ∧
    (∀ e : Dev, e.src a = 0 → e.lossStands a = false → fget (e.rget (Reg.FLD_OBS a)) 0 16 < (e.fu a).resid →
      fget (e.rget (Reg.FLD_OBS a)) 16 8 ≤ (e.fu a).resRun + 1 →
      ((e.lossChecks a).2 = some (0, if (e.fu a).resRun = 0 then sword (e.rget (Reg.FLD_SPEED a)) else (e.fu a).wPre) ∧
      (e.lossChecks a).1.regs = e.regs ∧ (e.lossChecks a).1.sram = e.sram ∧ (e.lossChecks a).1.ax = e.ax ∧
      (e.lossChecks a).1.flt = e.flt)) ∧
    (∀ x : Int × Int, park x 0 = x) ∧
    (d.acqPath a = 0 → exec (.reacqTimeout a) s = .next s) ∧
    (d.acqPath a ≠ 0 → 3 ≤ failed.rf (Reg.FLD_STAT a) 16 2 →
      exec (.reacqTimeout a) s = .next ⟨failed.occ (0x0702 + 0x10 * a) 0, s.pending⟩) ∧
    (d.acqPath a ≠ 0 → failed.rf (Reg.FLD_STAT a) 16 2 < 3 →
      exec (.reacqTimeout a) s = .next ⟨failed.fuMod a (fun f => { f with acqNext := true }), s.pending⟩) ∧
    (d.rf (Reg.FLD_STAT a) 4 3 = sector → exec (.sectorChange a) s = .next s) ∧
    (d.rf (Reg.FLD_STAT a) 4 3 ≠ sector → exec (.sectorChange a) s = .next
      ⟨((d.wf (Reg.FLD_STAT a) 4 3 sector).ev (0xB1 + 6 * a)).commutate a 2 sector, s.pending⟩)

/-- R258, R264, R265, R267, R276, R287, R288: CE_STEP_START, CE_CURRENT_SECTION, STEP_OVERRUN and CE_STEP_END. Which engine the record of a
mismatch names is free (log entry 127). The model's own readings: a return from BIST (log entry 23), the words of a block (28), a trigger
that comes early (29), samples in a join (30), the background section (34). -/
def Obligations.EngineStepsAndCheckpoints : Prop :=
  ∀ (s : State) (a e : Nat) (upset : Bool) (ua ub : Nat) (skew : List (Nat × Int)), s.dev.live = true → a < 4 → e < 2 →
    let d := s.dev
    let mode := d.ceMode
    let es := if mode = 1 then [e] else if mode = 3 then (if e = 0 then [0] else []) else if mode = 0 ∨ mode = 2 then
      (if e = 0 then [0, 1] else []) else if e = 1 then [1] else []
    let ran := (if d.ceRuns 0 (some a) then d.runSection 0 (some a) else d)
    let ran := if ran.ceRuns 1 (some a) then ran.runSection 1 (some a) else ran
    let drv := ran.ceDriver (some a)
    let differ := ran.ceCompares && (upset || ran.ceVref 0 a != ran.ceVref 1 a)
    let out := ran.ceMod (fun c => { c with vref := tset c.vref a (ran.ceVref drv a) })
    let held := (ran.engine drv).withhold = true ∨ ran.ceMode = 0 ∧ ((ran.engine 0).withhold = true ∨ (ran.engine 1).withhold = true)
    let named (code : Int) : Nat := (Config.freeFun 0x288 [code]).natAbs % 2
    (mode < 5 → es = [] → exec (.ceStepStart e skew) s = .next s ∧ exec (.ceStepEnd e upset ua ub) s = .next s) ∧
    (mode < 5 → es ≠ [] →
      let begun := es.foldl (fun d k => d.ev (0xC8 + k)) d
      let counted := if es.contains 0 then begun.wmod Reg.CE_STATUS 0 16 else begun
      let u := es.foldl (fun d k => d.engMod k (fun g => { g with seen := [] }))
        ((es.foldl Dev.cmdStep (counted.takeWords.stepFresh e es)).sampleAsync e skew)
      let lanes := (List.range 32).foldl (fun d l => if d.stepsAxis e (some (d.laneAxis l)) then d.laneStep l else d) u
      let injs := [0, 1].foldl (fun d g => if d.stepsAxis e (d.injAxis g) then d.injStep g else d) lanes
      exec (.ceStepStart e skew) s = .next ⟨es.foldl (fun d k => d.runSection k none) injs, s.pending⟩) ∧
    (differ = false → ¬ held → ran.hasVref a = true →
      exec (.ceCurrentSection a upset) s = .next ⟨out.modulate a (ran.ceVref drv a).1 (ran.ceVref drv a).2, s.pending⟩) ∧
    (differ = true → ran.ceMode = 0 → exec (.ceCurrentSection a upset) s = .next
        ⟨(((ran.wsat Reg.CE_CNT 24 8).wb Reg.CE_FLAGS 0 true).ev 0xCA).occ 0x0901 (named 0x0901), s.pending⟩) ∧
    (differ = false → held ∨ ran.hasVref a = false → exec (.ceCurrentSection a upset) s = .next ⟨ran, s.pending⟩) ∧
    exec (.stepOverrun e) s = .next
      ⟨((d.engMod e (fun g => { g with withhold := true })).wb Reg.CE_FLAGS 4 true).occ 0x0905 e, s.pending⟩ ∧
    (mode = 0 → upset = false → (d.engine 0).crc = (d.engine 1).crc → ∃ u : Dev,
      exec (.ceStepEnd 0 upset ua ub) s = .next ⟨u.capStep 0, s.pending⟩ ∧
      u.sram = d.sram ∧ u.flt = d.flt ∧ u.events = d.events ∧ u.ax = d.ax) ∧
    (mode = 0 → upset = true ∨ (d.engine 0).crc ≠ (d.engine 1).crc → ∃ u : Dev,
      exec (.ceStepEnd 0 upset ua ub) s = .next ⟨u.capStep 0, s.pending⟩ ∧ u.sram = d.sram ∧ u.ax = d.ax ∧
      u.events = d.events ++ [0xCA] ∧ u.flt = (d.occ 0x0902 (named 0x0902)).flt)

/-- R269, R271, R275: LANE_TIMEOUT, CMDIN_EDGE, DECODER_LOSS and PARAM_BLOCK_TAKE_END. The model's own: pairs and their record (log entry
14), the verdict of a word without bounds (36), a poisoned word (103), the latest of several SAR results (160). -/
def Obligations.LanesInputsAndParameterBlocks : Prop :=
  ∀ (s : State) (l c e pa ha pb hb : Nat), s.dev.live = true → l < 32 → c < 4 → e < 2 →
    let d := s.dev
    let cfg := d.rget (Reg.CE_LANE_CFG l)
    let watched := bget cfg 31 = true ∧ fget cfg 24 4 = 0 ∧ fget cfg 0 10 ≠ 0 ∧ d.axisSupervised (d.laneAxis l) = true
    let kind (d : Dev) := d.rf (Reg.CE_CMD_CFG c) 30 2
    let duty (p : Nat) : Prop := 40000 ≤ p ∧ p ≤ 40000000
    let freq (p : Nat) : Prop := 20000 ≤ p ∧ p ≤ 400000000
    let dutyOf (h p : Nat) : Int := rdiv 0x272 (h * 10000) p
    let freqOf (p : Nat) : Int := rdiv 0x273 800000000 p
    let dec := tget (tget d.ce.dec e) c
    let lost := d.ceMod (fun z => { z with dec := tmod z.dec e (fun v => tmod v c (fun x => { x with loss := true })) })
    (watched → exec (.laneTimeout l) s = .next ⟨d.laneLose l, s.pending⟩) ∧
    (¬watched → exec (.laneTimeout l) s = .next s) ∧
    (kind d = 2 → duty pa → duty pb → d.tablesOk = true →
      exec (.cmdinEdge c pa ha pb hb) s = .next ⟨(d.cmdTake 0 c (dutyOf ha pa)).cmdTake 1 c (dutyOf hb pb), s.pending⟩) ∧
    (kind d = 2 → duty pa → ¬duty pb → d.tablesOk = true →
      exec (.cmdinEdge c pa ha pb hb) s = .next ⟨d.cmdTake 0 c (dutyOf ha pa), s.pending⟩) ∧
    (kind d = 2 → ¬duty pa → duty pb → exec (.cmdinEdge c pa ha pb hb) s = .next ⟨d.cmdTake 1 c (dutyOf hb pb), s.pending⟩) ∧
    (kind d = 2 → ¬duty pa → ¬duty pb → exec (.cmdinEdge c pa ha pb hb) s = .next s) ∧
    (kind d = 3 → freq pa → freq pb → d.tablesOk = true →
      exec (.cmdinEdge c pa ha pb hb) s = .next ⟨(d.cmdTake 0 c (freqOf pa)).cmdTake 1 c (freqOf pb), s.pending⟩) ∧
    (kind d = 3 → freq pa → ¬freq pb → d.tablesOk = true →
      exec (.cmdinEdge c pa ha pb hb) s = .next ⟨d.cmdTake 0 c (freqOf pa), s.pending⟩) ∧
    (kind d = 3 → ¬freq pa → freq pb → exec (.cmdinEdge c pa ha pb hb) s = .next ⟨d.cmdTake 1 c (freqOf pb), s.pending⟩) ∧
    (kind d = 3 → ¬freq pa → ¬freq pb → exec (.cmdinEdge c pa ha pb hb) s = .next s) ∧
    (∀ x : Int, let z := tget (tget (d.cmdTake e c x).ce.dec e) c
      z.vals = (x :: dec.vals).take (2 ^ d.rf (Reg.CE_CMD_CFG c) 27 3) ∧ z.avg = rdiv 0x271 (z.vals.foldl (· + ·) 0) z.vals.length ∧
      z.loss = false ∧ (z.range = true ↔ z.avg < (d.rf (Reg.CE_CMD_LIM c) 0 16 : Nat) ∨ (d.rf (Reg.CE_CMD_LIM c) 16 16 : Nat) < z.avg)) ∧
    (kind d < 2 → exec (.cmdinEdge c pa ha pb hb) s = .next s) ∧
    (dec.loss = true → exec (.decoderLoss e c) s = .next s) ∧
    (dec.loss = false → exec (.decoderLoss e c) s = .next
      ⟨(if e = 0 then lost.wb (Reg.CE_CMD_VAL c) 31 true else lost).ev (0xD4 + c), s.pending⟩) ∧
    (d.ce.take = [] → exec .paramBlockTakeEnd s = .next s) ∧
    (∀ x xs, d.ce.take = x :: xs →
      let u := d.ceMod (fun c => { c with take := c.take.drop 1 })
      (x.pair = none → exec .paramBlockTakeEnd s = .next
        ⟨{ d.blockEnd x with wstat := takeStatus (d.blockEnd x).blockResult }, s.pending⟩) ∧
      (∀ label k, x.pair = some (label, k) → exec .paramBlockTakeEnd s = .next
        ⟨((d.blockEnd x).pairEnd ⟨x.host, label⟩ k (takeStatus (d.blockEnd x).blockResult)).writeDone ⟨x.host, label⟩,
          s.pending⟩) ∧
      let u := if ∃ k < x.count, u.blockPoison x k = true then u.senseFault else u
      (u.blockFail x x.count 0 = none →
        let taken := u.ce.words ++ (List.range x.count).map (fun k => (x.first + k, u.blockWord x.base k))
        d.blockEnd x = (u.ceMod (fun c => { c with words := taken })).rset Reg.CE_PBLK_STAT
          (BitVec.ofNat 32 (0x40000000 + x.count))) ∧
      (∀ i v, u.blockFail x x.count 0 = some (i, v) →
        d.blockEnd x = (u.rset Reg.CE_PBLK_STAT (BitVec.ofNat 32 (v * 0x40000000 + i * 65536 + x.count))).wb Reg.CE_FLAGS 7 true))

/-- R290, R291, R293–R296, R308: AUX_CURRENT_TRIP, AUX_OVERCURRENT, AUX_HON_LIMIT, AUX_BOOTSTRAP_LOW, AUX_BOOTSTRAP_RELEASE,
VAUX_UNDERVOLTAGE and VAUX_RETURN; the sides of a driven bridge, which BIST of the AX holds off (R419), and the dead time of a leg.
`BLANK` holds overcurrents back as it does trips (log entry 119). -/
def Obligations.AuxDriverProtection : Prop :=
  ∀ (s : State) (x b leg peak v : Nat) (severe : Bool), s.dev.live = true → x < 2 → b < 2 → leg < 4 →
    let d := s.dev
    let lat := d.wf (Reg.AUX_ILAT x) (8 * b) 8 (min 255 peak)
    let seen := if (tget (d.auxOf x).ref b).natAbs ≤ 4 * peak then lat.auxMod x (fun a => { a with reached := tset a.reached b true }) else lat
    let blanked := d.now < (tget d.chan (4 + x)).lastB + 80 * (d.rf (Reg.AUX_CHOP x) 0 4 + 1)
    let drives := tget (d.auxOf x).driving b = true
    let oc := (d.wb (Reg.AUX_FLAGS x) 5 true).occ (0x0A00 + 0x10 * x + 1) b
    let deep := (d.wb (Reg.AUX_FLAGS x) 6 true).lvlOn (0x0A00 + 0x10 * x + 3) leg
    let low := (d.rset Reg.AUX_VAUX (BitVec.ofNat 32 (0x80000000 + v % 65536))).lvlOn 0x0A20 0
    let off (e : Dev) (x : Nat) : Dev := if e.auxState x = 0 then e else e.auxTrip x
    let mark (r : Bool) := d.auxMod x (fun a => { a with bstLow := tset a.bstLow leg r })
    (drives → ¬ blanked → exec (.auxCurrentTrip x b peak) s = .next ⟨seen.auxDecay x b, s.pending⟩) ∧
    (¬ drives ∨ blanked → exec (.auxCurrentTrip x b peak) s = .next s) ∧
    (∀ e : Dev, e.rf (Reg.AUX_CFG x) 22 2 = 0 ∨ (e.auxOf x).slow = true ∨ (tget (e.auxOf x).ref b).natAbs < 2 →
      e.auxDecay x b = (e.auxMod x (fun a => { a with driving := tset a.driving b false })).bridgeGive x b .low .low none) ∧
    (¬ blanked → exec (.auxOvercurrent x b) s = .next ⟨oc.auxTrip x, s.pending⟩) ∧
    (blanked → exec (.auxOvercurrent x b) s = .next s) ∧
    (∀ e : Dev, e.auxTrip x = (if e.auxState x = 4 then e.homeFail x 6 else e).setAux x 5) ∧
    exec (.auxHonLimit x leg) s = .next ⟨((d.auxMod x (fun a => { a with refresh := true })).wb (Reg.AUX_FLAGS x) 3 true).occ
      (0x0A00 + 0x10 * x + 4) 0, s.pending⟩ ∧
    exec (.auxBootstrapLow x leg false) s = .next ⟨mark true, s.pending⟩ ∧
    exec (.auxBootstrapLow x leg true) s = .next ⟨deep.auxTrip x, s.pending⟩ ∧
    exec (.auxBootstrapRelease x leg severe) s = .next
      ⟨if severe then d.lvlOff (0x0A00 + 0x10 * x + 3) leg else mark false, s.pending⟩ ∧
    exec (.vauxUndervoltage v) s = .next ⟨off (off low 0) 1, s.pending⟩ ∧
    exec (.vauxReturn v) s = .next ⟨(d.rset Reg.AUX_VAUX (BitVec.ofNat 32 (v % 65536))).lvlOff 0x0A20 0, s.pending⟩ ∧
    (∀ pos : Bool, let e := d.bridgeDiag x b pos none
      (tget (e.auxOf x).legs (2 * b)).side = (if d.bistUnit = some 0xD then .off else if pos then .high else .low) ∧
      (tget (e.auxOf x).legs (2 * b + 1)).side = (if d.bistUnit = some 0xD then .off else if pos then .low else .high)) ∧
    (∀ (l : AuxLeg) (dt t : Nat), l.since ≤ t →
      (l.side = .low → (l.turn dt t .high).side = .high ∧ (l.turn dt t .high).since = t + dt) ∧
      (l.side = .high → (l.turn dt t .low).side = .low ∧ (l.turn dt t .low).since = t + dt))

/-- R292, R305–R308: AUX_SWITCH_CONFIRMED, SWITCH_RAW_TRANSITION and HOLD_DELAY_END. A level is confirmed once it has stood for `DEB`. What
a limit switch does to a DC axis is the model's reading (log entries 98 and 161) and not stated here. -/
def Obligations.AuxSwitchesAndHold : Prop :=
  ∀ (s : State) (x sw : Nat) (level : Bool), s.dev.live = true → x < 2 → sw < 3 →
    let d := s.dev
    let pin := tget (tget d.swIn x) sw
    let young := d.now < pin.2 + 40000 * d.rf (Reg.AUX_SW x) 16 8
    let active := pin.1 == d.rb (Reg.AUX_SW x) sw
    let e := d.wb (Reg.AUX_STAT x) (19 + sw) active
    let a := e.auxOf x
    let answer (u : Dev) : Prop := exec (.auxSwitchConfirmed x sw) s = .next ⟨u, s.pending⟩
    let near := if e.homeDir x = 1 then 0 else 1
    let far := if e.homeDir x = 1 then 1 else 0
    let hard := ((e.wb (Reg.AUX_FLAGS x) 1 true).occ (0x0A00 + 0x10 * x + 5) 0).ev (0xE3 + 4 * x)
    let ahead := (sw = 0 ∧ a.vel < 0) ∨ (sw = 1 ∧ 0 < a.vel)
    let moves := e.auxState x = 2 ∨ e.auxState x = 3
    (pin.1 = level → exec (.switchRawTransition x sw level) s = .next s) ∧
    (pin.1 ≠ level →
      let per := max 1 (d.auxPer x)
      let into := min per (d.now - (tget d.chan (4 + x)).lastB)
      let at' := rdiv 306 ((d.auxOf x).pos0 * per + ((d.auxOf x).pos - (d.auxOf x).pos0) * into) (65536 * per)
      let u := { d with swIn := tmod d.swIn x (fun l => tset l sw (level, d.now)) }
      exec (.switchRawTransition x sw level) s = .next ⟨u.auxMod x (fun a => { a with raw := tset a.raw sw at' }), s.pending⟩) ∧
    (young → exec (.auxSwitchConfirmed x sw) s = .next s) ∧
    (¬ young →
      (e.auxState x ≠ 4 → active = false → answer e) ∧
      (e.auxState x ≠ 4 → ¬moves → answer e) ∧
      (moves → active = true → e.auxDc x = false → ahead → hard.auxDc x = false → answer (hard.rampStop x)) ∧
      (moves → active = true → e.auxDc x = false → ¬ahead → answer e) ∧
      (e.auxState x = 4 → active = true → sw = near → answer ((e.homeFail x 1).rampStop x)) ∧
      (e.auxState x = 4 → active = true → sw = far → e.auxSw x near = false → sw ≠ e.homeSw x → answer ((e.homeFail x 2).rampStop x)) ∧
      (e.auxState x = 4 → active = true → sw ≠ near → sw = e.homeSw x → e.auxPhase x = 2 →
        let h := tget a.raw sw
        let f := (e.setPhaseH x 3).rset (Reg.AUX_HLAT x) (wordOfInt h)
        answer (f.auxMod x (fun z => { z with hlat := h, tgt := e.stopPoint x }))) ∧
      (e.auxState x = 4 → active = false → sw = e.homeSw x → e.auxPhase x = 1 →
        answer (e.auxMod x (fun z => { z with tgt := e.stopPoint x }))) ∧
      (e.auxState x = 4 → active = false → sw ≠ e.homeSw x → answer e)) ∧
    (d.auxState x = 1 → exec (.holdDelayEnd x) s = .next ⟨d.auxMod x (fun a => { a with holdCur := true }), s.pending⟩) ∧
    (d.auxState x ≠ 1 → exec (.holdDelayEnd x) s = .next s)

/-- R312, R313, R315, R317–R319: DCL_EVALUATION, VDC_STALE, OV3_TRIP, OV3_RELEASE and OV3_PLAUSIBILITY_TIMER. The model's own readings: the
count of disagreements (log entry 11), the clamp factor (133), the side of the fallback level (149). -/
def Obligations.LinkVoltageLadderAndComparator : Prop :=
  ∀ (s : State) (c : Nat), s.dev.live = true → c < 2 →
    let d := s.dev
    let code : Int := d.rf (Reg.ADC_LAT c 4) 2 14
    let v := code * d.rf (if c = 0 then Reg.DCL_SCALE_A else Reg.DCL_SCALE_B) 0 24 * 2
    let took := (if c = 0 then (d.dclMod (fun x => { x with a := v })).wf Reg.DCL_VAB 0 16 (decivolt v)
      else (d.dclMod (fun x => { x with b := v })).wf Reg.DCL_VAB 16 16 (decivolt v)).wb Reg.DCL_STAT (31 - c) false
    let held := [0, 1].foldl (fun d i => if d.giMayChop i then d.swMod (24 + i) Switch.islTurnOn else d)
      (d.dclMod (fun x => { x with tripped := true }))
    let freed := [0, 1].foldl (fun d i => d.swMod (24 + i)
        (if (if (d.chopper i).fbk then (d.chopper i).fbkOn && d.giMayChop i else (d.swi (24 + i)).cdSent) then Switch.islTurnOn
         else Switch.islTurnOff)) (d.dclMod (fun x => { x with tripped := false }))
    let lvl : Int := d.rf Reg.DCL_VOV3 0 16 * 131072
    let apart := if d.rb Reg.DCL_STAT 25 then decide (d.dcl.vl * 10 * 100 < lvl * 95) else decide (lvl * 103 < d.dcl.vl * 10 * 100)
    exec (.dclEvaluation c) s = .next ⟨took.dclEval, s.pending⟩ ∧
    exec (.vdcStale c) s = .next ⟨(d.wb Reg.DCL_STAT (31 - c) true).dclEval, s.pending⟩ ∧
    (∀ e : Dev, e.vdcStale 0 = true → e.vdcStale 1 = true → ∃ u : Dev, e.linkVolts = u ∧ u.dcl.vl = e.dcl.vl ∧
      u.dcl.vm = e.dcl.vm ∧ u.dcl.dis = 0) ∧
    (∀ e : Dev, e.vdcStale 0 = true → e.vdcStale 1 = false → e.linkVolts.dcl.vl = e.dcl.b ∧ e.linkVolts.dcl.vm = e.dcl.b) ∧
    (∀ e : Dev, e.vdcStale 0 = false → e.vdcStale 1 = true → e.linkVolts.dcl.vl = e.dcl.a ∧ e.linkVolts.dcl.vm = e.dcl.a) ∧
    (∀ e : Dev, e.vdcStale 0 = false → e.vdcStale 1 = false → e.linkVolts.dcl.vl = max e.dcl.a e.dcl.b) ∧
    (∀ e : Dev, e.tablesOk = true → e.vdcStale 0 = false → e.vdcStale 1 = false →
      let a := e.dcl.a
      let b := e.dcl.b
      let apart := max ((e.rf Reg.DCL_PLAUS 0 8 : Int) * max a b) ((e.rf Reg.DCL_PLAUS 16 8 : Int) * 131072000) < ((a - b).natAbs : Int) * 1000
      let n := if apart then e.dcl.dis + 1 else 0
      let lasting := e.rf Reg.DCL_PLAUS 8 8 ≤ n
      e.linkVolts.dcl.dis = n ∧ (¬lasting → e.linkVolts.dcl.vm = (a + b) / 2) ∧
      (lasting → e.rb Reg.DCL_CFG 8 = false → e.linkVolts.dcl.vm = a) ∧ (lasting → e.rb Reg.DCL_CFG 8 = true → e.linkVolts.dcl.vm = b)) ∧
    (∀ e : Dev,
      let now := e.rb Reg.DCL_STAT 26 || e.rb Reg.DCL_STAT 25
      let u := e.wb Reg.DCL_STAT 23 now
      let move (u : Dev) (a : Nat) : Dev :=
        if u.rb Reg.DCL_STAT 23 = true ∧ (tget u.link (if a < 2 then 12 else 13)).cdLost = false then
          (u.toSafe a).blame (if u.rb Reg.DCL_STAT 26 then 0x0B06 else 0x0B07) a
        else u
      (now = false → e.demand = u.lvlOff 0x0B06 0) ∧ (now = true → e.demand = move (move (move (move u 0) 1) 2) 3) ∧
      ∀ (w : Dev) (a : Nat), a < 4 → ((tget w.ax a).active = false → w.toSafe a = w) ∧
        ((tget w.ax a).active = true → (tget (w.selDecide a).link (if a < 2 then 12 else 13)).cdLost = false →
          w.toSafe a = (w.selDecide a).axGo a (if (w.selDecide a).rb Reg.DCL_SELSTAT (4 * a) then .asc else .freewheel))) ∧
    (∀ e : Dev, e.linkVolts.rb Reg.DCL_STAT 31 = true → e.linkVolts.rb Reg.DCL_STAT 30 = true →
      e.dclEval = ((e.linkVolts.dclOutputs.dischBelow).selectAll).hlt 0x0A 0
        (decivolt e.linkVolts.dcl.vl)) ∧
    (∀ n filt, persist n filt true = (if filt ≤ n + 1 then (0, true) else (n + 1, false)) ∧ persist n filt false = (0, false)) ∧
    (held.giHeard = false → exec .ov3Trip s = .next ⟨held, s.pending⟩) ∧
    (held.giHeard = true → held.rb Reg.DCL_STAT 25 = false → exec .ov3Trip s = .next
      ⟨((((((held.wb Reg.DCL_STAT 25 true).wb Reg.DCL_FLAGS 2 true).ev 0xEB).lvlOn 0x0B07 0).demand).selectAll), s.pending⟩) ∧
    (held.giHeard = true → held.rb Reg.DCL_STAT 25 = true → exec .ov3Trip s = .next ⟨held, s.pending⟩) ∧
    (freed.giHeard = false → exec .ov3Release s = .next ⟨freed, s.pending⟩) ∧
    (freed.giHeard = true → freed.rb Reg.DCL_STAT 25 = false → exec .ov3Release s = .next ⟨freed, s.pending⟩) ∧
    (freed.giHeard = true → freed.rb Reg.DCL_STAT 25 = true → exec .ov3Release s = .next
      ⟨(((freed.wb Reg.DCL_STAT 25 false).lvlOff 0x0B07 0).demand).selectAll, s.pending⟩) ∧
    (d.vdcStale 0 = true ∨ d.vdcStale 1 = true ∨ apart = false → exec .ov3PlausibilityTimer s = .next s) ∧
    (d.vdcStale 0 = false → d.vdcStale 1 = false → apart = true →
      exec .ov3PlausibilityTimer s = .next ⟨d.occ 0x0B08 0, s.pending⟩)

/-- R319, R321, R323, R326: BCS_RESULT, NO_FALL_TIMER, FALLBACK_LEVEL_CROSS, DISCHARGE_PROBE_END and DISCHARGE_TARGET_TIMEOUT. The model's
own readings: a mark as a level (log entry 38), a result that does not fail a check (99), the moment of its tag (131), the side of the
fallback level (149). -/
def Obligations.ChopperHealthAndDischarge : Prop :=
  ∀ (s : State) (i : Nat) (above : Bool), s.dev.live = true → i < 2 →
    let d := s.dev
    let sw := tget d.sw (24 + i)
    let settled := sw.confAt + 20 * d.rf (Reg.DCL_CH_CHK i) 16 8 ≤ d.now
    let used := d.rf (Reg.DCL_CH_CFG i) 30 2 ≠ 0 ∧ (d.chopper i).wait = false
    let code := d.rf (Reg.ADC_LAT (2 + i) 9) 2 14
    let e : Int := d.dcl.vl * 1000
    let chk := d.rget (Reg.DCL_CH_CHK i)
    let x : Int := (code * d.rf (Reg.DCL_CH_BCS i) 0 24 * 2 * d.rf (Reg.DCL_CH_CFG i) 0 16 * 100 : Nat)
    let shown := d.wf (Reg.DCL_CH_STAT i) 0 16 (min 65535 (rdiv 321 (code * d.rf (Reg.DCL_CH_BCS i) 0 24 : Nat) 65536).toNat)
    let fb (b : Bool) := d.chopMod i (fun c => { c with fbkOn := b })
    let acts := (d.chopper i).fbk = true ∧ d.giMayChop i = true
    (¬ settled ∨ sw.islOnConf = false ∧ sw.islOff = false → exec (.bcsResult i) s = .next s) ∧
    (settled → sw.islOnConf = true → exec (.bcsResult i) s = .next ⟨d.bcsJudge i code true, s.pending⟩) ∧
    (settled → sw.islOnConf = false → sw.islOff = true → exec (.bcsResult i) s = .next ⟨d.bcsJudge i code false, s.pending⟩) ∧
    (x ≤ e * (fget chk 0 6 : Int) ∨ ¬ used →
      d.bcsJudge i code false = shown.chopMod i (fun c => { c with cnt := Vector.replicate 3 0 })) ∧
    (¬ used → d.bcsJudge i code true = shown.chopMod i (fun c => { c with cnt := Vector.replicate 3 0 })) ∧
    (used → e * (fget chk 0 6 : Int) < x → fget chk 12 4 ≤ (d.chopper i).cnt[2] + 1 →
      (d.chopper i).faulty = false → ∃ cnt : Vector Nat 3, cnt[0] = 0 ∧ cnt[1] = 0 ∧ cnt[2] = (d.chopper i).cnt[2] + 1 ∧
        d.bcsJudge i code false = (shown.chopMod i (fun c => { c with cnt := cnt })).chopMark i 3) ∧
    (∀ (u : Dev) (cause : Nat), cause = 1 ∨ cause = 2 ∨ cause = 3 →
      let m := ((((u.wb Reg.DCL_FLAGS i true).wf (Reg.DCL_CH_STAT i) 27 3 cause).ev 0xEC).lvlOn (0x0B10 + cause + 8 * i) 0).chopMod i
        (fun c => { c with faulty := true })
      u.chopMark i cause = ((m.rset (Reg.PWM_C_CMP0 i) 0).ilkOff (24 + i)).dclOutputs) ∧
    ((d.chopper i).fallFrom = none → exec (.noFallTimer i) s = .next s) ∧
    (∀ v, (d.chopper i).fallFrom = some v → d.dcl.vl < v → exec (.noFallTimer i) s = .next
      ⟨d.chopMod i (fun c => { c with fallFrom := some d.dcl.vl }), s.pending⟩) ∧
    (∀ v, (d.chopper i).fallFrom = some v → v ≤ d.dcl.vl → (d.chopper i).noFall = false → (d.chopper i).faulty = false →
      exec (.noFallTimer i) s = .next ⟨(d.chopMod i (fun c => { c with fallFrom := some d.dcl.vl })).chopMark i 4, s.pending⟩) ∧
    (¬acts → exec (.fallbackLevelCross i above) s = .next ⟨fb above, s.pending⟩) ∧
    (acts → above = true → exec (.fallbackLevelCross i above) s = .next ⟨(fb true).swMod (24 + i) Switch.islTurnOn, s.pending⟩) ∧
    (acts → above = false → (fb false).dcl.tripped = true → exec (.fallbackLevelCross i above) s = .next ⟨fb false, s.pending⟩) ∧
    (acts → above = false → (fb false).dcl.tripped = false →
      exec (.fallbackLevelCross i above) s = .next ⟨(fb false).swMod (24 + i) Switch.islTurnOff, s.pending⟩) ∧
    (d.rb Reg.DCL_DSTAT 31 = false ∨ d.rb Reg.DCL_DSTAT 30 = true ∨ d.dcl.probe = none → exec .dischargeProbeEnd s = .next s) ∧
    (∀ j, d.rb Reg.DCL_DSTAT 31 = true → d.rb Reg.DCL_DSTAT 30 = false → d.dcl.probe = some j →
      let low := reaches d.dcl.vmStart (d.rf Reg.DCL_DLIM 0 16) &&
        decide ((d.dcl.vmStart - d.dcl.vm) * 100 < (d.rf Reg.DCL_DCFG 0 8 : Int) * d.dcl.vmStart)
      (low = false → exec .dischargeProbeEnd s = .next ⟨d.nextProbe j, s.pending⟩) ∧
      (low = true → d.adFailed j = false → ∃ u : Dev, exec .dischargeProbeEnd s = .next ⟨u, s.pending⟩ ∧
        (u = ((d.wb Reg.DCL_DSTAT (26 + j) true).occ (0x0B21 + j) 0).nextProbe j))) ∧
    (d.rb Reg.DCL_DSTAT 31 = true → reaches d.dcl.vm (d.rf Reg.DCL_DLIM 0 16) = true →
      exec .dischargeTargetTimeout s = .next ⟨d.occ 0x0B24 0, s.pending⟩) ∧
    (d.rb Reg.DCL_DSTAT 31 = false ∨ reaches d.dcl.vm (d.rf Reg.DCL_DLIM 0 16) = false →
      exec .dischargeTargetTimeout s = .next s)

/-- R332, R333, R335–R337: STO_INPUT_CHANGE, STO_FILTER_EXPIRY, STO_DISCREPANCY, STO_PATH_TEST_START, STO_PATH_TEST_PHASE_END and
STO_TEST_OVERDUE. The model's own readings: an attempt at re-acquisition (log entry 37), the axes X and Y (55, 61), the discrepancy as a
level (60). -/
def Obligations.PulseInhibitAndItsTest : Prop :=
  ∀ (s : State) (i : Nat) (high ok : Bool), i < 2 →
    let d := s.dev
    let seen := d.safeMod (fun x => { x with raw := tset x.raw i high, since := tset x.since i d.now })
    let filtered (u : Dev) (b : Bool) := (u.safeMod (fun x => { x with low := tset x.low i b })).stoFollow
    let filtAt (j : Nat) : Nat := tget d.safe.since j + d.rf Reg.SAFE_CFG 16 10 * usTicks
    let disc : Nat := d.rf Reg.SAFE_CFG 0 10 * msTicks
    let apart := d.rb Reg.SAFE_STO 28 = true
    (d.live = false → exec (.stoInputChange i high) s = .next
      ⟨d.safeMod (fun x => { x with raw := tset x.raw i high }), s.pending⟩) ∧
    (d.live = true →
      (tget d.safe.raw i = high → exec (.stoInputChange i high) s = .next s) ∧
      (tget d.safe.raw i ≠ high → seen.committed = false → exec (.stoInputChange i high) s = .next ⟨seen, s.pending⟩) ∧
      (tget d.safe.raw i = false → high = true → seen.committed = true →
        exec (.stoInputChange i high) s = .next ⟨filtered seen false, s.pending⟩) ∧
      (tget d.safe.raw i = true → high = false → seen.committed = true → seen.rf Reg.SAFE_CFG 16 10 = 0 →
        exec (.stoInputChange i high) s = .next ⟨filtered seen true, s.pending⟩) ∧
      (tget d.safe.raw i = true → high = false → seen.committed = true → seen.rf Reg.SAFE_CFG 16 10 ≠ 0 →
        exec (.stoInputChange i high) s = .next ⟨seen, s.pending⟩) ∧
      (d.committed = true → tget d.safe.raw i = false → filtAt i ≤ d.now →
        exec (.stoFilterExpiry i) s = .next ⟨filtered d true, s.pending⟩) ∧
      (d.committed = false ∨ tget d.safe.raw i = true ∨ d.now < filtAt i → exec (.stoFilterExpiry i) s = .next s) ∧
      (d.stoLow 0 = true → apart → max (filtAt 0) (tget d.safe.since 1) + disc ≤ d.now →
        exec .stoDiscrepancy s = .next ⟨d.lvlOn 0x0C02 0, s.pending⟩) ∧
      (d.stoLow 0 = false → apart → max (filtAt 1) (tget d.safe.since 0) + disc ≤ d.now →
        exec .stoDiscrepancy s = .next ⟨d.lvlOn 0x0C02 0, s.pending⟩) ∧
      (¬ apart ∨ (∀ j, j < 2 → d.now < tget d.safe.since j + disc) → exec .stoDiscrepancy s = .next s) ∧
      (d.safe.ptPend = true → d.dstate = .armed → d.allIdle = true → exec .stoPathTestStart s = .next
        ⟨d.safeMod (fun x => { x with ptPend := false, ptChan := some 0, ptAt := d.now, ptBad := false }), s.pending⟩) ∧
      (d.safe.ptPend = false ∨ d.dstate ≠ .armed ∨ d.allIdle = false → exec .stoPathTestStart s = .next s) ∧
      (d.safe.ptChan = none ∨ d.now < d.safe.ptAt + 2 * usTicks → exec (.stoPathTestPhaseEnd ok) s = .next s) ∧
      (d.safe.ptChan = some 0 → d.safe.ptAt + 2 * usTicks ≤ d.now → exec (.stoPathTestPhaseEnd ok) s = .next
        ⟨d.safeMod (fun x => { x with ptChan := some 1, ptAt := d.now, ptBad := x.ptBad || !ok }), s.pending⟩) ∧
      (∀ n, d.safe.ptChan = some (n + 1) → d.safe.ptAt + 2 * usTicks ≤ d.now →
        let bad := d.safe.ptBad || !ok
        let e := (d.safeMod (fun x => { x with ptChan := none, ptBad := bad })).wf Reg.SAFE_STO 26 2 (if bad then 2 else 1)
        (bad = true → exec (.stoPathTestPhaseEnd ok) s = .next ⟨e.occ 0x0C03 0, s.pending⟩) ∧
        (bad = false → exec (.stoPathTestPhaseEnd ok) s = .next
          ⟨(e.safeMod (fun x => { x with stoT := 0 })).lvlOff 0x0C04 0, s.pending⟩)) ∧
      (eightHours ≤ d.safe.stoT → exec .stoTestOverdue s = .next ⟨d.lvlOn 0x0C04 0, s.pending⟩) ∧
      (d.safe.stoT < eightHours → exec .stoTestOverdue s = .next s)) ∧
    (∀ e : Dev, e.tablesOk = true → e.stoLow 0 = false → e.stoLow 1 = false → e.stoNow = false → ∃ u : Dev, e.stoFollow = u.lvlOff 0x0C02 0 ∧
      u.ax = e.ax ∧ u.sw = e.sw ∧ u.events = e.events ∧ u.flt = e.flt) ∧
    (∀ e : Dev, e.stoStart = ([0, 1, 2, 3].foldl (fun u a => ((u.stoAxis a).acqEnd a).tmRest a) (((((e.wb Reg.SAFE_STO 31 true).wsat Reg.SAFE_STO 0 16).wb
      Reg.SAFE_FLAGS 0 true).ev 0xF0).lvlOn 0x0C01 0)).stoField.sbcUpdate) ∧
    (∀ e : Dev, e.stoEnd =
      (([0, 1, 2, 3].foldl Dev.tmRest (((e.wb Reg.SAFE_STO 31 false).ev 0xF1).lvlOff 0x0C01 0)).selectAll).sbcUpdate) ∧
    (∀ (e : Dev) (a : Nat), a < 4 → (tget (e.acqEnd a).fld a).resume = false ∧ (tget (e.acqEnd a).fld a).acqNext = false ∧
      (e.tablesOk = true → (e.acqEnd a).rf (Reg.FLD_STAT a) 10 2 = 0))

/-- R338–R340, R347, R354: TORQUE_MONITOR_EVAL, DEG_TIME_EXPIRED and SAFETY_WATCHDOG_EXPIRY. The model's own: the lag (log entry 40), the
event of a trip (59), the angle of the pair (97). -/
def Obligations.TorqueMonitorDegradedTimeAndWatchdogs : Prop :=
  ∀ (s : State) (a c : Nat), s.dev.live = true → a < 4 → c < 8 →
    let d := s.dev
    let st := Reg.SAFE_TM_STAT a
    let isc := sword (d.rget (Reg.SAFE_TM_ISC a))
    let u := ((d.rf (Reg.ADC_SAR_D 0 a) 0 12 : Int) - d.rf (Reg.SAFE_TM_OFS a) 0 12) * isc
    let v := ((d.rf (Reg.ADC_SAR_D 1 a) 0 12 : Int) - d.rf (Reg.SAFE_TM_OFS a) 16 12) * isc
    let ang := advance (d.rget (Reg.FLD_ANGLE a)) (sword (d.rget (Reg.FLD_SPEED a))) (((tget d.safe.pairAt a : Nat) : Int) - (tget d.fld a).angT)
    let dq := park (clarke #v[u, v, -u - v]) ang
    let est := d.torque a dq.1 dq.2
    let shown := d.wf st 16 16 (fromSigned 16 (clampInt (-32768) 32767 (est / 65536)))
    let lane := sword (shown.rget (Reg.CE_LANE_OUT (shown.rf (Reg.SAFE_TM_CFG a) 16 5)))
    let off := (d.wb (Reg.SAFE_CONN_STAT c) 31 false).wb (Reg.SAFE_CONN_STAT c) 30 true
    let degEnd : Nat := d.safe.degAt + d.rf Reg.SAFE_DEG 0 10 * 1000 * msTicks
    let wdEnd : Nat := tget d.safe.connAt c + d.rf (Reg.SAFE_CONN_CFG c) 0 10 * msTicks
    (d.rb (Reg.SAFE_TM_CFG a) 31 = false → exec (.torqueMonitorEval a) s = .next s) ∧
    (d.rb (Reg.SAFE_TM_CFG a) 31 = true → ((shown.axOf a).active = false ∨ shown.stoNow = true) →
      exec (.torqueMonitorEval a) s = .next
        ⟨{ (shown.wf st 0 16 0).lvlOff (0x0C14 + a) 0 with safe := { shown.safe with tf := tset shown.safe.tf a lane } }, s.pending⟩) ∧
    (∀ e : Dev, e.tmRest a = { (e.wf st 0 16 0).lvlOff (0x0C14 + a) 0 with safe := { e.safe with
      tf := tset e.safe.tf a (sword (e.rget (Reg.CE_LANE_OUT (e.rf (Reg.SAFE_TM_CFG a) 16 5)))) } }) ∧
    (∀ (e : Dev) (x : AState), let v := e.setAx a x
      let v := if (tget e.ax a).active = x.active then v else v.tmRest a
      let v := if (tget e.ax a).active = true ∧ x.active = false then (v.injAxisLeft a).lanesUnsupervised a else v
      e.axMove a x = if x.safe = true then v else { v with axCause := tset v.axCause a [] }) ∧
    (d.rb (Reg.SAFE_TM_CFG a) 31 = true → (shown.axOf a).active = true → shown.stoNow = false →
      let tf := shown.torqueLag a
      let e := (shown.safeMod (fun x => { x with tf := tset x.tf a tf })).hlt 0x10 a (((est - tf).natAbs : Int) / 65536)
      let lim : Int := e.rf (Reg.SAFE_TM_LIM a) 0 16 * 65536
      let slim : Int := e.rf (Reg.SAFE_TM_LIM a) 16 16 * 65536
      let cnt := e.rf (Reg.SAFE_TM_CFG a) 8 8
      let bad := if e.rb (Reg.SAFE_TM_CFG a) 30 then decide (e.lMot a + lim < est) || decide (est < -(e.lReg a) - lim)
        else decide (lim < ((est - tf).natAbs : Int))
      let nD := tmCount (e.rf st 8 8) cnt bad
      let f := tget e.fld a
      let nS := if f.valid then tmCount (e.rf st 0 8) cnt (decide (slim < ((est - e.torque a f.id f.iq).natAbs : Int)))
        else e.rf st 0 8
      let set := ((e.wf st 8 8 nD).wf st 0 8 nS).lvlSet (decide (cnt ≤ nS) && decide (0 < nS)) (0x0C14 + a) 0
      let trips := cnt ≤ nD ∧ 0 < nD ∧ e.rf st 8 8 < cnt
      (trips → exec (.torqueMonitorEval a) s = .next
        ⟨(((((set.toSafe a).blame (0x0C10 + a) a).wb Reg.SAFE_FLAGS 1 true).ev 0xF2).occ (0x0C10 + a) 0).sbcUpdate,
          s.pending⟩) ∧
      (¬ trips → exec (.torqueMonitorEval a) s = .next ⟨set, s.pending⟩)) ∧
    (∀ n cnt, tmCount n cnt false = 0 ∧ tmCount n cnt true = min (n + 1) cnt) ∧
    (d.dstate ≠ .degraded ∨ d.now < degEnd → exec .degTimeExpired s = .next s) ∧
    (d.dstate = .degraded → degEnd ≤ d.now →
      exec .degTimeExpired s = .next ⟨(d.reports [⟨0x0C31, 0, false⟩]).causeOver 0x0C31, s.pending⟩) ∧
    (d.rb (Reg.SAFE_CONN_CFG c) 31 = true → d.hosts.readySeen = true → wdEnd ≤ d.now →
      exec (.safetyWatchdogExpiry c) s = .next ⟨(off.ev 0xF7).lvlOn (0x0C40 + c) 0, s.pending⟩) ∧
    (d.rb (Reg.SAFE_CONN_CFG c) 31 = false ∨ d.hosts.readySeen = false ∨ d.now < wdEnd →
      exec (.safetyWatchdogExpiry c) s = .next s)

/-- R342–R346: BRAKE_APPLY_SPEED_REACHED, SBC_SETTLE_END, SBC_AUTO_TEST_START, SBC_TEST_WAIT_EXPIRY and SBC_TEST_OVERDUE. What a scan
judges in a test is the model's reading (log entry 59). -/
def Obligations.SafeBrakeControlAndTest : Prop :=
  ∀ (s : State), s.dev.live = true →
    let d := s.dev
    let released := match d.safe.test with | some t => t.released | none => d.sbcHs && d.sbcLs
    let rel := d.sbcHs && d.sbcLs
    let slow := d.rf Reg.SAFE_SBC_APPLY 0 16 = 0 ∨
      ∀ a < 4, d.inTopo a = true → (d.selSpeed a).natAbs < 10 * d.rf Reg.SAFE_SBC_APPLY 0 16
    let opened := (d.wb Reg.SAFE_SBC_STAT 28 true).sbcPins (!rel) rel
    let testAt : Nat := d.rf Reg.SAFE_SBC_CFG 16 8 * 144000000000
    (released = true → d.sbcWant = false → slow → exec .brakeApplySpeedReached s = .next
      ⟨((d.sbcAbort).sbcPins false false).ev 0xF4, s.pending⟩) ∧
    (released = false ∨ d.sbcWant = true ∨ ¬slow → exec .brakeApplySpeedReached s = .next s) ∧
    (d.safe.sbcSince + d.rf Reg.SAFE_SBC_APPLY 16 8 * msTicks ≤ d.now → exec .sbcSettleEnd s = .next
      ⟨(d.wb Reg.SAFE_SBC_STAT 29 (d.sbcHs && d.sbcLs)).safeMod (fun x => { x with settled := true }), s.pending⟩) ∧
    (d.now < d.safe.sbcSince + d.rf Reg.SAFE_SBC_APPLY 16 8 * msTicks → exec .sbcSettleEnd s = .next s) ∧
    (d.rb Reg.SAFE_SBC_CFG 31 = true → d.rb Reg.SAFE_SBC_CFG 30 = true → d.safe.settled = true → d.safe.test = none →
      testAt ≤ d.safe.sbcT → exec .sbcAutoTestStart s = .next
        ⟨opened.sbcNext ⟨rel, false, false, opened.now, false, false, Vector.replicate 2 0⟩, s.pending⟩) ∧
    (d.rb Reg.SAFE_SBC_CFG 31 = false ∨ d.rb Reg.SAFE_SBC_CFG 30 = false ∨ d.safe.settled = false ∨ d.safe.test.isSome = true ∨
        d.safe.sbcT < testAt →
      exec .sbcAutoTestStart s = .next s) ∧
    (d.safe.test = none → exec .sbcTestWaitExpiry s = .next s) ∧
    (∀ t, d.safe.test = some t → d.now < t.since + (if t.recover then 100 * d.rf Reg.SAFE_SBC_CFG 0 8
        else 5 * d.rf Reg.SAFE_SBC_CFG 8 8) * usTicks → exec .sbcTestWaitExpiry s = .next s) ∧
    (∀ t, d.safe.test = some t → t.since + (if t.recover then 100 * d.rf Reg.SAFE_SBC_CFG 0 8
        else 5 * d.rf Reg.SAFE_SBC_CFG 8 8) * usTicks ≤ d.now →
      let k := if t.low then 1 else 0
      let u := { t with times := tset t.times k (d.sbcUs t) }
      let judged := (d.sbcPins false false).sbcRes k (if !t.low && !t.vOk then 2 else if t.iBad then 3 else 0)
      let closed := (d.sbcPins true true).sbcRes k 1
      (t.released = true → t.recover = false → exec .sbcTestWaitExpiry s = .next
        ⟨closed.sbcNext { t with recover := true, times := tset t.times k (closed.sbcUs t) }, s.pending⟩) ∧
      (t.released = true → t.recover = true → exec .sbcTestWaitExpiry s = .next
        ⟨(((d.sbcRes k 4).sbcPins false false).ev 0xF4).sbcEnd, s.pending⟩) ∧
      (t.released = false → t.recover = true → exec .sbcTestWaitExpiry s = .next
        ⟨(d.sbcPins false true).sbcNext { t with low := true, recover := false, iBad := false }, s.pending⟩) ∧
      (t.released = false → t.recover = false → t.low = false →
        exec .sbcTestWaitExpiry s = .next ⟨judged.sbcNext { u with recover := true }, s.pending⟩) ∧
      (t.released = false → t.recover = false → t.low = true → exec .sbcTestWaitExpiry s = .next
        ⟨((judged.safeMod (fun x => { x with test := some u })).sbcEnd).sbcUpdate, s.pending⟩)) ∧
    (eightHours ≤ d.safe.sbcT → exec .sbcTestOverdue s = .next ⟨d.lvlOn 0x0C23 0, s.pending⟩) ∧
    (d.safe.sbcT < eightHours → exec .sbcTestOverdue s = .next s)

/-- R20, R27, R359, R360, R362, R363: FAULT_REPORT, CAUSE_EXPIRY and REACTION_WINDOW_END. The model's own: causes without a row of their
own (log entry 47), records of class F0 (64), rows of one tick (104). -/
def Obligations.FaultReportsAndReactions : Prop :=
  ∀ (s : State) (ext : List Report) (poison : List Nat) (code : Nat), s.dev.live = true →
    let d := s.dev
    let levels := ext.foldl (fun d r => if r.level && !d.lvl r.code r.src then
      d.fltMod (fun f => { f with levels := f.levels ++ [(r.code, r.src)] }) else d) ((d.poisonWords poison).ceEcc ext)
    let taken := (levels.fltMod (fun f => { f with inbox := [] })).rgrMod (fun g =>
      { g with eccSec := g.eccSec + (ext.filter (fun r => r.code == 0x0010)).length })
    (taken.bistUnit ≠ some 6 → exec (.faultReport ext [] poison) s = .next
      ⟨taken.reports (levels.flt.inbox ++ ext ++ poison.map (fun _ => ⟨0x0011, 0, false⟩)), s.pending⟩) ∧
    (∀ (e : Dev) (r : Report) (slot : Nat), slotOf r.code = some slot → e.rgr.inj = none → (∀ x, e.recOf r.code = some x → x.isOpen = false) →
      r.level = false → ∃ x : FltRec, x.code = r.code ∧ x.eclass = e.mapClass r.code ∧ x.occ = 1 ∧ x.src = r.src ∧
        x.isOpen = decide (e.mapClass r.code ≠ 0) ∧ x.first = e.stamp ∧ x.dst = e.dstate.code ∧ x.axs = e.axStates ∧ x.inj = false ∧
        e.report r = (if 2 ≤ e.mapClass r.code ∨ bget (e.mapWord r.code) 31 = true then ((e.setRec x).ev 0xF8).logQueue x false
          else (e.setRec x).ev 0xF8)) ∧
    (∀ (e : Dev) (r : Report) (x : FltRec), slotOf r.code ≠ none → e.rgr.inj = none → e.recOf r.code = some x → x.isOpen = true →
      r.level = false → e.report r = e.setRec { x with occ := satInc x.occ 65535, last := e.stamp, src := r.src, cause := true, quiet := e.now }) ∧
    (∀ (e : Dev) (l : List Report),
      let after := (sortReports l).foldl Dev.report e
      let fresh := after.flt.recs.filter (fun r => r.isOpen &&
        !(e.flt.recs.filterMap (fun r => if r.isOpen then some r.code else none)).contains r.code)
      (fresh.any (fun r => r.eclass == 4) = true → after.dstate ≠ .lockout → after.dstate ≠ .dormant →
        e.reports l = after.enterLockout) ∧
      (fresh.any (fun r => r.eclass == 4) = false → fresh.any (fun r => r.eclass == 3) = true → after.dstate.toSafeOk = true →
        e.reports l = after.enterSafe) ∧
      (fresh.any (fun r => r.eclass == 4) = false → fresh.any (fun r => r.eclass == 3) = false → e.reports l = after)) ∧
    (d.lvlAny code = true ∨ d.recOf code = none ∨ (∃ r, d.recOf code = some r ∧ d.now < r.quiet + usTicks) →
      exec (.causeExpiry code) s = .next s) ∧
    (∀ r, d.recOf code = some r → r.quiet + usTicks ≤ d.now → d.lvlAny code = false → exec (.causeExpiry code) s = .next ⟨d.fltMod (fun f => { f with recs := f.recs.map (fun r =>
      if r.code == code && r.cause then r.causeGone d.now else r) }), s.pending⟩) ∧
    (d.recOf code = none → exec (.reactionWindowEnd code) s = .next s) ∧
    (∀ r, d.recOf code = some r →
      let ended (r : FltRec) : Bool := r.isOpen && decide (r.eclass = 2) && !r.esc &&
        decide (r.opened + fget (d.mapWord r.code) 0 14 * 10 * usTicks ≤ d.now)
      let deg (e : Dev) (r : FltRec) : Bool := bget (e.mapWord r.code) 30 && e.dstate == .run
      let rs := d.flt.recs.filter ended
      let e := rs.foldl (fun e r =>
        let x := { r with esc := true, eclass := if deg e r then 2 else 3 }
        ((e.setRec x).ev 0xF9).logQueue x true) d
      let opens (c : Nat) : Prop := d.bistUnit ≠ some 6 ∧ ∃ r ∈ d.flt.inbox, slotOf r.code ≠ none ∧ d.mapClass r.code = c ∧
        ∀ x, d.recOf r.code = some x → x.isOpen = false
      let turns := d.dstate.toSafeOk = true ∧ ¬ opens 4 ∧ ¬ opens 3
      (ended r = false → exec (.reactionWindowEnd code) s = .next s) ∧
      (ended r = true → turns → (∀ y ∈ rs, deg d y = true) →
        exec (.reactionWindowEnd code) s = .next ⟨e.enterDegraded, s.pending⟩) ∧
      (ended r = true → turns → (∃ y ∈ rs, deg d y = false) →
        exec (.reactionWindowEnd code) s = .next ⟨e.enterSafe, s.pending⟩) ∧
      (ended r = true → ¬ turns → exec (.reactionWindowEnd code) s = .next ⟨e, s.pending⟩))

/-- R365–R367, R372–R374, R436: COMPAT_RECOVERY_SCAN, RECOVERY_HOUR_END, LOG_ENTRY_WRITTEN and INJECTION_END. The model's own: the recovery
word (log entry 43), the rows of the log's programs (53), the place of an entry (63), the low `VDD_IO` (92, 102), the word that fails
(134). -/
def Obligations.RecoveryLogAndInjection : Prop :=
  ∀ (s : State) (ok : Bool), s.dev.live = true →
    let d := s.dev
    let ended := d.windowsEnd.rgrMod (fun g => { g with scanAt := d.now })
    (d.rb Reg.FLT_CFG 31 = false ∨ d.now < d.rgr.scanAt + msTicks → exec .compatRecoveryScan s = .next s) ∧
    (d.rb Reg.FLT_CFG 31 = true → d.rgr.scanAt + msTicks ≤ d.now → exec .compatRecoveryScan s = .next
      ⟨((sortReports (ended.flt.recs.map (fun r => ⟨r.code, 0, false⟩))).foldl (fun d x => d.compatOne x.code) ended).safeExit d,
        s.pending⟩) ∧
    (∀ e : Dev, ¬ (d.dstate = .safe ∧ d.openF3 = true ∧ e.openF3 = false ∧ d.opens 4 = false ∧ d.opens 3 = false) → e.safeExit d = e) ∧
    (∀ e : Dev, d.dstate = .safe → d.openF3 = true → e.openF3 = false → d.opens 4 = false → d.opens 3 = false →
      e.safeExit d = e.enterReady) ∧
    (d.rgr.hourAt + (60 * 60000 * msTicks : Nat) ≤ d.now → exec .recoveryHourEnd s = .next
      ⟨d.rgrMod (fun g => { g with recov := 0, hourAt := d.now, limitHit := false }), s.pending⟩) ∧
    (d.now < d.rgr.hourAt + (60 * 60000 * msTicks : Nat) → exec .recoveryHourEnd s = .next s) ∧
    (d.prs.log = [] ∨ d.prs.logRun = none ∨ (∃ r, d.prs.logRun = some r ∧ r.busy = false) →
      exec (.logEntryWritten ok) s = .next s) ∧
    (∀ e rest r, d.prs.log = e :: rest → d.prs.logRun = some r → r.busy = true → r.done < 4 →
      let i := (e.getD 0 0).toNat % 256
      let ws := ([0, 1, 2, 3].map (fun k => (0x400 + 4 * i + k, e.getD k 0))).drop r.done
      let w := ws.foldl (fun d x => d.program x.1 x.2) d
      let above := ((e.getD 0 0).toNat + 2 ^ 32 - (w.pword 0x3F2).toNat) % 2 ^ 32 < 2 ^ 31
      (ok = true → above → exec (.logEntryWritten ok) s = .next
        ⟨(w.rgrMod (fun g => { g with logNew := some i })).logNext, s.pending⟩) ∧
      (ok = true → ¬ above → exec (.logEntryWritten ok) s = .next ⟨w.logNext, s.pending⟩) ∧
      (ok = false → ∃ k, k < ws.length ∧
        let done := (ws.take k).foldl (fun d x => d.program x.1 x.2) d.tick1
        let twice := (ws.drop k).head?.elim done (fun x => done.setWear x.1 (done.wear x.1 + 2 * done.wearUnit))
        exec (.logEntryWritten ok) s = .next ⟨(twice.occ 0x0D03 0).logNext, s.pending⟩)) ∧
    (∀ e : Dev, let left := e.prsMod (fun p => { p with log := p.log.tail, logRun := none })
      (e.power.vddIoLow = true → e.logNext = left) ∧ (e.power.vddIoLow = false → e.logNext = left.logStart e.prs.log.tail)) ∧
    (∀ e : Dev, e.logStart [] = e.prsMod (fun p => { p with log := [], logRun := none })) ∧
    (∀ (e : Dev) x rest, let worn := [0, 1, 2, 3].any (fun k => e.worn (0x400 + 4 * ((x.getD 0 0).toNat % 256) + k))
      (worn = true → e.logStart (x :: rest) = e.logLost.logStart rest) ∧
      (worn = false → e.logStart (x :: rest) =
        e.prsMod (fun p => { p with log := x :: rest, logRun := some ⟨0, true, false⟩ }))) ∧
    (d.rgr.inj = none ∨ (∃ i, d.rgr.inj = some i ∧ d.now < i.start + i.len * 100 * usTicks) → exec .injectionEnd s = .next s) ∧
    (∀ i, d.rgr.inj = some i → i.start + i.len * 100 * usTicks ≤ d.now →
      let u := (d.wb Reg.FLT_INJSTAT 31 false).rgrMod (fun g => { g with inj := none })
      (i.hit = none → exec .injectionEnd s = .next ⟨(u.occ 0x0D04 0).completeRun (fun c => c.op == 0x31) stOk
        (beBytes 2 i.code ++ [BitVec.ofNat 8 i.src, 1] ++ beBytes 4 0xFFFFFFFF), s.pending⟩) ∧
      (∀ h, i.hit = some h → exec .injectionEnd s = .next ⟨u.completeRun (fun c => c.op == 0x31) stOk
        (beBytes 2 i.code ++ [BitVec.ofNat 8 i.src, 0] ++ beBytes 4 (min 0xFFFFFFFF ((h - i.start) * 5 / 2))), s.pending⟩))

/-- R370: DOCENT_CHECK_IN, ALIVE_HALF_PERIOD and DOCENT_STALL. -/
def Obligations.LivenessAndDocentStall : Prop :=
  ∀ (s : State) (selfOk : Bool), s.dev.live = true →
    let d := s.dev
    let steps := d.rf Reg.CE_STATUS 0 16
    let ok := d.dstate.aliveRuns = true ∧ d.now ≤ d.rgr.checkIn + 200 * usTicks ∧ steps ≠ d.rgr.steps0 ∧ selfOk = true ∧
      d.bistUnit ≠ some 6
    let kept (run : Bool) := d.rgrMod (fun g => { g with halfAt := d.now, steps0 := steps, aliveRun := run })
    let told := d.reports [⟨0x0D05, 0, false⟩]
    exec .docentCheckIn s = .next ⟨d.rgrMod (fun g => { g with checkIn := d.now }), s.pending⟩ ∧
    (d.now < d.rgr.halfAt + 500 * usTicks → exec (.aliveHalfPeriod selfOk) s = .next s) ∧
    (d.rgr.halfAt + 500 * usTicks ≤ d.now → ok → exec (.aliveHalfPeriod selfOk) s = .next
      ⟨({ kept true with pins := { (kept true).pins with alive := !(kept true).pins.alive } } : Dev), s.pending⟩) ∧
    (d.rgr.halfAt + 500 * usTicks ≤ d.now → ¬ok → exec (.aliveHalfPeriod selfOk) s = .next ⟨kept false, s.pending⟩) ∧
    (d.now < d.rgr.checkIn + 2 * msTicks → exec .docentStall s = .next s) ∧
    (d.rgr.checkIn + 2 * msTicks ≤ d.now → told.dstate ≠ .lockout → told.dstate ≠ .dormant → exec .docentStall s = .next ⟨told.enterLockout, s.pending⟩) ∧
    (d.rgr.checkIn + 2 * msTicks ≤ d.now → told.dstate = .lockout ∨ told.dstate = .dormant → exec .docentStall s = .next ⟨told, s.pending⟩) ∧
    (∀ st : DState, st.aliveRuns = true ↔ st = .ready ∨ st = .armed ∨ st = .run ∨ st = .degraded ∨ st = .safe ∨ st = .service)

/-- R162, R211, R287, R344, R377–R379: EVENT_DELIVERY and SINK_ACTION. The model's own: a trigger that comes early (log entry 29), an
invalid mask index (31). -/
def Obligations.EventsReachVectorsAndSinks : Prop :=
  ∀ (s : State) (k : Nat), s.dev.live = true → k < 4 →
    let d := s.dev
    let clear (x : Nat) := d.rgrMod (fun g => { g with sinks := g.sinks.filter (fun y => y.1 != x) })
    let got (x n : Nat) := (x, n) ∈ d.rgr.sinks
    (d.events = [] → exec .eventDelivery s = .next s) ∧
    (∀ n rest, d.events = n :: rest →
      let u := (List.range 64).foldl (fun d v => if d.routed v n then d.vecHit v else d) { d with events := rest }
      let marks := (List.range 10).filter (fun x => u.sinkRouted x n && !u.rgr.sinks.contains (x, n))
      exec .eventDelivery s = .next ⟨u.rgrMod (fun g => { g with sinks := g.sinks ++ marks.map (fun x => (x, n)) }), s.pending⟩) ∧
    (∀ (e : Dev) (v : Nat), e.rb (Reg.EVT_PEND (v / 32)) (v % 32) = true →
      e.vecHit v = (e.wb (Reg.EVT_OVR (v / 32)) (v % 32) true).rmod (Reg.EVT_VCNT v) (fun c => c + 1)) ∧
    (∀ (e : Dev) (v : Nat), e.rb (Reg.EVT_PEND (v / 32)) (v % 32) = false →
      let u := (e.wb (Reg.EVT_PEND (v / 32)) (v % 32) true).rmod (Reg.EVT_VCNT v) (fun c => c + 1)
      (u.rb (Reg.EVT_EN (v / 32)) (v % 32) = false ∨ u.vecOwner v < 2 → e.vecHit v = u) ∧
      (u.rb (Reg.EVT_EN (v / 32)) (v % 32) = true → 2 ≤ u.vecOwner v →
        e.vecHit v = u.notice (u.vecOwner v - 2) ([0x5C, BitVec.ofNat 8 (u.vecOwner v + 1), BitVec.ofNat 8 v, 0] ++
          beBytes 4 (u.rget (Reg.EVT_VCNT v)).toNat))) ∧
    (∀ x, (∀ n, ¬ got x n) → exec (.sinkAction x) s = .next s) ∧
    (∀ n, got k n → exec (.sinkAction k) s = .next ⟨(clear k).maskAdvance k, s.pending⟩) ∧
    (∀ n, got (4 + k) n → exec (.sinkAction (4 + k)) s = .next
      ⟨(clear (4 + k)).urgSend k ((clear (4 + k)).rf (Reg.ADC_URG k) 24 4) ((clear (4 + k)).rf (Reg.ADC_URG k) 0 8), s.pending⟩) ∧
    (∀ cap, d.ce.cap = some cap → (∃ n, got 8 n) → ¬ got 8 cap.event → exec (.sinkAction 8) s = .next ⟨clear 8, s.pending⟩) ∧
    (∀ cap, d.ce.cap = some cap → got 8 cap.event → exec (.sinkAction 8) s = .next
      ⟨((clear 8).ceMod (fun x => { x with cap := some { cap with trig := true } })).capAct, s.pending⟩) ∧
    (d.ce.cap = none → (∃ n, got 8 n) → exec (.sinkAction 8) s = .next ⟨clear 8, s.pending⟩) ∧
    (∀ n, got 9 n → exec (.sinkAction 9) s = .next ⟨(clear 9).sbcStart.1, s.pending⟩)

/-- R384–R387, R391: INTEGRATION_COMPLETE, RESTRICTED_TIMER, RESTRICTION_PROLONGED, BUS_OFF_WAIT_END, RECOVERY_COMPLETE,
BOCNT_RESET_TIMER and OBJECT_TIMEOUT. -/
def Obligations.CanControllerStates : Prop :=
  ∀ (s : State) (c i : Nat), s.dev.live = true → c < 3 → i < 64 →
    let d := s.dev
    let st := d.canState c
    let timed := d.ccMod c (fun x => { x with timerDone := true })
    let watched := d.rb (Reg.CAN_OBJ_ID c i) 31 = true ∧ d.rf (Reg.CAN_OBJ_TMO c i) 0 16 ≠ 0 ∧ d.lvl (0x0E05 + 0x10 * c) i = false ∧
      ∃ t, (d.cc c).activeAt = some t ∧
        max t ((aget (d.cc c).objAt i).getD 0) + d.rf (Reg.CAN_OBJ_TMO c i) 0 16 * msTicks ≤ d.now
    let restr := d.rf (Reg.CAN_RESTR c) 16 10
    let over' := (d.cc c).restrAt + restr * msTicks ≤ d.now
    let long := (d.cc c).stAt + (if restr = 0 then 1000 else 10 * restr) * msTicks ≤ d.now
    let waited := (d.cc c).stAt + d.rf (Reg.CAN_BO c) 16 16 * msTicks ≤ d.now
    let second := (d.cc c).stAt + 1000 * msTicks ≤ d.now
    (∀ e : Dev, e.canState c = 2 → e.canGo c 2 = e) ∧
    (∀ (e : Dev) (n : Nat), e.canState c ≠ n → n ≠ 3 → n ≠ 5 → n ≠ 7 →
      let f := e.ccMod c (fun x => { x with stAt := e.now })
      ((n ≠ 4 ∨ e.canState c ≠ 3) →
        e.canGo c n = ((f.wf (Reg.CAN_STAT c) 29 3 n).canEvt c 2).lvlSet (n == 4) (0x0E02 + 0x10 * c) 0) ∧
      (n = 4 → e.canState c = 3 →
        e.canGo c n = ((e.wf (Reg.CAN_STAT c) 29 3 4).canEvt c 2).lvlSet true (0x0E02 + 0x10 * c) 0)) ∧
    (∀ e : Dev, e.canState c ≠ 3 →
      let f := if e.canState c = 4 then e else e.ccMod c (fun x => { x with stAt := e.now })
      let g := ((f.wf (Reg.CAN_STAT c) 29 3 3).canEvt c 2).lvlOff (0x0E02 + 0x10 * c) 0
      let h := g.lvlOff (0x0E01 + 0x10 * c) 0
      e.canGo c 3 = h.ccMod c (fun x => { x with activeAt := some (x.activeAt.getD g.now) })) ∧
    (∀ (e : Dev) (n : Nat), e.canState c ≠ n → n = 5 ∨ n = 7 →
      let f := e.ccMod c (fun x => { x with stAt := e.now })
      let g := ((f.wf (Reg.CAN_STAT c) 29 3 n).canEvt c 2).lvlOff (0x0E02 + 0x10 * c) 0
      e.canGo c n = g.canDiscard c) ∧
    (∀ e : Dev, e.canDiscard c = ((e.portsOf c).foldl (fun d p => (d.cpMod p (fun q => { q with reply := none, notes := [] })).hpMod (p + 2)
      (fun h => { h with reply := none })) e).ccMod c (fun x => { x with begun := [], sending := none, cancel := false })) ∧
    (∀ e : Dev, e.canRestrict c = ((e.wf (Reg.CAN_STAT c) 8 16 0).ccMod c
      (fun x => { x with errs := 0, rx := 0, restrAt := e.now, timerDone := false, prolonged := false })).canGo c 2) ∧
    (st = 1 → exec (.integrationComplete c) s = .next ⟨d.canRestrict c, s.pending⟩) ∧
    (st ≠ 1 → exec (.integrationComplete c) s = .next s) ∧
    (st = 2 → over' → timed.canState c = 2 → (timed.cc c).timerDone = true → timed.rf (Reg.CAN_RESTR c) 0 8 ≤ (timed.cc c).rx →
      exec (.restrictedTimer c) s = .next ⟨timed.canGo c 3, s.pending⟩) ∧
    (st = 2 → over' → (timed.cc c).rx < timed.rf (Reg.CAN_RESTR c) 0 8 → exec (.restrictedTimer c) s = .next ⟨timed, s.pending⟩) ∧
    (st ≠ 2 ∨ ¬ over' → exec (.restrictedTimer c) s = .next s) ∧
    (st ≠ 2 ∨ ¬ long ∨ (d.cc c).prolonged = true → exec (.restrictionProlonged c) s = .next s) ∧
    (st = 2 → long → (d.cc c).prolonged = false → exec (.restrictionProlonged c) s = .next
      ⟨(d.ccMod c (fun x => { x with prolonged := true })).occ (0x0E04 + 0x10 * c) 0, s.pending⟩) ∧
    (st = 5 → d.rb (Reg.CAN_CFG c) 29 = true → waited → exec (.busOffWaitEnd c) s = .next ⟨d.canGo c 6, s.pending⟩) ∧
    (st ≠ 5 ∨ d.rb (Reg.CAN_CFG c) 29 = false ∨ ¬ waited → exec (.busOffWaitEnd c) s = .next s) ∧
    (st = 6 → exec (.recoveryComplete c) s = .next ⟨d.canRestrict c, s.pending⟩) ∧
    (st ≠ 6 → exec (.recoveryComplete c) s = .next s) ∧
    (st = 3 ∨ st = 4 → second → exec (.bocntResetTimer c) s = .next ⟨d.wf (Reg.CAN_STAT c) 0 8 0, s.pending⟩) ∧
    ((st ≠ 3 ∧ st ≠ 4) ∨ ¬ second → exec (.bocntResetTimer c) s = .next s) ∧
    (watched → exec (.objectTimeout c i) s = .next ⟨((d.lvlOn (0x0E05 + 0x10 * c) i).canEvt c 4).ev 0xFF, s.pending⟩) ∧
    (¬watched → exec (.objectTimeout c i) s = .next s)

/-- R383, R386, R387, R389, R390, R392, R393, R396: CAN_FRAME_RECEIVED, CAN_FRAME_START, TRANSMIT_COMPLETE, CAN_ERROR and
OBJECT_HEADER_READ. The model's own: data above a length (log entry 44), counters as operands (45), the queue of a port (89), the two
faults of a bus-off at its limit (136), remote frames (139). -/
def Obligations.CanFramesAndErrors : Prop :=
  ∀ (s : State) (c i h id dlc lec tec rec' : Nat) (ide fdf brs esi remote : Bool) (data : List Byte) (tdc : Option Nat) (n : Nat),
    s.dev.live = true → c < 3 → i < 64 → h < 4 →
    let d := s.dev
    let st := d.canState c
    let frame := exec (.canFrameReceived c id ide fdf brs esi remote dlc data tec rec') s
    let on := st = 3 ∨ st = 4
    let counted := (d.wf (Reg.CAN_ERR c) 16 4 lec).ccMod c (fun x => { x with errs := (d.cc c).errs + 1, restrAt := d.now, timerDone := false })
    (st ≠ 2 → ¬on → frame = .next s ∧ exec (.canError c lec tec rec' tdc) s = .next s) ∧
    (on → frame = .next ⟨(((d.canFailed c).canSort c id ide fdf brs esi remote dlc data).canCount c tec rec').canFrameEnd c,
      s.pending⟩) ∧
    (st = 2 → frame = .next ⟨((d.canSort c id ide fdf brs esi remote dlc data).ccMod c
      (fun x => { x with rx := x.rx + 1 })).canLeave c, s.pending⟩) ∧
    (∀ (e : Dev) (j : Nat), e.canObj c id ide = some j → e.canSort c id ide fdf brs esi true dlc data = e) ∧
    (∀ (e : Dev) (p : Nat), e.canObj c id ide = none → e.canCmdPort c id ide = some p →
      e.canSort c id ide fdf brs esi true dlc data =
        ((e.wsat (Reg.CAN_DROP c) 0 16).wsat (Reg.CAN_PORT_STAT p) 16 16).occ (0x0E06 + 0x10 * c) 0) ∧
    (∀ (e : Dev) (j : Nat), e.canObj c id ide = some j →
      e.canSort c id ide fdf brs esi false dlc data = e.canStore c j fdf brs esi dlc data) ∧
    (∀ (e : Dev) (p : Nat), e.canObj c id ide = none → e.canCmdPort c id ide = some p → fdf = true → e.portUp p = true →
      (tget e.cport p).cmdQ.length < 4 → e.canSort c id ide fdf brs esi false dlc data =
        e.cpMod p (fun q => { q with cmdQ := q.cmdQ ++ [data.take (dlcBytes fdf dlc)] })) ∧
    (∀ (e : Dev) (p : Nat), e.canObj c id ide = none → e.canCmdPort c id ide = some p →
      (fdf = false ∨ e.portUp p = false ∨ 4 ≤ (tget e.cport p).cmdQ.length) →
      e.canSort c id ide fdf brs esi false dlc data =
        ((e.wsat (Reg.CAN_DROP c) 0 16).wsat (Reg.CAN_PORT_STAT p) 16 16).occ (0x0E06 + 0x10 * c) 0) ∧
    (∀ e : Dev, e.canObj c id ide = none → e.canCmdPort c id ide = none → e.canOwnId c id ide = false →
      e.canSort c id ide fdf brs esi remote dlc data = e.wsat (Reg.CAN_DROP c) 16 16) ∧
    (∀ e : Dev, e.canObj c id ide = none → e.canCmdPort c id ide = none → e.canOwnId c id ide = true →
      e.canSort c id ide fdf brs esi remote dlc data = e) ∧
    (¬on ∨ (d.cc c).sending ≠ none ∨ d.candidates c = [] → exec (.canFrameStart c) s = .next s) ∧
    (∀ m, on → (d.cc c).sending = none → d.winner c (d.candidates c) = some m →
      m ∈ d.candidates c ∧ (∀ x ∈ d.candidates c, d.sendKey c m ≤ d.sendKey c x) ∧
      exec (.canFrameStart c) s = .next ⟨(d.takeMsg c m).ccMod c (fun x => { x with sending := some m }), s.pending⟩) ∧
    ((d.cc c).sending = none → exec (.transmitComplete c tec rec' n) s = .next s) ∧
    (∀ j, (d.cc c).sending = some (.buf j) →
      let u := (d.ccMod c (fun x => { x with sending := none, cancel := false })).canTdc c (.buf j) n
      let v := (u.wb (Reg.CAN_TXREQ c) j false).wb (Reg.CAN_TXDONE c) j true
      exec (.transmitComplete c tec rec' n) s = .next
        ⟨((((v.rset (Reg.CAN_TX_TS c j) (BitVec.ofNat 32 v.stamp)).canEvt c 1).canCount c tec rec').canFrameEnd c), s.pending⟩) ∧
    (st = 2 → counted.rf (Reg.CAN_RESTR c) 8 8 ≤ (d.cc c).errs + 1 → exec (.canError c lec tec rec' tdc) s = .next
      ⟨(counted.canGo c 7).occ (0x0E03 + 0x10 * c) 0, s.pending⟩) ∧
    (st = 2 → (d.cc c).errs + 1 < counted.rf (Reg.CAN_RESTR c) 8 8 →
      exec (.canError c lec tec rec' tdc) s = .next ⟨counted, s.pending⟩) ∧
    (on → exec (.canError c lec tec rec' tdc) s = .next
      ⟨((((d.wf (Reg.CAN_ERR c) 16 4 lec).canTdcErr c tdc).canFailed c).canCount c tec rec').canFrameEnd c, s.pending⟩) ∧
    (∀ e : Dev, e.canState c = 3 ∨ e.canState c = 4 →
      let f := (e.wf (Reg.CAN_STAT c) 8 8 (min tec 255)).wf (Reg.CAN_STAT c) 16 8 (min rec' 255)
      let b := min 255 (f.rf (Reg.CAN_STAT c) 0 8 + 1)
      let g := ((f.wf (Reg.CAN_STAT c) 0 8 b).wsat (Reg.CAN_ERR c) 0 16).lvlOn (0x0E01 + 0x10 * c) 0
      (tec ≤ 255 → e.canCount c tec rec' = f.canGo c (if 128 ≤ tec ∨ 128 ≤ rec' then 4 else 3)) ∧
      (255 < tec → b < g.rf (Reg.CAN_BO c) 0 8 → e.canCount c tec rec' = g.canGo c 5) ∧
      (255 < tec → g.rf (Reg.CAN_BO c) 0 8 ≤ b → e.canCount c tec rec' = (g.canGo c 7).occ (0x0E07 + 0x10 * c) 0)) ∧
    (∀ (e : Dev) (m : CanSend), let brs := match m with
        | .buf j => e.rb (Reg.CAN_TX_CTL c j) 31 && e.rb (Reg.CAN_TX_CTL c j) 30
        | .reply p _ => e.rb (Reg.CAN_PORT_CFG p) 30
        | .notice p _ => e.rb (Reg.CAN_PORT_CFG p) 30
      (e.rb (Reg.CAN_DBT c) 31 = true → brs = true →
        e.canTdc c m n = (e.wf (Reg.CAN_ERR c) 24 8 (min n 127)).occIf (decide (127 < n)) (0x0E08 + 0x10 * c) 0) ∧
      (e.rb (Reg.CAN_DBT c) 31 = false ∨ brs = false → e.canTdc c m n = e)) ∧
    (∀ (e : Dev), (∀ m x, (e.cc c).sending = some m → tdc = some x → e.canTdcErr c tdc = e.canTdc c m x) ∧
      ((e.cc c).sending = none ∨ tdc = none → e.canTdcErr c tdc = e)) ∧
    (∀ m, (d.cc c).sending = some m → (∀ j, m ≠ .buf j) →
      let u := (d.ccMod c (fun x => { x with sending := none, cancel := false })).canTdc c m n
      exec (.transmitComplete c tec rec' n) s = .next ⟨(u.canCount c tec rec').canFrameEnd c, s.pending⟩) ∧
    (aget (d.cc c).objAt i ≠ some d.now →
     let kept := (i, d.rget (Reg.CAN_OBJ_TS c i), (List.range 16).map (fun w => d.rget (Reg.CAN_OBJ_D c i w)))
     exec (.objectHeaderRead h c i) s = .next ⟨((d.ccMod c (fun x => { x with shadow := tset x.shadow h (some kept) })).wb
       (Reg.CAN_OBJ_HDR c i) 31 false).wb (Reg.CAN_RXNEW c (i / 32)) (i % 32) false, s.pending⟩) ∧
    (aget (d.cc c).objAt i = some d.now →
     let kept := (i, d.before (Reg.CAN_OBJ_TS c i), (List.range 16).map (fun w => d.before (Reg.CAN_OBJ_D c i w)))
     let e := d.ccMod c (fun x => { x with shadow := tset x.shadow h (some kept) })
     exec (.objectHeaderRead h c i) s = .next ⟨(e.wb (Reg.CAN_OBJ_HDR c i) 30 (bget (d.before (Reg.CAN_OBJ_HDR c i)) 30)).wb
       (Reg.CAN_RXLOST c (i / 32)) (i % 32) (bget (d.before (Reg.CAN_RXLOST c (i / 32))) (i % 32)), s.pending⟩)

/-- R401–R403, R405–R407, R409, R410, R414: TAMPER_ALARM, KEY_DERIVED and ATTEST_SIGNATURE_COMPLETE. Key and signature are computed as FIPS
205 has them (log entry 50); event 0x06 with OK only is the model's reading (48). -/
def Obligations.TamperKeyAndAttestation : Prop :=
  ∀ (s : State) (k : Nat), s.dev.live = true → k < 6 →
    let d := s.dev
    let erased : Sec → Sec := fun x => { x with
      key := none, deriv := false, barred := true
      seed := if bget (BitVec.ofNat 32 (d.sec.policy.getD 0)) k then none else x.seed }
    let marked (e : Dev) := ((e.wb Reg.SEC_TAMPER k true).wsat Reg.SEC_TCNT 0 16).ev 0x04
    (d.sec.resp = none → d.sec.att = none → k ≠ 5 → exec (.tamperAlarm k) s = .next
      ⟨(marked (d.secMod erased)).lvlAgain 0x0210 k, s.pending⟩) ∧
    (d.sec.resp = none → d.sec.att = none → k = 5 → exec (.tamperAlarm k) s = .next
      ⟨(marked (d.secMod erased)).occ 0x0210 k, s.pending⟩) ∧
    (d.sec.resp = none → d.sec.att.isSome = true → k ≠ 5 → exec (.tamperAlarm k) s = .next
      ⟨(marked (((d.secMod erased).attZero).attEnd 2 stState)).lvlAgain 0x0210 k, s.pending⟩) ∧
    (∀ r, d.sec.resp = some r →
      let cut := d.secMod erased
      let cut := if d.sec.att.isSome then (cut.attZero).attEnd 2 stState else cut
      let one := if k = 5 then (marked cut).occ 0x0210 k else (marked cut).lvlAgain 0x0210 k
      let e := one.secMod (fun x => { x with resp := none })
      let dead := e.rb Reg.SEC_STAT 26 = false ∨ ∃ c, e.sec.chal = some c ∧ ∀ b ∈ c, b = 0
      let again : Sec → Sec := fun x => { x with
        key := none, deriv := false, barred := true
        seed := if bget (BitVec.ofNat 32 (e.sec.policy.getD 0)) 5 then none else x.seed }
      (dead → exec (.tamperAlarm k) s = .next ⟨e, s.pending⟩) ∧
      (¬ dead → exec (.tamperAlarm k) s = .next
        ⟨((((e.secMod again).wb Reg.SEC_TAMPER 5 true).wsat Reg.SEC_TCNT 0 16).ev 0x04).occ 0x0210 5, s.pending⟩)) ∧
    (d.sec.deriv = false ∨ d.sec.seed = none → exec .keyDerived s = .next s) ∧
    (∀ seed crc, d.sec.deriv = true → d.sec.seed = some (seed, crc) →
      let key := seed ++ slhKeyRoot slh128f (chunk16 seed 0) (chunk16 seed 2)
      exec .keyDerived s = .next ⟨(d.secMod (fun x => { x with deriv := false, key := some key })).showKey key, s.pending⟩) ∧
    (∀ e : Dev, (e.sec.barred = true → e.deriveStart = e) ∧
      (e.sec.barred = false → e.sec.seed = none → e.deriveStart = e.occ 0x0211 0) ∧
      (∀ seed crc, e.sec.barred = false → e.sec.seed = some (seed, crc) →
        (crc32c seed = crc → e.deriveStart = e.secMod (fun x => { x with deriv := true })) ∧
        (crc32c seed ≠ crc → e.deriveStart = e.occ 0x0212 0))) ∧
    (d.sec.att = none → exec .attestSignatureComplete s = .next s) ∧
    (∀ key r, d.sec.att = some (key, r) →
      let signed := (d.mwrite 0x25B0B0 (attSignature key r)).unpoison 0x25B0B0 17088
      exec .attestSignatureComplete s = .next ⟨(signed.attEnd 0 stOk).ev 0x06, s.pending⟩)

/-- R404: PROV_KEYHASH, PROV_POLICY, PROV_IDENT and PROV_LOCK. The model's own: the test port in a device that sleeps (log entry 27), a
failed entropy source (49), the public key (50). -/
def Obligations.ProvisioningOnceInLockout : Prop :=
  ∀ (s : State) (hash seed : List Byte) (policy : Byte) (ok : Bool), s.dev.power.ioUp = true →
    let d := s.dev
    let refused := d.dstate ≠ .lockout ∨ d.sec.lock = true
    let allowed := d.dstate = .lockout ∧ d.sec.lock = false
    let ent := (d.wb Reg.SEC_STAT 26 ok).occIf (!ok) 0x0214 0
    let bypass : Host.Outcome State Fault Refusal := .next ⟨d.tapMod (fun t => { t with ir := 0xFF, out := [] }), s.pending⟩
    let sd := padTo 48 seed
    let key := keyOf sd
    (refused → exec (.provKeyhash hash) s = bypass ∧ exec (.provPolicy policy) s = bypass ∧
      exec (.provIdent ok seed) s = bypass ∧ exec .provLock s = bypass) ∧
    (allowed → ∀ h, d.sec.keyHash = some h → exec (.provKeyhash hash) s = .next ⟨d.tapGo 0x30 h, s.pending⟩) ∧
    (allowed → d.sec.keyHash = none → exec (.provKeyhash hash) s = .next
      ⟨(d.secMod (fun x => { x with keyHash := some (padTo 32 hash) })).tapGo 0x30 (padTo 32 hash), s.pending⟩) ∧
    (allowed → ∀ p, d.sec.policy = some p → exec (.provPolicy policy) s = .next ⟨d.tapGo 0x31 (beBytes 1 p), s.pending⟩) ∧
    (allowed → d.sec.policy = none → exec (.provPolicy policy) s = .next
      ⟨(d.secMod (fun x => { x with policy := some policy.toNat })).tapGo 0x31 (beBytes 1 policy.toNat), s.pending⟩) ∧
    (allowed → ok = true → exec (.provIdent ok seed) s = .next
      ⟨((ent.secMod (fun x => { x with seed := some (sd, crc32c sd), key := if x.barred then none else some key })).showKey
        key).tapGo 0x32 (publicKey key), s.pending⟩) ∧
    (allowed → ok = false → ∃ out : List Byte, out.length = 32 ∧
      exec (.provIdent ok seed) s = .next ⟨(ent.tick1).tapGo 0x32 out, s.pending⟩) ∧
    (allowed → let u := d.secMod (fun x => { x with lock := true })
      exec .provLock s = .next ⟨u.tapGo 0x33 (beBytes 4 u.secStat.toNat), s.pending⟩)

/-- R412–R414: EXTEST, SAMPLE_PRELOAD, IDCODE, CLAMP, HIGHZ, BYPASS, SCAN, DBG_CHAL, DBG_RESP, DBG_RESP_VERIFIED and DBG_ACCESS. What the
boundary-scan chain captures is the model's choice (log entry 135). The model's own: the test port asleep (log entry 27), the debug port as
a host (18), the axes X and Y (55), a poisoned word (77); signatures as FIPS 205 has them (50). -/
def Obligations.TestPortAndDebugUnlock : Prop :=
  ∀ (s : State) (ok : Bool) (cells levels : List Bool) (key sig rnd : List Byte) (w : Bool) (addr : Nat) (v : Word),
    let d := s.dev
    let go (ir : Nat) (out : List Byte) : Dev := d.tapMod (fun t => { t with ir := ir, out := out })
    let may := d.dstate = .lockout ∨ d.power.testMode = true
    let ent := (d.wb Reg.SEC_STAT 26 ok).occIf (!ok) 0x0214 0
    let mayUnlock := (d.dstate = .service ∧ d.allIdle = true) ∨ d.dstate = .lockout
    let shown (j : Nat) : Bool := match d.ownLevel (pinOf j) with
      | .low | .pulledLow => false
      | .high | .pulledHigh => true
      | _ => levels.getD j false
    let chained (i : Instr) (code : Nat) := ∃ out : List Byte, out.length = (cells.length + 7) / 8 ∧
      (∀ j < cells.length, (out.getD (j / 8) 0).getLsbD (j % 8) = shown j) ∧
      exec i s = .next ⟨d.tapMod (fun t => { t with ir := code, out := out, cells := cells }), s.pending⟩
    let chal := beBytes 4 (tget ent.sec.uid 0).toNat ++ beBytes 4 (tget ent.sec.uid 1).toNat ++
      beBytes 4 (fget (ent.pword 0x3F0) 16 16) ++ [0, 0, 0, 0] ++ padTo 16 rnd
    (d.power.ioUp = false → exec (.extest cells levels) s = .next s ∧ exec (.samplePreload cells levels) s = .next s ∧
      exec (.idcode ok) s = .next s ∧ exec .clamp s = .next s ∧ exec .highz s = .next s ∧ exec .bypass s = .next s ∧
      exec .scan s = .next s ∧ exec (.dbgChal ok rnd) s = .next s ∧ exec (.dbgResp key sig) s = .next s ∧
      exec (.dbgAccess w addr v) s = .next s) ∧
    (d.live = false → exec .dbgRespVerified s = .next s) ∧
    (d.power.ioUp = true →
      chained (.samplePreload cells levels) 0x01 ∧
      exec (.idcode false) s = .next ⟨go 0x02 [0x19, 0x41, 0x2A, 0x5B], s.pending⟩ ∧
      exec (.idcode true) s = .next ⟨d.tapMod (fun _ => Tap.start), s.pending⟩ ∧
      exec .bypass s = .next ⟨go 0xFF [], s.pending⟩ ∧
      (may → chained (.extest cells levels) 0x00 ∧
        exec .clamp s = .next ⟨go 0x03 [], s.pending⟩ ∧ exec .highz s = .next ⟨go 0x04 [], s.pending⟩) ∧
      (¬may → exec (.extest cells levels) s = .next ⟨go 0xFF [], s.pending⟩ ∧ exec .clamp s = .next ⟨go 0xFF [], s.pending⟩ ∧
        exec .highz s = .next ⟨go 0xFF [], s.pending⟩) ∧
      (d.power.testMode = true → exec .scan s = .next ⟨go 0x40 [], s.pending⟩) ∧
      (d.power.testMode = false → exec .scan s = .next ⟨(go 0xFF []).tamper 5, s.pending⟩)) ∧
    (d.power.ioUp = true →
      (ok = true → exec (.dbgChal ok rnd) s = .next
        ⟨(ent.tapGo 0x20 chal).secMod (fun x => { x with chal := some chal }), s.pending⟩) ∧
      (ok = false → exec (.dbgChal ok rnd) s = .next
        ⟨(ent.tapGo 0x20 (List.replicate 32 0)).secMod (fun x => { x with chal := some (List.replicate 32 0) }), s.pending⟩) ∧
      (mayUnlock → exec (.dbgResp key sig) s = .next
        ⟨(go 0x21 []).secMod (fun x => { x with resp := some (key, sig) }), s.pending⟩) ∧
      (¬mayUnlock → exec (.dbgResp key sig) s = .next ⟨go 0xFF [], s.pending⟩) ∧
      (d.sec.resp = none → exec .dbgRespVerified s = .next s) ∧
      (d.live = true → d.sec.resp = some (key, sig) →
        let e := d.secMod (fun x => { x with resp := none })
        let zero := ∃ c, d.sec.chal = some c ∧ ∀ b ∈ c, b = 0
        let good := d.sec.keyHash = some (sha256 key) ∧
          ∃ c, d.sec.chal = some c ∧ slhVerify slh128s key ([0, 8, 0x59, 0x4C, 0x44, 0x45, 0x42, 0x55, 0x47, 0x31] ++ c) sig = true
        (d.rb Reg.SEC_STAT 26 = false ∨ zero → exec .dbgRespVerified s = .next ⟨e, s.pending⟩) ∧
        (d.rb Reg.SEC_STAT 26 = true → ¬ zero → good → exec .dbgRespVerified s = .next
          ⟨(e.secMod (fun x => { x with key := none, deriv := false, barred := true })).wb Reg.SEC_STAT 27 true, s.pending⟩) ∧
        (d.rb Reg.SEC_STAT 26 = true → ¬ zero → ¬good → exec .dbgRespVerified s = .next ⟨e.tamper 5, s.pending⟩)) ∧
      (d.rb Reg.SEC_STAT 27 = false → exec (.dbgAccess w addr v) s = .next ⟨(go 0xFF []).tamper 5, s.pending⟩) ∧
      (d.rb Reg.SEC_STAT 27 = true → w = true →
        let barred := d.dstate.writeOk = false ∨ d.rb Reg.BIST_STAT 31 = true
        let takes := stagingOk addr 4 = true ∧ d.attOverlap addr 4 = false ∧ d.poisonedPart addr 4 = false
        let r := d.writeReg 4 addr v
        (barred → exec (.dbgAccess w addr v) s = .next ⟨go 0x22 [], s.pending⟩) ∧
        (¬ barred → occupied addr = true → exec (.dbgAccess w addr v) s = .next
          ⟨({ r.1 with wstat := r.2 } : Dev).tapGo 0x22 [], s.pending⟩) ∧
        (¬ barred → occupied addr = false → takes → exec (.dbgAccess w addr v) s = .next
          ⟨((d.mwrite addr (beBytes 4 v.toNat)).unpoison addr 4).tapGo 0x22 [], s.pending⟩) ∧
        (¬ barred → occupied addr = false → ¬ takes → exec (.dbgAccess w addr v) s = .next ⟨go 0x22 [], s.pending⟩)) ∧
      (d.rb Reg.SEC_STAT 27 = true → w = false →
        let store := ∃ i < 16, addr = Reg.SEC_KS i
        let reads := memReadStatus 4 addr 4 = stOk ∧ d.bistUnit ≠ some 5 ∧ d.poisoned addr 4 = false
        let r := d.readReg 4 addr
        (d.dstate.readOk = false → exec (.dbgAccess w addr v) s = .next ⟨go 0x22 [], s.pending⟩) ∧
        (d.dstate.readOk = true → occupied addr = true → store ∨ d.isolated addr = true →
          exec (.dbgAccess w addr v) s = .next ⟨go 0x22 [], s.pending⟩) ∧
        (d.dstate.readOk = true → occupied addr = true → ¬ store → d.isolated addr = false →
          exec (.dbgAccess w addr v) s = .next ⟨r.1.tapGo 0x22 (beBytes 4 r.2.toNat), s.pending⟩) ∧
        (d.dstate.readOk = true → occupied addr = false → reads →
          exec (.dbgAccess w addr v) s = .next ⟨go 0x22 (d.mread addr 4), s.pending⟩) ∧
        (d.dstate.readOk = true → occupied addr = false → ¬ reads →
          exec (.dbgAccess w addr v) s = .next ⟨go 0x22 [], s.pending⟩)))

/-- R417–R420, R422: BIST_UNIT_COMPLETE and REPAIR_PROGRAM_END. The model's own: spares after a failed retest, NO_LINK and the link of the
AX (log entry 22), the signature of the ROM (153). -/
def Obligations.BistUnitsAndFusedRepair : Prop :=
  ∀ (s : State) (o : BistOut) (ok : Bool) (n : Nat), s.dev.live = true →
    let d := s.dev
    (d.sec.bist = none ∨ (∃ r, d.sec.bist = some r ∧ r.todo = []) → exec (.bistUnitComplete o) s = .next s) ∧
    (∀ r u l, d.sec.bist = some r → r.todo = u :: l →
      let logic := [0, 1, 4, 6, 7, 0xB, 0xC, 0xD, 0xE].contains u
      let mem := [2, 3, 5, 8, 9, 0xB].contains u
      let failed := ((logic || mem) && o.sig != 0) || ((u == 0xA || u == 0xB) && o.found)
      let lines : Option (List Spare) := if mem && failed then o.repair.map (fun l => l.map (fun x => ⟨u, x.1, x.2⟩)) else none
      let fits (l : List Spare) : Bool :=
        !l.isEmpty && l.all (fun x => decide ((d.sec.soft ++ d.sec.fused ++ l).count x ≤ spares x.unit x.bank x.col))
      let taken : List Spare := match lines with | some l => if r.repair && fits l then l else [] | none => []
      let res : Nat := if !failed then 0 else match lines with
        | none => 1
        | some l => if !r.repair then 1 else if !fits l then 3 else if o.retestOk then 2 else 1
      let soft := d.secMod (fun x => { x with soft := x.soft ++ taken })
      let counted := (soft.wf (Reg.BIST_U_RES u) 28 4 res).wsat (Reg.BIST_U_RES u) 0 16
      let sig := if logic then romSignature u ^^^ o.sig else o.sig
      let shown := (((counted.rset (Reg.BIST_U_SIG u) sig).rset (Reg.BIST_U_FADDR u) (o.faddr &&& 0x03FFFFFF)).wf
        (Reg.BIST_U_FBIT u) 0 7 o.fbit).wb Reg.BIST_STAT u true
      let stored := if u = 7 then (shown.wb Reg.SEC_STAT 26 o.entOk).occIf (!o.entOk) 0x0214 0 else shown
      let next (e : Dev) (b : Nat) : Host.Outcome State Fault Refusal :=
        .next ⟨((e.reinit u r.split).ev 0x05).bistNext { r with ran := r.ran + 2 ^ u, bad := r.bad + b } l, s.pending⟩
      (res ≠ 0 → exec (.bistUnitComplete o) s = next (stored.occ 0x0F01 u) (2 ^ u)) ∧
      (res = 0 → exec (.bistUnitComplete o) s = next stored 0)) ∧
    (∀ b < 4, spares 5 b false = 8 ∧ spares 5 b true = 4) ∧
    (∀ u, u = 2 ∨ u = 3 → spares u 0 false = 4 ∧ spares u 0 true = 2) ∧ spares 0xB 0 false = 2 ∧
    (∀ (e : Dev) r, e.bistNext r [] = e.bistEnd { r with todo := [] }) ∧
    (∀ (e : Dev) r u l, (e.noLink u = true →
        e.bistNext r (u :: l) = (e.wf (Reg.BIST_U_RES u) 28 4 4).bistNext { r with bad := r.bad + 2 ^ u } l) ∧
      (e.noLink u = false → e.bistNext r (u :: l) =
        (((e.bistKeyClear).wf Reg.BIST_STAT 24 4 u).secMod (fun x => { x with bist := some { r with todo := u :: l } })).isolate u)) ∧
    (∀ e : Dev, (e.noLink 0xB = true ↔ e.laneUp 12 = false ∨ e.laneUp 13 = false) ∧
      (e.noLink 0xC = true ↔ ∃ m < 12, e.inTopo (m / 3) = true ∧ e.laneUp m = false) ∧
      (e.noLink 0xD = true ↔ e.boot.axLink = false) ∧ (∀ u, u ≠ 0xB → u ≠ 0xC → u ≠ 0xD → e.noLink u = false)) ∧
    (d.sec.fuseRun = none → exec (.repairProgramEnd ok n) s = .next s) ∧
    (∀ u, d.sec.fuseRun = some u →
      let all := d.sec.soft.filter (fun y => y.unit == u)
      let m := if ok then all.length else min n all.length
      let e := d.secMod (fun x => { x with
        fuseRun := none
        soft := d.sec.soft.filter (fun y => y.unit != u) ++ all.drop m
        fused := x.fused ++ all.take m })
      (ok = true → exec (.repairProgramEnd ok n) s = .next
        ⟨({ e with boot := { e.boot with resetDue := true } } : Dev).completeRun (fun c => c.op == 0x43) stOk (e.fuseBytes u m 0),
          s.pending⟩) ∧
      (ok = false → exec (.repairProgramEnd ok n) s = .next
        ⟨(e.occ 0x0F04 0).completeRun (fun c => c.op == 0x43) stCrc (e.fuseBytes u m 3), s.pending⟩))

/-- R427, R428, R430–R432: SENSOR_DEMAND, SENSOR_CONVERSION_END and THROTTLE_INTERVAL. The model's own: sensors and EN (log entry 24),
links of a sensor (51), the levels (56), the frame that carries a result (154). -/
def Obligations.SensorsLevelsAndThrottling : Prop :=
  ∀ (s : State) (n a : Nat) (t : Option Int), s.dev.live = true → n < 38 → a < 4 →
    let d := s.dev
    let asked := n < 30 ∧ d.rb (Reg.THERM_S_CFG n) 31 = true ∧ d.rf (Reg.THERM_S_CFG n) 0 10 ≠ 0 ∧ d.committed = true ∧
      tget d.therm.demAt n + d.rf (Reg.THERM_S_CFG n) 0 10 * msTicks ≤ d.now
    let dem := d.thermMod (fun x => { x with demAt := tset x.demAt n d.now })
    let freed := d.thermMod (fun x => { x with busy := adel x.busy n })
    let lanes : List Nat := if n = 16 then [12, 13] else if 17 ≤ n ∧ n ≤ 28 then [n - 17] else []
    let onWay := ∃ l ∈ lanes, (tget d.link l).temp ≠ none
    let here (e : Dev) (x : Option Int) : Host.Outcome State Fault Refusal :=
      let f := e.tempResult n x
      .next ⟨f.completeRun (fun c => c.op == 0x32 && beAt c.payload 0 1 == n) stOk (f.thermBytes n), s.pending⟩
    let most := d.rf Reg.THERM_CFG 0 5
    let due := tget d.therm.thrAt a + d.rf Reg.THERM_CFG 16 14 * msTicks ≤ d.now
    let timed := d.thermMod (fun x => { x with thrAt := tset x.thrAt a d.now })
    (asked → (aget d.therm.busy n).isSome = true ∨ onWay → exec (.sensorDemand n) s = .next ⟨dem, s.pending⟩) ∧
    (asked → aget d.therm.busy n = none → ¬ onWay → exec (.sensorDemand n) s = .next
      ⟨dem.thermMod (fun x => { x with busy := aput x.busy n d.now }), s.pending⟩) ∧
    (¬asked → exec (.sensorDemand n) s = .next s) ∧
    (aget d.therm.busy n = none ∨ (∃ b, aget d.therm.busy n = some b ∧ d.now < b + 20 * usTicks) →
      exec (.sensorConversionEnd n t) s = .next s) ∧
    (∀ b, aget d.therm.busy n = some b → b + 20 * usTicks ≤ d.now →
      (freed.sensorLink n = false → exec (.sensorConversionEnd n t) s = here freed none) ∧
      (freed.sensorLink n = true → lanes = [] → exec (.sensorConversionEnd n t) s = here freed t) ∧
      (freed.sensorLink n = true → lanes ≠ [] → exec (.sensorConversionEnd n t) s = .next
        ⟨lanes.foldl (fun e l => { e with link := tmod e.link l (fun x => { x with temp := some t }) }) freed, s.pending⟩)) ∧
    (∀ e : Dev, e.tempResult n none = ((e.wmod (Reg.THERM_S_VAL n) 16 8).wb (Reg.THERM_S_VAL n) 31 false).occ 0x1004 n) ∧
    (∀ (e : Dev) (x : Int) (l : Nat), 1 ≤ l → l ≤ 3 → e.level n < l → (∃ th, e.threshold n l = some th ∧ th ≤ x) →
      l ≤ e.levelOf n x) ∧
    (∀ (e : Dev) (x th : Int) (l : Nat), e.level n = l + 1 → l < 3 → e.threshold n (l + 1) = some th →
      th - 10 * e.rf (Reg.THERM_S_TH n) 0 4 ≤ x → l + 1 ≤ e.levelOf n x) ∧
    (∀ (e : Dev) (l : Nat), e.level n = l → e.setLevel n l = e) ∧
    (∀ (e : Dev) (l : Nat), e.level n ≠ l →
      let u := ((e.wf (Reg.THERM_LVL (n / 16)) (2 * (n % 16)) 2 l).ev 0xFA).occIf (decide (e.level n = 0)) 0x1001 n
      e.setLevel n l = [0, 1, 2, 3].foldl Dev.throttle
        ((u.lvlSet (decide (2 ≤ l)) 0x1002 n).lvlSet (decide (3 ≤ l)) 0x1003 n)) ∧
    (¬ due → exec (.throttleInterval a) s = .next s) ∧
    (due → d.throttled a = true → d.steps a = min (d.steps a + 1) most →
      exec (.throttleInterval a) s = .next ⟨timed, s.pending⟩) ∧
    (due → d.throttled a = true → d.steps a ≠ min (d.steps a + 1) most → exec (.throttleInterval a) s = .next
      ⟨(timed.wf Reg.THERM_THROT (8 * a) 5 (min (d.steps a + 1) most)).ev 0xFB, s.pending⟩) ∧
    (due → d.throttled a = false → d.steps a = 0 → exec (.throttleInterval a) s = .next ⟨timed, s.pending⟩) ∧
    (due → d.throttled a = false → d.steps a ≠ 0 → exec (.throttleInterval a) s = .next
      ⟨(timed.wf Reg.THERM_THROT (8 * a) 5 (d.steps a - 1)).ev 0xFB, s.pending⟩)

/-- R45, R434–R436, R445: PRESERVE_TURN_START and PRESERVE_PROGRAM_END. The model's own: the wait of monitor 0x11 (log entry 25), the rows
of the log's programs (53), the low `VDD_IO` (92, 102), the level of nRESET (138). -/
def Obligations.PreserveTurnsAndPrograms : Prop :=
  ∀ (s : State) (ok : Bool),
    let d := s.dev
    let fin (u : Dev) : Dev := match u.boot.waiting with
      | some c => if u.prs.cur.isSome || u.prs.logRun.isSome || u.power.nResetLow then u else u.enterBoot c
      | none => u
    let cut (u : Dev) : Dev := if u.live || (u.prs.logRun.map (·.again)).getD false then u
      else u.prsMod (fun p => { p with log := [], logRun := none })
    (d.live = true → (d.prs.cur.isSome = true ∨ d.prs.pend = []) → exec .preserveTurnStart s = .next s) ∧
    (∀ w, d.live = true → d.prs.cur = none → nextWrite d.prs.pend = some w →
      let e := d.prsMod (fun p => { p with pend := p.pend.filter (fun x => x.word != w.word) })
      let dead := d.dstate = .lockout
      w ∈ d.prs.pend ∧ (∀ x ∈ d.prs.pend, w.deadline ≤ x.deadline) ∧
      (dead → exec .preserveTurnStart s = .next ⟨e.laneDone w stState, s.pending⟩) ∧
      (¬dead → e.pword w.word = w.val → exec .preserveTurnStart s = .next ⟨e.laneDone w stOk, s.pending⟩) ∧
      (¬dead → e.pword w.word ≠ w.val → e.worn w.word = true →
        exec .preserveTurnStart s = .next ⟨(e.occ 0x1102 0).laneDone w stWorn, s.pending⟩) ∧
      (¬dead → e.pword w.word ≠ w.val → e.worn w.word = false → d.power.vddIoLow = true →
        exec .preserveTurnStart s = .next ⟨e.laneDone w stState, s.pending⟩) ∧
      (¬dead → e.pword w.word ≠ w.val → e.worn w.word = false → d.power.vddIoLow = false →
        exec .preserveTurnStart s = .next ⟨e.prsMod
          (fun p => { p with cur := some w, curAt := d.now, again := false, wait := e.laneWait w }), s.pending⟩)) ∧
    (d.prs.cur = none → exec (.preserveProgramEnd false ok) s = .next ⟨fin d, s.pending⟩) ∧
    (∀ w, d.prs.cur = some w →
      let e := d.setWear w.word (d.wear w.word + d.wearUnit)
      let freed := e.prsMod (fun p => { p with cur := none, again := false })
      (ok = true → exec (.preserveProgramEnd false ok) s = .next
        ⟨fin (((freed.setWord w.word w.val).hlt 0x11 0 (freed.prs.wait : Nat)).laneDone w stOk), s.pending⟩) ∧
      (ok = false → d.prs.again = false → exec (.preserveProgramEnd false ok) s = .next
        ⟨fin (e.prsMod (fun p => { p with again := true, curAt := d.now })), s.pending⟩) ∧
      (ok = false → d.prs.again = true → exec (.preserveProgramEnd false ok) s = .next
        ⟨fin (((freed.setWear w.word wearLimit).occ 0x1103 0).laneDone w stCrc), s.pending⟩)) ∧
    (d.prs.log = [] ∨ d.prs.logRun = none ∨ (∃ r, d.prs.logRun = some r ∧ r.busy = false) →
      exec (.preserveProgramEnd true ok) s = .next ⟨fin (cut d), s.pending⟩) ∧
    (∀ x rest r, d.prs.log = x :: rest → d.prs.logRun = some r → r.busy = true →
      let i := (x.getD 0 0).toNat % 256
      let w := 0x400 + 4 * i + r.done
      let e := d.setWear w (d.wear w + d.wearUnit)
      let f := e.setWord w (x.getD r.done 0)
      let above := ((x.getD 0 0).toNat + 2 ^ 32 - (f.pword 0x3F2).toNat) % 2 ^ 32 < 2 ^ 31
      (ok = true → r.done < 3 → exec (.preserveProgramEnd true ok) s = .next
        ⟨fin (cut (f.prsMod (fun p => { p with logRun := some ⟨r.done + 1, !f.power.vddIoLow, false⟩ }))), s.pending⟩) ∧
      (ok = true → 3 ≤ r.done → above → exec (.preserveProgramEnd true ok) s = .next
        ⟨fin (cut ((f.rgrMod (fun g => { g with logNew := some i })).logNext)), s.pending⟩) ∧
      (ok = true → 3 ≤ r.done → ¬ above → exec (.preserveProgramEnd true ok) s = .next ⟨fin (cut f.logNext), s.pending⟩) ∧
      (ok = false → r.again = false → exec (.preserveProgramEnd true ok) s = .next
        ⟨fin (cut (e.prsMod (fun p => { p with logRun := some { r with again := true } }))), s.pending⟩) ∧
      (ok = false → r.again = true → exec (.preserveProgramEnd true ok) s = .next
        ⟨fin (cut ((e.occ 0x0D03 0).logNext)), s.pending⟩))
end

