-- ==== Sys2Proof/Laws/State.lean ====
section
/-! SUPPORT. What the shared operations of Machine/Ops.lean leave of the device: every field but the one they write. `State.run` by
whether the device runs. -/

namespace Sys2Proof.Machine

/-- A command of a running device has its effect, and the queue stays. -/
theorem State.run_live {s : State} {f : Dev → Dev} (h : s.dev.live = true) : s.run f = .next { s with dev := f s.dev } := by
  simp [State.run, h]

/-- A command of a device that does not run has none. -/
theorem State.run_still {s : State} {f : Dev → Dev} (h : s.dev.live = false) : s.run f = .next s := by simp [State.run, h]

/-- Either way the outcome is a next state with the same queue. -/
theorem State.run_next (s : State) (f : Dev → Dev) : ∃ d, s.run f = .next ⟨d, s.pending⟩ := by
  unfold State.run
  split
  · exact ⟨_, rfl⟩
  · exact ⟨s.dev, rfl⟩

/-- A fold of operations that keep a view of the device keeps it. -/
theorem foldl_view {α β : Type} (g : Dev → β) (f : Dev → α → Dev) (h : ∀ d x, g (f d x) = g d) :
    ∀ (l : List α) (d : Dev), g (l.foldl f d) = g d
  | [], _ => rfl
  | x :: l, d => (foldl_view g f h l (f d x)).trans (h d x)

/-- `Dev.rset` writes `regs` only. -/
@[simp] theorem Dev.rset_keeps (d : Dev) (a : Nat) (v : Word) :
    (d.rset a v).now = d.now ∧ (d.rset a v).freeCtr = d.freeCtr ∧ (d.rset a v).power = d.power ∧ (d.rset a v).pins = d.pins ∧
    (d.rset a v).dstate = d.dstate ∧ (d.rset a v).ax = d.ax ∧ (d.rset a v).axCause = d.axCause ∧ (d.rset a v).sram = d.sram ∧
    (d.rset a v).poison = d.poison ∧ (d.rset a v).events = d.events ∧ (d.rset a v).topo = d.topo ∧ (d.rset a v).clk = d.clk ∧
    (d.rset a v).pwm = d.pwm ∧ (d.rset a v).chan = d.chan ∧ (d.rset a v).sw = d.sw ∧ (d.rset a v).link = d.link ∧
    (d.rset a v).diag = d.diag ∧ (d.rset a v).sup = d.sup ∧ (d.rset a v).swIn = d.swIn ∧ (d.rset a v).regs0 = d.regs0 ∧
    (d.rset a v).hwSet = d.hwSet ∧ (d.rset a v).written = d.written ∧ (d.rset a v).conv = d.conv ∧ (d.rset a v).sar = d.sar ∧
    (d.rset a v).fld = d.fld ∧ (d.rset a v).pos = d.pos ∧ (d.rset a v).flt = d.flt ∧ (d.rset a v).ce = d.ce ∧
    (d.rset a v).dcl = d.dcl ∧ (d.rset a v).aux = d.aux ∧ (d.rset a v).safe = d.safe ∧ (d.rset a v).therm = d.therm ∧
    (d.rset a v).img = d.img ∧ (d.rset a v).port = d.port ∧ (d.rset a v).hosts = d.hosts ∧ (d.rset a v).can = d.can ∧
    (d.rset a v).cport = d.cport ∧ (d.rset a v).prs = d.prs ∧ (d.rset a v).sec = d.sec ∧ (d.rset a v).tap = d.tap ∧
    (d.rset a v).boot = d.boot ∧ (d.rset a v).rgr = d.rgr ∧ (d.rset a v).wstat = d.wstat := by
  repeat' apply And.intro
  all_goals rfl

/-- `Dev.wf` writes `regs` only. -/
@[simp] theorem Dev.wf_keeps (d : Dev) (a lo w x : Nat) :
    (d.wf a lo w x).now = d.now ∧ (d.wf a lo w x).freeCtr = d.freeCtr ∧ (d.wf a lo w x).power = d.power ∧
    (d.wf a lo w x).pins = d.pins ∧ (d.wf a lo w x).dstate = d.dstate ∧ (d.wf a lo w x).ax = d.ax ∧
    (d.wf a lo w x).axCause = d.axCause ∧ (d.wf a lo w x).sram = d.sram ∧ (d.wf a lo w x).poison = d.poison ∧
    (d.wf a lo w x).events = d.events ∧ (d.wf a lo w x).topo = d.topo ∧ (d.wf a lo w x).clk = d.clk ∧
    (d.wf a lo w x).pwm = d.pwm ∧ (d.wf a lo w x).chan = d.chan ∧ (d.wf a lo w x).sw = d.sw ∧ (d.wf a lo w x).link = d.link ∧
    (d.wf a lo w x).diag = d.diag ∧ (d.wf a lo w x).sup = d.sup ∧ (d.wf a lo w x).swIn = d.swIn ∧
    (d.wf a lo w x).regs0 = d.regs0 ∧ (d.wf a lo w x).hwSet = d.hwSet ∧ (d.wf a lo w x).written = d.written ∧
    (d.wf a lo w x).conv = d.conv ∧ (d.wf a lo w x).sar = d.sar ∧ (d.wf a lo w x).fld = d.fld ∧ (d.wf a lo w x).pos = d.pos ∧
    (d.wf a lo w x).flt = d.flt ∧ (d.wf a lo w x).ce = d.ce ∧ (d.wf a lo w x).dcl = d.dcl ∧ (d.wf a lo w x).aux = d.aux ∧
    (d.wf a lo w x).safe = d.safe ∧ (d.wf a lo w x).therm = d.therm ∧ (d.wf a lo w x).img = d.img ∧
    (d.wf a lo w x).port = d.port ∧ (d.wf a lo w x).hosts = d.hosts ∧ (d.wf a lo w x).can = d.can ∧
    (d.wf a lo w x).cport = d.cport ∧ (d.wf a lo w x).prs = d.prs ∧ (d.wf a lo w x).sec = d.sec ∧
    (d.wf a lo w x).tap = d.tap ∧ (d.wf a lo w x).boot = d.boot ∧ (d.wf a lo w x).rgr = d.rgr ∧
    (d.wf a lo w x).wstat = d.wstat := by
  repeat' apply And.intro
  all_goals rfl

/-- `Dev.wb` writes `regs` only. -/
@[simp] theorem Dev.wb_keeps (d : Dev) (a i : Nat) (b : Bool) :
    (d.wb a i b).now = d.now ∧ (d.wb a i b).freeCtr = d.freeCtr ∧ (d.wb a i b).power = d.power ∧ (d.wb a i b).pins = d.pins ∧
    (d.wb a i b).dstate = d.dstate ∧ (d.wb a i b).ax = d.ax ∧ (d.wb a i b).axCause = d.axCause ∧ (d.wb a i b).sram = d.sram ∧
    (d.wb a i b).poison = d.poison ∧ (d.wb a i b).events = d.events ∧ (d.wb a i b).topo = d.topo ∧ (d.wb a i b).clk = d.clk ∧
    (d.wb a i b).pwm = d.pwm ∧ (d.wb a i b).chan = d.chan ∧ (d.wb a i b).sw = d.sw ∧ (d.wb a i b).link = d.link ∧
    (d.wb a i b).diag = d.diag ∧ (d.wb a i b).sup = d.sup ∧ (d.wb a i b).swIn = d.swIn ∧ (d.wb a i b).regs0 = d.regs0 ∧
    (d.wb a i b).written = d.written ∧ (d.wb a i b).conv = d.conv ∧ (d.wb a i b).sar = d.sar ∧ (d.wb a i b).fld = d.fld ∧
    (d.wb a i b).pos = d.pos ∧ (d.wb a i b).flt = d.flt ∧ (d.wb a i b).ce = d.ce ∧ (d.wb a i b).dcl = d.dcl ∧
    (d.wb a i b).aux = d.aux ∧ (d.wb a i b).safe = d.safe ∧ (d.wb a i b).therm = d.therm ∧ (d.wb a i b).img = d.img ∧
    (d.wb a i b).port = d.port ∧ (d.wb a i b).hosts = d.hosts ∧ (d.wb a i b).can = d.can ∧ (d.wb a i b).cport = d.cport ∧
    (d.wb a i b).prs = d.prs ∧ (d.wb a i b).sec = d.sec ∧ (d.wb a i b).tap = d.tap ∧ (d.wb a i b).boot = d.boot ∧
    (d.wb a i b).rgr = d.rgr ∧ (d.wb a i b).wstat = d.wstat := by
  repeat' apply And.intro
  all_goals rfl

/-- `Dev.wsat` writes `regs` only. -/
@[simp] theorem Dev.wsat_keeps (d : Dev) (a lo w : Nat) :
    (d.wsat a lo w).now = d.now ∧ (d.wsat a lo w).freeCtr = d.freeCtr ∧ (d.wsat a lo w).power = d.power ∧
    (d.wsat a lo w).pins = d.pins ∧ (d.wsat a lo w).dstate = d.dstate ∧ (d.wsat a lo w).ax = d.ax ∧
    (d.wsat a lo w).axCause = d.axCause ∧ (d.wsat a lo w).sram = d.sram ∧ (d.wsat a lo w).poison = d.poison ∧
    (d.wsat a lo w).events = d.events ∧ (d.wsat a lo w).topo = d.topo ∧ (d.wsat a lo w).clk = d.clk ∧
    (d.wsat a lo w).pwm = d.pwm ∧ (d.wsat a lo w).chan = d.chan ∧ (d.wsat a lo w).sw = d.sw ∧ (d.wsat a lo w).link = d.link ∧
    (d.wsat a lo w).diag = d.diag ∧ (d.wsat a lo w).sup = d.sup ∧ (d.wsat a lo w).swIn = d.swIn ∧
    (d.wsat a lo w).regs0 = d.regs0 ∧ (d.wsat a lo w).hwSet = d.hwSet ∧ (d.wsat a lo w).written = d.written ∧
    (d.wsat a lo w).conv = d.conv ∧ (d.wsat a lo w).sar = d.sar ∧ (d.wsat a lo w).fld = d.fld ∧ (d.wsat a lo w).pos = d.pos ∧
    (d.wsat a lo w).flt = d.flt ∧ (d.wsat a lo w).ce = d.ce ∧ (d.wsat a lo w).dcl = d.dcl ∧ (d.wsat a lo w).aux = d.aux ∧
    (d.wsat a lo w).safe = d.safe ∧ (d.wsat a lo w).therm = d.therm ∧ (d.wsat a lo w).img = d.img ∧
    (d.wsat a lo w).port = d.port ∧ (d.wsat a lo w).hosts = d.hosts ∧ (d.wsat a lo w).can = d.can ∧
    (d.wsat a lo w).cport = d.cport ∧ (d.wsat a lo w).prs = d.prs ∧ (d.wsat a lo w).sec = d.sec ∧
    (d.wsat a lo w).tap = d.tap ∧ (d.wsat a lo w).boot = d.boot ∧ (d.wsat a lo w).rgr = d.rgr ∧
    (d.wsat a lo w).wstat = d.wstat := by
  repeat' apply And.intro
  all_goals rfl

/-- `Dev.wmod` writes `regs` only. -/
@[simp] theorem Dev.wmod_keeps (d : Dev) (a lo w : Nat) :
    (d.wmod a lo w).now = d.now ∧ (d.wmod a lo w).freeCtr = d.freeCtr ∧ (d.wmod a lo w).power = d.power ∧
    (d.wmod a lo w).pins = d.pins ∧ (d.wmod a lo w).dstate = d.dstate ∧ (d.wmod a lo w).ax = d.ax ∧
    (d.wmod a lo w).axCause = d.axCause ∧ (d.wmod a lo w).sram = d.sram ∧ (d.wmod a lo w).poison = d.poison ∧
    (d.wmod a lo w).events = d.events ∧ (d.wmod a lo w).topo = d.topo ∧ (d.wmod a lo w).clk = d.clk ∧
    (d.wmod a lo w).pwm = d.pwm ∧ (d.wmod a lo w).chan = d.chan ∧ (d.wmod a lo w).sw = d.sw ∧ (d.wmod a lo w).link = d.link ∧
    (d.wmod a lo w).diag = d.diag ∧ (d.wmod a lo w).sup = d.sup ∧ (d.wmod a lo w).swIn = d.swIn ∧
    (d.wmod a lo w).regs0 = d.regs0 ∧ (d.wmod a lo w).hwSet = d.hwSet ∧ (d.wmod a lo w).written = d.written ∧
    (d.wmod a lo w).conv = d.conv ∧ (d.wmod a lo w).sar = d.sar ∧ (d.wmod a lo w).fld = d.fld ∧ (d.wmod a lo w).pos = d.pos ∧
    (d.wmod a lo w).flt = d.flt ∧ (d.wmod a lo w).ce = d.ce ∧ (d.wmod a lo w).dcl = d.dcl ∧ (d.wmod a lo w).aux = d.aux ∧
    (d.wmod a lo w).safe = d.safe ∧ (d.wmod a lo w).therm = d.therm ∧ (d.wmod a lo w).img = d.img ∧
    (d.wmod a lo w).port = d.port ∧ (d.wmod a lo w).hosts = d.hosts ∧ (d.wmod a lo w).can = d.can ∧
    (d.wmod a lo w).cport = d.cport ∧ (d.wmod a lo w).prs = d.prs ∧ (d.wmod a lo w).sec = d.sec ∧
    (d.wmod a lo w).tap = d.tap ∧ (d.wmod a lo w).boot = d.boot ∧ (d.wmod a lo w).rgr = d.rgr ∧
    (d.wmod a lo w).wstat = d.wstat := by
  repeat' apply And.intro
  all_goals rfl

/-- `Dev.rmod` writes `regs` only. -/
@[simp] theorem Dev.rmod_keeps (d : Dev) (a : Nat) (f : Word → Word) :
    (d.rmod a f).now = d.now ∧ (d.rmod a f).freeCtr = d.freeCtr ∧ (d.rmod a f).power = d.power ∧ (d.rmod a f).pins = d.pins ∧
    (d.rmod a f).dstate = d.dstate ∧ (d.rmod a f).ax = d.ax ∧ (d.rmod a f).axCause = d.axCause ∧ (d.rmod a f).sram = d.sram ∧
    (d.rmod a f).poison = d.poison ∧ (d.rmod a f).events = d.events ∧ (d.rmod a f).topo = d.topo ∧ (d.rmod a f).clk = d.clk ∧
    (d.rmod a f).pwm = d.pwm ∧ (d.rmod a f).chan = d.chan ∧ (d.rmod a f).sw = d.sw ∧ (d.rmod a f).link = d.link ∧
    (d.rmod a f).diag = d.diag ∧ (d.rmod a f).sup = d.sup ∧ (d.rmod a f).swIn = d.swIn ∧ (d.rmod a f).regs0 = d.regs0 ∧
    (d.rmod a f).hwSet = d.hwSet ∧ (d.rmod a f).written = d.written ∧ (d.rmod a f).conv = d.conv ∧ (d.rmod a f).sar = d.sar ∧
    (d.rmod a f).fld = d.fld ∧ (d.rmod a f).pos = d.pos ∧ (d.rmod a f).flt = d.flt ∧ (d.rmod a f).ce = d.ce ∧
    (d.rmod a f).dcl = d.dcl ∧ (d.rmod a f).aux = d.aux ∧ (d.rmod a f).safe = d.safe ∧ (d.rmod a f).therm = d.therm ∧
    (d.rmod a f).img = d.img ∧ (d.rmod a f).port = d.port ∧ (d.rmod a f).hosts = d.hosts ∧ (d.rmod a f).can = d.can ∧
    (d.rmod a f).cport = d.cport ∧ (d.rmod a f).prs = d.prs ∧ (d.rmod a f).sec = d.sec ∧ (d.rmod a f).tap = d.tap ∧
    (d.rmod a f).boot = d.boot ∧ (d.rmod a f).rgr = d.rgr ∧ (d.rmod a f).wstat = d.wstat := by
  repeat' apply And.intro
  all_goals rfl

/-- `Dev.count32` writes `regs` only. -/
@[simp] theorem Dev.count32_keeps (d : Dev) (a : Nat) :
    (d.count32 a).now = d.now ∧ (d.count32 a).freeCtr = d.freeCtr ∧ (d.count32 a).power = d.power ∧
    (d.count32 a).pins = d.pins ∧ (d.count32 a).dstate = d.dstate ∧ (d.count32 a).ax = d.ax ∧
    (d.count32 a).axCause = d.axCause ∧ (d.count32 a).sram = d.sram ∧ (d.count32 a).poison = d.poison ∧
    (d.count32 a).events = d.events ∧ (d.count32 a).topo = d.topo ∧ (d.count32 a).clk = d.clk ∧ (d.count32 a).pwm = d.pwm ∧
    (d.count32 a).chan = d.chan ∧ (d.count32 a).sw = d.sw ∧ (d.count32 a).link = d.link ∧ (d.count32 a).diag = d.diag ∧
    (d.count32 a).sup = d.sup ∧ (d.count32 a).swIn = d.swIn ∧ (d.count32 a).regs0 = d.regs0 ∧ (d.count32 a).hwSet = d.hwSet ∧
    (d.count32 a).written = d.written ∧ (d.count32 a).conv = d.conv ∧ (d.count32 a).sar = d.sar ∧ (d.count32 a).fld = d.fld ∧
    (d.count32 a).pos = d.pos ∧ (d.count32 a).flt = d.flt ∧ (d.count32 a).ce = d.ce ∧ (d.count32 a).dcl = d.dcl ∧
    (d.count32 a).aux = d.aux ∧ (d.count32 a).safe = d.safe ∧ (d.count32 a).therm = d.therm ∧ (d.count32 a).img = d.img ∧
    (d.count32 a).port = d.port ∧ (d.count32 a).hosts = d.hosts ∧ (d.count32 a).can = d.can ∧ (d.count32 a).cport = d.cport ∧
    (d.count32 a).prs = d.prs ∧ (d.count32 a).sec = d.sec ∧ (d.count32 a).tap = d.tap ∧ (d.count32 a).boot = d.boot ∧
    (d.count32 a).rgr = d.rgr ∧ (d.count32 a).wstat = d.wstat := by
  repeat' apply And.intro
  all_goals rfl

/-- `Dev.mset` writes `sram` only. -/
@[simp] theorem Dev.mset_keeps (d : Dev) (a : Nat) (b : Byte) :
    (d.mset a b).now = d.now ∧ (d.mset a b).freeCtr = d.freeCtr ∧ (d.mset a b).power = d.power ∧ (d.mset a b).pins = d.pins ∧
    (d.mset a b).dstate = d.dstate ∧ (d.mset a b).ax = d.ax ∧ (d.mset a b).axCause = d.axCause ∧ (d.mset a b).regs = d.regs ∧
    (d.mset a b).poison = d.poison ∧ (d.mset a b).events = d.events ∧ (d.mset a b).topo = d.topo ∧ (d.mset a b).clk = d.clk ∧
    (d.mset a b).pwm = d.pwm ∧ (d.mset a b).chan = d.chan ∧ (d.mset a b).sw = d.sw ∧ (d.mset a b).link = d.link ∧
    (d.mset a b).diag = d.diag ∧ (d.mset a b).sup = d.sup ∧ (d.mset a b).swIn = d.swIn ∧ (d.mset a b).regs0 = d.regs0 ∧
    (d.mset a b).hwSet = d.hwSet ∧ (d.mset a b).written = d.written ∧ (d.mset a b).conv = d.conv ∧ (d.mset a b).sar = d.sar ∧
    (d.mset a b).fld = d.fld ∧ (d.mset a b).pos = d.pos ∧ (d.mset a b).flt = d.flt ∧ (d.mset a b).ce = d.ce ∧
    (d.mset a b).dcl = d.dcl ∧ (d.mset a b).aux = d.aux ∧ (d.mset a b).safe = d.safe ∧ (d.mset a b).therm = d.therm ∧
    (d.mset a b).img = d.img ∧ (d.mset a b).port = d.port ∧ (d.mset a b).hosts = d.hosts ∧ (d.mset a b).can = d.can ∧
    (d.mset a b).cport = d.cport ∧ (d.mset a b).prs = d.prs ∧ (d.mset a b).sec = d.sec ∧ (d.mset a b).tap = d.tap ∧
    (d.mset a b).boot = d.boot ∧ (d.mset a b).rgr = d.rgr ∧ (d.mset a b).wstat = d.wstat := by
  repeat' apply And.intro
  all_goals rfl

/-- `Dev.unpoison` writes `poison` only. -/
@[simp] theorem Dev.unpoison_keeps (d : Dev) (a n : Nat) :
    (d.unpoison a n).now = d.now ∧ (d.unpoison a n).freeCtr = d.freeCtr ∧ (d.unpoison a n).power = d.power ∧
    (d.unpoison a n).pins = d.pins ∧ (d.unpoison a n).dstate = d.dstate ∧ (d.unpoison a n).ax = d.ax ∧
    (d.unpoison a n).axCause = d.axCause ∧ (d.unpoison a n).regs = d.regs ∧ (d.unpoison a n).sram = d.sram ∧
    (d.unpoison a n).events = d.events ∧ (d.unpoison a n).topo = d.topo ∧ (d.unpoison a n).clk = d.clk ∧
    (d.unpoison a n).pwm = d.pwm ∧ (d.unpoison a n).chan = d.chan ∧ (d.unpoison a n).sw = d.sw ∧
    (d.unpoison a n).link = d.link ∧ (d.unpoison a n).diag = d.diag ∧ (d.unpoison a n).sup = d.sup ∧
    (d.unpoison a n).swIn = d.swIn ∧ (d.unpoison a n).regs0 = d.regs0 ∧ (d.unpoison a n).hwSet = d.hwSet ∧
    (d.unpoison a n).written = d.written ∧ (d.unpoison a n).conv = d.conv ∧ (d.unpoison a n).sar = d.sar ∧
    (d.unpoison a n).fld = d.fld ∧ (d.unpoison a n).pos = d.pos ∧ (d.unpoison a n).flt = d.flt ∧ (d.unpoison a n).ce = d.ce ∧
    (d.unpoison a n).dcl = d.dcl ∧ (d.unpoison a n).aux = d.aux ∧ (d.unpoison a n).safe = d.safe ∧
    (d.unpoison a n).therm = d.therm ∧ (d.unpoison a n).img = d.img ∧ (d.unpoison a n).port = d.port ∧
    (d.unpoison a n).hosts = d.hosts ∧ (d.unpoison a n).can = d.can ∧ (d.unpoison a n).cport = d.cport ∧
    (d.unpoison a n).prs = d.prs ∧ (d.unpoison a n).sec = d.sec ∧ (d.unpoison a n).tap = d.tap ∧
    (d.unpoison a n).boot = d.boot ∧ (d.unpoison a n).rgr = d.rgr ∧ (d.unpoison a n).wstat = d.wstat := by
  repeat' apply And.intro
  all_goals rfl

/-- `Dev.tick1` writes `freeCtr` only. -/
@[simp] theorem Dev.tick1_keeps (d : Dev)  :
    (d.tick1).now = d.now ∧ (d.tick1).power = d.power ∧ (d.tick1).pins = d.pins ∧ (d.tick1).dstate = d.dstate ∧
    (d.tick1).ax = d.ax ∧ (d.tick1).axCause = d.axCause ∧ (d.tick1).regs = d.regs ∧ (d.tick1).sram = d.sram ∧
    (d.tick1).poison = d.poison ∧ (d.tick1).events = d.events ∧ (d.tick1).topo = d.topo ∧ (d.tick1).clk = d.clk ∧
    (d.tick1).pwm = d.pwm ∧ (d.tick1).chan = d.chan ∧ (d.tick1).sw = d.sw ∧ (d.tick1).link = d.link ∧
    (d.tick1).diag = d.diag ∧ (d.tick1).sup = d.sup ∧ (d.tick1).swIn = d.swIn ∧ (d.tick1).regs0 = d.regs0 ∧
    (d.tick1).hwSet = d.hwSet ∧ (d.tick1).written = d.written ∧ (d.tick1).conv = d.conv ∧ (d.tick1).sar = d.sar ∧
    (d.tick1).fld = d.fld ∧ (d.tick1).pos = d.pos ∧ (d.tick1).flt = d.flt ∧ (d.tick1).ce = d.ce ∧ (d.tick1).dcl = d.dcl ∧
    (d.tick1).aux = d.aux ∧ (d.tick1).safe = d.safe ∧ (d.tick1).therm = d.therm ∧ (d.tick1).img = d.img ∧
    (d.tick1).port = d.port ∧ (d.tick1).hosts = d.hosts ∧ (d.tick1).can = d.can ∧ (d.tick1).cport = d.cport ∧
    (d.tick1).prs = d.prs ∧ (d.tick1).sec = d.sec ∧ (d.tick1).tap = d.tap ∧ (d.tick1).boot = d.boot ∧ (d.tick1).rgr = d.rgr ∧
    (d.tick1).wstat = d.wstat := by
  repeat' apply And.intro
  all_goals rfl

/-- `Dev.ev` writes `events` and `ce` only. -/
@[simp] theorem Dev.ev_keeps (d : Dev) (n : Nat) :
    (d.ev n).now = d.now ∧ (d.ev n).freeCtr = d.freeCtr ∧ (d.ev n).power = d.power ∧ (d.ev n).pins = d.pins ∧
    (d.ev n).dstate = d.dstate ∧ (d.ev n).ax = d.ax ∧ (d.ev n).axCause = d.axCause ∧ (d.ev n).regs = d.regs ∧
    (d.ev n).sram = d.sram ∧ (d.ev n).poison = d.poison ∧ (d.ev n).topo = d.topo ∧ (d.ev n).clk = d.clk ∧
    (d.ev n).pwm = d.pwm ∧ (d.ev n).chan = d.chan ∧ (d.ev n).sw = d.sw ∧ (d.ev n).link = d.link ∧ (d.ev n).diag = d.diag ∧
    (d.ev n).sup = d.sup ∧ (d.ev n).swIn = d.swIn ∧ (d.ev n).regs0 = d.regs0 ∧ (d.ev n).hwSet = d.hwSet ∧
    (d.ev n).written = d.written ∧ (d.ev n).conv = d.conv ∧ (d.ev n).sar = d.sar ∧ (d.ev n).fld = d.fld ∧
    (d.ev n).pos = d.pos ∧ (d.ev n).flt = d.flt ∧ (d.ev n).dcl = d.dcl ∧ (d.ev n).aux = d.aux ∧ (d.ev n).safe = d.safe ∧
    (d.ev n).therm = d.therm ∧ (d.ev n).img = d.img ∧ (d.ev n).port = d.port ∧ (d.ev n).hosts = d.hosts ∧
    (d.ev n).can = d.can ∧ (d.ev n).cport = d.cport ∧ (d.ev n).prs = d.prs ∧ (d.ev n).sec = d.sec ∧ (d.ev n).tap = d.tap ∧
    (d.ev n).boot = d.boot ∧ (d.ev n).rgr = d.rgr ∧ (d.ev n).wstat = d.wstat := by
  repeat' apply And.intro
  all_goals rfl

/-- `Dev.evIf` writes `events` and `ce` only. -/
@[simp] theorem Dev.evIf_keeps (d : Dev) (c : Bool) (n : Nat) :
    (d.evIf c n).now = d.now ∧ (d.evIf c n).freeCtr = d.freeCtr ∧ (d.evIf c n).power = d.power ∧ (d.evIf c n).pins = d.pins ∧
    (d.evIf c n).dstate = d.dstate ∧ (d.evIf c n).ax = d.ax ∧ (d.evIf c n).axCause = d.axCause ∧ (d.evIf c n).regs = d.regs ∧
    (d.evIf c n).sram = d.sram ∧ (d.evIf c n).poison = d.poison ∧ (d.evIf c n).topo = d.topo ∧ (d.evIf c n).clk = d.clk ∧
    (d.evIf c n).pwm = d.pwm ∧ (d.evIf c n).chan = d.chan ∧ (d.evIf c n).sw = d.sw ∧ (d.evIf c n).link = d.link ∧
    (d.evIf c n).diag = d.diag ∧ (d.evIf c n).sup = d.sup ∧ (d.evIf c n).swIn = d.swIn ∧ (d.evIf c n).regs0 = d.regs0 ∧
    (d.evIf c n).hwSet = d.hwSet ∧ (d.evIf c n).written = d.written ∧ (d.evIf c n).conv = d.conv ∧ (d.evIf c n).sar = d.sar ∧
    (d.evIf c n).fld = d.fld ∧ (d.evIf c n).pos = d.pos ∧ (d.evIf c n).flt = d.flt ∧ (d.evIf c n).dcl = d.dcl ∧
    (d.evIf c n).aux = d.aux ∧ (d.evIf c n).safe = d.safe ∧ (d.evIf c n).therm = d.therm ∧ (d.evIf c n).img = d.img ∧
    (d.evIf c n).port = d.port ∧ (d.evIf c n).hosts = d.hosts ∧ (d.evIf c n).can = d.can ∧ (d.evIf c n).cport = d.cport ∧
    (d.evIf c n).prs = d.prs ∧ (d.evIf c n).sec = d.sec ∧ (d.evIf c n).tap = d.tap ∧ (d.evIf c n).boot = d.boot ∧
    (d.evIf c n).rgr = d.rgr ∧ (d.evIf c n).wstat = d.wstat := by
  repeat' apply And.intro
  all_goals cases c <;> rfl

/-- `Dev.occ` writes `flt` only. -/
@[simp] theorem Dev.occ_keeps (d : Dev) (code src : Nat) :
    (d.occ code src).now = d.now ∧ (d.occ code src).freeCtr = d.freeCtr ∧ (d.occ code src).power = d.power ∧
    (d.occ code src).pins = d.pins ∧ (d.occ code src).dstate = d.dstate ∧ (d.occ code src).ax = d.ax ∧
    (d.occ code src).axCause = d.axCause ∧ (d.occ code src).regs = d.regs ∧ (d.occ code src).sram = d.sram ∧
    (d.occ code src).poison = d.poison ∧ (d.occ code src).events = d.events ∧ (d.occ code src).topo = d.topo ∧
    (d.occ code src).clk = d.clk ∧ (d.occ code src).pwm = d.pwm ∧ (d.occ code src).chan = d.chan ∧
    (d.occ code src).sw = d.sw ∧ (d.occ code src).link = d.link ∧ (d.occ code src).diag = d.diag ∧
    (d.occ code src).sup = d.sup ∧ (d.occ code src).swIn = d.swIn ∧ (d.occ code src).regs0 = d.regs0 ∧
    (d.occ code src).hwSet = d.hwSet ∧ (d.occ code src).written = d.written ∧ (d.occ code src).conv = d.conv ∧
    (d.occ code src).sar = d.sar ∧ (d.occ code src).fld = d.fld ∧ (d.occ code src).pos = d.pos ∧ (d.occ code src).ce = d.ce ∧
    (d.occ code src).dcl = d.dcl ∧ (d.occ code src).aux = d.aux ∧ (d.occ code src).safe = d.safe ∧
    (d.occ code src).therm = d.therm ∧ (d.occ code src).img = d.img ∧ (d.occ code src).port = d.port ∧
    (d.occ code src).hosts = d.hosts ∧ (d.occ code src).can = d.can ∧ (d.occ code src).cport = d.cport ∧
    (d.occ code src).prs = d.prs ∧ (d.occ code src).sec = d.sec ∧ (d.occ code src).tap = d.tap ∧
    (d.occ code src).boot = d.boot ∧ (d.occ code src).rgr = d.rgr ∧ (d.occ code src).wstat = d.wstat := by
  repeat' apply And.intro
  all_goals rfl

/-- `Dev.occIf` writes `flt` only. -/
@[simp] theorem Dev.occIf_keeps (d : Dev) (c : Bool) (code src : Nat) :
    (d.occIf c code src).now = d.now ∧ (d.occIf c code src).freeCtr = d.freeCtr ∧ (d.occIf c code src).power = d.power ∧
    (d.occIf c code src).pins = d.pins ∧ (d.occIf c code src).dstate = d.dstate ∧ (d.occIf c code src).ax = d.ax ∧
    (d.occIf c code src).axCause = d.axCause ∧ (d.occIf c code src).regs = d.regs ∧ (d.occIf c code src).sram = d.sram ∧
    (d.occIf c code src).poison = d.poison ∧ (d.occIf c code src).events = d.events ∧ (d.occIf c code src).topo = d.topo ∧
    (d.occIf c code src).clk = d.clk ∧ (d.occIf c code src).pwm = d.pwm ∧ (d.occIf c code src).chan = d.chan ∧
    (d.occIf c code src).sw = d.sw ∧ (d.occIf c code src).link = d.link ∧ (d.occIf c code src).diag = d.diag ∧
    (d.occIf c code src).sup = d.sup ∧ (d.occIf c code src).swIn = d.swIn ∧ (d.occIf c code src).regs0 = d.regs0 ∧
    (d.occIf c code src).hwSet = d.hwSet ∧ (d.occIf c code src).written = d.written ∧ (d.occIf c code src).conv = d.conv ∧
    (d.occIf c code src).sar = d.sar ∧ (d.occIf c code src).fld = d.fld ∧ (d.occIf c code src).pos = d.pos ∧
    (d.occIf c code src).ce = d.ce ∧ (d.occIf c code src).dcl = d.dcl ∧ (d.occIf c code src).aux = d.aux ∧
    (d.occIf c code src).safe = d.safe ∧ (d.occIf c code src).therm = d.therm ∧ (d.occIf c code src).img = d.img ∧
    (d.occIf c code src).port = d.port ∧ (d.occIf c code src).hosts = d.hosts ∧ (d.occIf c code src).can = d.can ∧
    (d.occIf c code src).cport = d.cport ∧ (d.occIf c code src).prs = d.prs ∧ (d.occIf c code src).sec = d.sec ∧
    (d.occIf c code src).tap = d.tap ∧ (d.occIf c code src).boot = d.boot ∧ (d.occIf c code src).rgr = d.rgr ∧
    (d.occIf c code src).wstat = d.wstat := by
  repeat' apply And.intro
  all_goals cases c <;> rfl

/-- `Dev.lvlOn` writes `flt` only. -/
@[simp] theorem Dev.lvlOn_keeps (d : Dev) (code src : Nat) :
    (d.lvlOn code src).now = d.now ∧ (d.lvlOn code src).freeCtr = d.freeCtr ∧ (d.lvlOn code src).power = d.power ∧
    (d.lvlOn code src).pins = d.pins ∧ (d.lvlOn code src).dstate = d.dstate ∧ (d.lvlOn code src).ax = d.ax ∧
    (d.lvlOn code src).axCause = d.axCause ∧ (d.lvlOn code src).regs = d.regs ∧ (d.lvlOn code src).sram = d.sram ∧
    (d.lvlOn code src).poison = d.poison ∧ (d.lvlOn code src).events = d.events ∧ (d.lvlOn code src).topo = d.topo ∧
    (d.lvlOn code src).clk = d.clk ∧ (d.lvlOn code src).pwm = d.pwm ∧ (d.lvlOn code src).chan = d.chan ∧
    (d.lvlOn code src).sw = d.sw ∧ (d.lvlOn code src).link = d.link ∧ (d.lvlOn code src).diag = d.diag ∧
    (d.lvlOn code src).sup = d.sup ∧ (d.lvlOn code src).swIn = d.swIn ∧ (d.lvlOn code src).regs0 = d.regs0 ∧
    (d.lvlOn code src).hwSet = d.hwSet ∧ (d.lvlOn code src).written = d.written ∧ (d.lvlOn code src).conv = d.conv ∧
    (d.lvlOn code src).sar = d.sar ∧ (d.lvlOn code src).fld = d.fld ∧ (d.lvlOn code src).pos = d.pos ∧
    (d.lvlOn code src).ce = d.ce ∧ (d.lvlOn code src).dcl = d.dcl ∧ (d.lvlOn code src).aux = d.aux ∧
    (d.lvlOn code src).safe = d.safe ∧ (d.lvlOn code src).therm = d.therm ∧ (d.lvlOn code src).img = d.img ∧
    (d.lvlOn code src).port = d.port ∧ (d.lvlOn code src).hosts = d.hosts ∧ (d.lvlOn code src).can = d.can ∧
    (d.lvlOn code src).cport = d.cport ∧ (d.lvlOn code src).prs = d.prs ∧ (d.lvlOn code src).sec = d.sec ∧
    (d.lvlOn code src).tap = d.tap ∧ (d.lvlOn code src).boot = d.boot ∧ (d.lvlOn code src).rgr = d.rgr ∧
    (d.lvlOn code src).wstat = d.wstat := by
  unfold Dev.lvlOn
  repeat' apply And.intro
  all_goals split <;> rfl

/-- `Dev.lvlOff` writes `flt` only. -/
@[simp] theorem Dev.lvlOff_keeps (d : Dev) (code src : Nat) :
    (d.lvlOff code src).now = d.now ∧ (d.lvlOff code src).freeCtr = d.freeCtr ∧ (d.lvlOff code src).power = d.power ∧
    (d.lvlOff code src).pins = d.pins ∧ (d.lvlOff code src).dstate = d.dstate ∧ (d.lvlOff code src).ax = d.ax ∧
    (d.lvlOff code src).axCause = d.axCause ∧ (d.lvlOff code src).regs = d.regs ∧ (d.lvlOff code src).sram = d.sram ∧
    (d.lvlOff code src).poison = d.poison ∧ (d.lvlOff code src).events = d.events ∧ (d.lvlOff code src).topo = d.topo ∧
    (d.lvlOff code src).clk = d.clk ∧ (d.lvlOff code src).pwm = d.pwm ∧ (d.lvlOff code src).chan = d.chan ∧
    (d.lvlOff code src).sw = d.sw ∧ (d.lvlOff code src).link = d.link ∧ (d.lvlOff code src).diag = d.diag ∧
    (d.lvlOff code src).sup = d.sup ∧ (d.lvlOff code src).swIn = d.swIn ∧ (d.lvlOff code src).regs0 = d.regs0 ∧
    (d.lvlOff code src).hwSet = d.hwSet ∧ (d.lvlOff code src).written = d.written ∧ (d.lvlOff code src).conv = d.conv ∧
    (d.lvlOff code src).sar = d.sar ∧ (d.lvlOff code src).fld = d.fld ∧ (d.lvlOff code src).pos = d.pos ∧
    (d.lvlOff code src).ce = d.ce ∧ (d.lvlOff code src).dcl = d.dcl ∧ (d.lvlOff code src).aux = d.aux ∧
    (d.lvlOff code src).safe = d.safe ∧ (d.lvlOff code src).therm = d.therm ∧ (d.lvlOff code src).img = d.img ∧
    (d.lvlOff code src).port = d.port ∧ (d.lvlOff code src).hosts = d.hosts ∧ (d.lvlOff code src).can = d.can ∧
    (d.lvlOff code src).cport = d.cport ∧ (d.lvlOff code src).prs = d.prs ∧ (d.lvlOff code src).sec = d.sec ∧
    (d.lvlOff code src).tap = d.tap ∧ (d.lvlOff code src).boot = d.boot ∧ (d.lvlOff code src).rgr = d.rgr ∧
    (d.lvlOff code src).wstat = d.wstat := by
  unfold Dev.lvlOff
  repeat' apply And.intro
  all_goals split <;> rfl

/-- `Dev.lvlSet` writes `flt` only. -/
@[simp] theorem Dev.lvlSet_keeps (d : Dev) (c : Bool) (code src : Nat) :
    (d.lvlSet c code src).now = d.now ∧ (d.lvlSet c code src).freeCtr = d.freeCtr ∧ (d.lvlSet c code src).power = d.power ∧
    (d.lvlSet c code src).pins = d.pins ∧ (d.lvlSet c code src).dstate = d.dstate ∧ (d.lvlSet c code src).ax = d.ax ∧
    (d.lvlSet c code src).axCause = d.axCause ∧ (d.lvlSet c code src).regs = d.regs ∧ (d.lvlSet c code src).sram = d.sram ∧
    (d.lvlSet c code src).poison = d.poison ∧ (d.lvlSet c code src).events = d.events ∧ (d.lvlSet c code src).topo = d.topo ∧
    (d.lvlSet c code src).clk = d.clk ∧ (d.lvlSet c code src).pwm = d.pwm ∧ (d.lvlSet c code src).chan = d.chan ∧
    (d.lvlSet c code src).sw = d.sw ∧ (d.lvlSet c code src).link = d.link ∧ (d.lvlSet c code src).diag = d.diag ∧
    (d.lvlSet c code src).sup = d.sup ∧ (d.lvlSet c code src).swIn = d.swIn ∧ (d.lvlSet c code src).regs0 = d.regs0 ∧
    (d.lvlSet c code src).hwSet = d.hwSet ∧ (d.lvlSet c code src).written = d.written ∧ (d.lvlSet c code src).conv = d.conv ∧
    (d.lvlSet c code src).sar = d.sar ∧ (d.lvlSet c code src).fld = d.fld ∧ (d.lvlSet c code src).pos = d.pos ∧
    (d.lvlSet c code src).ce = d.ce ∧ (d.lvlSet c code src).dcl = d.dcl ∧ (d.lvlSet c code src).aux = d.aux ∧
    (d.lvlSet c code src).safe = d.safe ∧ (d.lvlSet c code src).therm = d.therm ∧ (d.lvlSet c code src).img = d.img ∧
    (d.lvlSet c code src).port = d.port ∧ (d.lvlSet c code src).hosts = d.hosts ∧ (d.lvlSet c code src).can = d.can ∧
    (d.lvlSet c code src).cport = d.cport ∧ (d.lvlSet c code src).prs = d.prs ∧ (d.lvlSet c code src).sec = d.sec ∧
    (d.lvlSet c code src).tap = d.tap ∧ (d.lvlSet c code src).boot = d.boot ∧ (d.lvlSet c code src).rgr = d.rgr ∧
    (d.lvlSet c code src).wstat = d.wstat := by
  cases c
  · exact d.lvlOff_keeps code src
  · exact d.lvlOn_keeps code src

/-- A sample of a health monitor touches registers only. -/
theorem Dev.hltTake_view {β : Type} (g : Dev → β) (h : ∀ (d : Dev) (a : Nat) (v : Word), g (d.rset a v) = g d) (d : Dev)
    (m : Nat) (x : Int) : g (d.hltTake m x) = g d := by
  simp only [Dev.hltTake, Dev.count32, Dev.rmod, h]

/-- `Dev.hltTake` writes `regs` only. -/
@[simp] theorem Dev.hltTake_keeps (d : Dev) (m : Nat) (x : Int) :
    (d.hltTake m x).now = d.now ∧ (d.hltTake m x).freeCtr = d.freeCtr ∧ (d.hltTake m x).power = d.power ∧
    (d.hltTake m x).pins = d.pins ∧ (d.hltTake m x).dstate = d.dstate ∧ (d.hltTake m x).ax = d.ax ∧
    (d.hltTake m x).axCause = d.axCause ∧ (d.hltTake m x).sram = d.sram ∧ (d.hltTake m x).poison = d.poison ∧
    (d.hltTake m x).events = d.events ∧ (d.hltTake m x).topo = d.topo ∧ (d.hltTake m x).clk = d.clk ∧
    (d.hltTake m x).pwm = d.pwm ∧ (d.hltTake m x).chan = d.chan ∧ (d.hltTake m x).sw = d.sw ∧ (d.hltTake m x).link = d.link ∧
    (d.hltTake m x).diag = d.diag ∧ (d.hltTake m x).sup = d.sup ∧ (d.hltTake m x).swIn = d.swIn ∧
    (d.hltTake m x).regs0 = d.regs0 ∧ (d.hltTake m x).hwSet = d.hwSet ∧ (d.hltTake m x).written = d.written ∧
    (d.hltTake m x).conv = d.conv ∧ (d.hltTake m x).sar = d.sar ∧ (d.hltTake m x).fld = d.fld ∧ (d.hltTake m x).pos = d.pos ∧
    (d.hltTake m x).flt = d.flt ∧ (d.hltTake m x).ce = d.ce ∧ (d.hltTake m x).dcl = d.dcl ∧ (d.hltTake m x).aux = d.aux ∧
    (d.hltTake m x).safe = d.safe ∧ (d.hltTake m x).therm = d.therm ∧ (d.hltTake m x).img = d.img ∧
    (d.hltTake m x).port = d.port ∧ (d.hltTake m x).hosts = d.hosts ∧ (d.hltTake m x).can = d.can ∧
    (d.hltTake m x).cport = d.cport ∧ (d.hltTake m x).prs = d.prs ∧ (d.hltTake m x).sec = d.sec ∧
    (d.hltTake m x).tap = d.tap ∧ (d.hltTake m x).boot = d.boot ∧ (d.hltTake m x).rgr = d.rgr ∧
    (d.hltTake m x).wstat = d.wstat := by
  repeat' apply And.intro
  all_goals exact Dev.hltTake_view _ (fun _ _ _ => rfl) d m x

theorem Dev.hlt_view {β : Type} (g : Dev → β) (h : ∀ (d : Dev) (a : Nat) (v : Word), g (d.rset a v) = g d) (d : Dev)
    (src idx : Nat) (x : Int) : g (d.hlt src idx x) = g d := by
  unfold Dev.hlt
  refine foldl_view g _ (fun e m => ?_) _ _
  split
  · exact Dev.hltTake_view g h e m x
  · rfl

/-- `Dev.hlt` writes `regs` only. -/
@[simp] theorem Dev.hlt_keeps (d : Dev) (src idx : Nat) (x : Int) :
    (d.hlt src idx x).now = d.now ∧ (d.hlt src idx x).freeCtr = d.freeCtr ∧ (d.hlt src idx x).power = d.power ∧
    (d.hlt src idx x).pins = d.pins ∧ (d.hlt src idx x).dstate = d.dstate ∧ (d.hlt src idx x).ax = d.ax ∧
    (d.hlt src idx x).axCause = d.axCause ∧ (d.hlt src idx x).sram = d.sram ∧ (d.hlt src idx x).poison = d.poison ∧
    (d.hlt src idx x).events = d.events ∧ (d.hlt src idx x).topo = d.topo ∧ (d.hlt src idx x).clk = d.clk ∧
    (d.hlt src idx x).pwm = d.pwm ∧ (d.hlt src idx x).chan = d.chan ∧ (d.hlt src idx x).sw = d.sw ∧
    (d.hlt src idx x).link = d.link ∧ (d.hlt src idx x).diag = d.diag ∧ (d.hlt src idx x).sup = d.sup ∧
    (d.hlt src idx x).swIn = d.swIn ∧ (d.hlt src idx x).regs0 = d.regs0 ∧ (d.hlt src idx x).hwSet = d.hwSet ∧
    (d.hlt src idx x).written = d.written ∧ (d.hlt src idx x).conv = d.conv ∧ (d.hlt src idx x).sar = d.sar ∧
    (d.hlt src idx x).fld = d.fld ∧ (d.hlt src idx x).pos = d.pos ∧ (d.hlt src idx x).flt = d.flt ∧
    (d.hlt src idx x).ce = d.ce ∧ (d.hlt src idx x).dcl = d.dcl ∧ (d.hlt src idx x).aux = d.aux ∧
    (d.hlt src idx x).safe = d.safe ∧ (d.hlt src idx x).therm = d.therm ∧ (d.hlt src idx x).img = d.img ∧
    (d.hlt src idx x).port = d.port ∧ (d.hlt src idx x).hosts = d.hosts ∧ (d.hlt src idx x).can = d.can ∧
    (d.hlt src idx x).cport = d.cport ∧ (d.hlt src idx x).prs = d.prs ∧ (d.hlt src idx x).sec = d.sec ∧
    (d.hlt src idx x).tap = d.tap ∧ (d.hlt src idx x).boot = d.boot ∧ (d.hlt src idx x).rgr = d.rgr ∧
    (d.hlt src idx x).wstat = d.wstat := by
  repeat' apply And.intro
  all_goals exact Dev.hlt_view _ (fun _ _ _ => rfl) d src idx x

/-- `Dev.mwrite` writes `sram` only. -/
theorem Dev.mwrite_view {β : Type} (g : Dev → β) (h : ∀ (d : Dev) (a : Nat) (b : Byte), g (d.mset a b) = g d) :
    ∀ (bs : List Byte) (d : Dev) (a : Nat), g (d.mwrite a bs) = g d
  | [], _, _ => rfl
  | b :: bs, d, a => (Dev.mwrite_view g h bs (d.mset a b) (a + 1)).trans (h d a b)

@[simp] theorem Dev.mwrite_keeps (d : Dev) (a : Nat) (bs : List Byte) :
    (d.mwrite a bs).now = d.now ∧ (d.mwrite a bs).freeCtr = d.freeCtr ∧ (d.mwrite a bs).power = d.power ∧
    (d.mwrite a bs).pins = d.pins ∧ (d.mwrite a bs).dstate = d.dstate ∧ (d.mwrite a bs).ax = d.ax ∧
    (d.mwrite a bs).axCause = d.axCause ∧ (d.mwrite a bs).regs = d.regs ∧ (d.mwrite a bs).poison = d.poison ∧
    (d.mwrite a bs).events = d.events ∧ (d.mwrite a bs).topo = d.topo ∧ (d.mwrite a bs).clk = d.clk ∧
    (d.mwrite a bs).pwm = d.pwm ∧ (d.mwrite a bs).chan = d.chan ∧ (d.mwrite a bs).sw = d.sw ∧ (d.mwrite a bs).link = d.link ∧
    (d.mwrite a bs).diag = d.diag ∧ (d.mwrite a bs).sup = d.sup ∧ (d.mwrite a bs).swIn = d.swIn ∧
    (d.mwrite a bs).regs0 = d.regs0 ∧ (d.mwrite a bs).hwSet = d.hwSet ∧ (d.mwrite a bs).written = d.written ∧
    (d.mwrite a bs).conv = d.conv ∧ (d.mwrite a bs).sar = d.sar ∧ (d.mwrite a bs).fld = d.fld ∧ (d.mwrite a bs).pos = d.pos ∧
    (d.mwrite a bs).flt = d.flt ∧ (d.mwrite a bs).ce = d.ce ∧ (d.mwrite a bs).dcl = d.dcl ∧ (d.mwrite a bs).aux = d.aux ∧
    (d.mwrite a bs).safe = d.safe ∧ (d.mwrite a bs).therm = d.therm ∧ (d.mwrite a bs).img = d.img ∧
    (d.mwrite a bs).port = d.port ∧ (d.mwrite a bs).hosts = d.hosts ∧ (d.mwrite a bs).can = d.can ∧
    (d.mwrite a bs).cport = d.cport ∧ (d.mwrite a bs).prs = d.prs ∧ (d.mwrite a bs).sec = d.sec ∧
    (d.mwrite a bs).tap = d.tap ∧ (d.mwrite a bs).boot = d.boot ∧ (d.mwrite a bs).rgr = d.rgr ∧
    (d.mwrite a bs).wstat = d.wstat := by
  repeat' apply And.intro
  all_goals exact Dev.mwrite_view _ (fun _ _ _ => rfl) bs d a

end Sys2Proof.Machine
end

