-- ==== Sys2Proof/Laws/Tables.lean ====
section
/-! SUPPORT. The sparse tables of Machine/Ops.lean: reading back what was put, and the canonical form that every operation
keeps. -/

namespace Sys2Proof.Machine

variable {β : Type}

/-- The canonical form, as a property of pairs and of entries. -/
theorem canon_iff [DecidableEq β] (dflt : Nat → β) :
    ∀ l : List (Nat × β), canon dflt l = true ↔ l.Pairwise (fun x y => x.1 < y.1) ∧ ∀ x ∈ l, x.2 ≠ dflt x.1
  | [] => by simp [canon]
  | [(a, v)] => by simp [canon]
  | (a, v) :: (b, w) :: l => by
    have ih := canon_iff dflt ((b, w) :: l)
    simp only [canon, Bool.and_eq_true, bne_iff_ne, decide_eq_true_eq, ih, List.pairwise_cons, List.forall_mem_cons]
    constructor
    · rintro ⟨⟨hv, hab⟩, ⟨hb, hp⟩, hw, hl⟩
      refine ⟨⟨⟨hab, fun x hx => Nat.lt_trans hab (hb x hx)⟩, hb, hp⟩, hv, hw, hl⟩
    · rintro ⟨⟨⟨hab, _⟩, hb, hp⟩, hv, hw, hl⟩
      exact ⟨⟨hv, hab⟩, ⟨hb, hp⟩, hw, hl⟩

theorem adel_sublist : ∀ (l : List (Nat × β)) (k : Nat), (adel l k).Sublist l
  | [], _ => List.Sublist.refl _
  | (a, w) :: l, k => by
    by_cases h : a = k
    · simp [adel, h]
    · simpa [adel, h] using adel_sublist l k

/-- Entries of a table with one put: the new one, or an old one. -/
theorem mem_aput : ∀ (l : List (Nat × β)) (k : Nat) (v : β) (x : Nat × β), x ∈ aput l k v → x = (k, v) ∨ x ∈ l
  | [], k, v, x, h => by simp [aput] at h; exact .inl h
  | (a, w) :: l, k, v, x, h => by
    unfold aput at h
    split at h
    · rcases List.mem_cons.1 h with h | h
      · exact .inl h
      · exact .inr h
    · split at h
      · rcases List.mem_cons.1 h with h | h
        · exact .inl h
        · exact .inr (List.mem_cons_of_mem _ h)
      · rcases List.mem_cons.1 h with h | h
        · exact .inr (h ▸ List.mem_cons_self)
        · rcases mem_aput l k v x h with h | h
          · exact .inl h
          · exact .inr (List.mem_cons_of_mem _ h)

theorem pairwise_aput : ∀ (l : List (Nat × β)) (k : Nat) (v : β),
    l.Pairwise (fun x y => x.1 < y.1) → (aput l k v).Pairwise (fun x y => x.1 < y.1)
  | [], _, _, _ => by simp [aput]
  | (a, w) :: l, k, v, h => by
    have ⟨ha, hl⟩ := List.pairwise_cons.1 h
    unfold aput
    split
    · next hk =>
      refine List.pairwise_cons.2 ⟨fun x hx => ?_, h⟩
      rcases List.mem_cons.1 hx with rfl | hx
      · exact hk
      · exact Nat.lt_trans hk (ha x hx)
    · split
      · next hk => exact List.pairwise_cons.2 ⟨fun x hx => hk ▸ ha x hx, hl⟩
      · next h1 h2 =>
        refine List.pairwise_cons.2 ⟨fun x hx => ?_, pairwise_aput l k v hl⟩
        rcases mem_aput l k v x hx with rfl | hx
        · show a < k
          omega
        · exact ha x hx

theorem canon_sublist [DecidableEq β] {dflt : Nat → β} {l l' : List (Nat × β)} (hs : l'.Sublist l)
    (h : canon dflt l = true) : canon dflt l' = true := by
  rw [canon_iff] at h ⊢
  exact ⟨h.1.sublist hs, fun x hx => h.2 x (hs.subset hx)⟩

theorem canon_adel [DecidableEq β] {dflt : Nat → β} {l : List (Nat × β)} (k : Nat) (h : canon dflt l = true) :
    canon dflt (adel l k) = true := canon_sublist (adel_sublist l k) h

theorem canon_aput [DecidableEq β] {dflt : Nat → β} {l : List (Nat × β)} {k : Nat} {v : β} (hv : v ≠ dflt k)
    (h : canon dflt l = true) : canon dflt (aput l k v) = true := by
  rw [canon_iff] at h ⊢
  refine ⟨pairwise_aput l k v h.1, fun x hx => ?_⟩
  rcases mem_aput l k v x hx with rfl | hx
  · exact hv
  · exact h.2 x hx

/-- Put: the entry itself, and every other key. -/
theorem aget_aput : ∀ (l : List (Nat × β)) (k : Nat) (v : β) (j : Nat),
    aget (aput l k v) j = if k = j then some v else aget l j
  | [], k, v, j => by simp [aput, aget]
  | (a, w) :: l, k, v, j => by
    have ih := aget_aput l k v j
    unfold aput
    split
    · next hk => simp [aget]
    · split
      · next hk => subst hk; by_cases h : k = j <;> simp [aget, h]
      · next h1 h2 =>
        simp only [aget, ih]
        by_cases h : a = j
        · have : k ≠ j := by omega
          simp [h, this]
        · simp [h]

theorem aget_none : ∀ {l : List (Nat × β)} {k : Nat}, (∀ x ∈ l, x.1 ≠ k) → aget l k = none
  | [], _, _ => rfl
  | (a, w) :: l, k, h => by
    have ha : a ≠ k := h (a, w) List.mem_cons_self
    simp [aget, ha, aget_none (l := l) (k := k) (fun x hx => h x (List.mem_cons_of_mem _ hx))]

/-- Delete, in a table with rising keys. -/
theorem aget_adel : ∀ {l : List (Nat × β)} (k : Nat) (j : Nat), l.Pairwise (fun x y => x.1 < y.1) →
    aget (adel l k) j = if k = j then none else aget l j
  | [], _, _, _ => by simp [adel, aget]
  | (a, w) :: l, k, j, h => by
    have ⟨ha, hl⟩ := List.pairwise_cons.1 h
    by_cases hk : a = k
    · subst hk
      by_cases hj : a = j
      · subst hj
        simpa [adel] using aget_none (fun x hx => Nat.ne_of_gt (ha x hx))
      · simp [adel, aget, hj]
    · by_cases hj : a = j
      · subst hj
        have : k ≠ a := fun e => hk e.symm
        simp [adel, aget, hk, this]
      · simpa [adel, aget, hk, hj] using aget_adel k j hl

end Sys2Proof.Machine
end

