-- ==== Sys2Proof/Laws/Stores.lean ====
section
/-! SUPPORT. The registers and the SRAM as stores: what a write reads back as, and the canonical form that every write keeps. -/

namespace Sys2Proof.Machine

/-- A table whose unlisted keys read as `dflt`: one entry set. -/
theorem sparse_get {β : Type} [DecidableEq β] {dflt : Nat → β} {l : List (Nat × β)} (h : canon dflt l = true) (k : Nat)
    (v : β) (j : Nat) :
    (aget (if v = dflt k then adel l k else aput l k v) j).getD (dflt j) =
      if j = k then v else (aget l j).getD (dflt j) := by
  split
  · next hv =>
    rw [aget_adel k j ((canon_iff dflt l).1 h).1]
    by_cases hj : k = j
    · subst hj; simp [hv]
    · simp [hj, Ne.symm hj]
  · rw [aget_aput]
    by_cases hj : k = j
    · subst hj; simp
    · simp [hj, Ne.symm hj]

theorem sparse_canon {β : Type} [DecidableEq β] {dflt : Nat → β} {l : List (Nat × β)} (h : canon dflt l = true) (k : Nat)
    (v : β) : canon dflt (if v = dflt k then adel l k else aput l k v) = true := by
  split
  · exact canon_adel k h
  · next hv => exact canon_aput hv h

/-! ### Registers -/

theorem rset_canon {d : Dev} (h : canon resetOf d.regs = true) (a : Nat) (v : Word) :
    canon resetOf (d.rset a v).regs = true := sparse_canon h a v

theorem rget_rset {d : Dev} (h : canon resetOf d.regs = true) (a : Nat) (v : Word) (b : Nat) :
    (d.rset a v).rget b = if b = a then v else d.rget b := sparse_get h a v b

theorem wf_canon {d : Dev} (h : canon resetOf d.regs = true) (a lo w x : Nat) :
    canon resetOf (d.wf a lo w x).regs = true := rset_canon h a _

/-- A field set, as a number: what lies below it, the field, what lies above it. -/
theorem fset_toNat (v : Word) {lo w : Nat} (x : Nat) (h : lo + w ≤ 32) :
    (fset v lo w x).toNat = v.toNat % 2 ^ lo + 2 ^ lo * (x % 2 ^ w) + 2 ^ (lo + w) * (v.toNat / 2 ^ (lo + w)) := by
  have h1 : v.toNat % 2 ^ lo < 2 ^ lo := Nat.mod_lt _ (Nat.two_pow_pos _)
  have h2 : x % 2 ^ w < 2 ^ w := Nat.mod_lt _ (Nat.two_pow_pos _)
  have h3 : v.toNat / 2 ^ (lo + w) < 2 ^ (32 - (lo + w)) := by
    rw [Nat.div_lt_iff_lt_mul (Nat.two_pow_pos _), ← pow_add, show 32 - (lo + w) + (lo + w) = 32 by omega]
    exact v.isLt
  have h4 : (v.toNat / 2 ^ (lo + w) + 1) * 2 ^ (lo + w) ≤ 2 ^ 32 := by
    calc _ ≤ 2 ^ (32 - (lo + w)) * 2 ^ (lo + w) := Nat.mul_le_mul_right _ h3
      _ = 2 ^ 32 := by rw [← pow_add]; congr 1; omega
  have h5 : (x % 2 ^ w + 1) * 2 ^ lo ≤ 2 ^ (lo + w) := by
    rw [pow_add, mul_comm (2 ^ lo)]; exact Nat.mul_le_mul_right _ h2
  unfold fset
  rw [BitVec.toNat_ofNat, Nat.mod_eq_of_lt (by nlinarith)]
  ring

/-- A field set and read: the same field. -/
theorem fget_fset_same (v : Word) {lo w : Nat} (x : Nat) (h : lo + w ≤ 32) : fget (fset v lo w x) lo w = x % 2 ^ w := by
  have h1 : v.toNat % 2 ^ lo < 2 ^ lo := Nat.mod_lt _ (Nat.two_pow_pos _)
  unfold fget
  rw [fset_toNat v x h, pow_add, mul_assoc, Nat.add_assoc, ← mul_add, Nat.add_mul_div_left _ _ (Nat.two_pow_pos _),
    Nat.div_eq_of_lt h1, Nat.zero_add, Nat.add_mul_mod_self_left, Nat.mod_eq_of_lt (Nat.mod_lt _ (Nat.two_pow_pos _))]

/-- A field set leaves the fields below it. -/
theorem fget_fset_below (v : Word) {lo w lo' w' : Nat} (x : Nat) (h : lo + w ≤ 32) (hd : lo' + w' ≤ lo) :
    fget (fset v lo w x) lo' w' = fget v lo' w' := by
  have key : ∀ n : Nat, n / 2 ^ lo' % 2 ^ w' = n % 2 ^ lo / 2 ^ lo' % 2 ^ w' := by
    intro n
    apply Nat.eq_of_testBit_eq
    intro i
    simp only [Nat.testBit_mod_two_pow, Nat.testBit_div_two_pow]
    by_cases hi : i < w'
    · simp [hi, show lo' + i < lo by omega, Nat.add_comm]
    · simp [hi]
  unfold fget
  rw [key, key v.toNat, fset_toNat v x h, pow_add, mul_assoc, Nat.add_assoc, ← mul_add, Nat.add_mul_mod_self_left, Nat.mod_mod]

/-- A field set leaves the fields above it. -/
theorem fget_fset_above (v : Word) {lo w lo' w' : Nat} (x : Nat) (h : lo + w ≤ 32) (hd : lo + w ≤ lo') :
    fget (fset v lo w x) lo' w' = fget v lo' w' := by
  have h1 : v.toNat % 2 ^ lo < 2 ^ lo := Nat.mod_lt _ (Nat.two_pow_pos _)
  have h2 : x % 2 ^ w < 2 ^ w := Nat.mod_lt _ (Nat.two_pow_pos _)
  have hlow : v.toNat % 2 ^ lo + 2 ^ lo * (x % 2 ^ w) < 2 ^ (lo + w) := by
    have h5 : (x % 2 ^ w + 1) * 2 ^ lo ≤ 2 ^ (lo + w) := by
      rw [pow_add, mul_comm (2 ^ lo)]; exact Nat.mul_le_mul_right _ h2
    nlinarith
  have hdiv : (fset v lo w x).toNat / 2 ^ (lo + w) = v.toNat / 2 ^ (lo + w) := by
    rw [fset_toNat v x h, Nat.add_mul_div_left _ _ (Nat.two_pow_pos _), Nat.div_eq_of_lt hlow, Nat.zero_add]
  obtain ⟨k, rfl⟩ := Nat.exists_eq_add_of_le hd
  unfold fget
  rw [pow_add, ← Nat.div_div_eq_div_mul, hdiv, Nat.div_div_eq_div_mul]

/-- A register field set and read back. -/
theorem rf_wf_same {d : Dev} (hd : canon resetOf d.regs = true) (a : Nat) {lo w : Nat} (x : Nat) (h : lo + w ≤ 32) :
    (d.wf a lo w x).rf a lo w = x % 2 ^ w := by
  unfold Dev.rf Dev.wf
  rw [rget_rset hd, if_pos rfl, fget_fset_same _ _ h]

/-- The other fields of the register stay. -/
theorem rf_wf_disjoint {d : Dev} (hd : canon resetOf d.regs = true) (a : Nat) {lo w lo' w' : Nat} (x : Nat) (h : lo + w ≤ 32)
    (hx : lo' + w' ≤ lo ∨ lo + w ≤ lo') : (d.wf a lo w x).rf a lo' w' = d.rf a lo' w' := by
  unfold Dev.rf Dev.wf
  rw [rget_rset hd, if_pos rfl]
  rcases hx with hx | hx
  · exact fget_fset_below _ _ h hx
  · exact fget_fset_above _ _ h hx

/-- The other registers stay. -/
theorem rf_wf_other {d : Dev} (hd : canon resetOf d.regs = true) {a b : Nat} (hab : b ≠ a) (lo w x lo' w' : Nat) :
    (d.wf a lo w x).rf b lo' w' = d.rf b lo' w' := by
  unfold Dev.rf Dev.wf
  rw [rget_rset hd, if_neg hab]

/-- A bit write leaves of the registers what the write of its field leaves. -/
theorem rf_wb (d : Dev) (a i : Nat) (b : Bool) (c lo w : Nat) : (d.wb a i b).rf c lo w = (d.wf a i 1 b.toNat).rf c lo w := rfl

/-- Bit `j` of a register after bit `i` of it was set. -/
theorem rb_wb {d : Dev} (hd : canon resetOf d.regs = true) (a : Nat) {i j : Nat} (b : Bool) (hi : i < 32) :
    (d.wb a i b).rb a j = if j = i then b else d.rb a j := by
  unfold Dev.rb
  rw [rf_wb]
  by_cases h : j = i
  · subst h
    rw [rf_wf_same hd a _ (by omega), if_pos rfl]
    cases b <;> decide
  · rw [rf_wf_disjoint hd a _ (by omega) (by omega), if_neg h]

theorem rb_wb_other {d : Dev} (hd : canon resetOf d.regs = true) {a c : Nat} (hac : c ≠ a) (i j : Nat) (b : Bool) :
    (d.wb a i b).rb c j = d.rb c j := by
  unfold Dev.rb
  rw [rf_wb, rf_wf_other hd hac]

/-! ### SRAM -/

theorem mset_wf {d : Dev} (h : Memory.wf d.sram = true) (a : Nat) (b : Byte) : Memory.wf (d.mset a b).sram = true :=
  sparse_canon (dflt := fun _ => (0 : Byte)) h a b

theorem mget_mset {d : Dev} (h : Memory.wf d.sram = true) (a : Nat) (b : Byte) (c : Nat) :
    (d.mset a b).mget c = if c = a then b else d.mget c := sparse_get (dflt := fun _ => (0 : Byte)) h a b c

/-- Every write of bytes keeps the canonical form. -/
theorem mwrite_wf : ∀ (bs : List Byte) {d : Dev} (_ : Memory.wf d.sram = true) (a : Nat),
    Memory.wf (d.mwrite a bs).sram = true
  | [], _, h, _ => h
  | b :: bs, _, h, a => mwrite_wf bs (mset_wf h a b) (a + 1)

/-- A byte outside the bytes written reads as before. -/
theorem mget_mwrite_outside : ∀ (bs : List Byte) {d : Dev} (_ : Memory.wf d.sram = true) (a c : Nat)
    (_ : c < a ∨ a + bs.length ≤ c), (d.mwrite a bs).mget c = d.mget c
  | [], _, _, _, _, _ => rfl
  | b :: bs, d, h, a, c, hc => by
    have hc' : c < a ∨ a + bs.length + 1 ≤ c := by simpa [Nat.add_assoc] using hc
    show ((d.mset a b).mwrite (a + 1) bs).mget c = d.mget c
    rw [mget_mwrite_outside bs (mset_wf h a b) (a + 1) c (by omega), mget_mset h, if_neg (by omega)]

/-- The bytes written read back. -/
theorem mread_mwrite : ∀ (bs : List Byte) {d : Dev} (_ : Memory.wf d.sram = true) (a : Nat),
    (d.mwrite a bs).mread a bs.length = bs
  | [], _, _, _ => rfl
  | b :: bs, d, h, a => by
    show ((d.mset a b).mwrite (a + 1) bs).mget a :: ((d.mset a b).mwrite (a + 1) bs).mread (a + 1) bs.length = b :: bs
    rw [mread_mwrite bs (mset_wf h a b) (a + 1), mget_mwrite_outside bs (mset_wf h a b) (a + 1) a (by omega), mget_mset h,
      if_pos rfl]

/-- A write of bytes writes the SRAM only. -/
theorem mwrite_keeps : ∀ (bs : List Byte) (d : Dev) (a : Nat), ∃ m, d.mwrite a bs = { d with sram := m }
  | [], d, _ => ⟨d.sram, rfl⟩
  | b :: bs, d, a => by
    obtain ⟨m, hm⟩ := mwrite_keeps bs (d.mset a b) (a + 1)
    exact ⟨m, hm⟩

end Sys2Proof.Machine
end

