-- ==== Sys2Proof/Laws/Bist.lean ====
section
/-! SUPPORT. What the result of a BIST unit leaves in the registers, whatever its signature, which the spec leaves open, may be. -/

namespace Sys2Proof.Machine

/-- A write of one register leaves the fields of the others. -/
theorem rf_rset_other {d : Dev} (hd : canon resetOf d.regs = true) {a b : Nat} (hab : b ≠ a) (v : Word) (lo w : Nat) :
    (d.rset a v).rf b lo w = d.rf b lo w := by
  unfold Dev.rf
  rw [rget_rset hd, if_neg hab]

theorem bistResult_lt (d : Dev) (u : Nat) (rep : Bool) (o : BistOut) : d.bistResult u rep o < 4 := by
  unfold Dev.bistResult
  split_ifs <;> omega

/-- The registers of unit `u` are kept apart from the results of the other units. -/
theorem unitRegs_apart {u v : Nat} (_ : u < 15) (hv : v < 15) :
    Reg.BIST_U_RES v ≠ Reg.BIST_STAT ∧ Reg.BIST_U_RES v ≠ Reg.BIST_U_FBIT u ∧ Reg.BIST_U_RES v ≠ Reg.BIST_U_FADDR u ∧
    Reg.BIST_U_RES v ≠ Reg.BIST_U_SIG u ∧ Reg.BIST_U_RES v ≠ Reg.SEC_STAT ∧ (v ≠ u → Reg.BIST_U_RES v ≠ Reg.BIST_U_RES u) := by
  simp only [Reg.BIST_U_RES, Reg.BIST_STAT, Reg.BIST_U_FBIT, Reg.BIST_U_FADDR, Reg.BIST_U_SIG, Reg.SEC_STAT]
  omega

/-- The result of a unit, then its other registers: what becomes of the results of the units. -/
theorem unitRegs_res {d : Dev} (h : canon resetOf d.regs = true) {u v : Nat} (hu : u < 15) (hv : v < 15) (r c x : Nat) (sig fa : Word)
    (hr : r < 16) :
    let e := (((((d.wf (Reg.BIST_U_RES u) 28 4 r).wf (Reg.BIST_U_RES u) 0 16 c).rset (Reg.BIST_U_SIG u) sig).rset (Reg.BIST_U_FADDR u) fa).wf
      (Reg.BIST_U_FBIT u) 0 7 x).wb Reg.BIST_STAT u true
    canon resetOf e.regs = true ∧ e.rf (Reg.BIST_U_RES v) 28 4 = if v = u then r else d.rf (Reg.BIST_U_RES v) 28 4 := by
  obtain ⟨n1, n2, n3, n4, -, n6⟩ := unitRegs_apart hu hv
  have c1 := wf_canon h (Reg.BIST_U_RES u) 28 4 r
  have c2 := wf_canon c1 (Reg.BIST_U_RES u) 0 16 c
  have c3 := rset_canon c2 (Reg.BIST_U_SIG u) sig
  have c4 := rset_canon c3 (Reg.BIST_U_FADDR u) fa
  have c5 := wf_canon c4 (Reg.BIST_U_FBIT u) 0 7 x
  refine ⟨wf_canon c5 .., ?_⟩
  rw [rf_wb, rf_wf_other c5 n1, rf_wf_other c4 n2, rf_rset_other c3 n3, rf_rset_other c2 n4]
  by_cases hvu : v = u
  · subst hvu
    rw [if_pos rfl, rf_wf_disjoint c1 _ _ (by omega) (by omega), rf_wf_same h _ _ (by omega)]
    exact Nat.mod_eq_of_lt hr
  · rw [if_neg hvu, rf_wf_other c1 (n6 hvu), rf_wf_other h (n6 hvu)]

/-- The health of the entropy source leaves the results of the units. -/
theorem entropy_res {d : Dev} (h : canon resetOf d.regs = true) {v : Nat} (hv : v < 15) (ok : Bool) :
    canon resetOf (d.entropy ok).regs = true ∧ (d.entropy ok).rf (Reg.BIST_U_RES v) 28 4 = d.rf (Reg.BIST_U_RES v) 28 4 := by
  have n := (unitRegs_apart hv hv).2.2.2.2.1
  have k : (d.entropy ok).regs = (d.wf Reg.SEC_STAT 26 1 ok.toNat).regs := by unfold Dev.entropy; simp; rfl
  refine ⟨k ▸ wf_canon h .., ?_⟩
  rw [← rf_wf_other h n 26 1 ok.toNat 28 4]
  unfold Dev.rf Dev.rget
  rw [k]

/-- `bistStore` keeps the table canonical and writes the result of its own unit only. -/
theorem bistStore_res {d : Dev} (h : canon resetOf d.regs = true) {u v : Nat} (hu : u < 15) (hv : v < 15) (rep : Bool) (o : BistOut) :
    canon resetOf (d.bistStore u rep o).regs = true ∧
    (d.bistStore u rep o).rf (Reg.BIST_U_RES v) 28 4 = if v = u then d.bistResult u rep o else d.rf (Reg.BIST_U_RES v) 28 4 := by
  have h1 : canon resetOf (d.secMod (fun s => { s with soft := s.soft ++ d.repairOf u rep o })).regs = true := h
  have k := unitRegs_res h1 hu hv (d.bistResult u rep o)
    (satInc (((d.secMod (fun s => { s with soft := s.soft ++ d.repairOf u rep o })).wf (Reg.BIST_U_RES u) 28 4
      (d.bistResult u rep o)).rf (Reg.BIST_U_RES u) 0 16) (2 ^ 16 - 1)) o.fbit
    (if logicUnit u then romSignature u ^^^ o.sig else o.sig) (o.faddr &&& 0x03FFFFFF)
    (by have := bistResult_lt d u rep o; omega)
  by_cases h7 : u = 7
  · obtain ⟨e1, e2⟩ := entropy_res k.1 hv o.entOk
    have e : d.bistStore u rep o = Dev.entropy _ o.entOk := if_pos h7
    exact e ▸ ⟨e1, e2.trans k.2⟩
  · have e : d.bistStore u rep o = _ := if_neg h7
    exact e ▸ k

end Sys2Proof.Machine
end

