-- ==== Sys2Proof/Laws/Exec.lean ====
section
/-! SUPPORT. One equation per command: `exec` on it is the effect that its meaning gives. -/

namespace Sys2Proof.Machine

theorem exec_powerOnResetEnd (testMode : Bool) (s : State) :
    exec (.powerOnResetEnd testMode) s = s.runAny (·.porEnd testMode) := rfl

theorem exec_wakeRecognised (s : State) :
    exec .wakeRecognised s = s.runAny Dev.wakeUp := rfl

theorem exec_wakeFall (s : State) :
    exec .wakeFall s = s.runAny Dev.wakeFall := rfl

theorem exec_mainRailLoss (rail : Nat) (s : State) :
    exec (.mainRailLoss rail) s = s.runAny (·.railLoss rail) := rfl

theorem exec_vkaLoss (s : State) :
    exec .vkaLoss s = s.runAny Dev.vkaLoss := rfl

theorem exec_vkaReturn (s : State) :
    exec .vkaReturn s = s.runAny Dev.vkaReturn := rfl

theorem exec_nresetPulse (held testMode : Bool) (s : State) :
    exec (.nresetPulse held testMode) s = s.runAny (·.nReset held testMode) := rfl

theorem exec_sramClearEnd (s : State) :
    exec .sramClearEnd s = s.run Dev.clearEnd := rfl

theorem exec_clkinDetectEnd (edges : Nat) (s : State) :
    exec (.clkinDetectEnd edges) s = s.run (·.clkinDetect edges) := rfl

theorem exec_clockRomStepEnd (romOk mdllLock iloLock : Bool) (s : State) :
    exec (.clockRomStepEnd romOk mdllLock iloLock) s = s.run (·.clockRomEnd romOk mdllLock iloLock) := rfl

theorem exec_flashStartEnd (profileOk : Bool) (hdrA hdrB : List Byte) (s : State) :
    exec (.flashStartEnd profileOk hdrA hdrB) s = s.run (·.flashEnd profileOk hdrA hdrB) := rfl

theorem exec_imageReadEnd (body : List Byte) (namesCd usesAux strobeOk : Bool) (s : State) :
    exec (.imageReadEnd body namesCd usesAux strobeOk) s = s.run (·.readEnd body namesCd usesAux strobeOk) := rfl

theorem exec_verifyEnd (sig : List Byte) (s : State) :
    exec (.verifyEnd sig) s = s.run (·.verifyEnd sig) := rfl

theorem exec_commitEnd (content : ImageContent) (s : State) :
    exec (.commitEnd content) s = s.run (·.commitEnd content) := rfl

theorem exec_mandatoryBistEnd (outs : List BistOut) (s : State) :
    exec (.mandatoryBistEnd outs) s = s.run (·.bootBist outs) := rfl

theorem exec_islandsStepEnd (s : State) :
    exec .islandsStepEnd s = s.run Dev.islandsEnd := rfl

theorem exec_keyDerived (s : State) :
    exec .keyDerived s = s.run Dev.keyDerived := rfl

theorem exec_replyAgain (f : Frame) (s : State) :
    exec (.replyAgain f) s = s.opFrame 0x01 f := rfl

theorem exec_identity (f : Frame) (s : State) :
    exec (.identity f) s = s.opFrame 0x02 f := rfl

theorem exec_status (f : Frame) (s : State) :
    exec (.status f) s = s.opFrame 0x03 f := rfl

theorem exec_heartbeat (f : Frame) (s : State) :
    exec (.heartbeat f) s = s.opFrame 0x04 f := rfl

theorem exec_ringRead (f : Frame) (s : State) :
    exec (.ringRead f) s = s.opFrame 0x05 f := rfl

theorem exec_memRead (f : Frame) (s : State) :
    exec (.memRead f) s = s.opFrame 0x06 f := rfl

theorem exec_vitRead (f : Frame) (s : State) :
    exec (.vitRead f) s = s.opFrame 0x07 f := rfl

theorem exec_regRead (f : Frame) (s : State) :
    exec (.regRead f) s = s.opFrame 0x10 f := rfl

theorem exec_regWrite (f : Frame) (s : State) :
    exec (.regWrite f) s = s.opFrame 0x11 f := rfl

theorem exec_memWrite (f : Frame) (s : State) :
    exec (.memWrite f) s = s.opFrame 0x12 f := rfl

theorem exec_arm (f : Frame) (s : State) :
    exec (.arm f) s = s.opFrame 0x20 f := rfl

theorem exec_disarm (f : Frame) (s : State) :
    exec (.disarm f) s = s.opFrame 0x21 f := rfl

theorem exec_axisEnable (f : Frame) (s : State) :
    exec (.axisEnable f) s = s.opFrame 0x22 f := rfl

theorem exec_axisDisable (f : Frame) (s : State) :
    exec (.axisDisable f) s = s.opFrame 0x23 f := rfl

theorem exec_axisStop (f : Frame) (s : State) :
    exec (.axisStop f) s = s.opFrame 0x24 f := rfl

theorem exec_setpoint (f : Frame) (s : State) :
    exec (.setpoint f) s = s.opFrame 0x25 f := rfl

theorem exec_islDiag (f : Frame) (s : State) :
    exec (.islDiag f) s = s.opFrame 0x26 f := rfl

theorem exec_sbcTest (f : Frame) (s : State) :
    exec (.sbcTest f) s = s.opFrame 0x27 f := rfl

theorem exec_ownOffer (f : Frame) (s : State) :
    exec (.ownOffer f) s = s.opFrame 0x28 f := rfl

theorem exec_ownTake (f : Frame) (s : State) :
    exec (.ownTake f) s = s.opFrame 0x29 f := rfl

theorem exec_ownSeize (f : Frame) (s : State) :
    exec (.ownSeize f) s = s.opFrame 0x2A f := rfl

theorem exec_fltClear (f : Frame) (s : State) :
    exec (.fltClear f) s = s.opFrame 0x30 f := rfl

theorem exec_fltInj (f : Frame) (s : State) :
    exec (.fltInj f) s = s.opFrame 0x31 f := rfl

theorem exec_thermMeasure (f : Frame) (s : State) :
    exec (.thermMeasure f) s = s.opFrame 0x32 f := rfl

theorem exec_ceCapture (f : Frame) (s : State) :
    exec (.ceCapture f) s = s.opFrame 0x33 f := rfl

theorem exec_ceMode (f : Frame) (s : State) :
    exec (.ceMode f) s = s.opFrame 0x34 f := rfl

theorem exec_adcCal (f : Frame) (s : State) :
    exec (.adcCal f) s = s.opFrame 0x35 f := rfl

theorem exec_serviceEnter (f : Frame) (s : State) :
    exec (.serviceEnter f) s = s.opFrame 0x40 f := rfl

theorem exec_serviceExit (f : Frame) (s : State) :
    exec (.serviceExit f) s = s.opFrame 0x41 f := rfl

theorem exec_bistRun (f : Frame) (s : State) :
    exec (.bistRun f) s = s.opFrame 0x42 f := rfl

theorem exec_repairFuse (f : Frame) (s : State) :
    exec (.repairFuse f) s = s.opFrame 0x43 f := rfl

theorem exec_imgWrite (f : Frame) (s : State) :
    exec (.imgWrite f) s = s.opFrame 0x44 f := rfl

theorem exec_imgVerify (f : Frame) (s : State) :
    exec (.imgVerify f) s = s.opFrame 0x45 f := rfl

theorem exec_imgSelect (f : Frame) (s : State) :
    exec (.imgSelect f) s = s.opFrame 0x46 f := rfl

theorem exec_imgAccept (f : Frame) (s : State) :
    exec (.imgAccept f) s = s.opFrame 0x47 f := rfl

theorem exec_imgReject (f : Frame) (s : State) :
    exec (.imgReject f) s = s.opFrame 0x48 f := rfl

theorem exec_attest (f : Frame) (s : State) :
    exec (.attest f) s = s.opFrame 0x49 f := rfl

theorem exec_docentLaneExecute (s : State) :
    exec .docentLaneExecute s = s.run Dev.laneExec := rfl

theorem exec_promiseMissed (host label : Nat) (s : State) :
    exec (.promiseMissed host label) s = s.run (·.missed host label) := rfl

theorem exec_heartbeatExpired (host : Nat) (s : State) :
    exec (.heartbeatExpired host) s = s.run (·.hbExpired host) := rfl

theorem exec_ownOfferExpired (x : Nat) (s : State) :
    exec (.ownOfferExpired x) s = s.run (·.offerExpired x) := rfl

theorem exec_selfReset (s : State) :
    exec .selfReset s = s.run Dev.selfReset := rfl

theorem exec_lossOfLock (path : Nat) (s : State) :
    exec (.lossOfLock path) s = s.run (·.lossOfLock path) := rfl

theorem exec_pathRelock (path : Nat) (s : State) :
    exec (.pathRelock path) s = s.run (·.pathRelock path) := rfl

theorem exec_clkReturn (host : Nat) (s : State) :
    exec (.clkReturn host) s = s.run (·.hostWrite host Reg.CLK_CMD 0x100) := rfl

theorem exec_clkStep (host steps : Nat) (s : State) :
    exec (.clkStep host steps) s = s.run (·.hostWrite host Reg.CLK_CMD (BitVec.ofNat 32 (steps % 256))) := rfl

theorem exec_phaseStep (s : State) :
    exec .phaseStep s = s.run (·.phaseStep) := rfl

theorem exec_clockMonitorWindow (ctrl pwm mgmt can ref watch : Nat) (s : State) :
    exec (.clockMonitorWindow ctrl pwm mgmt can ref watch) s = s.run (·.clockWindow ctrl pwm mgmt can ref watch) := rfl

theorem exec_delayLineCalLost (s : State) :
    exec .delayLineCalLost s = s.run (·.dlcalLost) := rfl

theorem exec_epochTick (s : State) :
    exec .epochTick s = s.run (·.epochTick) := rfl

theorem exec_syncOutPulseEnd (s : State) :
    exec .syncOutPulseEnd s = s.run (·.syncOutEnd) := rfl

theorem exec_syncInEdge (ph : Nat) (s : State) :
    exec (.syncInEdge ph) s = s.run (·.syncInEdge ph) := rfl

theorem exec_snap (s : State) :
    exec .snap s = s.run (·.snap) := rfl

theorem exec_syncInMissing (s : State) :
    exec .syncInMissing s = s.run (·.syncMissing) := rfl

theorem exec_periodBoundary (a : Nat) (s : State) :
    exec (.periodBoundary a) s = s.run (·.periodBoundary a) := rfl

theorem exec_peakUpdate (a : Nat) (s : State) :
    exec (.peakUpdate a) s = s.run (·.peakUpdate a) := rfl

theorem exec_pwmEdge (a p : Nat) (rise : Bool) (s : State) :
    exec (.pwmEdge a p rise) s =
      s.run (fun d => if a < 4 then (if p < 3 then d.pwmEdge a p rise else d.probeEdge a (p - 3) rise) else d.chanEdge (a - 4) p) := rfl

theorem exec_deadTimeEnd (a p : Nat) (high : Bool) (s : State) :
    exec (.deadTimeEnd a p high) s = s.run (·.deadTimeEnd a p high) := rfl

theorem exec_tripInputChange (a src : Nat) (active : Bool) (s : State) :
    exec (.tripInputChange a src active) s = s.run (·.tripInput a src active) := rfl

theorem exec_blankingEnd (a : Nat) (s : State) :
    exec (.blankingEnd a) s = s.run (·.blankingEnd a) := rfl

theorem exec_tripLatchClear (host a bits : Nat) (s : State) :
    exec (.tripLatchClear host a bits) s =
      s.run (fun d => if a < 4 then d.hostWrite host (Reg.PWM_TRIP a) (BitVec.ofNat 32 (bits % 16)) else d) := rfl

theorem exec_sinkAction (sink : Nat) (s : State) :
    exec (.sinkAction sink) s = s.run (·.sinkAction sink) := rfl

theorem exec_channelBoundary (j : Nat) (s : State) :
    exec (.channelBoundary j) s = s.run (·.channelBoundary j) := rfl

theorem exec_linkFrameReceived (lane : Nat) (atCd : Bool) (words : List Nat) (checksOk seqOk lossFlag : Bool) (tel : Telemetry)
    (s : State) :
    exec (.linkFrameReceived lane atCd words checksOk seqOk lossFlag tel) s =
      s.run (·.frameReceived lane atCd words checksOk seqOk lossFlag tel) := rfl

theorem exec_linkTimeout (lane : Nat) (atCd : Bool) (s : State) :
    exec (.linkTimeout lane atCd) s = s.run (fun d => if atCd then d.cdDeclare lane else d.islDeclare lane) := rfl

theorem exec_giSafeStateApply (g : Nat) (s : State) :
    exec (.giSafeStateApply g) s = s.run (·.giApply g) := rfl

theorem exec_cdConfirmOffAssumed (n : Nat) (s : State) :
    exec (.cdConfirmOffAssumed n) s = s.run (·.assumeOff n) := rfl

theorem exec_retrainStart (lane : Nat) (s : State) :
    exec (.retrainStart lane) s = s.run (·.retrainStart lane) := rfl

theorem exec_retrainEnd (lane : Nat) (ok : Bool) (s : State) :
    exec (.retrainEnd lane ok) s = s.run (·.retrainEnd lane ok) := rfl

theorem exec_islandCommandWord (lane : Nat) (checksOk : Bool) (s : State) :
    exec (.islandCommandWord lane checksOk) s = s.run (·.commandWord lane checksOk) := rfl

theorem exec_statusWordReceived (lane : Nat) (checksOk lossFlag : Bool) (s : State) :
    exec (.statusWordReceived lane checksOk lossFlag) s = s.run (·.statusWord lane checksOk lossFlag) := rfl

theorem exec_interlockRelease (sw : Nat) (s : State) :
    exec (.interlockRelease sw) s = s.run (·.ilkRelease sw) := rfl

theorem exec_vgsConfirm (sw : Nat) (on : Bool) (s : State) :
    exec (.vgsConfirm sw on) s = s.run (·.vgsConfirm sw on) := rfl

theorem exec_segmentEnd (sw : Nat) (timeout : Bool) (s : State) :
    exec (.segmentEnd sw timeout) s = s.run (·.segmentEnd sw timeout) := rfl

theorem exec_gateMonitorTimeout (sw : Nat) (s : State) :
    exec (.gateMonitorTimeout sw) s = s.run (·.gateTimeout sw) := rfl

theorem exec_scBlankEnd (sw : Nat) (s : State) :
    exec (.scBlankEnd sw) s = s.run (·.scBlankEnd sw) := rfl

theorem exec_shortDetected (sw : Nat) (s : State) :
    exec (.shortDetected sw) s = s.run (·.shortDetected sw) := rfl

theorem exec_ocDetected (a p : Nat) (s : State) :
    exec (.ocDetected a p) s = s.run (·.ocDetected a p) := rfl

theorem exec_islandSupplyCrossing (isl mon : Nat) (beyond : Bool) (s : State) :
    exec (.islandSupplyCrossing isl mon beyond) s = s.run (·.supplyCross isl mon beyond) := rfl

theorem exec_honLimit (n : Nat) (s : State) :
    exec (.honLimit n) s = s.run (·.refreshDue n) := rfl

theorem exec_diagPhaseEnd (a : Nat) (vk : Int) (ir var : Nat) (s : State) :
    exec (.diagPhaseEnd a vk ir var) s = s.run (·.diagPhaseEnd a vk ir var) := rfl

theorem exec_supplyFault (rail : Nat) (s : State) :
    exec (.supplyFault rail) s = s.run (·.supplyFault rail) := rfl

theorem exec_vddIoLow (s : State) :
    exec .vddIoLow s = s.runAny Dev.vddIoLow := rfl

theorem exec_seqDelayEnd (k : Nat) (s : State) :
    exec (.seqDelayEnd k) s = s.run (·.seqDelayEnd k) := rfl

theorem exec_seqWindowWaitExpiry (k : Nat) (s : State) :
    exec (.seqWindowWaitExpiry k) s = s.run (·.seqWaitExpiry k) := rfl

theorem exec_conversionResult (k code : Nat) (urgent : Bool) (diff : Option Nat) (residue : Bool) (s : State) :
    exec (.conversionResult k code urgent diff residue) s = s.run (·.conversion k code urgent diff residue) := rfl

theorem exec_calibrationEnd (k : Nat) (step1 : Bool) (diff : Nat) (words : List Word) (s : State) :
    exec (.calibrationEnd k step1 diff words) s = s.run (·.calibrated k step1 diff words) := rfl

theorem exec_sequencerGo (host bits : Nat) (s : State) :
    exec (.sequencerGo host bits) s = s.run (·.hostWrite host Reg.ADC_CTRL (BitVec.ofNat 32 (bits % 16))) := rfl

theorem exec_forceSlice (host bits : Nat) (s : State) :
    exec (.forceSlice host bits) s = s.run (·.hostWrite host Reg.ADC_CMD (BitVec.ofNat 32 (bits % 16))) := rfl

theorem exec_urgentRequest (host k : Nat) (value : Word) (s : State) :
    exec (.urgentRequest host k value) s =
      s.run (fun d => if k < 4 then d.hostWrite host (Reg.ADC_URG k) (value ||| 0x80000000) else d) := rfl

theorem exec_urgentArrival (k : Nat) (s : State) :
    exec (.urgentArrival k) s = s.run (·.urgArrive k) := rfl

theorem exec_latestValueUpdate (k c : Nat) (s : State) :
    exec (.latestValueUpdate k c) s = s.run (·.latUpdate k c) := rfl

theorem exec_windowOpen (k p : Nat) (s : State) :
    exec (.windowOpen k p) s = s.run (·.windowOpen k p) := rfl

theorem exec_windowClose (k p : Nat) (s : State) :
    exec (.windowClose k p) s = s.run (·.windowClose k p) := rfl

theorem exec_windowResultReceived (k p : Nat) (s : State) :
    exec (.windowResultReceived k p) s = s.run (·.windowReceived k p) := rfl

theorem exec_sarResult (sar v : Nat) (s : State) :
    exec (.sarResult sar v) s = s.run (·.sarResult sar v) := rfl

theorem exec_fieldStep (a : Nat) (s : State) :
    exec (.fieldStep a) s = s.run (·.fieldStep a) := rfl

theorem exec_sectorChange (a : Nat) (s : State) :
    exec (.sectorChange a) s = s.run (·.sectorChange a) := rfl

theorem exec_reacqTimeout (a : Nat) (s : State) :
    exec (.reacqTimeout a) s = s.run (·.acqTimeout a) := rfl

theorem exec_hallEdge (a code : Nat) (s : State) :
    exec (.hallEdge a code) s = s.run (·.hallEdgeAt a code) := rfl

theorem exec_hallTimeout (a : Nat) (s : State) :
    exec (.hallTimeout a) s = s.run (·.hallTimeout a) := rfl

theorem exec_lposRead (a : Nat) (s : State) :
    exec (.lposRead a) s = s.run (·.lposRead a) := rfl

theorem exec_ceStepStart (e : Nat) (skew : List (Nat × Int)) (s : State) :
    exec (.ceStepStart e skew) s = s.run (·.ceStepStart e skew) := rfl

theorem exec_ceCurrentSection (a : Nat) (upset : Bool) (s : State) :
    exec (.ceCurrentSection a upset) s = s.run (·.currentSection a upset) := rfl

theorem exec_ceStepEnd (e : Nat) (upset : Bool) (useA useB : Nat) (s : State) :
    exec (.ceStepEnd e upset useA useB) s = s.run (·.ceStepEnd e upset useA useB) := rfl

theorem exec_stepOverrun (e : Nat) (s : State) :
    exec (.stepOverrun e) s = s.run (·.overrun e) := rfl

theorem exec_laneTimeout (l : Nat) (s : State) :
    exec (.laneTimeout l) s = s.run (·.laneTimeout l) := rfl

theorem exec_cmdinEdge (d perA highA perB highB : Nat) (s : State) :
    exec (.cmdinEdge d perA highA perB highB) s = s.run (·.cmdEdge d perA highA perB highB) := rfl

theorem exec_decoderLoss (e d : Nat) (s : State) :
    exec (.decoderLoss e d) s = s.run (·.decoderLoss e d) := rfl

theorem exec_paramBlockWrite (host first count : Nat) (s : State) :
    exec (.paramBlockWrite host first count) s =
      s.run (·.hostWrite host Reg.CE_PBLK (BitVec.ofNat 32 (first % 4096 * 65536 + count % 2048))) := rfl

theorem exec_paramBlockTakeEnd (s : State) :
    exec .paramBlockTakeEnd s = s.run Dev.takeEnd := rfl

theorem exec_injectionRun (host g : Nat) (run : Bool) (s : State) :
    exec (.injectionRun host g run) s =
      s.run (fun d => if g < 2 then d.hostWrite host (Reg.CE_INJ_CTL g) (BitVec.ofNat 32 run.toNat) else d) := rfl

theorem exec_auxCurrentTrip (x bridge peak : Nat) (s : State) :
    exec (.auxCurrentTrip x bridge peak) s = s.run (·.currentTrip x bridge peak) := rfl

theorem exec_auxOvercurrent (x bridge : Nat) (s : State) :
    exec (.auxOvercurrent x bridge) s = s.run (·.auxOvercurrent x bridge) := rfl

theorem exec_auxHonLimit (x _leg : Nat) (s : State) :
    exec (.auxHonLimit x _leg) s = s.run (·.auxHon x) := rfl

theorem exec_auxBootstrapLow (x leg : Nat) (severe : Bool) (s : State) :
    exec (.auxBootstrapLow x leg severe) s = s.run (·.auxBstLow x leg severe) := rfl

theorem exec_vauxUndervoltage (v : Nat) (s : State) :
    exec (.vauxUndervoltage v) s = s.run (·.vauxLow v) := rfl

theorem exec_auxSwitchConfirmed (x sw : Nat) (s : State) :
    exec (.auxSwitchConfirmed x sw) s = s.run (·.swConfirmed x sw) := rfl

theorem exec_holdDelayEnd (x : Nat) (s : State) :
    exec (.holdDelayEnd x) s = s.run (·.holdDelay x) := rfl

theorem exec_auxTarget (host x : Nat) (target : Word) (s : State) :
    exec (.auxTarget host x target) s = s.run (fun d => if x < 2 then d.hostWrite host (Reg.AUX_TGT x) target else d) := rfl

theorem exec_home (host x : Nat) (s : State) :
    exec (.home host x) s = s.run (fun d => if x < 2 then d.hostWrite host (Reg.AUX_CMD x) 1 else d) := rfl

theorem exec_auxDuty (host x : Nat) (duty : Word) (s : State) :
    exec (.auxDuty host x duty) s = s.run (fun d => if x < 2 then d.hostWrite host (Reg.AUX_DUTY x) duty else d) := rfl

theorem exec_dclEvaluation (c : Nat) (s : State) :
    exec (.dclEvaluation c) s = s.run (·.dclUpdate c) := rfl

theorem exec_vdcStale (c : Nat) (s : State) :
    exec (.vdcStale c) s = s.run (·.vdcTimeout c) := rfl

theorem exec_ov3Trip (s : State) :
    exec .ov3Trip s = s.run Dev.ov3Trip := rfl

theorem exec_ov3Release (s : State) :
    exec .ov3Release s = s.run Dev.ov3Release := rfl

theorem exec_ov3PlausibilityTimer (s : State) :
    exec .ov3PlausibilityTimer s = s.run Dev.ov3Plausible := rfl

theorem exec_bcsResult (i : Nat) (s : State) :
    exec (.bcsResult i) s = s.run (·.bcsResult i) := rfl

theorem exec_noFallTimer (i : Nat) (s : State) :
    exec (.noFallTimer i) s = s.run (·.noFallEnd i) := rfl

theorem exec_chopperMarkClear (host i : Nat) (s : State) :
    exec (.chopperMarkClear host i) s =
      s.run (fun d => if i < 2 then d.hostWrite host Reg.DCL_FLAGS (BitVec.ofNat 32 (2 ^ i)) else d) := rfl

theorem exec_fallbackLevelCross (i : Nat) (above : Bool) (s : State) :
    exec (.fallbackLevelCross i above) s = s.run (·.fallbackCross i above) := rfl

theorem exec_dischargeGo (host : Nat) (s : State) :
    exec (.dischargeGo host) s = s.run (·.hostWrite host Reg.DCL_DISCH 1) := rfl

theorem exec_dischargeStop (host : Nat) (s : State) :
    exec (.dischargeStop host) s = s.run (·.hostWrite host Reg.DCL_DISCH 2) := rfl

theorem exec_dischargeProbeEnd (s : State) :
    exec .dischargeProbeEnd s = s.run Dev.probeEnd := rfl

theorem exec_dischargeTargetTimeout (s : State) :
    exec .dischargeTargetTimeout s = s.run Dev.targetTimeout := rfl

theorem exec_stoInputChange (i : Nat) (high : Bool) (s : State) :
    exec (.stoInputChange i high) s =
      s.runAny (fun d => if d.live then d.stoInput i high else d.safeMod (fun x => { x with raw := tset x.raw i high })) := rfl

theorem exec_stoFilterExpiry (i : Nat) (s : State) :
    exec (.stoFilterExpiry i) s = s.run (·.stoFilter i) := rfl

theorem exec_stoDiscrepancy (s : State) :
    exec .stoDiscrepancy s = s.run Dev.stoDisc := rfl

theorem exec_stoPathTestStart (s : State) :
    exec .stoPathTestStart s = s.run Dev.ptStart := rfl

theorem exec_stoPathTestPhaseEnd (ok : Bool) (s : State) :
    exec (.stoPathTestPhaseEnd ok) s = s.run (·.ptPhase ok) := rfl

theorem exec_stoTestOverdue (s : State) :
    exec .stoTestOverdue s = s.run Dev.stoOverdue := rfl

theorem exec_torqueMonitorEval (a : Nat) (s : State) :
    exec (.torqueMonitorEval a) s = s.run (·.torqueEval a) := rfl

theorem exec_sbcRel (host : Nat) (rel : Bool) (s : State) :
    exec (.sbcRel host rel) s = s.run (·.hostWrite host Reg.SAFE_SBC_CTL (BitVec.ofNat 32 rel.toNat)) := rfl

theorem exec_brakeApplySpeedReached (s : State) :
    exec .brakeApplySpeedReached s = s.run Dev.brakeSlow := rfl

theorem exec_sbcTestWaitExpiry (s : State) :
    exec .sbcTestWaitExpiry s = s.run Dev.sbcWaitEnd := rfl

theorem exec_sbcAutoTestStart (s : State) :
    exec .sbcAutoTestStart s = s.run Dev.sbcAuto := rfl

theorem exec_sbcTestOverdue (s : State) :
    exec .sbcTestOverdue s = s.run Dev.sbcOverdue := rfl

theorem exec_degTimeExpired (s : State) :
    exec .degTimeExpired s = s.run Dev.degExpired := rfl

theorem exec_safetyWatchdogExpiry (c : Nat) (s : State) :
    exec (.safetyWatchdogExpiry c) s = s.run (·.connTimeout c) := rfl

theorem exec_faultReport (ext : List Report) (gone : List (Nat × Nat)) (poison : List Nat) (s : State) :
    exec (.faultReport ext gone poison) s = s.run (·.faultReport ext gone poison) := rfl

theorem exec_causeExpiry (code : Nat) (s : State) :
    exec (.causeExpiry code) s = s.run (·.causeExpiry code) := rfl

theorem exec_reactionWindowEnd (code : Nat) (s : State) :
    exec (.reactionWindowEnd code) s = s.run (·.windowEnd code) := rfl

theorem exec_compatRecoveryScan (s : State) :
    exec .compatRecoveryScan s = s.run Dev.compatScan := rfl

theorem exec_recoveryHourEnd (s : State) :
    exec .recoveryHourEnd s = s.run Dev.hourEnd := rfl

theorem exec_recovRst (host : Nat) (s : State) :
    exec (.recovRst host) s = s.run (·.hostWrite host Reg.FLT_CMD 2) := rfl

theorem exec_logclr (host : Nat) (s : State) :
    exec (.logclr host) s = s.run (·.hostWrite host Reg.FLT_CMD 1) := rfl

theorem exec_fltLookup (host code : Nat) (s : State) :
    exec (.fltLookup host code) s = s.run (·.hostWrite host Reg.FLT_LOOKUP (BitVec.ofNat 32 (code % 65536))) := rfl

theorem exec_logEntryWritten (ok : Bool) (s : State) :
    exec (.logEntryWritten ok) s = s.run (·.logWritten ok) := rfl

theorem exec_injectionEnd (s : State) :
    exec .injectionEnd s = s.run Dev.injectionEnd := rfl

theorem exec_docentCheckIn (s : State) :
    exec .docentCheckIn s = s.run Dev.docentCheckIn := rfl

theorem exec_aliveHalfPeriod (selfOk : Bool) (s : State) :
    exec (.aliveHalfPeriod selfOk) s = s.run (·.aliveHalf selfOk) := rfl

theorem exec_docentStall (s : State) :
    exec .docentStall s = s.run Dev.docentStall := rfl

theorem exec_hltClr (host : Nat) (bits : Word) (s : State) :
    exec (.hltClr host bits) s = s.run (·.hostWrite host Reg.HLT_CLR bits) := rfl

theorem exec_hltConfigWrite (host m : Nat) (lo : Bool) (value : Word) (s : State) :
    exec (.hltConfigWrite host m lo value) s =
      s.run (fun d => if m < 32 then d.hostWrite host (if lo then Reg.HLT_LO m else Reg.HLT_CFG m) value else d) := rfl

theorem exec_eventDelivery (s : State) :
    exec .eventDelivery s = s.run Dev.eventDelivery := rfl

theorem exec_canFrameReceived (c id : Nat) (ide fdf brs esi remote : Bool) (dlc : Nat) (data : List Byte) (tec rec' : Nat) (s : State) :
    exec (.canFrameReceived c id ide fdf brs esi remote dlc data tec rec') s =
      s.run (·.canFrame c id ide fdf brs esi remote dlc data tec rec') := rfl

theorem exec_canFrameStart (c : Nat) (s : State) :
    exec (.canFrameStart c) s = s.run (·.canStart c) := rfl

theorem exec_transmitComplete (c tec rec' tdc : Nat) (s : State) :
    exec (.transmitComplete c tec rec' tdc) s = s.run (·.canSent c tec rec' tdc) := rfl

theorem exec_canError (c lec tec rec' : Nat) (tdc : Option Nat) (s : State) :
    exec (.canError c lec tec rec' tdc) s = s.run (·.canError c lec tec rec' tdc) := rfl

theorem exec_integrationComplete (c : Nat) (s : State) :
    exec (.integrationComplete c) s = s.run (·.canIntegrated c) := rfl

theorem exec_restrictedTimer (c : Nat) (s : State) :
    exec (.restrictedTimer c) s = s.run (·.canTimer c) := rfl

theorem exec_restrictionProlonged (c : Nat) (s : State) :
    exec (.restrictionProlonged c) s = s.run (·.canProlonged c) := rfl

theorem exec_busOffWaitEnd (c : Nat) (s : State) :
    exec (.busOffWaitEnd c) s = s.run (·.canWaitEnd c) := rfl

theorem exec_recoveryComplete (c : Nat) (s : State) :
    exec (.recoveryComplete c) s = s.run (·.canRecovered c) := rfl

theorem exec_bocntResetTimer (c : Nat) (s : State) :
    exec (.bocntResetTimer c) s = s.run (·.canBoReset c) := rfl

theorem exec_canStop (host c : Nat) (s : State) :
    exec (.canStop host c) s = s.run (fun d => if c < 3 then d.hostWrite host (Reg.CAN_CMD c) 1 else d) := rfl

theorem exec_canRecover (host c : Nat) (s : State) :
    exec (.canRecover host c) s = s.run (fun d => if c < 3 then d.hostWrite host (Reg.CAN_CMD c) 2 else d) := rfl

theorem exec_txRequest (host c : Nat) (bits : Word) (s : State) :
    exec (.txRequest host c bits) s = s.run (fun d => if c < 3 then d.hostWrite host (Reg.CAN_TXREQ c) bits else d) := rfl

theorem exec_txCancel (host c : Nat) (bits : Word) (s : State) :
    exec (.txCancel host c bits) s = s.run (fun d => if c < 3 then d.hostWrite host (Reg.CAN_TXCAN c) bits else d) := rfl

theorem exec_objectHeaderRead (host c i : Nat) (s : State) :
    exec (.objectHeaderRead host c i) s = s.run (·.hdrRead host c i) := rfl

theorem exec_objectTimeout (c i : Nat) (s : State) :
    exec (.objectTimeout c i) s = s.run (·.objTimeout c i) := rfl

theorem exec_tamperAlarm (k : Nat) (s : State) :
    exec (.tamperAlarm k) s = s.run (·.tamper k) := rfl

theorem exec_secTamperClear (host : Nat) (bits : Word) (s : State) :
    exec (.secTamperClear host bits) s = s.run (·.hostWrite host Reg.SEC_TAMPER bits) := rfl

theorem exec_provKeyhash (hash : List Byte) (s : State) :
    exec (.provKeyhash hash) s = s.runTap (·.provHash hash) := rfl

theorem exec_provPolicy (policy : Byte) (s : State) :
    exec (.provPolicy policy) s = s.runTap (·.provPolicy policy) := rfl

theorem exec_provIdent (entropyOk : Bool) (seed : List Byte) (s : State) :
    exec (.provIdent entropyOk seed) s = s.runTap (·.provIdent entropyOk seed) := rfl

theorem exec_provLock (s : State) :
    exec .provLock s = s.runTap Dev.provLock := rfl

theorem exec_extest (cells levels : List Bool) (s : State) :
    exec (.extest cells levels) s = s.runTap (·.extest cells levels) := rfl

theorem exec_samplePreload (cells levels : List Bool) (s : State) :
    exec (.samplePreload cells levels) s = s.runTap (·.preload cells levels) := rfl

theorem exec_idcode (trst : Bool) (s : State) :
    exec (.idcode trst) s = s.runTap (·.idcode trst) := rfl

theorem exec_clamp (s : State) :
    exec .clamp s = s.runTap (·.pinHold 0x03) := rfl

theorem exec_highz (s : State) :
    exec .highz s = s.runTap (·.pinHold 0x04) := rfl

theorem exec_bypass (s : State) :
    exec .bypass s = s.runTap Dev.tapBypass := rfl

theorem exec_scan (s : State) :
    exec .scan s = s.runTap Dev.scan := rfl

theorem exec_dbgChal (entropyOk : Bool) (rnd : List Byte) (s : State) :
    exec (.dbgChal entropyOk rnd) s = s.runTap (·.dbgChal entropyOk rnd) := rfl

theorem exec_dbgResp (key sig : List Byte) (s : State) :
    exec (.dbgResp key sig) s = s.runTap (·.dbgResp key sig) := rfl

theorem exec_dbgRespVerified (s : State) :
    exec .dbgRespVerified s = s.run Dev.dbgVerified := rfl

theorem exec_dbgAccess (write : Bool) (addr : Nat) (value : Word) (s : State) :
    exec (.dbgAccess write addr value) s = s.runTap (·.dbgAccess write addr value) := rfl

theorem exec_bistUnitComplete (out : BistOut) (s : State) :
    exec (.bistUnitComplete out) s = s.run (·.bistUnitEnd out) := rfl

theorem exec_repairProgramEnd (ok : Bool) (n : Nat) (s : State) :
    exec (.repairProgramEnd ok n) s = s.run (·.fuseEnd ok n) := rfl

theorem exec_attestSignatureComplete (s : State) :
    exec .attestSignatureComplete s = s.run Dev.attSigned := rfl

theorem exec_sensorDemand (sensor : Nat) (s : State) :
    exec (.sensorDemand sensor) s = s.run (·.sensorDemand sensor) := rfl

theorem exec_sensorConversionEnd (sensor : Nat) (temp : Option Int) (s : State) :
    exec (.sensorConversionEnd sensor temp) s = s.run (·.sensorEnd sensor temp) := rfl

theorem exec_throttleInterval (a : Nat) (s : State) :
    exec (.throttleInterval a) s = s.run (·.throttleTimer a) := rfl

theorem exec_preserveTurnStart (s : State) :
    exec .preserveTurnStart s = s.run Dev.turnStart := rfl

theorem exec_preserveProgramEnd (log ok : Bool) (s : State) :
    exec (.preserveProgramEnd log ok) s = s.runAny (·.programEnds log ok) := rfl

theorem exec_registerWrite (host addr : Nat) (value : Word) (s : State) :
    exec (.registerWrite host addr value) s = s.run (·.hostWrite host addr value) := rfl

theorem exec_unknownOpcodeFrame (op : Byte) (f : Frame) (s : State) :
    exec (.unknownOpcodeFrame op f) s =
      s.run (·.frame op.toNat (fun b => match b with | some x => !known x.toNat | none => true) f) := rfl

theorem exec_imgWriteEnd (ok : Bool) (s : State) :
    exec (.imgWriteEnd ok) s = s.run (·.imgWritten ok) := rfl

theorem exec_imgVerifyEnd (profileOk : Bool) (body : List Byte) (namesCd usesAux strobeOk : Bool) (sig : List Byte) (s : State) :
    exec (.imgVerifyEnd profileOk body namesCd usesAux strobeOk sig) s =
      s.run (fun d => d.imgVerified (d.slotCheck profileOk body namesCd usesAux strobeOk sig)) := rfl

theorem exec_switchRawTransition (x sw : Nat) (level : Bool) (s : State) :
    exec (.switchRawTransition x sw level) s = s.run (·.swRaw x sw level) := rfl

theorem exec_supplyReturn (rail : Nat) (s : State) :
    exec (.supplyReturn rail) s = s.runAny (·.supplyReturn rail) := rfl

theorem exec_vauxReturn (v : Nat) (s : State) :
    exec (.vauxReturn v) s = s.run (·.vauxBack v) := rfl

theorem exec_auxBootstrapRelease (x leg : Nat) (severe : Bool) (s : State) :
    exec (.auxBootstrapRelease x leg severe) s = s.run (·.auxBstRelease x leg severe) := rfl

theorem exec_delayLineCalReturn (s : State) :
    exec .delayLineCalReturn s = s.run (·.dlcalReturn) := rfl

theorem exec_sbcSettleEnd (s : State) :
    exec .sbcSettleEnd s = s.run Dev.sbcSettle := rfl

end Sys2Proof.Machine
end

