-- ==== Sys2Proof/WellFormed.lean ====
section
/-! DEFINITION. Well-formed commands: every operand names something the device has. A command that is not well formed stands
for nothing that can happen; the meanings are total and say something of it, which nothing rests on (log entry 6). -/

namespace Sys2Proof

/-- Telemetry items are bytes of the link frame (R175). -/
def Telemetry.wf (t : Telemetry) : Bool :=
  decide (t.vgs < 256) && decide (t.vpos < 256) && decide (t.vneg < 256) && decide (t.vb < 256) && decide (t.sense < 256) &&
    t.chVgs.all (fun v => decide (v < 256))

/-- A frame on one of the four ports, its length field 16 bits wide (R94). -/
def Frame.wf (f : Frame) : Bool := decide (f.port < 4) && decide (f.len < 65536)

/-- What an image says names axes, hosts, registers, instances and state words that exist (R80, R101, R259). -/
def ImageContent.wf (c : ImageContent) : Bool :=
  c.axes.all (fun x => decide (x < 6)) && c.pairs.all (fun x => decide (x < 2)) && c.off30.all (fun x => decide (x < 2)) &&
  c.owners.all (fun o => decide (o.1 < 6) && decide (o.2 < 4)) &&
  c.tenants.all (fun t => decide (t.host < 4) && t.axes.all (fun x => decide (x < 6)) && decide t.axes.Nodup) &&
  c.regs.all (fun r => decide (r.1 < 0x130000) && decide (r.1 % 4 = 0)) && decide (c.adcGo < 16) &&
  c.graph.all (fun g => decide (g.1 < 512) && decide (g.2.stAt + g.2.init.length ≤ 16384))

/-- Every operand of the command is in its range. -/
def Instr.wf : Instr → Bool
  | .powerOnResetEnd _ => true
  | .wakeRecognised => true
  | .wakeFall => true
  | .mainRailLoss rail => decide (rail < 3)
  | .vkaLoss => true
  | .vkaReturn => true
  | .nresetPulse _ _ => true
  | .sramClearEnd => true
  | .clkinDetectEnd _ => true
  | .clockRomStepEnd _ _ _ => true
  | .flashStartEnd _ hdrA hdrB => decide (hdrA.length = 256) && decide (hdrB.length = 256)
  | .imageReadEnd body _ _ _ => decide (body.length < 4194304)
  | .verifyEnd _ => true
  | .commitEnd content => content.wf
  | .mandatoryBistEnd _ => true
  | .islandsStepEnd => true
  | .keyDerived => true
  | .replyAgain f => f.wf
  | .identity f => f.wf
  | .status f => f.wf
  | .heartbeat f => f.wf
  | .ringRead f => f.wf
  | .memRead f => f.wf
  | .vitRead f => f.wf
  | .regRead f => f.wf
  | .regWrite f => f.wf
  | .memWrite f => f.wf
  | .arm f => f.wf
  | .disarm f => f.wf
  | .axisEnable f => f.wf
  | .axisDisable f => f.wf
  | .axisStop f => f.wf
  | .setpoint f => f.wf
  | .islDiag f => f.wf
  | .sbcTest f => f.wf
  | .ownOffer f => f.wf
  | .ownTake f => f.wf
  | .ownSeize f => f.wf
  | .fltClear f => f.wf
  | .fltInj f => f.wf
  | .thermMeasure f => f.wf
  | .ceCapture f => f.wf
  | .ceMode f => f.wf
  | .adcCal f => f.wf
  | .serviceEnter f => f.wf
  | .serviceExit f => f.wf
  | .bistRun f => f.wf
  | .repairFuse f => f.wf
  | .imgWrite f => f.wf
  | .imgVerify f => f.wf
  | .imgSelect f => f.wf
  | .imgAccept f => f.wf
  | .imgReject f => f.wf
  | .attest f => f.wf
  | .docentLaneExecute => true
  | .promiseMissed host label => decide (host < 4) && decide (label < 256)
  | .heartbeatExpired host => decide (host < 4)
  | .ownOfferExpired x => decide (x < 6)
  | .selfReset => true
  | .lossOfLock path => decide (path < 2)
  | .pathRelock path => decide (path < 2)
  | .clkReturn host => decide (host < 4)
  | .clkStep host steps => decide (host < 4) && decide (steps < 256)
  | .phaseStep => true
  | .clockMonitorWindow _ _ _ _ _ _ => true
  | .delayLineCalLost => true
  | .epochTick => true
  | .syncOutPulseEnd => true
  | .syncInEdge ph => decide (ph < 16)
  | .snap => true
  | .syncInMissing => true
  | .periodBoundary a => decide (a < 4)
  | .peakUpdate a => decide (a < 4)
  | .pwmEdge a p _ => decide (((a < 4 ∧ p < 6) ∨ (4 ≤ a ∧ a < 10 ∧ p < 2)))
  | .deadTimeEnd a p _ => decide (a < 4) && decide (p < 3)
  | .tripInputChange a src _ => decide (a < 4) && decide (src < 4)
  | .blankingEnd a => decide (a < 4)
  | .tripLatchClear host a bits => decide (host < 4) && decide (a < 4) && decide (bits < 16)
  | .sinkAction sink => decide (sink < 10)
  | .channelBoundary j => decide (j < 6)
  | .linkFrameReceived lane _ words _ _ _ tel =>
    decide (lane < 14) && decide (words.length = 8) && words.all (fun w => decide (w < 1024)) && tel.wf
  | .linkTimeout lane _ => decide (lane < 14)
  | .giSafeStateApply g => decide (g < 2)
  | .cdConfirmOffAssumed n => decide (n < 12)
  | .retrainStart lane => decide (lane < 14)
  | .retrainEnd lane _ => decide (lane < 14)
  | .islandCommandWord lane _ => decide (lane < 14)
  | .statusWordReceived lane _ _ => decide (lane < 14)
  | .interlockRelease sw => decide (sw < 28)
  | .vgsConfirm sw _ => decide (sw < 28)
  | .segmentEnd sw _ => decide (sw < 28)
  | .gateMonitorTimeout sw => decide (sw < 28)
  | .scBlankEnd sw => decide (sw < 28)
  | .shortDetected sw => decide (sw < 28)
  | .ocDetected a p => decide (a < 4) && decide (p < 3)
  | .islandSupplyCrossing isl mon _ => decide (isl < 13) && decide (mon < 6) && decide ((isl < 12 ∨ mon < 4))
  | .honLimit n => decide (n < 12)
  | .diagPhaseEnd a _ _ _ => decide (a < 4)
  | .supplyFault rail => decide (rail < 5)
  | .vddIoLow => true
  | .seqDelayEnd k => decide (k < 4)
  | .seqWindowWaitExpiry k => decide (k < 4)
  | .conversionResult k code _ _ _ => decide (k < 4) && decide (code < 16384)
  | .calibrationEnd k _ diff words => decide (k < 4) && decide (diff < 65536) && decide (words.length = 13)
  | .sequencerGo host bits => decide (host < 4) && decide (bits < 16)
  | .forceSlice host bits => decide (host < 4) && decide (bits < 16)
  | .urgentRequest host k _ => decide (host < 4) && decide (k < 4)
  | .urgentArrival k => decide (k < 4)
  | .latestValueUpdate k c => decide (k < 4) && decide (c < 12)
  | .windowOpen k p => decide (k < 4) && decide (p < 3)
  | .windowClose k p => decide (k < 4) && decide (p < 3)
  | .windowResultReceived k p => decide (k < 4) && decide (p < 3)
  | .sarResult sar v => decide (sar < 2) && decide (v < 4096)
  | .fieldStep a => decide (a < 4)
  | .sectorChange a => decide (a < 4)
  | .reacqTimeout a => decide (a < 4)
  | .hallEdge a code => decide (a < 4) && decide (code < 8)
  | .hallTimeout a => decide (a < 4)
  | .lposRead a => decide (a < 4)
  | .ceStepStart e _ => decide (e < 2)
  | .ceCurrentSection a _ => decide (a < 4)
  | .ceStepEnd e _ _ _ => decide (e < 2)
  | .stepOverrun e => decide (e < 2)
  | .laneTimeout l => decide (l < 32)
  | .cmdinEdge d _ _ _ _ => decide (d < 4)
  | .decoderLoss e d => decide (e < 2) && decide (d < 4)
  | .paramBlockWrite host first count => decide (host < 4) && decide (first < 4096) && decide (count < 2048)
  | .paramBlockTakeEnd => true
  | .injectionRun host g _ => decide (host < 4) && decide (g < 2)
  | .auxCurrentTrip x bridge _ => decide (x < 2) && decide (bridge < 2)
  | .auxOvercurrent x bridge => decide (x < 2) && decide (bridge < 2)
  | .auxHonLimit x leg => decide (x < 2) && decide (leg < 4)
  | .auxBootstrapLow x leg _ => decide (x < 2) && decide (leg < 4)
  | .vauxUndervoltage _ => true
  | .auxSwitchConfirmed x sw => decide (x < 2) && decide (sw < 3)
  | .holdDelayEnd x => decide (x < 2)
  | .auxTarget host x _ => decide (host < 4) && decide (x < 2)
  | .home host x => decide (host < 4) && decide (x < 2)
  | .auxDuty host x _ => decide (host < 4) && decide (x < 2)
  | .dclEvaluation c => decide (c < 2)
  | .vdcStale c => decide (c < 2)
  | .ov3Trip => true
  | .ov3Release => true
  | .ov3PlausibilityTimer => true
  | .bcsResult i => decide (i < 2)
  | .noFallTimer i => decide (i < 2)
  | .chopperMarkClear host i => decide (host < 4) && decide (i < 2)
  | .fallbackLevelCross i _ => decide (i < 2)
  | .dischargeGo host => decide (host < 4)
  | .dischargeStop host => decide (host < 4)
  | .dischargeProbeEnd => true
  | .dischargeTargetTimeout => true
  | .stoInputChange i _ => decide (i < 2)
  | .stoFilterExpiry i => decide (i < 2)
  | .stoDiscrepancy => true
  | .stoPathTestStart => true
  | .stoPathTestPhaseEnd _ => true
  | .stoTestOverdue => true
  | .torqueMonitorEval a => decide (a < 4)
  | .sbcRel host _ => decide (host < 4)
  | .brakeApplySpeedReached => true
  | .sbcTestWaitExpiry => true
  | .sbcAutoTestStart => true
  | .sbcTestOverdue => true
  | .degTimeExpired => true
  | .safetyWatchdogExpiry c => decide (c < 8)
  | .faultReport _ _ _ => true
  | .causeExpiry code => decide (code < 65536)
  | .reactionWindowEnd code => decide (code < 65536)
  | .compatRecoveryScan => true
  | .recoveryHourEnd => true
  | .recovRst host => decide (host < 4)
  | .logclr host => decide (host < 4)
  | .fltLookup host code => decide (host < 4) && decide (code < 65536)
  | .logEntryWritten _ => true
  | .injectionEnd => true
  | .docentCheckIn => true
  | .aliveHalfPeriod _ => true
  | .docentStall => true
  | .hltClr host _ => decide (host < 4)
  | .hltConfigWrite host m _ _ => decide (host < 4) && decide (m < 32)
  | .eventDelivery => true
  | .canFrameReceived c id ide _ _ _ _ dlc _ tec rec' => decide (c < 3) && decide (id < (if ide then 536870912 else 2048)) && decide (dlc < 16) && decide (tec < 512) && decide (rec' < 256)
  | .canFrameStart c => decide (c < 3)
  | .transmitComplete c tec rec' _ => decide (c < 3) && decide (tec < 512) && decide (rec' < 256)
  | .canError c lec tec rec' _ => decide (c < 3) && decide (lec < 8) && decide (tec < 512) && decide (rec' < 256)
  | .integrationComplete c => decide (c < 3)
  | .restrictedTimer c => decide (c < 3)
  | .restrictionProlonged c => decide (c < 3)
  | .busOffWaitEnd c => decide (c < 3)
  | .recoveryComplete c => decide (c < 3)
  | .bocntResetTimer c => decide (c < 3)
  | .canStop host c => decide (host < 4) && decide (c < 3)
  | .canRecover host c => decide (host < 4) && decide (c < 3)
  | .txRequest host c _ => decide (host < 4) && decide (c < 3)
  | .txCancel host c _ => decide (host < 4) && decide (c < 3)
  | .objectHeaderRead host c i => decide (host < 4) && decide (c < 3) && decide (i < 64)
  | .objectTimeout c i => decide (c < 3) && decide (i < 64)
  | .tamperAlarm k => decide (k < 6)
  | .secTamperClear host _ => decide (host < 4)
  | .provKeyhash hash => decide (hash.length = 32)
  | .provPolicy _ => true
  | .provIdent _ seed => decide (seed.length = 48)
  | .provLock => true
  | .extest cells levels => decide (levels.length = cells.length)
  | .samplePreload cells levels => decide (levels.length = cells.length)
  | .idcode _ => true
  | .clamp => true
  | .highz => true
  | .bypass => true
  | .scan => true
  | .dbgChal _ rnd => decide (rnd.length = 16)
  | .dbgResp key _ => decide (key.length = 32)
  | .dbgRespVerified => true
  | .dbgAccess _ addr _ => decide (addr < 16777216)
  | .bistUnitComplete _ => true
  | .repairProgramEnd _ _ => true
  | .attestSignatureComplete => true
  | .sensorDemand sensor => decide (sensor < 30)
  | .sensorConversionEnd sensor _ => decide (sensor < 30)
  | .throttleInterval a => decide (a < 4)
  | .preserveTurnStart => true
  | .preserveProgramEnd _ _ => true
  | .registerWrite host addr _ => decide (host < 4) && decide (addr < 0x130000) && decide (addr % 4 = 0)
  | .unknownOpcodeFrame _ f => f.wf
  | .imgWriteEnd _ => true
  | .imgVerifyEnd _ body _ _ _ _ => decide (body.length < 4194304)
  | .switchRawTransition x sw _ => decide (x < 2) && decide (sw < 3)
  | .supplyReturn rail => decide (rail < 5)
  | .vauxReturn _ => true
  | .auxBootstrapRelease x leg _ => decide (x < 2) && decide (leg < 4)
  | .delayLineCalReturn => true
  | .sbcSettleEnd => true

end Sys2Proof
end

