-- ==== Sys2Proof/Tests/Slice0.lean ====
section
/-! SUPPORT. Own tests: the checks of well-formedness, single steps against worked values of the spec, and for every obligation
with hypotheses a device and operands that meet them, at the ends of their ranges. -/

namespace Sys2Proof.Tests

set_option Elab.async false

open Sys2Proof.Machine

/-! ### Helpers -/

/-- A frame on port A without payload. -/
def frameOk : Frame := ⟨0, 0xA5, 1, 0, 0, 0, 0xF, [], none, false, false⟩
def tenantOk : Tenant := ⟨0, [0], true, true, true, true, 3, 0, 16⟩
def contentOk : ImageContent := ⟨[0], [], [], [tenantOk], [(0, 0)], [], [], [], [], 0⟩
def instOk : CeInst := ⟨0x02, some 3, some 3, [], [], [], 0, none, some (.vref 3), 0⟩
/-- The words of a link frame of the command field 0. -/
def words0 : List Nat := List.replicate 8 0
def telOf (n : Nat) (l : List Nat) : Telemetry := ⟨n, n, n, n, n, l⟩
def bistPass : BistOut := ⟨false, none, false, 0, 0, 0, true⟩

/-- The device right after reset, and the same device in another state. -/
def d0 : Dev := State.reset.dev
def on (d : Dev) : State := ⟨d, []⟩
def inState (d : Dev) (st : DState) : Dev := { d with dstate := st }

/-- A device after commit, with every axis in its topology and host A allowed everything. -/
def up : Dev :=
  let d := { inState d0 .ready with
    pwm := tmod d0.pwm 0 (fun w => { w with running := true })
    topo := { d0.topo with axes := Vector.replicate 6 true } }
  ((d.rset (Reg.HOST_TEN 0) 0x7FFFF).rset (Reg.HOST_TKT 0) 16).rset Reg.HOST_OWN 0

/-- The device after a command; `d0` when it does not go on. -/
def after (i : Instr) (d : Dev) : Dev := match exec i (on d) with | .next t => t.dev | _ => d0

/-- The bytes after a frame's header, with their CRC. -/
def body (op : Nat) (f : Frame) (pl : List Byte) : List Byte :=
  pl ++ beBytes 4 (crc32c ([f.sync, f.host, BitVec.ofNat 8 op, f.ticket] ++ beBytes 2 f.len ++ [f.flags, f.target] ++ pl)).toNat

/-- A sound frame of host A on port A. -/
def frameA (op : Nat) (flags target : Byte) (pl : List Byte) : Frame :=
  let f : Frame := ⟨0, 0xA5, 1, 7, pl.length, flags, target, [], none, false, false⟩
  { f with rest := body op f pl }

/-- A command of host A in operation. -/
def running (op : Nat) (d : Dev) : Dev := d.setCmds [{ (default : Cmd) with id := ⟨0, 7⟩, op := op, phase := .running }]

/-- `HLT0_LO` bounded to 0 … 10 by the image. -/
def bounded (a : Nat) : Dev := { up with img := { up.img with bounds := [(a, [⟨0, 8, false, 0, 10⟩])] } }

/-- Controller 2 in ACTIVE, owned by host A, with buffers 0 and 31 pending and 31 being sent. -/
def canUp : Dev :=
  let d := ((up.rset (Reg.CAN_CFG 2) 0x80000000).wf (Reg.CAN_STAT 2) 29 3 3)
  ((d.wb (Reg.CAN_TXREQ 2) 0 true).wb (Reg.CAN_TXREQ 2) 31 true).ccMod 2 (fun x => { x with sending := some (.buf 31) })

def bistBad : BistOut := { bistPass with found := true, sig := 1 }
/-- A fault that all spares of a memory of an engine repair. -/
def lines6 : List (Nat × Bool) := [(0, false), (0, false), (0, false), (0, false), (0, true), (0, true)]
def bistFix : BistOut := { bistBad with repair := some lines6, retestOk := true }

/-- Lane 11 and lane 13 trained, with their links changed. -/
def laneWith (f : Link → Link) : Dev :=
  { up with link := tmod (tmod up.link 11 (fun l => f { l with trained := true })) 13 (fun l => f { l with trained := true }) }

/-! ### Well-formed commands: one ill-formed term for each check, and each row at the top of its ranges -/

theorem ill_formed_refused_1 : ([
    .flashStartEnd false [] (List.replicate 256 0), .flashStartEnd false (List.replicate 256 0) [],
    .mainRailLoss 3, .commitEnd ({ contentOk with axes := [6] }),
    .commitEnd ({ contentOk with pairs := [2] }), .commitEnd ({ contentOk with off30 := [2] }),
    .commitEnd ({ contentOk with owners := [(6, 0)] }), .commitEnd ({ contentOk with owners := [(0, 4)] }),
    .commitEnd ({ contentOk with regs := [(1245184, 0)] }), .commitEnd ({ contentOk with regs := [(2, 0)] }),
    .commitEnd ({ contentOk with tenants := [{ tenantOk with host := 4 }] }),
    .commitEnd ({ contentOk with tenants := [{ tenantOk with axes := [6] }] }),
    .commitEnd ({ contentOk with tenants := [{ tenantOk with axes := [0, 0] }] }), .commitEnd ({ contentOk with adcGo := 16 }),
    .commitEnd ({ contentOk with graph := [(512, instOk)] }), .commitEnd ({ contentOk with graph := [(0, { instOk with stAt := 16385 })] }),
    .replyAgain ({ frameOk with port := 4 }),
    .identity ({ frameOk with port := 4 }), .identity ({ frameOk with len := 65536 }), .status ({ frameOk with port := 4 }),
    .heartbeat ({ frameOk with port := 4 }), .ringRead ({ frameOk with port := 4 }), .memRead ({ frameOk with port := 4 }),
    .vitRead ({ frameOk with port := 4 }), .regRead ({ frameOk with port := 4 }), .regWrite ({ frameOk with port := 4 }),
    .memWrite ({ frameOk with port := 4 }), .arm ({ frameOk with port := 4 }), .disarm ({ frameOk with port := 4 })] : List Instr).all (fun i => !i.wf) = true := by decide +kernel

theorem ill_formed_refused_2 : ([
    .axisEnable ({ frameOk with port := 4 }), .axisDisable ({ frameOk with port := 4 }),
    .axisStop ({ frameOk with port := 4 }), .setpoint ({ frameOk with port := 4 }), .islDiag ({ frameOk with port := 4 }),
    .sbcTest ({ frameOk with port := 4 }), .ownOffer ({ frameOk with port := 4 }), .ownTake ({ frameOk with port := 4 }),
    .ownSeize ({ frameOk with port := 4 }), .fltClear ({ frameOk with port := 4 }), .fltInj ({ frameOk with port := 4 }),
    .thermMeasure ({ frameOk with port := 4 }), .ceCapture ({ frameOk with port := 4 }),
    .ceMode ({ frameOk with port := 4 }), .adcCal ({ frameOk with port := 4 }), .serviceEnter ({ frameOk with port := 4 }),
    .serviceExit ({ frameOk with port := 4 }), .bistRun ({ frameOk with port := 4 }),
    .repairFuse ({ frameOk with port := 4 }), .imgWrite ({ frameOk with port := 4 }),
    .imgVerify ({ frameOk with port := 4 }), .imgSelect ({ frameOk with port := 4 }),
    .imgAccept ({ frameOk with port := 4 }), .imgReject ({ frameOk with port := 4 })] : List Instr).all (fun i => !i.wf) = true := by decide +kernel

theorem ill_formed_refused_3 : ([
    .attest ({ frameOk with port := 4 }), .promiseMissed 4 0, .promiseMissed 0 256, .heartbeatExpired 4, .ownOfferExpired 6,
    .lossOfLock 2, .pathRelock 2, .clkReturn 4, .clkStep 4 0, .clkStep 0 256, .periodBoundary 4, .peakUpdate 4,
    .pwmEdge 0 6 false, .pwmEdge 4 2 false, .pwmEdge 10 0 false, .deadTimeEnd 4 0 false, .deadTimeEnd 0 3 false,
    .tripInputChange 4 0 false, .tripInputChange 0 4 false, .blankingEnd 4, .tripLatchClear 4 0 0, .tripLatchClear 0 4 0,
    .tripLatchClear 0 0 16, .sinkAction 10] : List Instr).all (fun i => !i.wf) = true := by decide +kernel

theorem ill_formed_refused_4 : ([
    .channelBoundary 6, .linkFrameReceived 14 false words0 true true false (telOf 0 []),
    .linkFrameReceived 0 false [0] true true false (telOf 0 []),
    .linkFrameReceived 0 false (List.replicate 8 1024) true true false (telOf 0 []),
    .linkFrameReceived 0 false words0 true true false ⟨256, 0, 0, 0, 0, []⟩,
    .linkFrameReceived 0 false words0 true true false ⟨0, 256, 0, 0, 0, []⟩,
    .linkFrameReceived 0 false words0 true true false ⟨0, 0, 256, 0, 0, []⟩,
    .linkFrameReceived 0 false words0 true true false ⟨0, 0, 0, 256, 0, []⟩,
    .linkFrameReceived 0 false words0 true true false ⟨0, 0, 0, 0, 256, []⟩,
    .linkFrameReceived 0 false words0 true true false (telOf 0 [256]), .linkTimeout 14 false, .giSafeStateApply 2,
    .cdConfirmOffAssumed 12, .retrainStart 14, .retrainEnd 14 false, .islandCommandWord 14 true, .statusWordReceived 14 true false,
    .interlockRelease 28, .vgsConfirm 28 false, .segmentEnd 28 false, .gateMonitorTimeout 28, .scBlankEnd 28,
    .shortDetected 28, .ocDetected 4 0, .ocDetected 0 3, .islandSupplyCrossing 13 0 false, .islandSupplyCrossing 0 6 false] : List Instr).all (fun i => !i.wf) = true := by decide +kernel

theorem ill_formed_refused_5 : ([
    .islandSupplyCrossing 12 4 false, .honLimit 12, .diagPhaseEnd 4 0 0 0, .supplyFault 5, .seqDelayEnd 4,
    .seqWindowWaitExpiry 4, .conversionResult 4 0 false none false, .conversionResult 0 16384 false none false,
    .calibrationEnd 4 false 0 (List.replicate 13 0), .calibrationEnd 0 false 65536 (List.replicate 13 0), .calibrationEnd 0 false 0 [], .sequencerGo 4 0,
    .sequencerGo 0 16, .forceSlice 4 0, .forceSlice 0 16, .urgentRequest 4 0 0, .urgentRequest 0 4 0, .urgentArrival 4,
    .latestValueUpdate 4 0, .latestValueUpdate 0 12, .windowOpen 4 0, .windowOpen 0 3, .windowClose 4 0, .windowClose 0 3,
    .windowResultReceived 4 0] : List Instr).all (fun i => !i.wf) = true := by decide +kernel

theorem ill_formed_refused_6 : ([
    .windowResultReceived 0 3, .sarResult 2 0, .sarResult 0 4096, .fieldStep 4,
    .sectorChange 4, .reacqTimeout 4, .hallEdge 4 0, .hallEdge 0 8, .hallTimeout 4, .lposRead 4,
    .ceStepStart 2 [], .ceCurrentSection 4 false, .ceStepEnd 2 false 0 0, .stepOverrun 2, .laneTimeout 32,
    .cmdinEdge 4 0 0 0 0, .decoderLoss 2 0, .decoderLoss 0 4, .paramBlockWrite 4 0 0, .paramBlockWrite 0 4096 0,
    .paramBlockWrite 0 0 2048, .injectionRun 4 0 false] : List Instr).all (fun i => !i.wf) = true := by decide +kernel

theorem ill_formed_refused_7 : ([
    .injectionRun 0 2 false, .auxCurrentTrip 2 0 0, .auxCurrentTrip 0 2 0, .auxOvercurrent 2 0, .auxOvercurrent 0 2,
    .auxHonLimit 2 0, .auxHonLimit 0 4, .auxBootstrapLow 2 0 false, .auxBootstrapLow 0 4 false,
    .auxSwitchConfirmed 2 0, .auxSwitchConfirmed 0 3, .holdDelayEnd 2, .auxTarget 4 0 0, .auxTarget 0 2 0,
    .home 4 0, .home 0 2, .auxDuty 4 0 0, .auxDuty 0 2 0, .dclEvaluation 2, .vdcStale 2, .bcsResult 2, .noFallTimer 2, .chopperMarkClear 4 0] : List Instr).all (fun i => !i.wf) = true := by decide +kernel

theorem ill_formed_refused_8 : ([
    .chopperMarkClear 0 2, .fallbackLevelCross 2 false, .dischargeGo 4, .dischargeStop 4, .stoInputChange 2 false,
    .stoFilterExpiry 2, .torqueMonitorEval 4, .sbcRel 4 false, .safetyWatchdogExpiry 8, .causeExpiry 65536,
    .reactionWindowEnd 65536, .recovRst 4, .logclr 4, .fltLookup 4 0, .fltLookup 0 65536, .hltClr 4 0,
    .hltConfigWrite 4 0 false 0, .hltConfigWrite 0 32 false 0, .canFrameReceived 3 0 false false false false false 0 [] 0 0,
    .canFrameReceived 0 2048 false false false false false 0 [] 0 0,
    .canFrameReceived 0 536870912 true false false false false 0 [] 0 0,
    .canFrameReceived 0 0 false false false false false 16 [] 0 0,
    .canFrameReceived 0 0 false false false false false 0 [] 512 0,
    .canFrameReceived 0 0 false false false false false 0 [] 0 256] : List Instr).all (fun i => !i.wf) = true := by decide +kernel

theorem ill_formed_refused_9 : ([
    .canFrameStart 3, .transmitComplete 3 0 0 0, .transmitComplete 0 512 0 0, .transmitComplete 0 0 256 0,
    .canError 3 0 0 0 none, .canError 0 8 0 0 none, .canError 0 0 512 0 none, .canError 0 0 0 256 none,
    .integrationComplete 3, .restrictedTimer 3, .restrictionProlonged 3, .busOffWaitEnd 3, .recoveryComplete 3,
    .bocntResetTimer 3, .canStop 4 0, .canStop 0 3, .canRecover 4 0, .canRecover 0 3, .txRequest 4 0 0, .txRequest 0 3 0,
    .txCancel 4 0 0, .txCancel 0 3 0, .objectHeaderRead 4 0 0, .objectHeaderRead 0 3 0] : List Instr).all (fun i => !i.wf) = true := by decide +kernel

theorem ill_formed_refused_10 : ([
    .objectHeaderRead 0 0 64, .objectTimeout 3 0, .objectTimeout 0 64, .tamperAlarm 6, .secTamperClear 4 0, .provKeyhash [],
    .provIdent false [], .dbgChal false [], .dbgAccess false 16777216 0, .sensorDemand 30, .sensorConversionEnd 30 none,
    .throttleInterval 4, .registerWrite 4 0 0, .registerWrite 0 1245184 0, .registerWrite 0 2 0,
    .unknownOpcodeFrame 0 ({ frameOk with port := 4 }), .extest [true] [], .samplePreload [] [true], .syncInEdge 16, .dbgResp [] [],
    .switchRawTransition 2 0 true, .switchRawTransition 0 3 true, .supplyReturn 5, .auxBootstrapRelease 2 0 false,
    .auxBootstrapRelease 0 4 false] : List Instr).all (fun i => !i.wf) = true := by decide +kernel

theorem top_well_formed_1 : ([
    .flashStartEnd false (List.replicate 256 0) (List.replicate 256 0),
    .imageReadEnd [] false false false, .mainRailLoss 2, .nresetPulse true true, .clockRomStepEnd true true true, .powerOnResetEnd true,
    .commitEnd ({ contentOk with adcGo := 15, graph := [(511, { instOk with stAt := 16383, init := [0] })] }),
    .replyAgain ({ frameOk with port := 3, len := 65535 }), .identity ({ frameOk with port := 3, len := 65535 }),
    .status ({ frameOk with port := 3, len := 65535 }), .heartbeat ({ frameOk with port := 3, len := 65535 }),
    .ringRead ({ frameOk with port := 3, len := 65535 }), .memRead ({ frameOk with port := 3, len := 65535 }),
    .vitRead ({ frameOk with port := 3, len := 65535 }), .regRead ({ frameOk with port := 3, len := 65535 }),
    .regWrite ({ frameOk with port := 3, len := 65535 }), .memWrite ({ frameOk with port := 3, len := 65535 }),
    .arm ({ frameOk with port := 3, len := 65535 }), .disarm ({ frameOk with port := 3, len := 65535 }),
    .axisEnable ({ frameOk with port := 3, len := 65535 }), .axisDisable ({ frameOk with port := 3, len := 65535 }),
    .axisStop ({ frameOk with port := 3, len := 65535 }), .setpoint ({ frameOk with port := 3, len := 65535 }),
    .islDiag ({ frameOk with port := 3, len := 65535 }), .sbcTest ({ frameOk with port := 3, len := 65535 }),
    .ownOffer ({ frameOk with port := 3, len := 65535 }), .ownTake ({ frameOk with port := 3, len := 65535 }),
    .ownSeize ({ frameOk with port := 3, len := 65535 })] : List Instr).all Instr.wf = true := by decide +kernel

theorem top_well_formed_2 : ([
    .fltClear ({ frameOk with port := 3, len := 65535 }), .fltInj ({ frameOk with port := 3, len := 65535 }),
    .thermMeasure ({ frameOk with port := 3, len := 65535 }), .ceCapture ({ frameOk with port := 3, len := 65535 }),
    .ceMode ({ frameOk with port := 3, len := 65535 }), .adcCal ({ frameOk with port := 3, len := 65535 }),
    .serviceEnter ({ frameOk with port := 3, len := 65535 }), .serviceExit ({ frameOk with port := 3, len := 65535 }),
    .bistRun ({ frameOk with port := 3, len := 65535 }), .repairFuse ({ frameOk with port := 3, len := 65535 }),
    .imgWrite ({ frameOk with port := 3, len := 65535 }), .imgVerify ({ frameOk with port := 3, len := 65535 }),
    .imgSelect ({ frameOk with port := 3, len := 65535 }), .imgAccept ({ frameOk with port := 3, len := 65535 }),
    .imgReject ({ frameOk with port := 3, len := 65535 }), .attest ({ frameOk with port := 3, len := 65535 }),
    .promiseMissed 3 255, .heartbeatExpired 3, .ownOfferExpired 5, .lossOfLock 1, .pathRelock 1, .clkReturn 3,
    .clkStep 3 255, .periodBoundary 3] : List Instr).all Instr.wf = true := by decide +kernel

theorem top_well_formed_3 : ([
    .peakUpdate 3, .pwmEdge 9 1 false, .deadTimeEnd 3 2 false, .tripInputChange 3 3 false, .blankingEnd 3,
    .tripLatchClear 3 3 15, .sinkAction 9, .channelBoundary 5,
    .linkFrameReceived 13 true (List.replicate 8 1023) true true false (telOf 255 [255]), .linkTimeout 13 false, .giSafeStateApply 1,
    .cdConfirmOffAssumed 11, .retrainStart 13, .retrainEnd 13 false, .islandCommandWord 13 true, .statusWordReceived 13 true false,
    .interlockRelease 27, .vgsConfirm 27 false, .segmentEnd 27 false, .gateMonitorTimeout 27, .scBlankEnd 27,
    .shortDetected 27, .ocDetected 3 2, .islandSupplyCrossing 11 5 false] : List Instr).all Instr.wf = true := by decide +kernel

theorem top_well_formed_4 : ([
    .honLimit 11, .diagPhaseEnd 3 0 0 0, .supplyFault 4, .seqDelayEnd 3, .seqWindowWaitExpiry 3,
    .conversionResult 3 16383 false none false, .calibrationEnd 3 false 65535 (List.replicate 13 0),
    .sequencerGo 3 15, .forceSlice 3 15, .urgentRequest 3 3 0, .urgentArrival 3, .latestValueUpdate 3 11, .windowOpen 3 2,
    .windowClose 3 2, .windowResultReceived 3 2, .sarResult 1 4095, .fieldStep 3, .sectorChange 3,
    .reacqTimeout 3, .hallEdge 3 7, .hallTimeout 3, .lposRead 3, .ceStepStart 1 [], .ceCurrentSection 3 false] : List Instr).all Instr.wf = true := by decide +kernel

theorem top_well_formed_5 : ([
    .ceStepEnd 1 false 0 0, .stepOverrun 1, .laneTimeout 31, .cmdinEdge 3 0 0 0 0, .decoderLoss 1 3,
    .paramBlockWrite 3 4095 2047, .injectionRun 3 1 false, .auxCurrentTrip 1 1 0, .auxOvercurrent 1 1, .auxHonLimit 1 3,
    .auxBootstrapLow 1 3 false, .auxSwitchConfirmed 1 2, .holdDelayEnd 1, .auxTarget 3 1 0, .home 3 1, .auxDuty 3 1 0,
    .dclEvaluation 1, .vdcStale 1, .bcsResult 1, .noFallTimer 1, .chopperMarkClear 3 1,
    .fallbackLevelCross 1 false, .dischargeGo 3, .dischargeStop 3] : List Instr).all Instr.wf = true := by decide +kernel

theorem top_well_formed_6 : ([
    .stoInputChange 1 false, .stoFilterExpiry 1, .torqueMonitorEval 3, .sbcRel 3 false, .safetyWatchdogExpiry 7,
    .causeExpiry 65535, .reactionWindowEnd 65535, .recovRst 3, .logclr 3, .fltLookup 3 65535, .hltClr 3 0,
    .hltConfigWrite 3 31 false 0, .canFrameReceived 2 2047 false false false false false 15 [] 511 255, .canFrameStart 2,
    .transmitComplete 2 511 255 0, .canError 2 7 511 255 none, .integrationComplete 2, .restrictedTimer 2,
    .restrictionProlonged 2, .busOffWaitEnd 2, .recoveryComplete 2, .bocntResetTimer 2, .canStop 3 2, .canRecover 3 2] : List Instr).all Instr.wf = true := by decide +kernel

theorem top_well_formed_7 : ([
    .txRequest 3 2 0, .txCancel 3 2 0, .objectHeaderRead 3 2 63, .objectTimeout 2 63, .tamperAlarm 5, .secTamperClear 3 0,
    .provKeyhash (List.replicate 32 0), .provIdent false (List.replicate 48 0), .dbgChal false (List.replicate 16 0),
    .dbgAccess false 16777215 0, .sensorDemand 29, .sensorConversionEnd 29 none, .throttleInterval 3,
    .registerWrite 3 1245180 0, .unknownOpcodeFrame 0 ({ frameOk with port := 3, len := 65535 }),
    .imgVerifyEnd false [] false false false [], .extest [true] [false], .samplePreload [true] [false], .syncInEdge 15,
    .dbgResp (List.replicate 32 0) [], .switchRawTransition 1 2 true, .supplyReturn 4,
    .auxBootstrapRelease 1 3 false] : List Instr).all Instr.wf = true := by decide +kernel

/-! ### The hypotheses of the general statements -/

theorem witness_StepRunsTheFrontCommand :
    (on d0).pending = [] ∧ d0.live = true ∧ d0.dstate ≠ .run ∧ d0.dstate ≠ .degraded ∧ (inState d0 .dormant).live = false ∧
    (inState d0 .run).live = true ∧ (inState d0 .degraded).live = true ∧
    (⟨d0, [.snap]⟩ : State).pending = .snap :: [] := by decide +kernel

theorem witness_EveryCommandAnswersANextState :
    (inState d0 .dormant).live = false ∧ actsAsleep .snap = false ∧
    ({ d0 with boot := { d0.boot with waiting := some .nreset } } : Dev).live = false := by decide +kernel

theorem witness_StoresReadBack :
    d0.tablesOk = true ∧ ((up.mwrite 0x250000 [1, 2]).setWord 3 7).tablesOk = true ∧ 0 + 32 ≤ 32 ∧ 16 + 16 ≤ 32 ∧
    (0 + 16 ≤ 16 ∨ 16 + 16 ≤ 0) := by decide +kernel

/-- The outcome of a step is a sound state again. -/
def stepSound (s : State) : Bool := match step s with | .next t => t.dev.sound | _ => false

theorem witness_EveryStepKeepsSound :
    up.sound = true ∧ stepSound ⟨up, [.supplyFault 4]⟩ = true ∧ stepSound ⟨up, []⟩ = true := by decide +kernel

theorem witness_EveryStepKeepsTheFuses :
    (match step ⟨up, [.provLock]⟩ with | .next t => t.dev.sec.lock | _ => true) = false := by decide +kernel

theorem witness_BoundsHoldAndLockoutStays :
    (bounded (Reg.HLT_LO 0)).live = true ∧ (rowAt (Reg.HLT_LO 0)).map (·.access) = some .rw ∧
    aget (bounded (Reg.HLT_LO 0)).img.bounds (Reg.HLT_LO 0) = some [⟨0, 8, false, 0, 10⟩] ∧
    inBounds 11 [⟨0, 8, false, 0, 10⟩] = false ∧ inBounds 10 [⟨0, 8, false, 0, 10⟩] = true ∧
    (bounded (Reg.HLT_LO 0)).mayWrite 0 (Reg.HLT_LO 0) = true ∧ (bounded (Reg.HLT_LO 0)).isolated (Reg.HLT_LO 0) = false ∧
    (rowAt Reg.SAFE_SBC_CTL).isSome = true ∧ (bounded Reg.SAFE_SBC_CTL).staged? Reg.SAFE_SBC_CTL = true ∧
    aget (bounded Reg.SAFE_SBC_CTL).img.bounds Reg.SAFE_SBC_CTL = some [⟨0, 8, false, 0, 10⟩] ∧
    (inState d0 .lockout).dstate = .lockout := by decide +kernel

theorem witness_CancelledBuffersBecomeFree :
    canUp.live = true ∧ canUp.tablesOk = true ∧ canUp.mayWrite 0 (Reg.CAN_TXCAN 2) = true ∧
    canUp.isolated (Reg.CAN_TXCAN 2) = false ∧ aget canUp.img.bounds (Reg.CAN_TXCAN 2) = none ∧
    canUp.rb (Reg.CAN_TXREQ 2) 0 = true ∧ canUp.rb (Reg.CAN_TXREQ 2) 31 = true ∧ canUp.rb (Reg.CAN_TXREQ 2) 1 = false ∧
    (canUp.cc 2).sending = some (.buf 31) ∧ (canUp.cc 2).sending ≠ some (.buf 0) ∧ bget 0x80000001 0 = true ∧
    bget 0x80000001 31 = true ∧ bget 0x80000001 1 = false ∧ canUp.canState 2 = 3 ∧ (canUp.cc 2).stopReq = false ∧
    ((canUp.ccMod 2 (fun x => { x with cancel := true })).cc 2).cancel = true := by decide +kernel

/-! ### Start-up, power and images -/

/-- No program of a preserve word may start (R45). -/
def noIo (d : Dev) : Dev := { d with power := { d.power with vddIoLow := true } }

/-- A device in reset state `st`, the low-voltage pins powered or not, `nRESET` low or not. -/
def pinned (st : DState) (ioUp low : Bool) : Dev :=
  let d := inState d0 st
  { d with power := { d.power with ioUp := ioUp, nResetLow := low }, tap := { d.tap with ir := 2 } }

theorem witness_PowerWakeAndReset :
    let asleep := inState d0 .dormant
    let off (wake low : Bool) := { asleep with power := { asleep.power with porEnded := false, wake := wake, nResetLow := low } }
    let waits : Dev := { asleep with boot := { asleep.boot with waiting := some .nreset } }
    asleep.dstate = .dormant ∧ asleep.boot.waiting = none ∧ asleep.power.vkaUp = true ∧ asleep.power.porEnded = true ∧
    (off true false).power.porEnded = false ∧ (off false false).power.wake = false ∧ (off true true).power.wake = true ∧
    (off false true).power.nResetLow = true ∧ (off false false).power.nResetLow = false ∧ d0.dstate ≠ .dormant ∧
    (inState d0 .lockout).dstate = .lockout ∧ d0.dstate ≠ .lockout ∧ d0.power.porEnded = true ∧ d0.power.nResetLow = false ∧
    d0.boot.waiting = none ∧ waits.boot.waiting = some .nreset ∧ waits.power.nResetLow = false ∧
    d0.live = true ∧ ({ d0 with boot := { d0.boot with resetDue := true } } : Dev).boot.resetDue = true ∧
    d0.boot.resetDue = false ∧ d0.prs.cur = none ∧ d0.prs.log = [] ∧
    ({ d0 with prs := { d0.prs with cur := some ⟨0, 1, 0, [], false⟩ } } : Dev).prs.cur.isSome = true ∧
    (pinned .dormant true false).power.ioUp = true ∧ (pinned .dormant false false).power.ioUp = false ∧
    ((pinned .lockout true false).tap.ir ≠ 0 ∧ (pinned .lockout true false).tap.ir ≠ 3 ∧ (pinned .lockout true false).tap.ir ≠ 4) := by
  decide +kernel

/-- A preserve program of the log is under way, or stands between two. -/
def logging (busy : Bool) (d : Dev) : Dev := d.prsMod (fun p => { p with log := [[0x1FF, 2, 3, 4]], logRun := some ⟨3, busy, false⟩ })

theorem witness_PowerWakeAndReset_programs :
    let waits (d : Dev) : Dev := { d with boot := { d.boot with waiting := some .self } }
    d0.prs.logRun = none ∧ (logging true d0).prs.logRun = some ⟨3, true, false⟩ ∧ (logging false d0).prs.logRun = some ⟨3, false, false⟩ ∧
    (waits d0).boot.waiting = some .self ∧ (waits d0).prs.cur = none ∧ (waits d0).prs.logRun = none ∧
    (waits d0).power.nResetLow = false ∧ (pinned .dormant true true).power.nResetLow = true := by decide +kernel

/-- A device in a step of IMAGE_CHECK. -/
def checking (n : Nat) : Dev := (inState d0 .imageCheck).wf Reg.IMG_STATUS 16 4 n

/-- A header that passes checks 1–10 of R79, for the signing key of 32 zero bytes, and a catalogue that passes 11–13. -/
def header : List Byte :=
  let h := beBytes 4 0x594C5349 ++ [1, 0, 0, 0] ++ beBytes 4 1 ++ beBytes 4 8304 ++ beBytes 4 256 ++ [12, 0, 0, 0] ++
    beBytes 4 448 ++ beBytes 4 0x59419412 ++ List.replicate 220 0
  h ++ beBytes 4 (crc32c h).toNat
/-- An entry of the catalogue: type, flags, and the CRC of the four zero bytes that are its section, or another one. -/
def entry (t flags : Nat) (bad : Bool) : List Byte :=
  beBytes 2 t ++ beBytes 2 flags ++ beBytes 4 (480 + 4 * t) ++ beBytes 4 4 ++ beBytes 4 ((crc32c [0, 0, 0, 0]).toNat + bad.toNat)
/-- The first bytes of a slot with the sections of one axis without aux axes and CAN ports, and with further entries. -/
def slotBytes (bad : Bool) (more : List Byte) : List Byte :=
  padTo 600 (List.replicate 256 0 ++ [1, 2, 3, 4, 5, 6, 7, 8, 10, 11, 12, 13].flatMap (fun t => entry t 0 bad) ++ more)

/-- An image of one axis that passes the content check: every section at its Reset value but for what may not be 0. -/
def imageRegs : List (Nat × Word) :=
  ([0, 1, 2].flatMap (fun n => [0, 4, 8].map (fun i => (Reg.ISL_H_SEG n i, 0x80000000)))) ++
  ((List.range 16).flatMap (fun c => [0, 4, 8].map (fun i => (Reg.ISL_GC_SEG c i, 0x80000000)))) ++
  [(Reg.ADC_SEQ 0 0, 0x40010080), (Reg.ADC_SEQ 1 0, 0x40010080), (Reg.FLD_RATED 0, 10000), (Reg.DCL_SCALE_A, 5000),
   (Reg.DCL_SCALE_B, 5000), (Reg.DCL_VNOM, 6000), (Reg.DCL_VCHOP, 0x1C201B58), (Reg.DCL_VFULL, 7400),
   (Reg.DCL_VOV, 0x1F401D4C), (Reg.DCL_VOV3, 0x03E82134)] ++
  [0, 1, 2, 3].map (fun c => (Reg.CE_CMD_X c, 0x10000))
def image : ImageContent := { contentOk with regs := imageRegs }

theorem image_passes_check_15 : (checking 4).contentOk image = true := by decide +kernel

set_option maxRecDepth 100000 in
theorem header_passes :
    ({ checking 1 with sec := { d0.sec with keyHash := some (sha256 (List.replicate 32 0)) } } : Dev).hdrCheck true header = 0 ∧
    readCheck 448 8000 (catalogue 256 12 (slotBytes false [])) false false true = 0 ∧
    readCheck 448 8000 (catalogue 256 12 (slotBytes true [])) false false true = 0x0E ∧
    readCheck 448 8000 (catalogue 256 13 (slotBytes false (entry 0 1 true))) false false true = 0 ∧
    readCheck 448 8000 (catalogue 256 11 (slotBytes false [])) false false true = 0x0C := by decide +kernel

set_option maxRecDepth 100000 in
/-- A read that passes, one that fails, and what leads to LOCKOUT at once. -/
theorem witness_StartupStepsAndSlots_checks :
    (let d : Dev := { checking 2 with boot := { d0.boot with catEnd := #v[448, 0], len := #v[8456, 0], count := #v[12, 0] } }
     let read (b : List Byte) : Nat :=
       let last := tget d.boot.catEnd d.slot
       let bytes := padTo (tget d.boot.len d.slot - 7856) b
       readCheck last (tget d.boot.len d.slot - 7856) (catalogue (last - 16 * tget d.boot.count d.slot) (tget d.boot.count d.slot) bytes)
         false false true
     read (slotBytes false []) = 0 ∧ read [] ≠ 0) ∧
    d0.power.testMode = false ∧ ({ d0 with power := { d0.power with testMode := true } } : Dev).power.testMode = true ∧
    d0.mapClass 0x0213 = 4 ∧ d0.mapClass 0x0001 = 4 ∧ d0.mapClass 0x0002 = 4 ∧ d0.flt.recs = [] ∧ fget (d0.pword 0) 0 1 = 0 ∧
    d0.hdrCheck false [] ≠ 0 ∧ tget d0.boot.res (1 - d0.slot) = 0 ∧ d0.boot.fellBack = false ∧
    tget ({ d0 with boot := { d0.boot with res := #v[1, 1] } } : Dev).boot.res 1 ≠ 0 := by decide +kernel

theorem witness_StartupStepsAndSlots :
    d0.live = true ∧ d0.dstate = .boot ∧ up.dstate ≠ .boot ∧ (checking 1).live = true ∧
    (∀ n ∈ [1, 2, 3, 4, 5, 6], (checking n).dstate = .imageCheck ∧ (checking n).rf Reg.IMG_STATUS 16 4 = n ∧
      d0.rf Reg.IMG_STATUS 16 4 ≠ n) ∧
    (checking 4).contentOk { contentOk with owners := [(0, 4)] } = false ∧
    ({ d0 with boot := { d0.boot with fellBack := true } } : Dev).boot.fellBack = true := by
  decide +kernel

/-- The mandatory subset after a unit. -/
def unitDone (d : Dev) (u : Nat) (o : BistOut) : Dev := (d.bistStore u true o).ev 0x05

theorem unitDone_res {d : Dev} (h : canon resetOf d.regs = true) {u v : Nat} (hu : u < 15) (hv : v < 15) (o : BistOut) :
    canon resetOf (unitDone d u o).regs = true ∧
    (unitDone d u o).rf (Reg.BIST_U_RES v) 28 4 = if v = u then d.bistResult u true o else d.rf (Reg.BIST_U_RES v) 28 4 :=
  bistStore_res h hu hv true o

/-- The results of MANDATORY_BIST_END: units that pass, a unit that fails, one that is repaired. -/
theorem witness_StartupStepsAndSlots_bist :
    (unitDone (checking 5) 0 bistPass).rf (Reg.BIST_U_RES 0) 28 4 = 0 ∧
    (unitDone (checking 5) 0 bistBad).rf (Reg.BIST_U_RES 0) 28 4 = 1 ∧
    (let t := unitDone (unitDone (unitDone (checking 5) 0 bistPass) 1 bistPass) 2 bistFix
     t = (bootUnits.zip [bistPass, bistPass, bistFix]).foldl (fun d x => (d.bistStore x.1 true x.2).ev 0x05) (checking 5) ∧
     t.rf (Reg.BIST_U_RES 2) 28 4 = 2 ∧ t.rf (Reg.BIST_U_RES 1) 28 4 = 0 ∧ t.rf (Reg.BIST_U_RES 0) 28 4 = 0) := by
  have c0 : canon resetOf (checking 5).regs = true := by decide +kernel
  have c1 := (unitDone_res (u := 0) (v := 0) c0 (by omega) (by omega) bistPass).1
  have c2 := (unitDone_res (u := 1) (v := 0) c1 (by omega) (by omega) bistPass).1
  refine ⟨?_, ?_, rfl, ?_, ?_, ?_⟩
  · rw [(unitDone_res (u := 0) (v := 0) c0 (by omega) (by omega) bistPass).2]; decide +kernel
  · rw [(unitDone_res (u := 0) (v := 0) c0 (by omega) (by omega) bistBad).2]; decide +kernel
  · rw [(unitDone_res (u := 2) (v := 2) c2 (by omega) (by omega) bistFix).2]; decide +kernel
  · rw [(unitDone_res (u := 2) (v := 1) c2 (by omega) (by omega) bistFix).2, if_neg (by omega),
      (unitDone_res (u := 1) (v := 1) c1 (by omega) (by omega) bistPass).2]
    decide +kernel
  · rw [(unitDone_res (u := 2) (v := 0) c2 (by omega) (by omega) bistFix).2, if_neg (by omega),
      (unitDone_res (u := 1) (v := 0) c1 (by omega) (by omega) bistPass).2, if_neg (by omega), (unitDone_res (u := 0) (v := 0) c0 (by omega) (by omega) bistPass).2]
    decide +kernel

set_option maxRecDepth 100000 in
theorem witness_SuppliesAndFieldImages :
    up.live = true ∧ up.opRuns 0x44 = false ∧ up.opRuns 0x45 = false ∧ (running 0x44 up).opRuns 0x44 = true ∧
    (running 0x45 up).opRuns 0x45 = true ∧ (running 0x45 up).live = true ∧
    (running 0x45 up).slotCheck false [] false false true [] ≠ 0 ∧
    (let d : Dev := running 0x45 (noIo up)
     d.slotCheck true header false false true [] = 0x0A ∧ d.wordBarred 0 (d.sigWord 0x0A) = true ∧ up.wordBarred 0 (up.sigWord 0x0A) = false) := by decide +kernel

/-! ### Frames and commands -/

/-- 0: the frame does not arrive; 1: a check refuses it; 2: admitted; 10 + n: admission test n fails. -/
def fate (op : Nat) (f : Frame) (d : Dev) : Nat :=
  match d.arrival op f with
  | none => 0
  | some (e, bs) => match e.accepts f.port bs with
    | none => 1
    | some (g, r) => match g.admission r with | .inl i => 10 + i | .inr _ => 2

theorem witness_TicketedFramesAreAdmitted :
    up.live = true ∧
    fate 0x40 (frameA 0x40 1 0xF []) up = 2 ∧ fate 0x12 (frameA 0x12 1 0xF [0x25, 0, 0, 0, 1, 2, 3, 4]) up = 2 ∧
    fate 0x40 (frameA 0x40 1 0xF []) (up.rset (Reg.HOST_TKT 0) 0) = 11 ∧ fate 0x40 (frameA 0x40 1 0xF []) d0 = 0 ∧
    (frameA 0x40 1 0xF []).more = false ∧ ({ frameA 0x40 1 0xF [] with more := true } : Frame).more = true ∧ up.hosts.ended = [] := by
  decide +kernel

/-- The frames that an up device takes on port A. -/
theorem witness_ticketed_rows_accepted :
    fate 0x11 (frameA 0x11 0 0xF ([0, 0x0D, 0xC0, 0] ++ [0, 0, 0, 1])) up ≠ 0 ∧
    fate 0x22 (frameA 0x22 0 0 []) { inState up .armed with diag := Vector.replicate 4 ⟨false, 0, 0, true⟩ } = 2 ∧
    fate 0x24 (frameA 0x24 0 0 []) { inState up .run with ax := Vector.replicate 4 .driving } = 2 ∧
    fate 0x26 (frameA 0x26 0 3 []) up = 2 ∧ fate 0x28 (frameA 0x28 1 5 [0]) up = 2 ∧
    fate 0x30 (frameA 0x30 1 0xF [0xFF, 0xFF]) up = 2 ∧ fate 0x32 (frameA 0x32 1 0xF [29]) up = 2 ∧
    fate 0x35 (frameA 0x35 2 0xF [3]) up = 2 ∧ fate 0x49 (frameA 0x49 3 0xF [1, 2, 3, 4]) up = 2 := by decide +kernel

theorem witness_DirectFramesAreAnswered :
    fate 0x01 (frameA 0x01 0 0xF []) up ≥ 2 ∧ fate 0x02 (frameA 0x02 0 0xF []) up ≥ 2 ∧ fate 0x03 (frameA 0x03 0 0xF []) up ≥ 2 ∧
    fate 0x04 (frameA 0x04 0 0xF [1, 2]) up ≥ 2 ∧ fate 0x05 (frameA 0x05 0 0xF [0, 0, 0, 128]) up ≥ 2 ∧
    fate 0x06 (frameA 0x06 0 0xF [0x25, 0, 0, 0, 0, 8]) up ≥ 2 ∧ fate 0x07 (frameA 0x07 0 3 [15, 1]) up ≥ 2 ∧
    fate 0x10 (frameA 0x10 0 0xF [0, 0, 0, 1]) up ≥ 2 ∧ up.boot.clearing = false ∧
    (let c : Dev := { up with boot := { up.boot with clearing := true } }
     c.boot.clearing = true ∧ fate 0x05 (frameA 0x05 0 0xF [0, 0, 0, 128]) c ≥ 2 ∧ fate 0x06 (frameA 0x06 0 0xF [0x25, 0, 0, 0, 0, 8]) c ≥ 2 ∧
     fate 0x07 (frameA 0x07 0 3 [15, 1]) c ≥ 2) ∧ up.poisoned 0x250000 8 = false ∧
    ({ up with poison := [0x250000] } : Dev).poisoned 0x250000 8 = true ∧ known 0x08 = false ∧
    (frameBytes 0x08 (frameA 0x08 0 0xF [])).head? = some 0xA5 ∧
    soundness 0 (frameBytes 0x08 (frameA 0x08 0 0xF [])) = .inr 0 ∧ up.bistUnit ≠ some 0xE ∧
    beAt (frameBytes 0x08 (frameA 0x08 0 0xF [])) 1 1 = 0 + 1 ∧ beAt (frameBytes 0x08 (frameA 0x08 0 0xF [])) 7 1 = 15 ∧
    soundness 0 [0xA5, 1, 2] = .inl (stTrunc, 8) ∧ ([0x5A] : List Byte).head? ≠ some 0xA5 := by decide +kernel

/-- The status with which checks 5–13 refuse a frame, 0 for none. -/
def refusal (op : Nat) (pick : Option Byte → Bool) (f : Frame) (d : Dev) : Nat :=
  match d.arrivalOf op pick f with
  | some (e, bs) => match e.rejects f.port bs with | some (_, _, v) => v | none => 0
  | none => 0

theorem witness_refused_frames :
    refusal 0x40 (fun b => b == some 0x40) (frameA 0x40 1 0xF [0]) up = stLen ∧
    refusal 0x02 (fun b => b == some 0x02) (frameA 0x02 0 0xF [0]) up = stLen ∧
    refusal 0x08 unknownByte (frameA 0x08 0 0xF []) up = stUnknown ∧
    refusal 0x40 (fun b => b == some 0x40) (frameA 0x40 1 0xF []) (checking 1) = stNotReady := by decide +kernel

def reqA (op flags target : Nat) (pl : List Byte) : Req := ⟨0, 1, op, 7, flags, target, pl, none⟩

theorem witness_ChecksOfAFrameInOrder :
    up.verdict { reqA 0x40 1 0xF [] with host := 2 } = stPriv ∧ up.verdict (reqA 0x40 16 0xF []) = stRange ∧
    up.verdict (reqA 0x40 15 6 []) = stRange ∧ up.verdict (reqA 0x08 1 0xF []) = stUnknown ∧
    d0.verdict (reqA 0x40 1 0xF []) = stNotReady ∧ up.verdict { reqA 0x40 1 0xF [] with port := 1, host := 2 } = stPriv ∧
    up.verdict (reqA 0x40 1 0xF [0]) = stLen ∧ up.verdict (reqA 0x40 0 0xF []) = stRange ∧
    up.verdict (reqA 0x41 1 0xF []) = stState ∧ (running 0x44 up).verdict (reqA 0x40 1 0xF []) = stSeq ∧
    up.verdict (reqA 0x40 1 0xF []) = stOk ∧ ticketed 0x40 = true ∧ (up.wb Reg.BIST_STAT 31 true).rb Reg.BIST_STAT 31 = true := by
  decide +kernel

/-- A command of host A in the Docent lane. -/
def inLane (op target : Nat) (pl : List Byte) (d : Dev) : Dev :=
  d.setCmds [{ (default : Cmd) with id := ⟨0, 7⟩, op := op, flags := 1, target := target, payload := pl, phase := .lane }]

/-- The command at the front of the lane of a device may act there. -/
def acts (op : Nat) (d : Dev) : Bool :=
  match nextInLane d.hosts.cmds with
  | some c => c.op == op && c.op != 0x11 && c.groups.isEmpty &&
      (d.cmdMod c.id (fun c => { c with phase := .staged, work := 0 })).mayAct c
  | none => false

/-- A trial image is running (R88). -/
def trial (d : Dev) : Dev := { (d.setWord 0 2).wb Reg.IMG_ACTIVE 1 true with boot := { d.boot with verified := true } }

theorem witness_DocentLaneCarriesOutCommands :
    nextInLane up.hosts.cmds = none ∧ acts 0x12 (inLane 0x12 0xF [0x25, 0, 0, 0, 1, 2, 3, 4] up) = true ∧
    acts 0x21 (inLane 0x21 0xF [] (inState up .armed)) = true ∧ acts 0x27 (inLane 0x27 0xF [] (inState up .run)) = true ∧
    acts 0x28 (inLane 0x28 5 [4] up) = true ∧ acts 0x30 (inLane 0x30 0xF [0xFF, 0xFF] up) = true ∧
    acts 0x31 (inLane 0x31 0xF [9, 1, 0, 1] up) = true ∧ acts 0x32 (inLane 0x32 0xF [29] up) = true ∧
    acts 0x33 (inLane 0x33 0xF [0, 0, 0, 0] up) = true ∧ acts 0x35 (inLane 0x35 0xF [3] up) = true ∧
    acts 0x40 (inLane 0x40 0xF [] up) = true ∧ acts 0x41 (inLane 0x41 0xF [] up) = false ∧
    ([0x41, 0x42, 0x43, 0x44, 0x45].all fun op => acts op (inLane op 0xF [2, 0, 0, 0] (inState up .service))) = true ∧
    acts 0x49 (inLane 0x49 0xF [1, 2, 3, 4] up) = true ∧ up.cmdOf ⟨3, 255⟩ = none ∧
    ([0x46, 0x47, 0x48].all fun op => acts op (inLane op 0xF [] (inState (trial up) .service)) && !(trial up).imgBarred op) = true ∧
    (noIo (trial up)).imgBarred 0x48 = true ∧ (laneWith id).laneUp (adcLane 3) = true ∧ up.laneUp (adcLane 3) = false ∧
    (let c (n : Nat) : Cmd := { (default : Cmd) with op := 0x11, payload := List.replicate 16 0, doc := List.range n }
     (c 1).fails.length + (up.missedPairs (c 1)).length ≠ (c 1).payload.length / 8 ∧
     (c 2).fails.length + (up.missedPairs (c 2)).length = (c 2).payload.length / 8) ∧
    (inLane 0x30 0xF [] up).cmdOf ⟨0, 7⟩ ≠ none ∧ (running 0x31 up).cmdOf ⟨0, 7⟩ ≠ none ∧
    ((up.wf (Reg.HOST_HB 3) 16 10 1000).rf (Reg.HOST_HB 3) 16 10 ≠ 0) ∧
    (tget up.hosts.port 3).hbAt + (up.wf (Reg.HOST_HB 3) 16 10 1000).rf (Reg.HOST_HB 3) 16 10 * msTicks ≤ 1000 * msTicks ∧
    ({ (default : Cmd) with op := 0x11, doc := [0], deadline := 5 } : Cmd).parts = [(5, [0])] ∧
    ({ up with hosts := { up.hosts with readySeen := true } } : Dev).hosts.readySeen = true ∧ up.rgr.inj = none ∧
    up.attOverlap 0x250000 4 = false ∧ up.poisonedPart 0x250000 4 = false := by decide +kernel

theorem witness_DocentLaneCarriesOutCommands_values :
    let cap : Dev := up.ceMod (fun c => { c with cap := some default })
    let soft (n : Nat) : List Spare := List.replicate n ⟨5, 3, false⟩
    let fuses (n : Nat) : Dev := up.secMod (fun s => { s with soft := soft 1, fused := soft n })
    let keyed : Dev := up.secMod (fun s => { s with key := some [] })
    let offered (t : Nat) : Dev := { up with now := t }
    up.ce.cap = none ∧ cap.ce.cap ≠ none ∧ up.sec.soft = [] ∧ (fuses 63).sec.fused.length + 1 ≤ 64 ∧ 64 < (fuses 64).sec.fused.length + 1 ∧
    up.sec.key = none ∧ keyed.sec.key = some [] ∧ up.sec.att = none ∧ (keyed.secMod (fun s => { s with att := some ([], []) })).sec.att ≠ none ∧
    up.tablesOk = true ∧ tget (offered 0).hosts.offerAt 5 + 100 * msTicks ≤ (offered (100 * msTicks)).now ∧
    (offered (100 * msTicks - 1)).now < tget (offered 0).hosts.offerAt 5 + 100 * msTicks := by decide +kernel

/-- A command that has come to its commit point. -/
def atPoint (op target : Nat) (d : Dev) : Dev × Cmd :=
  let c := { (default : Cmd) with id := ⟨0, 7⟩, op := op, target := target, phase := .staged }
  (d.setCmds [c], c)

theorem witness_AxisCommandsAtTheirCommitPoint :
    let may (p : Dev × Cmd) : Bool := p.1.mayAct p.2 && decide (p.1.cmdOf p.2.id = some p.2)
    let drv := { inState up .run with ax := Vector.replicate 4 .driving }
    let ena := { inState up .run with ax := Vector.replicate 4 .enabled }
    let armed := { inState up .armed with diag := Vector.replicate 4 ⟨false, 0, 0, true⟩ }
    up.cmdOf ⟨0, 7⟩ = none ∧ may (atPoint 0x22 3 armed) = true ∧ (armed.axGo 3 .enabled).dstate = .armed ∧
    may (atPoint 0x22 5 { armed with dstate := .run }) = true ∧ may (atPoint 0x23 0 ena) = true ∧
    may (atPoint 0x24 3 drv) = true ∧ may (atPoint 0x25 0 drv) = true ∧ may (atPoint 0x26 3 up) = true ∧
    may (atPoint 0x22 0 up) = false ∧ (atPoint 0x2A 0 up).1.owner 0 = 0 ∧
    (let aux (n : Nat) : Dev := (inState up .run).setAux 1 n
     may (atPoint 0x23 5 (aux 1)) = true ∧ may (atPoint 0x24 5 (aux 2)) = true) ∧
    (let held := up.wf Reg.HOST_OWN 0 3 1
     let taken := (held.wf Reg.HOST_OFFER 0 3 0)
     may (atPoint 0x29 0 taken) = true ∧ (atPoint 0x29 0 taken).1.owner 0 ≠ 0) ∧
    (let gone := (up.wf Reg.HOST_OWN 0 3 1).wb (Reg.HOST_HB 1) 31 true
     may (atPoint 0x2A 0 gone) = true ∧ (atPoint 0x2A 0 gone).1.owner 0 ≠ 0) := by decide +kernel

/-! ### Registers -/

/-- Host `h` may write the register, no test isolates it and the image declares no bounds. -/
def mayNow (d : Dev) (h a : Nat) : Bool := d.mayWrite h a && !d.isolated a && (aget d.img.bounds a).isNone

/-- Access code of a register that host A may write with a value. -/
def judged (d : Dev) (a : Nat) (v : Word) : Option Access :=
  match rowAt a with
  | some r => if d.mayWrite 0 a && !d.locked a r && !d.isolated a && d.valueOk a r v then some r.access else none
  | none => none

theorem witness_RegisterWritesAreJudged :
    up.live = true ∧ rowAt 0 ≠ none ∧ (rowAt 0x2C) = none ∧ up.mayWrite 1 Reg.CLK_CMD = false ∧
    (rowAt Reg.SYS_ID).map (·.access) = some .ro ∧ (rowAt Reg.CLK_TBPER).map (fun r => up.locked Reg.CLK_TBPER r) = some true ∧
    ((up.wb Reg.BIST_STAT 31 true).wf Reg.BIST_STAT 24 4 4).isolated (Reg.PWM_TRIP 3) = true ∧
    (rowAt (Reg.HLT_LO 0)).map (fun r => (bounded (Reg.HLT_LO 0)).valueOk (Reg.HLT_LO 0) r 11) = some false ∧
    (rowAt (Reg.PRES_W 0)).map (·.access) = some .prs ∧ ownWordRange 0 = true ∧ ownWordRange 0x10 = false ∧
    judged up Reg.SAFE_SBC_CTL 1 = some .rws ∧ up.staged? Reg.SAFE_SBC_CTL = true ∧
    judged up (Reg.PWM_CMPD 3 2) 100 = some .rws ∧
    ({ up with ax := Vector.replicate 4 .enabled } : Dev).staged? (Reg.PWM_CMPD 3 2) = false ∧
    judged up Reg.CLK_CMD 0 = some .wo ∧ judged up (Reg.HOST_IRQ 0) 0xF = some .w1c ∧ (up.writeOwn 0 (Reg.HOST_IRQ 0) 0xF) = none ∧
    (up.writeOwn 0 Reg.CLK_CMD 0).isSome = true ∧ judged up Reg.CE_PBLK_SRC 0 = some .rw ∧
    up.writeOwn 0 Reg.CE_PBLK_SRC 0 = none ∧ judged (bounded Reg.DCL_VNOM) Reg.DCL_VNOM 10 = some .rwl ∧
    up.writeOwn 0 Reg.DCL_VNOM 10 = none ∧ judged up Reg.CE_SWIN_SEL 0 ≠ none := by decide +kernel

theorem witness_ImmediateRegisterRows :
    let ser := inState up .service
    mayNow up 0 (Reg.PWM_TRIP 3) = true ∧ mayNow up 0 Reg.ADC_CTRL = true ∧ mayNow up 0 Reg.ADC_CMD = true ∧
    mayNow up 0 (Reg.ADC_URG 3) = true ∧ chanValid 3 (fget 0x09000000 24 4) = true ∧ chanValid 3 (fget 0x0F000000 24 4) = false ∧
    mayNow up 0 Reg.DCL_FLAGS = true ∧ mayNow up 0 Reg.FLT_CMD = true ∧ up.dstate ≠ .service ∧ ser.dstate = .service ∧
    mayNow ser 0 Reg.FLT_CMD = true ∧ mayNow up 0 Reg.FLT_LOOKUP = true ∧ slotOf 0x0C31 ≠ none ∧ slotOf 65535 = none ∧
    mayNow up 0 Reg.HLT_CLR = true ∧ mayNow up 0 (Reg.HLT_LO 31) = true ∧ mayNow up 0 (Reg.HLT_CFG 31) = true ∧
    hltValid 0x80000000 = true ∧ hltValid 0x00FF0000 = false ∧ mayNow up 0 Reg.SEC_TAMPER = true ∧
    ser.wordBarred 0x3F1 ser.recovWord = false ∧ (noIo ser).wordBarred 0x3F2 1 = true ∧
    mayNow ser 0 Reg.SEC_TAMPER = true ∧ fget 0x40 0 6 = 0 ∧ fget 0x20 0 6 ≠ 0 := by decide +kernel

theorem witness_CanCommandsAndRequests :
    let at' (n : Nat) : Dev := canUp.wf (Reg.CAN_STAT 2) 29 3 n
    canUp.live = true ∧ mayNow canUp 0 (Reg.CAN_CMD 2) = true ∧ mayNow canUp 0 (Reg.CAN_TXREQ 2) = true ∧
    mayNow canUp 0 (Reg.CAN_TXCAN 2) = true ∧ canUp.canState 2 = 3 ∧ (canUp.cc 2).sending.isSome = true ∧ (up.cc 2).sending = none ∧
    (at' 0).canState 2 = 0 ∧ (at' 5).canState 2 = 5 ∧ (at' 7).canState 2 = 7 ∧ mayNow (at' 7) 0 (Reg.CAN_CMD 2) = true := by
  decide +kernel

/-- A staged write of host A passes every check. -/
def mayWait (d : Dev) (a : Nat) (v : Word) : Bool := judged d a v == some .rws && d.staged? a

theorem witness_StagedRegisterRows :
    let cfg (d : Dev) (b : Bool) : Dev := d.wb (Reg.AUX_CFG 1) 29 b
    up.live = true ∧ mayWait up Reg.CE_PBLK (BitVec.ofNat 32 (4095 * 65536 + 2047)) = false ∧
    mayWait up Reg.CE_PBLK (BitVec.ofNat 32 (1024 * 65536 + 1)) = true ∧ mayWait up (Reg.CE_INJ_CTL 1) 1 = true ∧
    mayWait up (Reg.AUX_TGT 1) 0xFFFFFFFF = true ∧ mayWait up (Reg.AUX_CMD 1) 1 = true ∧ mayWait up (Reg.AUX_DUTY 1) 0 = true ∧
    mayWait up Reg.DCL_DISCH 1 = true ∧ mayWait up Reg.DCL_DISCH 2 = true ∧ mayWait up Reg.SAFE_SBC_CTL 1 = true ∧
    (cfg up true).rb (Reg.AUX_CFG 1) 29 = true ∧ (cfg up false).rb (Reg.AUX_CFG 1) 29 = false ∧ up.dstate = .ready ∧
    (inState up .run).dstate ≠ .ready := by decide +kernel

/-! ### Clocks -/

theorem witness_ClockPathLossAndRelock :
    let feeds (d : Dev) : Nat := if d.rf Reg.CLK_STATUS 1 2 = 0 then 0 else 1
    let lose (d : Dev) (p : Nat) : Dev := (d.wb Reg.CLK_STATUS (3 + p) false).lvlOn (0x0301 + p) 0
    let both (d : Dev) : Dev := (d.wb Reg.CLK_STATUS 3 true).wb Reg.CLK_STATUS 4 true
    let path (n : Nat) : Dev := up.wf Reg.CLK_STATUS 1 2 n
    up.live = true ∧ feeds (lose (path 0) 1) = 0 ∧ feeds (lose (path 1) 1) = 1 ∧
    (lose (both (path 0)) 0).rb Reg.CLK_STATUS 4 = true ∧ (lose (both (path 1)) 1).rb Reg.CLK_STATUS 3 = true ∧
    (lose (lose (path 0) 1) 0).rb Reg.CLK_STATUS 4 = false := by decide +kernel

theorem witness_ClockReturnAndPhaseSteps :
    let path (n : Nat) : Dev := (up.wf Reg.CLK_STATUS 1 2 n).wb Reg.CLK_STATUS 3 true
    let src (n : Nat) (d : Dev) : Dev := d.wf Reg.CLK_CFG 16 3 n
    let phase (n : Nat) : Dev := (path 1).wf Reg.CLK_PHASE 16 8 n
    up.live = true ∧ aget up.img.bounds Reg.CLK_CMD = none ∧ up.rb (Reg.HOST_TEN 0) 8 = true ∧ up.rb (Reg.HOST_TEN 3) 8 = false ∧
    (path 1).allIdle = true ∧ (path 1).rf Reg.CLK_CFG 0 1 = 0 ∧ (path 1).rb Reg.CLK_STATUS 3 = true ∧
    (path 1).rf Reg.CLK_STATUS 1 2 = 1 ∧ (path 0).rf Reg.CLK_STATUS 1 2 = 0 ∧ (src 2 up).rf Reg.CLK_CFG 16 3 = 2 ∧
    (src 0 up).rf Reg.CLK_CFG 16 3 ≠ 2 ∧ 0 < (phase 127).rfs Reg.CLK_PHASE 16 8 ∧ (phase 128).rfs Reg.CLK_PHASE 16 8 < 0 ∧
    (phase 0).rfs Reg.CLK_PHASE 16 8 = 0 ∧ (phase 127).rf Reg.CLK_PHASE 0 6 = 0 ∧
    ((phase 127).wf Reg.CLK_PHASE 0 6 63).rf Reg.CLK_PHASE 0 6 = 63 := by decide +kernel

theorem witness_ClockChoiceWindowsAndCalibration :
    up.live = true ∧ d0.dstate = .boot ∧ up.dstate ≠ .boot ∧ d0.live = true ∧
    92 * 1000 ≤ 100 * 1080 ∧ 100 * 1080 ≤ 108 * 1000 ∧ 92 * 5000 ≤ 100 * 4600 ∧ 100 * 4600 ≤ 108 * 5000 ∧
    ([1000, 1250, 1600, 2000, 2500, 4000, 5000].all fun f => !(decide (92 * f ≤ 100 * 3000) && decide (100 * 3000 ≤ 108 * f))) = true := by
  decide +kernel

theorem witness_EpochAndSynchronisation :
    let src (n : Nat) : Dev := up.wf Reg.CLK_CFG 16 3 n
    (src 0).rf Reg.CLK_CFG 16 3 = 0 ∧ (src 1).rf Reg.CLK_CFG 16 3 ≠ 0 ∧ (tget up.pwm 0).running = true ∧
    (up.rf Reg.CLK_TBPER 0 24 : Int) > (up.now : Int) - up.clk.epochAt ∧
    ({ up with now := up.rf Reg.CLK_TBPER 0 24 } : Dev).rf Reg.CLK_TBPER 0 24 ≤ up.rf Reg.CLK_TBPER 0 24 ∧
    (tget d0.pwm 0).running = false ∧ (src 2).rf Reg.CLK_CFG 16 3 = 2 ∧ up.clk.snap = none ∧
    ({ up with clk := { up.clk with snap := some (-3) } } : Dev).clk.snap = some (-3) ∧
    up.clk.lastEdge = none ∧ up.now < 1 + 40 ∧ ({ up with now := 40 } : Dev).now = 0 + 40 ∧
    ({ src 2 with clk := { up.clk with aligned := some 0 } } : Dev).clk.aligned = some 0 ∧
    0 + 2 * (src 2).rf Reg.CLK_TBPER 0 24 ≤ 2 * 0xFFFFFF := by decide +kernel

theorem witness_AlignActsOnCapture :
    16 ≤ (-16 : Int).natAbs ∧ up.allIdle = true ∧ ({ up with ax := Vector.replicate 4 .enabled } : Dev).allIdle = false ∧
    (up.wf Reg.CLK_SYNCLIM 0 16 0).rf Reg.CLK_SYNCLIM 0 16 < (1 : Int).natAbs ∧
    (15 : Int).natAbs ≤ (up.wf Reg.CLK_SYNCLIM 0 16 15).rf Reg.CLK_SYNCLIM 0 16 ∧
    (up.wf Reg.CLK_STATUS 1 2 1).rf Reg.CLK_STATUS 1 2 ≠ 0 ∧ (up.wf Reg.CLK_STATUS 1 2 0).rf Reg.CLK_STATUS 1 2 = 0 ∧
    (0 : Int) < 15 ∧ (-15 : Int) < 0 := by decide +kernel

/-! ### Pulses -/

/-- Axis 3 driven, dead time `dt`, with the pending turn-on of a low switch. -/
def pwmAt (dt : Nat) (cut low trip dead : Bool) : Dev :=
  let d := { up with ax := Vector.replicate 4 .driving, pwm := tmod up.pwm 3 (fun w => { w with dead := tset w.dead 5 dead }) }
  ((((d.wf (Reg.PWM_DT 3) 0 12 dt).wb (Reg.PWM_TRIP 3) 24 cut).wb (Reg.PWM_CFG 3) 3 low).wb (Reg.PWM_TRIP 3) 11 trip)

theorem witness_CompareEdgesAndDeadTimes :
    let d (c l t : Bool) : Dev := pwmAt 4095 c l t true
    tget (tget (d false false false).pwm 3).reqH 2 = false ∧ tget (tget (d false false false).pwm 3).reqH 2 ≠ true ∧
    tget (tget (d true true false).pwm 3).dead 5 = true ∧ tget (tget (d true true false).pwm 3).dead 4 = false ∧
    (d true true false).isCut 3 = true ∧ (d true true false).lowOn 3 = true ∧ (d true false false).lowOn 3 = false ∧
    (d false false true).isCut 3 = false ∧ (d false false true).tripNow 3 = true ∧ (d false false false).tripNow 3 = false ∧
    tget (tget (d true true false).pwm 3).cutWait 2 = false ∧
    tget (tget (tmod (d true true false).pwm 3 (fun w => { w with cutWait := tset w.cutWait 2 true })) 3).cutWait 2 = true ∧
    (pwmAt 0 false false false true).rf (Reg.PWM_DT 3) 0 12 = 0 ∧ (d false false false).rf (Reg.PWM_DT 3) 0 12 = 4095 ∧
    tget (tget up.pwm 3).refresh 2 = none ∧
    (let held := { up with pwm := tmod up.pwm 3 (fun w => { w with refreshing := tset w.refreshing 2 (some 1) }) }
     tget (tget held.pwm 3).refreshing 2 = some 1 ∧ held.now < 1) ∧
    (let drv := up.auxMod 1 (fun a => { a with driving := tset a.driving 1 true })
     tget (tget drv.aux 1).driving 1 = true ∧ 16 * (tget drv.chan 5).lastB + drv.auxOnTime 1 1 ≤ 16 * drv.now + 15) ∧
    tget (tget up.aux 1).driving 1 = false := by
  decide +kernel

theorem witness_TripSourcesCutPulses :
    up.live = true ∧ (up.wb (Reg.PWM_TRIP 3) 24 true).rb (Reg.PWM_TRIP 3) 24 = true ∧ up.rb (Reg.PWM_TRIP 3) 24 = false := by
  decide +kernel

theorem witness_BoundariesPeaksAndPairLock :
    let per := { up with pwm := tmod up.pwm 3 (fun w => { w with per := some 25000, ncmp := tset w.ncmp 5 (some 1) }) }
    (up.leader 3 ≠ 3 ∨ up.committed = false ∨ up.bistUnit = some 4) = false ∧ d0.committed = false ∧ up.committed = true ∧
    up.bistUnit ≠ some 4 ∧ up.rb (Reg.PWM_CFG (up.leader 3)) 0 = false ∧
    (up.wb (Reg.PWM_CFG 3) 0 true).rb (Reg.PWM_CFG (up.leader 3)) 0 = true ∧ per.group 3 = [3] ∧ per.rb (Reg.PWM_CFG 3) 2 = false ∧
    (tget per.pwm 3).per = some 25000 ∧ per.hasNcmp 3 = true ∧ per.rb (Reg.PWM_CFG 3) 1 = false ∧ (tget up.pwm 3).per = none ∧
    up.hasNcmp 3 = false ∧ up.tripAny 3 = false ∧ (up.wf (Reg.PWM_TRIP 3) 16 8 0).group 3 = [3] := by decide +kernel

/-! ### Gate islands and their links -/

/-- Half-bridge 11: the high switch asked for, the low one off since tick 0. -/
def askedHigh : Dev :=
  (up.swMod 11 (fun x => { x with cdReq := true, cdHeld := some 0 })).swMod 23 (fun x => { x with cdOff := some 0 })

theorem witness_InterlockAndIslandCommands :
    let free (d : Dev) (sw q : Nat) : Bool :=
      (tget d.sw sw).cdReq && !(tget d.link (laneOf sw)).cdLost && !(tget d.sw q).cdReq && !(tget d.sw q).cdSent &&
        (match (tget d.sw q).cdOff with | some t => decide (t + 16 ≤ d.now) | none => false)
    let lane : Dev := { up with link := tmod up.link 13 (fun l => { l with trained := true }) }
    askedHigh.live = true ∧ free { askedHigh with now := 16 } 11 23 = true ∧ free { askedHigh with now := 15 } 11 23 = false ∧ (tget askedHigh.sw 11).cdHeld = some 0 ∧ free up 11 23 = false ∧
    (tget up.sw 27).cdHeld = none ∧ ({ up with link := tmod up.link 11 (fun l => { l with cdLost := true }) } : Dev).link ≠ up.link ∧
    (tget up.link 11).cdLost = false ∧ lane.laneUp 13 = true ∧ lane.laneTest 13 = false ∧ up.laneUp 13 = false := by decide +kernel

theorem witness_BothOnRequestIsRefused :
    let late : Dev := { askedHigh with now := 16 }
    (((up.wb Reg.BIST_STAT 31 true).wf Reg.BIST_STAT 24 4 4).bistUnit = some 4) ∧ up.bistUnit ≠ some 4 ∧
    ((tget askedHigh.sw 11).cdReq || (tget askedHigh.sw 11).cdSent) = true ∧
    ((tget late.sw 23).cdReq || (tget late.sw 23).cdSent) = false ∧ (tget late.sw 23).cdOff = some 0 ∧ 0 + 16 ≤ late.now ∧
    askedHigh.now < 0 + 16 ∧ (tget up.sw 23).cdOff = none ∧
    (let sent := askedHigh.swMod 23 (fun y => { y with cdSent := true })
     (tget sent.sw 23).cdSent = true ∧ (tget sent.sw 23).cdAt = sent.now) ∧
    (tget up.link (laneOf 11)).cdLost = false ∧ (tget (laneWith (fun l => { l with cdLost := true })).link (laneOf 11)).cdLost = true ∧
    ((tget up.sw 11).cdSent && (tget up.sw 23).cdSent) = false := by decide +kernel

theorem witness_SegmentsGateMonitorAndShortCircuit :
    let sw (k : Nat) (f : Switch → Switch) : Switch := tget (up.swMod k f).sw k
    (sw 27 id).edge = none ∧ (sw 23 (fun x => { x with edge := some (2, 3) })).edge = some (2, 3) ∧
    (if (sw 27 id).islOn then (sw 27 id).islOnConf else (sw 27 id).islOff) = true ∧
    (let x := sw 23 (fun x => { x with islOn := true })
     (if x.islOn then x.islOnConf else x.islOff) = false) ∧
    (let x := sw 25 (fun x => { x with islOff := false })
     (if x.islOn then x.islOnConf else x.islOff) = false) ∧
    (sw 23 (fun x => { x with scArmed := true })).scArmed = true ∧ (sw 23 id).scArmed = false := by decide +kernel

theorem witness_LanesAreLostAndRetrained :
    (tget up.link 13).trained = false ∧
    ([11, 13].all fun k => (tget (laneWith id).link k).trained && !(tget (laneWith id).link k).cdLost &&
      !(tget (laneWith id).link k).islLost && !(laneWith id).laneTest k) = true ∧
    (tget (laneWith (fun l => { l with badCd := 2 })).link 13).badCd = 2 ∧
    (tget (laneWith (fun l => { l with islLost := true })).link 13).islLost = true ∧
    ((up.wb Reg.BIST_STAT 31 true).wf Reg.BIST_STAT 24 4 0xC).laneTest 11 = true ∧
    (tget (laneWith (fun l => { l with cdLost := true })).link 11).cdLost = true ∧ frameCrcOk (List.replicate 7 0 ++ [225]) = true ∧
    frameCrcOk (List.replicate 8 0) = false ∧
    (tget up.link 13).retraining = false ∧ (tget (laneWith (fun l => { l with retraining := true })).link 13).retraining = true := by
  decide +kernel

theorem witness_IslandSafetyStatusSuppliesAndDiagnostics :
    let drv : Dev := { up.wb (Reg.ISL_H_SUP 11) 31 true with ax := Vector.replicate 4 .driving }
    let test (p : Nat) : Dev := { up with diag := tmod up.diag 3 (fun _ => ⟨true, p, 0, false⟩), ax := tset up.ax 3 .diag }
    up.live = true ∧ (tget up.link 13).islLost = false ∧ (tget (laneWith (fun l => { l with islLost := true })).link 13).islLost = true ∧
    up.laneUp 11 = false ∧ (laneWith id).laneUp 11 = true ∧ (tget drv.ax 3).active = true ∧ drv.rb (Reg.ISL_H_SUP 11) 31 = true ∧
    up.rb (Reg.ISL_H_SUP 11) 31 = false ∧ (tget up.ax 3).active = false ∧ (tget up.diag 3).running = false ∧
    (tget (tget up.sup 11) 5 = up.rb (Reg.ISL_H_STAT 11) (supBit 5)) ∧
    (let low := { up with sup := tset up.sup 11 (tset (tget up.sup 11) 5 true) }
     tget (tget low.sup 11) 5 ≠ low.rb (Reg.ISL_H_STAT 11) (supBit 5)) ∧
    (tget (test 1).diag 3).running = true ∧ (tget (test 1).diag 3).phase < 2 ∧ (tget (test 2).diag 3).phase = 2 ∧
    tget (test 2).ax 3 = .diag := by decide +kernel

/-! ### Sensing -/

/-- Converter 3 changed. -/
def conv3 (f : Conv → Conv) : Dev := { up with conv := tmod up.conv 3 f }
def adcMode3 (n : Nat) (d : Dev) : Dev := d.wf (Reg.ADC_STAT 3) 30 2 n

theorem witness_SequencerConversionsAndUrgentRequests :
    let at' (p : SeqPhase) : Conv := tget (conv3 (fun c => { c with phase := p })).conv 3
    (at' .delay).phase = .delay ∧ (at' .spin).phase = .spin ∧ (at' .stopped).phase ≠ .delay ∧ (at' .stopped).phase ≠ .spin ∧
    (at' (.waitWin 2)).phase = .waitWin 2 ∧ (at' .convert).phase = .convert ∧ (at' .convert).phase ≠ .waitWin 2 ∧
    2 ≤ (adcMode3 3 up).rf (Reg.ADC_STAT 3) 30 2 ∧ (adcMode3 1 up).rf (Reg.ADC_STAT 3) 30 2 < 2 ∧
    (tget up.conv 3).urgHere = none ∧ (tget (conv3 (fun c => { c with urgHere := some (11, 63) })).conv 3).urgHere = some (11, 63) ∧
    (tget up.conv 3).urgSent = [] ∧ (tget (conv3 (fun c => { c with urgSent := [(0, 1)] })).conv 3).urgSent = (0, 1) :: [] ∧
    (tget up.conv 3).lat = [] ∧ up.entryChan 3 ≠ 15 ∧ (at' .last).phase = .last ∧
    (up.wb (Reg.THERM_S_CFG 37) 31 true).rb (Reg.THERM_S_CFG (30 + 4 * (3 - 2) + (8 - 5))) 31 = true := by decide +kernel

theorem witness_SequencerConversionsAndUrgentRequests_values :
    (let ent (w : Word) : Dev := conv3 (fun c => { c with ent := w })
     (ent 0xF0000000).entryChan 3 = 15 ∧ (ent 0x20000000).entryChan 3 = 2 ∧ fget (0x2000003F : Word) 0 8 < 64) ∧
    (let due := { laneWith id with conv := tmod up.conv 3 (fun c => { c with lat := [(8, 7, 0)] }) }
     due.oldestLat (3 / 2) = some (3, 8, 7) ∧ due.laneUp (adcLane 3) = true ∧ (tget due.link (adcLane 3)).used < 2) := by
  decide +kernel

/-- A window open since tick 100 with one sample. -/
def openWin : Win := ⟨true, 1, 5, 5, false, false, 5, false, false, false, false, 100, none, false⟩

def emptyWin : WinRes := { (default : WinRes) with empty := true, mean := 0 }

theorem witness_WindowsSetsCalibrationAndSar :
    let w (f : Conv → Conv) : Conv := tget (conv3 f).conv 3
    (w id).phase ≠ .waitWin 2 ∧ (w (fun c => { c with phase := .waitWin 2 })).phase = .waitWin 2 ∧
    (tget (w id).win 2).isOpen = false ∧ (tget (w (fun c => { c with win := tset c.win 2 openWin })).win 2).isOpen = true ∧
    tget (w id).out 2 = none ∧ tget (w id).set 2 = none ∧ tget (w (fun c => { c with out := tset c.out 2 (some openWin) })).out 2 = some openWin ∧
    up.laneUp 13 = false ∧ (laneWith id).laneUp 13 = true ∧ openWin.holds 145 false = true ∧ 0 < openWin.n ∧ openWin.holds 144 false = false ∧
    (#v[default, emptyWin, default] : Vector WinRes 3)[1].empty = true ∧ (default : WinRes).empty = false ∧
    (w id).win[2].gone = false ∧ (w (fun c => { c with win := tset c.win 2 { openWin with gone := true } })).win[2].gone = true ∧
    (up.rset Reg.ADC_SARSCAN 0).sarSlot 1 = none ∧ (up.rset Reg.ADC_SARSCAN 0x20000000).sarSlot 1 = some (13, false) ∧
    (up.rset Reg.ADC_SARSCAN 0x08000000).sarSlot 1 = some (11, false) ∧
    ({ up with now := 80, sar := tmod up.sar 1 (fun x => { x with sync := [(3, 0)] }) } : Dev).sarSlot 1 = some (3, true) ∧
    (adcMode3 2 up).rf (Reg.ADC_STAT 3) 30 2 = 2 ∧ (adcMode3 1 up).rf (Reg.ADC_STAT 3) 30 2 ≠ 2 := by decide +kernel

/-! ### Field units -/

/-- The hall unit of axis 3 at code 1 in sector `sec`, with the sectors 0–5 for the codes 1–6. -/
def hallAt (sec : Nat) : Dev :=
  let d := ((up.wb (Reg.POS_CFG 3) 0 true).wf (Reg.POS_STAT 3) 0 3 1).rset (Reg.POS_HMAP 3)
    (BitVec.ofNat 32 ([1, 2, 3, 4, 5, 6].foldl (fun n c => n + (c - 1) * 2 ^ (3 * c)) 0))
  d.hallMod 3 (fun h => { h with sector := sec })

theorem witness_HallEdgesCountAndLatch :
    up.rb (Reg.POS_CFG 3) 0 = false ∧ (hallAt 0).rb (Reg.POS_CFG 3) 0 = true ∧ codeValid 7 = false ∧ codeValid 6 = true ∧
    codeValid ((hallAt 0).rf (Reg.POS_STAT 3) 0 3) = true ∧ codeValid (up.rf (Reg.POS_STAT 3) 0 3) = false ∧
    (hallAt 5).hallIndex 3 6 = 5 ∧ ([5, 4, 3, 2, 1, 0].map fun s => (5 + 6 - ((hallAt s).hall 3).sector) % 6) = [0, 1, 2, 3, 4, 5] ∧
    ((hallAt 0).hall 3).single = none ∧ up.now < (up.hall 3).edgeT + up.rf (Reg.POS_TMO 3) 0 14 * msTicks ∧
    ((hallAt 0).hall 3).edgeT + (hallAt 0).rf (Reg.POS_TMO 3) 0 14 * msTicks ≤ 200 * msTicks := by decide +kernel

/-- Axis `a` in the current section's field step: a set of currents is ready. -/
def fieldAt (a : Nat) (v pair : Bool) : Dev :=
  let d : Dev := { up with conv := tmod up.conv a (fun c => { c with ready := some ⟨v, #v[1, 2, -3], false⟩ }) }
  { d with topo := { d.topo with pair := #v[pair, pair] } }

theorem witness_FieldStepsLossAndReacquisition :
    let one (a : Nat) (v pair : Bool) := (fieldAt a v pair).cvMod a (fun c => { c with ready := none })
    let calm := (fieldAt 3 true false).wf (Reg.FLD_OBS 3) 16 8 1
    let lost := calm.fuMod 3 (fun f => { f with resid := 65536 })
    let acq := up.wf (Reg.FLD_STAT 3) 10 2 1
    let failed (d : Dev) := (((d.setAcq 3 .none).wsat (Reg.FLD_STAT 3) 16 2).ev (0xB5 + 18)).fuMod 3 (fun f => { f with acqSpeed := none })
    ((up.cv 3).ready = none) ∧ ((fieldAt 3 true false).cv 3).ready.isSome = true ∧ (one 3 true true).leader 3 ≠ 3 ∧
    (one 3 true false).leader 3 = 3 ∧ (one 3 true false).acqPath 3 = 0 ∧ ((one 3 true false).fu 3).acqNext = false ∧
    (((one 3 false false).fuMod 3 (fun f => { f with acqNext := true })).fu 3).acqNext = true ∧
    ([1, 2, 3].all fun n => ((one 3 true false).wf (Reg.FLD_STAT 3) 10 2 n).acqPath 3 == n) = true ∧
    lost.src 3 = 0 ∧ lost.lossStands 3 = false ∧ (lost.lossChecks 3).2 = some (0, 0) ∧ (calm.lossChecks 3).2 = none ∧
    fget (lost.rget (Reg.FLD_OBS 3)) 0 16 < (lost.fu 3).resid ∧ fget (lost.rget (Reg.FLD_OBS 3)) 16 8 ≤ (lost.fu 3).resRun + 1 ∧
    acq.acqPath 3 ≠ 0 ∧ up.rf (Reg.FLD_STAT 3) 4 3 = 0 ∧ (up.wf (Reg.FLD_STAT 3) 4 3 7).rf (Reg.FLD_STAT 3) 4 3 ≠ up.sectorNow 3 ∧
    up.sectorNow 3 = 0 ∧
    (failed acq).rf (Reg.FLD_STAT 3) 16 2 < 3 ∧ 3 ≤ (failed (acq.wf (Reg.FLD_STAT 3) 16 2 2)).rf (Reg.FLD_STAT 3) 16 2 := by
  decide +kernel

/-! ### Control engines -/

def ceIn (mode : Nat) : Dev := up.wf Reg.CE_STATUS 29 3 mode

/-- The engines after the current section of axis `a`. -/
def ranIn (d : Dev) (a : Nat) : Dev :=
  let e := if d.ceRuns 0 (some a) then d.runSection 0 (some a) else d
  if e.ceRuns 1 (some a) then e.runSection 1 (some a) else e
/-- The engine that starts a step holds its outputs back. -/
def holding (d : Dev) : Dev := [0, 1].foldl (fun d e => d.engMod e (fun x => { x with withhold := true })) d

theorem witness_EngineStepsAndCheckpoints :
    let g : Dev := up.ceMod (fun c => { c with graph := [(0, instOk)] })
    let apart : Dev := up.engMod 1 (fun e => { e with crc := 1 })
    up.ceMode = 0 ∧ (ceIn 1).ceMode = 1 ∧ ([0, 1, 2, 3, 4].all fun n => (ceIn n).ceMode == n) = true ∧
    (ranIn g 3).hasVref 3 = true ∧ (ranIn up 3).hasVref 3 = false ∧ (ranIn g 3).ceMode = 0 ∧
    ((ranIn g 3).engine 0).withhold = false ∧ ((ranIn g 3).engine 1).withhold = false ∧
    ((ranIn (holding g) 3).engine ((ranIn (holding g) 3).ceDriver (some 3))).withhold = true ∧
    ((ranIn g 3).ceCompares && (false || (ranIn g 3).ceVref 0 3 != (ranIn g 3).ceVref 1 3)) = false ∧
    ((ranIn g 3).ceCompares && (true || (ranIn g 3).ceVref 0 3 != (ranIn g 3).ceVref 1 3)) = true ∧
    (up.engine 0).crc = (up.engine 1).crc ∧ (apart.engine 0).crc ≠ (apart.engine 1).crc := by decide +kernel

theorem witness_LanesInputsAndParameterBlocks :
    let lane : Dev := { up.rset (Reg.CE_LANE_CFG 31) 0xB0000001 with ax := Vector.replicate 4 .driving }
    let cfg := lane.rget (Reg.CE_LANE_CFG 31)
    let kind (n : Nat) : Dev := up.wf (Reg.CE_CMD_CFG 3) 30 2 n
    let take (n : Nat) (p : Option (Nat × Nat)) : Dev := up.ceMod (fun c => { c with take := [⟨0, 1024, n, 0, p⟩] })
    bget cfg 31 = true ∧ fget cfg 24 4 = 0 ∧ fget cfg 0 10 ≠ 0 ∧ lane.axisSupervised (lane.laneAxis 31) = true ∧
    bget (up.rget (Reg.CE_LANE_CFG 31)) 31 = false ∧ (kind 2).rf (Reg.CE_CMD_CFG 3) 30 2 = 2 ∧
    ((kind 2).cmdTake 0 3 5000).rf (Reg.CE_CMD_CFG 3) 30 2 = 2 ∧ (kind 3).rf (Reg.CE_CMD_CFG 3) 30 2 = 3 ∧
    ((kind 3).cmdTake 0 3 5000).rf (Reg.CE_CMD_CFG 3) 30 2 = 3 ∧ (kind 1).rf (Reg.CE_CMD_CFG 3) 30 2 < 2 ∧
    40000 ≤ 40000000 ∧ ¬(40000 ≤ 39999) ∧ ¬(40000001 ≤ 40000000) ∧ ¬(400000001 ≤ 400000000) ∧
    (tget (tget up.ce.dec 1) 3).loss = true ∧ (tget (tget (default : Ce).dec 1) 3).loss = false ∧ up.ce.take = [] ∧
    (take 0 none).ce.take = ⟨0, 1024, 0, 0, none⟩ :: [] ∧
    (up.blockFail ⟨0, 1024, 0, 0, none⟩ 0 0 = none) ∧ (up.blockFail ⟨0, 1024, 1, 65536, some (7, 0)⟩ 1 0 = some (1024, 2)) := by
  decide +kernel

/-! ### Aux axes -/

/-- Aux axis Y in a state. -/
def auxY (st : Nat) (vel : Int) : Dev := (up.wf (Reg.AUX_STAT 1) 29 3 st).auxMod 1 (fun a => { a with vel := vel })

theorem witness_AuxDriverProtection :
    let oc (d : Dev) : Dev := (d.wb (Reg.AUX_FLAGS 1) 5 true).occ 0x0A11 1
    (tget ((up.wf (Reg.AUX_ILAT 1) 8 8 255).auxOf 1).ref 1).natAbs ≤ 4 * 255 ∧
    4 * 0 < (tget ((up.auxMod 1 (fun a => { a with ref := tset a.ref 1 (-5) })).auxOf 1).ref 1).natAbs ∧
    (oc up).auxState 1 = 0 ∧ (oc (auxY 2 0)).auxState 1 ≠ 0 ∧ (oc (auxY 2 0)).auxState 1 ≠ 4 ∧ (oc (auxY 4 0)).auxState 1 = 4 ∧
    up.auxState 1 = 0 ∧ tget (up.auxOf 1).driving 1 = false ∧ (up.auxOf 1).slow = false ∧ up.rf (Reg.AUX_CFG 1) 22 2 = 0 ∧
    (let drv := up.auxMod 1 (fun a => { a with driving := tset a.driving 1 true, slow := true })
     tget (drv.auxOf 1).driving 1 = true ∧ (drv.auxOf 1).slow = true) ∧
    up.now < (tget up.chan 5).lastB + 80 * (up.rf (Reg.AUX_CHOP 1) 0 4 + 1) ∧
    (let late : Dev := { up with now := 1280 }
     ¬ late.now < (tget late.chan 5).lastB + 80 * (late.rf (Reg.AUX_CHOP 1) 0 4 + 1)) ∧
    (tget (up.auxOf 1).legs 3).since ≤ 0 ∧ (({ tget (up.auxOf 1).legs 3 with side := .low } : AuxLeg)).side = .low := by decide +kernel

theorem witness_AuxSwitchesAndHold :
    let seen (d : Dev) (sw : Nat) (b : Bool) : Dev := d.wb (Reg.AUX_STAT 1) (19 + sw) b
    let hard (d : Dev) : Dev := ((d.wb (Reg.AUX_FLAGS 1) 1 true).occ 0x0A15 0).ev 0xE7
    let homing (p : Nat) : Dev := (auxY 4 0).wf (Reg.AUX_STAT 1) 23 3 p
    (seen up 0 true).auxState 1 ≠ 4 ∧ (seen (auxY 2 (-1)) 0 true).auxState 1 = 2 ∧ (seen (auxY 3 1) 1 true).auxState 1 = 3 ∧
    ((seen (auxY 2 (-1)) 0 true).auxOf 1).vel < 0 ∧ 0 < ((seen (auxY 3 1) 1 true).auxOf 1).vel ∧
    (seen (auxY 2 1) 0 true).auxDc 1 = false ∧ (hard (seen (auxY 2 (-1)) 0 true)).auxDc 1 = false ∧
    (seen (homing 2) 2 true).auxState 1 = 4 ∧ (seen (homing 2) 2 true).homeDir 1 = -1 ∧ (seen (homing 2) 2 true).homeSw 1 = 2 ∧
    (seen (homing 2) 2 true).auxPhase 1 = 2 ∧ (seen (homing 1) 2 false).auxPhase 1 = 1 ∧
    (tget (tget up.swIn 1) 2).1 = false ∧
    (let raised : Dev := { up.wf (Reg.AUX_SW 1) 16 8 255 with swIn := tmod up.swIn 1 (fun l => tset l 2 (true, 0)) }
     (tget (tget raised.swIn 1) 2).1 = true ∧ raised.now < 0 + 40000 * raised.rf (Reg.AUX_SW 1) 16 8 ∧
     ¬ ({ raised with now := 40000 * 255 } : Dev).now < 0 + 40000 * raised.rf (Reg.AUX_SW 1) 16 8) ∧
    (seen (homing 2) 0 true).auxSw 1 1 = false ∧ (auxY 1 0).auxState 1 = 1 ∧ (auxY 2 0).auxState 1 ≠ 1 := by decide +kernel

/-! ### DC link -/

theorem witness_LinkVoltageLadderAndComparator :
    let stale (a b : Bool) : Dev :=
      (((up.wb Reg.DCL_STAT 31 a).wb Reg.DCL_STAT 30 b).wb (Reg.ADC_LAT 0 4) 16 a).wb (Reg.ADC_LAT 1 4) 16 b
    let heard : Dev := laneWith id
    (stale true true).vdcStale 0 = true ∧ (stale true false).vdcStale 1 = false ∧ (stale false true).vdcStale 0 = false ∧
    (stale false true).vdcStale 1 = true ∧ (stale false false).vdcStale 0 = false ∧ (stale false false).vdcStale 1 = false ∧
    ((stale true true).linkVolts.rb Reg.DCL_STAT 31 = true) ∧ ((stale true true).linkVolts.rb Reg.DCL_STAT 30 = true) ∧
    up.giHeard = false ∧ heard.giHeard = true ∧ heard.rb Reg.DCL_STAT 25 = false ∧ (heard.wb Reg.DCL_STAT 25 true).rb Reg.DCL_STAT 25 = true ∧
    (heard.wb Reg.DCL_STAT 25 true).giHeard = true ∧ ([0, 1].foldl (fun d i => if d.giMayChop i then d.swMod (24 + i) Switch.islTurnOn else d)
      (heard.dclMod (fun x => { x with tripped := true }))).giHeard = true ∧
    (let d := stale false false
     decide (d.dcl.vl * 10 * 100 < (d.rf Reg.DCL_VOV3 0 16 : Int) * 131072 * 95) = false) ∧
    (let d := ((stale false false).wb Reg.DCL_STAT 25 true).wf Reg.DCL_VOV3 0 16 8500
     decide (d.dcl.vl * 10 * 100 < (d.rf Reg.DCL_VOV3 0 16 : Int) * 131072 * 95) = true) := by decide +kernel

theorem witness_ChopperHealthAndDischarge :
    let chop (f : Chop → Chop) : Dev := up.chopMod 1 f
    let go (p : Option Nat) : Dev := (up.wb Reg.DCL_DSTAT 31 true).dclMod (fun x => { x with probe := p, vmStart := 131072 * 100, vm := 131072 * 100 })
    (0 : Int) ≤ up.dcl.vl * 1000 * (fget (up.rget (Reg.DCL_CH_CHK 1)) 0 6 : Int) ∧
    up.rf (Reg.DCL_CH_CFG 1) 30 2 = 0 ∧
    (let d := ((up.wf (Reg.DCL_CH_BCS 1) 0 24 1).rset (Reg.DCL_CH_CFG 1) 0x40000001).rset (Reg.DCL_CH_CHK 1) 0x1000
     (d.rf (Reg.DCL_CH_CFG 1) 30 2 ≠ 0 ∧ d.dcl.vl * 1000 * (fget (d.rget (Reg.DCL_CH_CHK 1)) 0 6 : Int) <
       (16383 * d.rf (Reg.DCL_CH_BCS 1) 0 24 * 2 * d.rf (Reg.DCL_CH_CFG 1) 0 16 * 100 : Nat) ∧
      fget (d.rget (Reg.DCL_CH_CHK 1)) 12 4 ≤ (d.chopper 1).cnt[2] + 1 ∧ (d.chopper 1).faulty = false)) ∧
    (up.chopper 1).wait = false ∧ ((chop (fun c => { c with wait := true })).chopper 1).wait = true ∧
    (let conf (on off : Bool) : Dev := up.swMod 25 (fun x => { x with islOnConf := on, islOff := off })
     (tget (conf true false).sw 25).confAt + 20 * (conf true false).rf (Reg.DCL_CH_CHK 1) 16 8 ≤ 5100 ∧
     (tget (conf true false).sw 25).islOnConf = true ∧ (tget (conf false true).sw 25).islOnConf = false ∧
     (tget (conf false true).sw 25).islOff = true ∧ (tget (conf false false).sw 25).islOff = false) ∧
    (up.chopper 1).fallFrom = none ∧ ((chop (fun c => { c with fallFrom := some 0 })).chopper 1).fallFrom = some 0 ∧ 0 ≤ up.dcl.vl ∧
    ((chop (fun c => { c with fallFrom := some (-1) })).chopper 1).fallFrom = some (-1) ∧ -1 < up.dcl.vl ∧
    (up.chopper 1).noFall = false ∧ (up.chopper 1).fbk = false ∧ ((chop (fun c => { c with fbk := true, giMode := 1 })).chopper 1).fbk = true ∧
    (chop (fun c => { c with fbk := true, giMode := 1 })).giMayChop 1 = true ∧ up.dcl.tripped = false ∧
    (chop (fun c => c)).dcl.tripped ≠ true ∧ up.rb Reg.DCL_DSTAT 31 = false ∧ (go (some 2)).rb Reg.DCL_DSTAT 31 = true ∧
    (go (some 2)).dcl.probe = some 2 ∧ reaches (go none).dcl.vmStart 0 = true ∧ (go (some 1)).adFailed 1 = false ∧
    reaches (go none).dcl.vm ((go none).rf Reg.DCL_DLIM 0 16) = true ∧ reaches 0 65535 = false := by decide +kernel

/-! ### Safety block -/

/-- The pulse-inhibit inputs and their test. -/
def sto (f : Safe → Safe) : Dev := up.safeMod f

theorem witness_PulseInhibitAndItsTest :
    let high : Dev := sto (fun x => { x with raw := #v[true, true] })
    (inState d0 .dormant).live = false ∧ up.live = true ∧ tget up.safe.raw 1 = false ∧ tget high.safe.raw 1 = true ∧
    up.committed = true ∧ d0.committed = false ∧ (high.wf Reg.SAFE_CFG 16 10 0).rf Reg.SAFE_CFG 16 10 = 0 ∧
    (high.wf Reg.SAFE_CFG 16 10 1023).rf Reg.SAFE_CFG 16 10 ≠ 0 ∧ (sto (fun x => { x with ptPend := true })).safe.ptPend = true ∧
    (inState up .armed).dstate = .armed ∧ up.tractionIdle = true ∧ up.safe.ptPend = false ∧ up.safe.ptChan = none ∧
    (sto (fun x => { x with ptChan := some 0 })).safe.ptChan = some 0 ∧ up.now < up.safe.ptAt + 2 * usTicks ∧
    up.safe.ptAt + 2 * usTicks ≤ ({ up with now := 800 } : Dev).now ∧
    (sto (fun x => { x with ptChan := some 1 })).safe.ptChan = some (0 + 1) ∧ up.tablesOk = true ∧ up.stoLow 0 = false ∧
    up.stoLow 1 = false ∧ up.stoNow = false ∧ up.safe.stoT < eightHours ∧
    eightHours ≤ (sto (fun x => { x with stoT := eightHours })).safe.stoT ∧
    (let filt : Dev := { up.wf Reg.SAFE_CFG 16 10 1 with now := usTicks }
     tget filt.safe.since 1 + filt.rf Reg.SAFE_CFG 16 10 * usTicks ≤ filt.now ∧ up.now < 0 + 1 * usTicks) ∧
    (let alone (i : Nat) : Dev := (sto (fun x => { x with low := tset x.low i true })).wb Reg.SAFE_STO 28 true
     (alone 0).stoLow 0 = true ∧ (alone 1).stoLow 0 = false ∧ (alone 1).rb Reg.SAFE_STO 28 = true ∧
     max (tget (alone 0).safe.since 0 + (alone 0).rf Reg.SAFE_CFG 16 10 * usTicks) (tget (alone 0).safe.since 1) +
       (alone 0).rf Reg.SAFE_CFG 0 10 * msTicks ≤ 1023 * msTicks + 1023 * usTicks) ∧ up.rb Reg.SAFE_STO 28 = false := by decide +kernel

/-- The torque monitor of axis 3 on, the axis in a state, its count at `n` of 1. -/
def monitored (st : AState) (n : Nat) (sto : Bool) : Dev :=
  let d : Dev := { up with ax := tset up.ax 3 st }
  ((d.rset (Reg.SAFE_TM_CFG 3) 0x80000100).wf (Reg.SAFE_TM_STAT 3) 8 8 n).wb Reg.SAFE_STO 31 sto

theorem witness_TorqueMonitorDegradedTimeAndWatchdogs :
    up.rb (Reg.SAFE_TM_CFG 3) 31 = false ∧ (monitored .idle 0 false).rb (Reg.SAFE_TM_CFG 3) 31 = true ∧
    ((monitored .idle 0 false).axOf 3).active = false ∧ (monitored .driving 0 true).stoNow = true ∧
    ((monitored .driving 0 false).axOf 3).active = true ∧ (monitored .driving 0 false).stoNow = false ∧
    (monitored .driving 0 false).rf (Reg.SAFE_TM_CFG 3) 8 8 = 1 ∧ (monitored .driving 255 false).rf (Reg.SAFE_TM_STAT 3) 8 8 = 255 ∧
    up.dstate ≠ .degraded ∧ (inState up .degraded).dstate = .degraded ∧ (up.wb (Reg.SAFE_CONN_CFG 7) 31 true).rb (Reg.SAFE_CONN_CFG 7) 31 = true ∧
    up.rb (Reg.SAFE_CONN_CFG 7) 31 = false ∧ up.hosts.readySeen = false ∧
    (let late (n : Nat) : Dev := { ((up.wf Reg.SAFE_DEG 0 10 1).wf (Reg.SAFE_CONN_CFG 7) 0 10 1) with now := n }
     (late 0).now < (late 0).safe.degAt + (late 0).rf Reg.SAFE_DEG 0 10 * 1000 * msTicks ∧
     (late (1000 * msTicks)).safe.degAt + (late 0).rf Reg.SAFE_DEG 0 10 * 1000 * msTicks ≤ 1000 * msTicks ∧
     (late 0).now < tget (late 0).safe.connAt 7 + (late 0).rf (Reg.SAFE_CONN_CFG 7) 0 10 * msTicks ∧
     tget (late msTicks).safe.connAt 7 + (late msTicks).rf (Reg.SAFE_CONN_CFG 7) 0 10 * msTicks ≤ msTicks) ∧
    ({ up with hosts := { up.hosts with readySeen := true } } : Dev).hosts.readySeen = true := by decide +kernel

def brakeTest (rel rec' low vOk : Bool) : Dev :=
  sto (fun x => { x with test := some ⟨rel, low, rec', 0, vOk, false, Vector.replicate 2 0⟩ })

theorem witness_SafeBrakeControlAndTest :
    let cfg : Dev := ((sto (fun x => { x with settled := true })).wb Reg.SAFE_SBC_CFG 31 true).wb Reg.SAFE_SBC_CFG 30 true
    let rel : Dev := (up.wb Reg.SAFE_SBC_STAT 31 true).wb Reg.SAFE_SBC_STAT 30 true
    (rel.sbcHs && rel.sbcLs) = true ∧ rel.sbcWant = false ∧ (up.sbcHs && up.sbcLs) = false ∧ cfg.rb Reg.SAFE_SBC_CFG 31 = true ∧
    cfg.safe.sbcSince + cfg.rf Reg.SAFE_SBC_APPLY 16 8 * msTicks ≤ msTicks * 255 ∧
    (let slow := up.wf Reg.SAFE_SBC_APPLY 16 8 255
     slow.now < slow.safe.sbcSince + slow.rf Reg.SAFE_SBC_APPLY 16 8 * msTicks) ∧
    (let due := (cfg.wf Reg.SAFE_SBC_CFG 16 8 1)
     due.safe.sbcT < due.rf Reg.SAFE_SBC_CFG 16 8 * 144000000000 ∧
     (due.safeMod (fun x => { x with sbcT := 144000000000 })).rf Reg.SAFE_SBC_CFG 16 8 * 144000000000 ≤ 144000000000) ∧
    up.safe.sbcT < eightHours ∧ eightHours ≤ (sto (fun x => { x with sbcT := eightHours })).safe.sbcT ∧
    cfg.rb Reg.SAFE_SBC_CFG 30 = true ∧ cfg.safe.settled = true ∧ cfg.safe.test = none ∧ up.rb Reg.SAFE_SBC_CFG 31 = false ∧
    ([true, false].all fun r => [true, false].all fun c => [true, false].all fun l => (brakeTest r c l false).safe.test.isSome) = true ∧
    (brakeTest true false false false).now < 0 + 5 * (brakeTest true false false false).rf Reg.SAFE_SBC_CFG 8 8 * usTicks ∧
    0 + 5 * (brakeTest true false false false).rf Reg.SAFE_SBC_CFG 8 8 * usTicks ≤ 80000 ∧
    0 + 100 * (brakeTest true true false false).rf Reg.SAFE_SBC_CFG 0 8 * usTicks ≤ 800000 ∧
    rel.rf Reg.SAFE_SBC_APPLY 0 16 = 0 ∧
    (let fast : Dev := (rel.wf Reg.SAFE_SBC_APPLY 0 16 1).rset (Reg.FLD_SPEED 0) 10
     fast.inTopo 0 = true ∧ ¬ (fast.selSpeed 0).natAbs < 10 * fast.rf Reg.SAFE_SBC_APPLY 0 16) := by
  decide +kernel

/-! ### Faults, liveness, events -/

def rec4 (cls : Nat) (isOpen cause esc : Bool) : FltRec :=
  { (default : FltRec) with code := 0x0C31, isOpen := isOpen, cause := cause, eclass := cls, esc := esc, occ := 1 }
def withRec (r : FltRec) (d : Dev) : Dev := d.setRec r

theorem witness_FaultReportsAndReactions :
    let fresh (l : List Report) : List FltRec := ((sortReports l).foldl Dev.report up).flt.recs.filter (·.isOpen)
    up.bistUnit ≠ some 6 ∧ (slotOf 0x0C31).isSome = true ∧ slotOf 0xFFFF = none ∧ up.rgr.inj = none ∧ up.recOf 0x0C31 = none ∧
    (withRec (rec4 2 true true false) up).recOf 0x0C31 = some (rec4 2 true true false) ∧
    (fresh [⟨0x0C31, 0, false⟩]).any (fun r => r.eclass == 3) = true ∧ (fresh [⟨0x0C31, 0, false⟩]).any (fun r => r.eclass == 4) = false ∧
    (fresh [⟨0x0D05, 0, false⟩]).any (fun r => r.eclass == 4) = true ∧ (fresh []).any (fun r => r.eclass == 3) = false ∧
    up.dstate.toSafeOk = true ∧ (inState up .safe).dstate.toSafeOk = false ∧ up.lvlAny 0x0C31 = false ∧ (up.lvlOn 0x0C31 0).lvlAny 0x0C31 = true ∧
    (bget ((up.wb (Reg.FLT_MAP ((slotOf 0x0C31).getD 0)) 30 true).mapWord 0x0C31) 30 && (inState up .run).dstate == .run) = true ∧
    (bget (up.mapWord 0x0C31) 30 && up.dstate == .run) = false ∧ up.now < (rec4 2 true true false).quiet + usTicks ∧
    (let old : Dev := { withRec (rec4 2 true true false) up with now := usTicks }
     (rec4 2 true true false).quiet + usTicks ≤ old.now ∧
     (rec4 2 true true false).opened + fget (old.mapWord 0x0C31) 0 14 * 10 * usTicks ≤ 16383 * 10 * usTicks) := by decide +kernel

theorem witness_RecoveryLogAndInjection :
    let q : Dev := up.prsMod (fun p => { p with log := [[0x1FF, 2, 3, 4]] })
    let inj (h : Option Nat) : Dev := up.rgrMod (fun g => { g with inj := some ⟨0x0901, 0, 1, 0, h⟩ })
    up.power.vddIoLow = false ∧ (noIo q).power.vddIoLow = true ∧ up.now < up.rgr.scanAt + msTicks ∧
    ({ up with now := msTicks } : Dev).rgr.scanAt + msTicks ≤ msTicks ∧ (up.now : Int) < up.rgr.hourAt + (60 * 60000 * msTicks : Nat) ∧
    ({ up with now := 60 * 60000 * msTicks } : Dev).rgr.hourAt + (60 * 60000 * msTicks : Nat) ≤ (60 * 60000 * msTicks : Nat) ∧
    up.now < 0 + 1 * 100 * usTicks ∧ 0 + 1 * 100 * usTicks ≤ ({ inj none with now := 100 * usTicks } : Dev).now ∧
    up.rb Reg.FLT_CFG 31 = false ∧ (up.wb Reg.FLT_CFG 31 true).rb Reg.FLT_CFG 31 = true ∧ up.prs.log = [] ∧
    q.prs.log = [0x1FF, 2, 3, 4] :: [] ∧ ([0, 1, 2, 3].any fun k => q.worn (0x400 + 4 * 255 + k)) = false ∧
    ([0, 1, 2, 3].any fun k => (q.setWear (0x400 + 4 * 255 + 3) wearLimit).worn (0x400 + 4 * 255 + k)) = true ∧
    up.rgr.inj = none ∧ (inj none).rgr.inj = some ⟨0x0901, 0, 1, 0, none⟩ ∧ (inj (some 9)).rgr.inj = some ⟨0x0901, 0, 1, 0, some 9⟩ := by
  decide +kernel

theorem witness_LivenessAndDocentStall :
    let moved := up.wf Reg.CE_STATUS 0 16 1
    up.dstate.aliveRuns = true ∧ d0.dstate.aliveRuns = false ∧ up.now ≤ up.rgr.checkIn + 200 * usTicks ∧
    moved.rf Reg.CE_STATUS 0 16 ≠ moved.rgr.steps0 ∧ up.rf Reg.CE_STATUS 0 16 = up.rgr.steps0 ∧
    up.now < up.rgr.halfAt + 500 * usTicks ∧ up.now < up.rgr.checkIn + 2 * msTicks ∧
    (let late : Dev := { moved with now := 2 * msTicks }
     late.rgr.halfAt + 500 * usTicks ≤ late.now ∧ late.rgr.checkIn + 2 * msTicks ≤ late.now ∧
     ({ late with rgr := { late.rgr with checkIn := late.now } } : Dev).now ≤ late.now + 200 * usTicks) ∧
    ((inState up .lockout).reports [⟨0x0D05, 0, false⟩]).dstate = .lockout ∧
    (({ up with flt := { up.flt with recs := [] } } : Dev).reports []).dstate ≠ .lockout := by decide +kernel

theorem witness_EventsReachVectorsAndSinks :
    let pend : Dev := up.wb (Reg.EVT_PEND 1) 31 true
    let en (h : Nat) : Dev := ((up.wb (Reg.EVT_EN 1) 31 true).wf (Reg.EVT_VOWN 3) 30 2 h)
    let marked (k : Nat) : Dev := up.rgrMod (fun g => { g with sinks := [(k, 0)] })
    let armed (e : Nat) : Dev := (marked 8).ceMod (fun c => { c with cap := some { (default : CeCap) with event := e } })
    up.events = [] ∧ (up.ev 0xFF).events = 0xFF :: [] ∧ pend.rb (Reg.EVT_PEND (63 / 32)) (63 % 32) = true ∧
    up.rb (Reg.EVT_PEND (63 / 32)) (63 % 32) = false ∧ (en 3).rb (Reg.EVT_EN (63 / 32)) (63 % 32) = true ∧ 2 ≤ (en 3).vecOwner 63 ∧
    (en 1).vecOwner 63 < 2 ∧ up.rgr.sinks = [] ∧
    ([0, 3, 4, 7, 8, 9].all fun k => (marked k).rgr.sinks.contains (k, 0)) = true ∧ up.ce.cap = none ∧
    ((armed 0).ce.cap.map (·.event)) = some 0 ∧ (8, 0) ∈ (armed 0).rgr.sinks ∧ ¬ (8, 1) ∈ (armed 1).rgr.sinks := by decide +kernel

/-! ### CAN -/

theorem witness_CanControllerStates :
    let at' (n : Nat) : Dev := up.wf (Reg.CAN_STAT 2) 29 3 n
    let timed : Dev := (at' 2).ccMod 2 (fun x => { x with timerDone := true })
    let obj : Dev := ((up.wb (Reg.CAN_OBJ_ID 2 63) 31 true).wf (Reg.CAN_OBJ_TMO 2 63) 0 16 65535).ccMod 2 (fun x => { x with activeAt := some 0 })
    ([0, 1, 2, 3, 4, 5, 6, 7].all fun n => (at' n).canState 2 == n) = true ∧ (timed.cc 2).timerDone = true ∧
    (timed.rset (Reg.CAN_RESTR 2) 0).rf (Reg.CAN_RESTR 2) 0 8 ≤ ((timed.rset (Reg.CAN_RESTR 2) 0).cc 2).rx ∧
    (timed.cc 2).rx < (timed.rset (Reg.CAN_RESTR 2) 255).rf (Reg.CAN_RESTR 2) 0 8 ∧ (at' 5).rb (Reg.CAN_CFG 2) 29 = false ∧
    ((at' 5).wb (Reg.CAN_CFG 2) 29 true).rb (Reg.CAN_CFG 2) 29 = true ∧ obj.rb (Reg.CAN_OBJ_ID 2 63) 31 = true ∧
    obj.rf (Reg.CAN_OBJ_TMO 2 63) 0 16 ≠ 0 ∧ (obj.cc 2).activeAt = some 0 ∧ obj.lvl 0x0E25 63 = false ∧
    max 0 ((aget (obj.cc 2).objAt 63).getD 0) + obj.rf (Reg.CAN_OBJ_TMO 2 63) 0 16 * msTicks ≤ 65535 * msTicks ∧
    (let restr : Dev := { (at' 2).wf (Reg.CAN_RESTR 2) 16 10 1 with now := 10 * msTicks }
     (restr.cc 2).restrAt + 1 * msTicks ≤ restr.now ∧ (restr.cc 2).stAt + 10 * 1 * msTicks ≤ restr.now ∧ (restr.cc 2).prolonged = false) ∧
    (let young := (at' 5).wf (Reg.CAN_BO 2) 16 16 65535
     young.now < (young.cc 2).stAt + young.rf (Reg.CAN_BO 2) 16 16 * msTicks ∧
     (young.cc 2).stAt + young.rf (Reg.CAN_BO 2) 16 16 * msTicks ≤ 65535 * msTicks) ∧
    (at' 3).now < ((at' 3).cc 2).stAt + 1000 * msTicks ∧ ((at' 3).cc 2).stAt + 1000 * msTicks ≤ 1000 * msTicks := by decide +kernel

theorem witness_CanFramesAndErrors :
    let obj : Dev := canUp.rset (Reg.CAN_OBJ_ID 2 63) 0xDFFFFFFF
    let port : Dev := (canUp.rset (Reg.CAN_PORT_CFG 0) 0xA0000000).rset (Reg.CAN_PORT_CMDID 0) 0x123
    let idle : Dev := canUp.ccMod 2 (fun x => { x with sending := none })
    let restr (n : Nat) : Dev := (canUp.wf (Reg.CAN_STAT 2) 29 3 2).rset (Reg.CAN_RESTR 2) (BitVec.ofNat 32 (n * 256))
    up.canState 2 ≠ 2 ∧ up.canState 2 ≠ 3 ∧ up.canState 2 ≠ 4 ∧ canUp.canState 2 = 3 ∧ obj.canObj 2 0x1FFFFFFF true = some 63 ∧
    canUp.canObj 2 0 false = none ∧ port.canObj 2 0x123 false = none ∧ port.canCmdPort 2 0x123 false = some 0 ∧ port.portUp 0 = true ∧
    (tget port.cport 0).cmdQ.length < 4 ∧ (port.wf (Reg.CAN_STAT 2) 29 3 5).portUp 0 = false ∧ canUp.canCmdPort 2 0 false = none ∧
    up.candidates 2 = [] ∧ (idle.cc 2).sending = none ∧ idle.winner 2 (idle.candidates 2) ≠ none ∧
    (canUp.cc 2).sending = some (.buf 31) ∧ (restr 1).canState 2 = 2 ∧ (restr 1).rf (Reg.CAN_RESTR 2) 8 8 ≤ ((restr 1).cc 2).errs + 1 ∧
    ((restr 2).cc 2).errs + 1 < (restr 2).rf (Reg.CAN_RESTR 2) 8 8 ∧ canUp.canOwnId 2 0 false = false ∧
    ((port.rset (Reg.CAN_PORT_RPLID 0) 0x7FF).canOwnId 2 0x7FF false = true ∧ (port.rset (Reg.CAN_PORT_RPLID 0) 0x7FF).canCmdPort 2 0x7FF false = none) ∧
    aget (canUp.cc 2).objAt 63 ≠ some canUp.now ∧ aget ((canUp.canStore 2 63 true true false 15 []).cc 2).objAt 63 = some canUp.now := by decide +kernel

/-! ### Security, self-test, temperature, preserve -/

theorem witness_TamperKeyAndAttestation :
    let seed : Dev := up.secMod (fun x => { x with seed := some (List.replicate 48 0, crc32c (List.replicate 48 0)), deriv := true })
    let att : Dev := up.secMod (fun x => { x with att := some ([], []) })
    up.sec.resp = none ∧ up.sec.att = none ∧ att.sec.att = some ([], []) ∧ (up.secMod (fun x => { x with resp := some ([], []) })).sec.resp = some ([], []) ∧
    up.sec.deriv = false ∧ seed.sec.deriv = true ∧ seed.sec.seed = some (List.replicate 48 0, crc32c (List.replicate 48 0)) := by decide +kernel

theorem witness_ProvisioningOnceInLockout :
    let lock := inState up .lockout
    up.dstate ≠ .lockout ∧ lock.dstate = .lockout ∧ lock.sec.lock = false ∧ lock.sec.keyHash = none ∧ lock.sec.policy = none ∧
    (lock.secMod (fun x => { x with lock := true })).sec.lock = true ∧
    (lock.secMod (fun x => { x with keyHash := some [1], policy := some 255 })).sec.keyHash = some [1] ∧
    (lock.secMod (fun x => { x with keyHash := some [1], policy := some 255 })).sec.policy = some 255 := by decide +kernel

theorem witness_TestPortAndDebugUnlock :
    let open' : Dev := up.wb Reg.SEC_STAT 27 true
    let resp (b : Byte) : Dev := (up.wb Reg.SEC_STAT 26 true).secMod (fun x => { x with resp := some ([1], [2]), chal := some [b] })
    let dark : Dev := { up with power := { up.power with ioUp := false } }
    let test : Dev := { up with power := { up.power with testMode := true } }
    (inState up .lockout).dstate = .lockout ∧ up.dstate ≠ .lockout ∧ up.live = true ∧ (inState up .service).allIdle = true ∧
    up.sec.resp = none ∧ (resp 1).sec.resp = some ([1], [2]) ∧ (resp 1).sec.chal = some [1] ∧ ¬ ∀ b ∈ [(1 : Byte)], b = 0 ∧
    (∀ b ∈ [(0 : Byte)], b = 0) ∧ (resp 1).sec.keyHash ≠ some (sha256 [1]) ∧ up.power.ioUp = true ∧ dark.power.ioUp = false ∧
    up.power.testMode = false ∧ test.power.testMode = true ∧
    (resp 1).rb Reg.SEC_STAT 26 = true ∧ ((resp 1).wb Reg.SEC_STAT 26 false).rb Reg.SEC_STAT 26 = false ∧
    up.rb Reg.SEC_STAT 27 = false ∧ open'.rb Reg.SEC_STAT 27 = true ∧ up.dstate.writeOk = true ∧ occupied 0x25FFFC = false ∧
    stagingOk 0x25FFFC 4 = true ∧ open'.attOverlap 0x25FFFC 4 = false ∧ open'.bistUnit ≠ some 5 := by decide +kernel

theorem witness_BistUnitsAndFusedRepair :
    let run (l : List Nat) : Dev := up.secMod (fun x => { x with bist := some ⟨l, true, 0, 0, 0, false⟩ })
    let fits (l : List Spare) (d : Dev) : Bool := l.all (fun x => decide ((d.sec.soft ++ d.sec.fused ++ l).count x ≤ spares x.unit x.bank x.col))
    let six : List Spare := lines6.map (fun x => ⟨2, x.1, x.2⟩)
    up.sec.bist = none ∧ (run []).sec.bist = some ⟨[], true, 0, 0, 0, false⟩ ∧ (run [0xE]).sec.bist = some ⟨[0xE], true, 0, 0, 0, false⟩ ∧
    (run [2]).bistResult 2 true bistPass = 0 ∧ (run [2]).bistResult 2 true bistFix = 2 ∧ (run [0xE]).bistResult 0xE true bistFix = 1 ∧
    fits six up = true ∧ fits (six ++ [⟨2, 0, true⟩]) up = false ∧ fits six (up.secMod (fun x => { x with fused := [⟨2, 0, false⟩] })) = false ∧
    up.sec.fuseRun = none ∧ up.noLink 0xB = true ∧ up.noLink 0xC = true ∧ up.noLink 0xE = false ∧
    ({ up with boot := { up.boot with axLink := true } } : Dev).noLink 0xD = false ∧
    (up.secMod (fun x => { x with fuseRun := some 0xB, soft := [⟨0xB, 0, false⟩, ⟨2, 0, true⟩] })).sec.fuseRun = some 0xB := by decide +kernel

theorem witness_SensorsLevelsAndThrottling :
    let cfg : Dev := up.rset (Reg.THERM_S_CFG 29) 0x80000001
    let th : Dev := up.rset (Reg.THERM_S_TH 37) 0x64503C05
    let hot (n : Nat) : Dev := (up.wb Reg.THERM_THROT 31 (n != 0)).wf Reg.THERM_THROT 24 5 n
    cfg.rb (Reg.THERM_S_CFG 29) 31 = true ∧ cfg.rf (Reg.THERM_S_CFG 29) 0 10 ≠ 0 ∧ cfg.committed = true ∧ up.therm.busy = [] ∧
    (let conv : Dev := { up.thermMod (fun x => { x with busy := [(29, 0)] }) with now := 20 * usTicks }
     aget conv.therm.busy 29 = some 0 ∧ up.now < 0 + 20 * usTicks ∧ 0 + 20 * usTicks ≤ conv.now) ∧
    (let late : Dev := { cfg with now := 1023 * msTicks }
     tget late.therm.demAt 29 + late.rf (Reg.THERM_S_CFG 29) 0 10 * msTicks ≤ late.now ∧
     cfg.now < tget cfg.therm.demAt 29 + cfg.rf (Reg.THERM_S_CFG 29) 0 10 * msTicks) ∧
    tget up.therm.thrAt 3 + up.rf Reg.THERM_CFG 16 14 * msTicks ≤ 16383 * msTicks ∧
    (let slow := up.wf Reg.THERM_CFG 16 14 1
     slow.now < tget slow.therm.thrAt 3 + slow.rf Reg.THERM_CFG 16 14 * msTicks) ∧ th.level 37 < 3 ∧ th.threshold 37 1 = some ((0x3C - 55) * 10) ∧
    th.threshold 37 3 = some ((0x64 - 55) * 10) ∧ (th.wf (Reg.THERM_LVL 2) 10 2 1).level 37 = 0 + 1 ∧ up.level 37 ≠ 3 ∧
    (hot 31).throttled 3 = true ∧ (hot 0).throttled 3 = false ∧ (hot 0).steps 3 = 0 ∧ ((hot 31).wb Reg.THERM_THROT 31 false).steps 3 ≠ 0 ∧
    ((hot 31).wf Reg.THERM_CFG 0 5 31).steps 3 = min (((hot 31).wf Reg.THERM_CFG 0 5 31).steps 3 + 1) 31 := by decide +kernel

theorem witness_PreserveTurnsAndPrograms :
    let w : PresWrite := ⟨0x3EF, 1, 100, [], false⟩
    let wait : Dev := up.prsMod (fun p => { p with pend := [⟨0x10, 0, 200, [], true⟩, w] })
    let prog (again : Bool) : Dev := up.prsMod (fun p => { p with cur := some w, again := again })
    up.prs.cur = none ∧ up.prs.pend = [] ∧ (prog true).prs.cur = some w ∧ nextWrite wait.prs.pend = some w ∧
    up.power.vddIoLow = false ∧ up.dstate ≠ .lockout ∧ (noIo up).power.vddIoLow = true ∧ (noIo up).dstate ≠ .lockout ∧
    (inState up .lockout).dstate = .lockout ∧ (inState up .lockout).live = true ∧
    ({ up with boot := { up.boot with waiting := some .self } } : Dev).boot.waiting = some .self ∧
    up.pword 0x10 = 0 ∧ up.pword 0x3EF ≠ 1 ∧ up.worn 0x3EF = false ∧ (up.setWear 0x3EF wearLimit).worn 0x3EF = true ∧
    (prog true).prs.again = true ∧ (prog false).prs.again = false := by decide +kernel

/-! ### The hypotheses of single clauses, at the ends of their ranges -/

theorem witness_AxisCommandsAtTheirCommitPoint_joins :
    let point (b : Byte) (d : Dev) : Dev × Cmd :=
      let c := { (default : Cmd) with id := ⟨0, 7⟩, op := 0x34, target := 0xF, phase := .staged, payload := [b] }
      (d.setCmds [c], c)
    let may (p : Dev × Cmd) : Bool := p.1.mayAct p.2 && decide (p.1.cmdOf p.2.id = some p.2)
    let mode (n k : Nat) : Dev := ((inState up .run).wf Reg.CE_STATUS 29 3 n).wf Reg.CE_STATUS 24 5 k
    let joins (k : Nat) (bad : Bool) (re : Option Nat) : Dev := (up.setCeMode 2 k).ceMod (fun c => { c with joinBad := bad, rejoin := re })
    let link (d : Dev) : Dev := { d with link := (laneWith id).link }
    let demand (n : Nat) (d : Dev) : Dev := (d.wb Reg.DCL_STAT 23 true).wb Reg.DCL_STAT n true
    may (point 1 (mode 0 0)) = true ∧ may (point 0 (mode 1 0)) = true ∧ may (point 1 d0) = false ∧ (mode 0 0).ceMode = 0 ∧
    (mode 1 0).ceMode = 1 ∧ (mode 2 0).ceMode = 2 ∧ beAt [1] 0 1 = 1 ∧ beAt [0] 0 1 = 0 ∧ (joins 3 false none).joinStep = 3 ∧
    (joins 2 false none).joinStep = 2 ∧ (joins 10 false none).joinStep = 10 ∧ (joins 11 false none).joinStep = 11 ∧
    (joins 15 false none).joinStep = 15 ∧ (joins 11 false none).ce.joinBad = false ∧ (joins 11 true (some 1)).ce.joinBad = true ∧
    (joins 11 true (some 1)).ce.rejoin = some 1 ∧ (joins 11 true none).ce.rejoin = none ∧
    ((link (demand 26 up)).axGo 3 .enabled).rb Reg.DCL_STAT 23 = true ∧ ((link (demand 26 up)).axGo 3 .enabled).axisLaneUp 3 = true ∧
    ((laneWith (fun l => { l with cdLost := true })).axGo 3 .enabled).axisLaneUp 3 = false ∧ (demand 26 up).rb Reg.DCL_STAT 26 = true ∧
    (demand 25 up).rb Reg.DCL_STAT 26 = false ∧ ((inState up .armed).setAux 1 1).dstate = .armed ∧ (mode 1 0).dstate = .run := by decide +kernel

theorem witness_ClockReturnAndPhaseSteps_times :
    let stepped (t now : Nat) : Dev := { up with now := now, clk := { up.clk with stepAt := some t } }
    up.clk.stepAt = none ∧ (stepped 5 405).clk.stepAt = some 5 ∧ 5 + 400 ≤ (stepped 5 405).now ∧ (¬ 5 + 400 ≤ (stepped 5 404).now) := by decide +kernel

theorem witness_ClockChoiceWindowsAndCalibration_reference :
    let m (n : Nat) : Dev := up.wf Reg.CLK_STATUS 8 6 n
    let w (d : Dev) : Dev := ((((d.lvlSet false 0x0304 0).lvlSet false 0x0305 0).lvlSet false 0x0306 0).lvlSet false 0x030A 0).lvlSet true 0x030B 0
    (w (m 0)).rf Reg.CLK_STATUS 8 6 = 0 ∧ (w (m 40)).rf Reg.CLK_STATUS 8 6 = 40 ∧ 2 * 9 * 40 < 800 ∧ (¬ 2 * 10 * 40 < 800) ∧
    (w (m 40)).clk.refLost = false ∧ ({ up with clk := { up.clk with refLost := true } } : Dev).clk.refLost = true ∧
    (up.wb Reg.CLK_STATUS 5 false).rb Reg.CLK_STATUS 5 = false ∧ (up.wb Reg.CLK_STATUS 5 true).rb Reg.CLK_STATUS 5 = true := by decide +kernel

theorem witness_EpochAndSynchronisation_times :
    let pulse (n : Nat) : Dev := { up.wf Reg.CLK_CFG 24 8 255 with now := n, clk := { up.clk with syncAt := 7 } }
    let wrap (n : Nat) : Dev := { up.wf Reg.CLK_TBPER 0 24 100 with now := n }
    (pulse 262).clk.syncAt + (pulse 262).rf Reg.CLK_CFG 24 8 ≤ (pulse 262).now ∧
    (pulse 261).now < (pulse 261).clk.syncAt + (pulse 261).rf Reg.CLK_CFG 24 8 ∧
    ((wrap 100).rf Reg.CLK_TBPER 0 24 : Int) ≤ ((wrap 100).now : Int) - (wrap 100).clk.epochAt ∧
    (¬ ((wrap 99).rf Reg.CLK_TBPER 0 24 : Int) ≤ ((wrap 99).now : Int) - (wrap 99).clk.epochAt) ∧
    (16 * ((wrap 99).now : Int) + 15) % (16 * (wrap 99).rf Reg.CLK_TBPER 0 24) = 1599 ∧ (tget (wrap 99).pwm 0).running = true := by decide +kernel

theorem witness_AlignActsOnCapture_more :
    let busy : Dev := { up.wf Reg.CLK_SYNCLIM 0 16 15 with ax := Vector.replicate 4 .enabled }
    (¬ (16 ≤ (15 : Int).natAbs ∧ up.allIdle = true)) ∧ (¬ (16 ≤ (16 : Int).natAbs ∧ busy.allIdle = true)) ∧
    busy.rf Reg.CLK_SYNCLIM 0 16 < (16 : Int).natAbs ∧ (-15 : Int).natAbs ≤ busy.rf Reg.CLK_SYNCLIM 0 16 := by decide +kernel

theorem witness_CompareEdgesAndDeadTimes_carrier :
    let at' (n : Nat) : Dev := { (((up.wf (Reg.PWM_PER 3) 0 24 100).wb Reg.CLK_STATUS 5 true)) with
      now := n, pwm := tmod up.pwm 3 (fun w => { w with eff := tset (tset w.eff 4 640) 5 320, lastB := 0 }) }
    let tick (d : Dev) : Nat := min (d.now - (tget d.pwm (d.leader 3)).lastB) (d.rf (Reg.PWM_PER (d.leader 3)) 0 24 - 1)
    let carrier (d : Dev) : Bool := decide (tick d < 640 / 16) || decide ((16 * 100 - 320) / 16 ≤ tick d)
    (at' 0).leader 3 = 3 ∧ ((tget (tget (at' 0).pwm 3).eff 4).toNat, (tget (tget (at' 0).pwm 3).eff 5).toNat) = (640, 320) ∧
    (at' 0).rb Reg.CLK_STATUS 5 = true ∧ ([39, 40, 79, 80, 99].map fun n => carrier (at' n)) = [true, false, false, true, true] ∧
    tick (at' 150) = 99 := by decide +kernel

theorem witness_BoundariesPeaksAndPairLock_pairs :
    let half (per ncmp : Bool) (d : Dev) : Dev := { d with pwm := tmod d.pwm 3 (fun w =>
      { w with per := if per then some 25000 else none, ncmp := if ncmp then tset w.ncmp 5 (some 1) else w.ncmp }) }
    let waits (n : Nat) (d : Dev) : Dev := { d.wb (Reg.PWM_STAT 3) 8 true with pwm := tmod d.pwm 3 (fun w => { w with waitAge := n }) }
    let epoch (n : Nat) : Dev := { ((up.wb (Reg.PWM_CFG 3) 1 true).wf Reg.CLK_TBPER 0 24 100).wf (Reg.PWM_PHS 3) 0 24 5 with now := n }
    let due (d : Dev) : Bool := !d.rb (Reg.PWM_CFG 3) 1 ||
      decide (((d.now : Int) - d.clk.epochAt - d.rf (Reg.PWM_PHS 3) 0 24) % (d.rf Reg.CLK_TBPER 0 24 : Int) = 0)
    let lim (n : Nat) (d : Dev) : Dev := d.wf (Reg.PWM_CFG 3) 8 4 n
    let some' (d : Dev) : Bool := (List.range 6).any (fun i => (tget (tget d.pwm 3).ncmp i).isSome)
    up.group 3 = [3] ∧ up.rb (Reg.PWM_CFG 3) 2 = false ∧ due up = true ∧ due (epoch 105) = true ∧ due (epoch 104) = false ∧
    ((half true false up).pwm[3].per, some' (half true false up)) = (some 25000, false) ∧
    ((half false true up).pwm[3].per, some' (half false true up)) = (none, true) ∧
    ((half true false up).takeCmps 3).rb (Reg.PWM_STAT 3) 8 = false ∧
    ((waits 14 (half true false up)).takeCmps 3).rb (Reg.PWM_STAT 3) 8 = true ∧
    (tget ((waits 14 (half true false up)).takeCmps 3).pwm 3).waitAge = 14 ∧
    ((lim 15 (waits 14 (half true false up))).takeCmps 3).rf (Reg.PWM_CFG 3) 8 4 = 15 ∧
    (tget ((lim 15 (waits 13 (half true false up))).takeCmps 3).pwm 3).waitAge + 1 < 15 := by decide +kernel

theorem witness_BoundariesPeaksAndPairLock_trips :
    let trip (k n : Nat) (latched : Bool) : Dev :=
      (((up.wb (Reg.PWM_TRIP 3) 11 true).wf (Reg.PWM_TRIPCFG 3) 16 8 k).wf (Reg.PWM_TRIP 3) 16 8 n).wb (Reg.PWM_TRIP 3) 3 latched
    let f (d : Dev) : Dev := (d.wsat (Reg.PWM_TRIP 3) 16 8).cutPulses 3
    (trip 1 0 false).tripAny 3 = true ∧ (f (trip 1 0 false)).group 3 = [3] ∧
    (f (trip 1 0 false)).rf (Reg.PWM_TRIPCFG 3) 16 8 ≤ (f (trip 1 0 false)).rf (Reg.PWM_TRIP 3) 16 8 ∧
    (¬ (f (trip 255 253 false)).rf (Reg.PWM_TRIPCFG 3) 16 8 ≤ (f (trip 255 253 false)).rf (Reg.PWM_TRIP 3) 16 8) ∧
    ((f (trip 255 254 false)).latchAxis 3).rf (Reg.PWM_TRIP 3) 0 4 ≠ (f (trip 255 254 false)).rf (Reg.PWM_TRIP 3) 0 4 ∧
    ((f (trip 255 254 true)).latchAxis 3).rf (Reg.PWM_TRIP 3) 0 4 = (f (trip 255 254 true)).rf (Reg.PWM_TRIP 3) 0 4 ∧
    (up.wf (Reg.PWM_TRIP 3) 16 8 0).latch 3 = 0 ∧ ((up.wb (Reg.PWM_TRIP 3) 0 true).wf (Reg.PWM_TRIP 3) 16 8 0).latch 3 ≠ 0 := by decide +kernel

theorem witness_BoundariesPeaksAndPairLock_transitions :
    let st (x : AState) (s : DState) : Dev := { inState up s with ax := tset up.ax 3 x }
    let lane (v : Word) (d : Dev) : Dev := (d.rset (Reg.CE_LANE_CFG 31) 0xB0000000).rset (Reg.CE_LANE_TGT 31) v
    let aimed (u : Dev) : Bool := (List.range 32).any fun l =>
      u.rb (Reg.CE_LANE_CFG l) 31 && u.laneAxis l == 3 && u.rget (Reg.CE_LANE_TGT l) != 0
    let stops (u : Dev) : Bool := decide ((tget u.ce.iref 3).natAbs ≤ fget (u.rget (Reg.FLD_STOP 3)) 16 16 * 65536) &&
      decide ((sword (u.rget (Reg.FLD_SPEED (u.leader 3)))).natAbs < fget (u.rget (Reg.FLD_STOP 3)) 0 16 * 10)
    let idles (u : Dev) : Bool := !(tget u.link 13).cdLost && (tget u.axCause 3).all (fun c => u.lvlAny c == false) &&
      ((u.rf (Reg.DCL_SEL 3) 30 2 == 1) || (10 * u.rf (Reg.DCL_SEL 3) 0 16 == 0 && u.selSpeed 3 == 0) ||
       decide ((u.selSpeed 3).natAbs < 10 * u.rf (Reg.DCL_SEL 3) 0 16))
    let back (u : Dev) : Dev := (u.acqEnd 3).axGo 3 .idle
    aimed ((lane 1 (st .enabled .run)).resumeAt 3) = true ∧ aimed ((lane 0 (st .enabled .run)).resumeAt 3) = false ∧
    tget ((st .enabled .run).resumeAt 3).ax 3 = .enabled ∧ stops (((st .stopping .run).wf (Reg.FLD_STOP 3) 0 16 1).resumeAt 3) = true ∧
    stops (((st .stopping .run).rset (Reg.FLD_STOP 3) 0).resumeAt 3) = false ∧ idles ((st .asc .run).resumeAt 3) = true ∧
    idles (({ st .asc .run with link := tmod up.link 13 (fun l => { l with cdLost := true }) } : Dev).resumeAt 3) = false ∧
    ((back (st .freewheel .run)).dstate, (back (st .freewheel .run)).tractionIdle) = (.run, true) ∧
    (back (st .freewheel .ready)).dstate ≠ .run ∧
    (back ({ st .freewheel .run with ax := Vector.replicate 4 .freewheel } : Dev)).tractionIdle = false ∧ (tget up.fld 3).resume = false ∧
    (up.tablesOk, up.bistUnit) = (true, none) ∧ ((up.wb Reg.BIST_STAT 31 true).wf Reg.BIST_STAT 24 4 5).bistUnit = some 5 ∧
    up.inTopo 3 = true ∧ d0.inTopo 3 = false := by decide +kernel

theorem witness_LanesAreLostAndRetrained_gi :
    let lost (f : Chop → Chop) (trip : Bool) : Dev :=
      let d : Dev := { laneWith id with link := tmod (laneWith id).link 13 (fun l => { l with islLost := true, badIsl := 0 }) }
      ((d.dclMod (fun x => { x with tripped := trip })).chopMod 1 f).chopMod 1 (fun c => { c with fbk := true })
    let lane (f : Link → Link) (s : DState) : Dev := inState (laneWith f) s
    (tget (lost (fun c => { c with giMode := 1, fbkOn := true }) false).dcl.chop 1).fbkOn = true ∧
    (lost (fun c => { c with giMode := 1, fbkOn := true }) false).giMayChop 1 = true ∧
    (lost (fun c => { c with giMode := 1 }) true).dcl.tripped = true ∧
    (tget (lost (fun c => { c with giMode := 1 }) false).dcl.chop 1).fbkOn = false ∧ (lost id false).giMayChop 1 = false ∧
    (tget (laneWith id).link 13).trained = true ∧ (tget (laneWith id).link 11).trained = true ∧ (tget up.link 11).trained = false ∧
    (tget (lane (fun l => { l with retraining := true, cdLost := true }) .imageCheck).link 13).retraining = true ∧
    ((lane id .imageCheck).ilkOff 25).dstate = .imageCheck ∧ ((lane id .run).ilkOff 25).dstate ≠ .imageCheck ∧
    (tget (laneWith (fun l => { l with cdLost := true })).link 13).cdLost = true := by decide +kernel

theorem witness_IslandSafetyStatusSuppliesAndDiagnostics_classes :
    let test (p : Nat) (s : DState) : Dev := { inState up s with diag := tmod up.diag 3 (fun _ => ⟨true, p, 0, false⟩), ax := tset up.ax 3 .diag }
    let blind (d : Dev) : Bool := !d.laneUp 11 || !d.laneUp 13 || (d.vdcStale 0 && d.vdcStale 1)
    let fresh : Dev := ((((laneWith id).wb Reg.DCL_STAT 31 false).wb Reg.DCL_STAT 30 false).wb (Reg.ADC_LAT 0 4) 16 false).wb (Reg.ADC_LAT 1 4) 16 false
    let high (v vk : Int) : Bool := decide (60 * 131072 ≤ v) && decide ((v - 10 * 131072) * 1000 ≤ vk * 131072)
    blind up = true ∧ blind fresh = false ∧ ((test 2 .run).diagPhase 3 0 0 0).dstate = .run ∧
    ((test 2 .run).diagPhase 3 0 0 0).tractionIdle = true ∧
    ({ test 2 .run with ax := Vector.replicate 4 .diag } : Dev).tractionIdle = false ∧ (tget (test 1 .run).diag 3).phase < 2 ∧
    2 ≤ (tget (test 2 .run).diag 3).phase ∧ high (60 * 131072) 50000 = true ∧ high (60 * 131072) 49999 = false ∧
    high (60 * 131072 - 1) 50000 = false ∧ diagClass false 50000 500 2000 (60 * 131072) = 1 ∧
    diagClass false 1000 500 2000 (60 * 131072) = 2 ∧ diagClass false 1001 499 2000 (60 * 131072) = 3 ∧
    diagClass false 1001 500 2001 (60 * 131072) = 4 ∧ diagClass false 1001 500 2000 (60 * 131072 - 1) = 6 ∧
    diagClass false 1001 500 2000 (60 * 131072) = 0 ∧ diagClass true 1001 500 2000 (60 * 131072) = 5 := by decide +kernel

theorem witness_SequencerConversionsAndUrgentRequests_lanes :
    let ready (f : Conv → Conv) : Dev := adcMode3 1 { laneWith id with conv := tmod up.conv 3 f }
    let ntc (c : Nat) (en : Bool) : Bool :=
      2 ≤ 3 && decide (5 ≤ c) && decide (c ≤ 8) && (up.wb (Reg.THERM_S_CFG (30 + 4 + (c - 5))) 31 en).rb (Reg.THERM_S_CFG (30 + 4 + (c - 5))) 31
    (ready id).laneUp (adcLane 3) = true ∧ (ready id).rf (Reg.ADC_STAT 3) 30 2 < 2 ∧
    (tget (ready (fun c => { c with urgHere := some (8, 128) })).conv 3).urgHere = some (8, 128) ∧
    (tget (ready (fun c => { c with urgHere := some (8, 191) })).conv 3).urgHere = some (8, 191) ∧
    (tget (ready (fun c => { c with urgHere := some (3, 63) })).conv 3).urgHere = some (3, 63) ∧
    (tget (ready (fun c => { c with urgSent := [(0, 1)], urgHere := some (0, 0) })).conv 3).urgHere.isSome = true ∧
    2 ≤ (adcMode3 2 (laneWith id)).rf (Reg.ADC_STAT 3) 30 2 ∧ (tget (ready (fun c => { c with phase := .last })).conv 3).phase = .last ∧
    (tget (ready (fun c => { c with phase := .stopped })).conv 3).phase ≠ .convert ∧
    [ntc 5 true, ntc 8 true, ntc 8 false, ntc 4 true, ntc 9 true] = [true, true, false, false, false] ∧
    (up.entryChan 3, up.laneUp (adcLane 3)) = (0, false) := by decide +kernel

theorem witness_WindowsSetsCalibrationAndSar_sets :
    let cal (tol : Nat) : Dev := (adcMode3 2 up).wf (Reg.ADC_CFG 3) 24 8 tol
    let recon (n off cnt : Nat) : Dev := ((up.rset Reg.ADC_RECON 0).wf Reg.ADC_RECON 16 8 off).wf Reg.ADC_RECON 8 8 cnt |>.wb Reg.ADC_RECON 3 (n != 0)
    let res (m : Int) : WinRes := { (default : WinRes) with mean := m }
    let off (d : Dev) (s : Int) : Bool := decide (0 < d.rf Reg.ADC_RECON 16 8) && decide (64 * d.rf Reg.ADC_RECON 16 8 < s.natAbs)
    let valid (r : Vector WinRes 3) : Nat := (r.toList.filter (fun x => !x.empty)).length
    let w (d : Dev) : Dev := (d.ev 0x9B).hlt 0x05 3 (d.now - (tget d.conv 3).winT : Nat)
    ((cal 255).rf (Reg.ADC_STAT 3) 30 2, (cal 255).rf (Reg.ADC_CFG 3) 24 8) = (2, 255) ∧ (cal 255).tablesOk = true ∧
    (255 : Nat) ≤ (cal 255).rf (Reg.ADC_CFG 3) 24 8 ∧ (cal 255).rf (Reg.ADC_CFG 3) 24 8 < 256 ∧ valid #v[res 1, res 2, res 3] = 3 ∧
    valid #v[res 1, emptyWin, res 3] = 2 ∧ valid #v[emptyWin, emptyWin, res 3] = 1 ∧ off (w (recon 0 1 0)) 64 = false ∧
    off (w (recon 0 1 0)) (-65) = true ∧ off (w (recon 0 0 0)) 65 = false ∧ (w (recon 1 0 0)).rb Reg.ADC_RECON 3 = true ∧
    (w (recon 0 0 0)).rb Reg.ADC_RECON 3 = false ∧ ((w (recon 0 1 0)).wf (Reg.ADC_STAT 3) 0 2 2).rf (Reg.ADC_STAT 3) 0 2 = 2 ∧
    (w (recon 0 1 0)).rf (Reg.ADC_STAT 3) 0 2 ≠ 2 ∧ (tget (w (recon 0 0 1)).conv 3).inv + 1 = (w (recon 0 0 1)).rf Reg.ADC_RECON 8 8 ∧
    (tget (w (recon 0 0 2)).conv 3).inv + 1 ≠ (w (recon 0 0 2)).rf Reg.ADC_RECON 8 8 ∧ (tget up.conv 3).set = #v[none, none, none] ∧
    (tget (conv3 (fun c => { c with set := #v[some (res 1), some (res 2), none] })).conv 3).set[1] = some (res 2) := by decide +kernel

theorem witness_HallEdgesCountAndLatch_times :
    let seen (t n : Nat) : Dev := { ((hallAt 0).hallMod 3 (fun h => { h with lastT := t })).wf (Reg.POS_TMO 3) 0 14 1 with now := n }
    let single : Dev := (hallAt 0).hallMod 3 (fun h => { h with single := some 0 })
    (seen 7 (7 + msTicks)).rb (Reg.POS_CFG 3) 0 = true ∧
    ((seen 7 (7 + msTicks)).hall 3).lastT + (seen 7 (7 + msTicks)).rf (Reg.POS_TMO 3) 0 14 * msTicks ≤ 7 + msTicks ∧
    (seen 7 (6 + msTicks)).now < ((seen 7 (6 + msTicks)).hall 3).lastT + (seen 7 (6 + msTicks)).rf (Reg.POS_TMO 3) 0 14 * msTicks ∧
    (single.hall 3).single = some 0 := by decide +kernel

theorem witness_FieldStepsLossAndReacquisition_pairs :
    let ready (k : Nat) (d : Dev) : Dev := { d with conv := tmod d.conv k (fun c => { c with ready := some ⟨true, #v[1, 2, -3], false⟩ }) }
    let six : Dev := { up with topo := { up.topo with pair := #v[true, true] } }
    let edge (n : Nat) : Dev := { ((hallAt n).rset (Reg.POS_OFS 3) 0).rset (Reg.FLD_BADV 3) 0 with now := 0 }
    let src (n : Nat) : Dev := up.wf (Reg.FLD_STAT 3) 0 2 n
    six.paired 3 = true ∧ up.paired 3 = false ∧ ((ready 3 (ready 2 six)).cv 2).ready ≠ none ∧
    ((ready 3 (ready 2 six)).cv 3).ready ≠ none ∧ ((ready 3 six).cv 2).ready = none ∧ ((ready 2 six).cv 3).ready = none ∧
    (edge 5).leader 3 = 3 ∧ ((edge 5).hall 3).edgeT = (edge 5).now ∧
    ((edge 5).rf (Reg.POS_OFS 3) 0 16, (edge 5).rf (Reg.FLD_BADV 3) 0 16) = (0, 0) ∧ (up.src 3, (src 1).src (up.leader 3)) = (0, 1) ∧
    (src 3).src 3 = 3 := by decide +kernel

theorem witness_EngineStepsAndCheckpoints_modes :
    let es (mode e : Nat) : List Nat := if mode = 1 then [e] else if mode = 3 then (if e = 0 then [0] else []) else
      if mode = 0 ∨ mode = 2 then (if e = 0 then [0, 1] else []) else if e = 1 then [1] else []
    ([0, 1, 2, 3, 4].map fun m => es m 0) = [[0, 1], [0], [0, 1], [0], []] ∧
    ([0, 1, 2, 3, 4].map fun m => es m 1) = [[], [1], [], [], [1]] ∧ (ceIn 4).ceMode = 4 := by decide +kernel

theorem witness_LanesInputsAndParameterBlocks_ranges :
    let take (n a : Nat) (p : Option (Nat × Nat)) : Dev := up.ceMod (fun c => { c with take := [⟨0, 1024, n, a, p⟩] })
    let duty (p : Nat) : Bool := decide (40000 ≤ p) && decide (p ≤ 40000000)
    let freq (p : Nat) : Bool := decide (20000 ≤ p) && decide (p ≤ 400000000)
    let calm : Dev := up.ceMod (fun z => { z with dec := tmod z.dec 1 (fun v => tmod v 3 (fun x => { x with loss := false })) })
    [duty 40000, duty 40000000, duty 39999, duty 40000001] = [true, true, false, false] ∧
    [freq 20000, freq 400000000, freq 19999, freq 400000001] = [true, true, false, false] ∧ up.tablesOk = true ∧
    (tget (tget calm.ce.dec 1) 3).loss = false ∧ ((take 1 0 (some (7, 3))).ce.take.map (·.pair)) = [some (7, 3)] ∧
    up.blockPoison ⟨0, 1024, 1, 0, none⟩ 0 = false ∧ ({ up with poison := [0x250000] } : Dev).blockPoison ⟨0, 1024, 1, 0, none⟩ 0 = true := by decide +kernel

theorem witness_AuxDriverProtection_legs :
    let low : Dev := up.auxMod 1 (fun a => { a with ref := tset a.ref 1 1 })
    (tget (low.auxOf 1).ref 1).natAbs < 2 ∧ (up.wf (Reg.AUX_CFG 1) 22 2 0).rf (Reg.AUX_CFG 1) 22 2 = 0 ∧
    (({ tget (up.auxOf 1).legs 3 with side := .high } : AuxLeg)).side = .high ∧
    ((up.wb Reg.BIST_STAT 31 true).wf Reg.BIST_STAT 24 4 0xD).bistUnit = some 0xD ∧ up.bistUnit ≠ some 0xD := by decide +kernel

theorem witness_AuxSwitchesAndHold_more :
    let homing (p : Nat) : Dev := (auxY 4 0).wf (Reg.AUX_STAT 1) 23 3 p
    let seen (d : Dev) (sw : Nat) (b : Bool) : Dev := d.wb (Reg.AUX_STAT 1) (19 + sw) b
    let other (d : Dev) : Dev := (d.wf (Reg.AUX_STAT 1) 23 3 2)
    (seen (homing 2) 1 true).auxState 1 = 4 ∧ (seen (homing 2) 1 true).homeDir 1 ≠ 1 ∧ (seen (homing 2) 0 true).homeSw 1 ≠ 0 ∧
    (seen (homing 1) 0 false).homeSw 1 ≠ 0 ∧ (¬ ((seen (auxY 2 1) 0 true).auxOf 1).vel < 0) ∧ (other (homing 1)).auxPhase 1 = 2 := by decide +kernel

theorem witness_LinkVoltageLadderAndComparator_demand :
    let both (a b : Int) (n cnt : Nat) : Dev :=
      let d := ((((up.wb Reg.DCL_STAT 31 false).wb Reg.DCL_STAT 30 false).wb (Reg.ADC_LAT 0 4) 16 false).wb (Reg.ADC_LAT 1 4) 16 false)
      ((d.dclMod (fun x => { x with a := a, b := b, dis := n })).wf Reg.DCL_PLAUS 8 8 cnt).wf Reg.DCL_PLAUS 16 8 1 |>.wf Reg.DCL_PLAUS 0 8 0
    let apart (e : Dev) : Bool := decide (max ((e.rf Reg.DCL_PLAUS 0 8 : Int) * max e.dcl.a e.dcl.b) ((e.rf Reg.DCL_PLAUS 16 8 : Int) * 131072000) <
      ((e.dcl.a - e.dcl.b).natAbs : Int) * 1000)
    let drv (b : Nat) : Dev := { ((laneWith id).wb Reg.DCL_STAT 25 false).wb Reg.DCL_STAT b true with ax := Vector.replicate 4 .driving }
    ((both 0 131072 0 3).vdcStale 0, (both 0 131072 0 3).vdcStale 1, (both 0 131072 0 3).tablesOk) = (false, false, true) ∧
    apart (both 0 131072 0 3) = false ∧ apart (both 0 131073 0 3) = true ∧
    (¬ (both 0 131073 1 3).rf Reg.DCL_PLAUS 8 8 ≤ (both 0 131073 1 3).dcl.dis + 1) ∧
    (both 0 131073 2 3).rf Reg.DCL_PLAUS 8 8 ≤ (both 0 131073 2 3).dcl.dis + 1 ∧
    ((both 0 131073 2 3).wb Reg.DCL_CFG 8 true).rb Reg.DCL_CFG 8 = true ∧
    ((both 0 131073 2 3).wb Reg.DCL_CFG 8 false).rb Reg.DCL_CFG 8 = false ∧
    ((drv 26).rb Reg.DCL_STAT 26 || (drv 26).rb Reg.DCL_STAT 25) = true ∧
    ((drv 24).rb Reg.DCL_STAT 26 || (drv 24).rb Reg.DCL_STAT 25) = false ∧
    ((drv 25).rb Reg.DCL_STAT 26, (drv 25).rb Reg.DCL_STAT 25) = (false, true) ∧
    ((tget (drv 26).ax 3).active, (tget ((drv 26).selDecide 3).link 13).cdLost) = (true, false) ∧ (tget up.ax 3).active = false := by decide +kernel

theorem witness_ChopperHealthAndDischarge_probes :
    let go (b : Bool) (p : Option Nat) : Dev := ((up.wb Reg.DCL_DSTAT 31 true).wb Reg.DCL_DSTAT 30 b).dclMod (fun x =>
      { x with probe := p, vmStart := 131072 * 100, vm := 131072 * 90 })
    let low (d : Dev) : Bool := reaches d.dcl.vmStart (d.rf Reg.DCL_DLIM 0 16) &&
      decide ((d.dcl.vmStart - d.dcl.vm) * 100 < (d.rf Reg.DCL_DCFG 0 8 : Int) * d.dcl.vmStart)
    let held (b : Bool) : Dev := (up.chopMod 1 (fun c => { c with fbk := true, giMode := 1 })).dclMod (fun x => { x with tripped := b })
    (go true (some 1)).rb Reg.DCL_DSTAT 30 = true ∧ (go false (some 1)).rb Reg.DCL_DSTAT 30 = false ∧
    (go false (some 1)).dcl.probe = some 1 ∧ low ((go false (some 1)).wf Reg.DCL_DCFG 0 8 10) = false ∧
    low ((go false (some 1)).wf Reg.DCL_DCFG 0 8 11) = true ∧ (held true).dcl.tripped = true ∧ (held false).giMayChop 1 = true ∧
    (up.chopper 1).faulty = false := by decide +kernel

theorem witness_PulseInhibitAndItsTest_ready :
    let armed (n : Nat) : Dev := (sto (fun x => { x with ptPend := true })).setAux 1 n
    (inState (armed 0) .armed).allIdle = true ∧ (inState (armed 2) .armed).allIdle = false ∧
    (inState (armed 0) .armed).safe.ptPend = true ∧
    ([true, false].map fun b => (sto (fun x => { x with ptBad := b })).safe.ptBad) = [true, false] := by decide +kernel

theorem witness_TorqueMonitorDegradedTimeAndWatchdogs_trips :
    let seen (n c : Nat) : Dev := ((monitored .driving n false).wf (Reg.SAFE_TM_CFG 3) 8 8 c)
    tmCount 2 3 true = 3 ∧ (seen 2 3).rf (Reg.SAFE_TM_STAT 3) 8 8 < (seen 2 3).rf (Reg.SAFE_TM_CFG 3) 8 8 ∧
    (¬ (seen 3 3).rf (Reg.SAFE_TM_STAT 3) 8 8 < (seen 3 3).rf (Reg.SAFE_TM_CFG 3) 8 8) ∧ (¬ 3 ≤ tmCount 1 3 true) ∧
    tmCount 255 255 true = 255 := by decide +kernel

theorem witness_SafeBrakeControlAndTest_axes :
    let cfg (t : Nat) : Dev := { brakeTest true true true false with now := t }
    let slow (v : Word) : Bool := [0, 1, 2, 3].all fun a => ((up.wf Reg.SAFE_SBC_APPLY 0 16 1).rset (Reg.FLD_SPEED 0) v).inTopo a == false ||
      decide ((((up.wf Reg.SAFE_SBC_APPLY 0 16 1).rset (Reg.FLD_SPEED 0) v).selSpeed a).natAbs < 10)
    slow 9 = true ∧ slow 10 = false ∧
    0 + 100 * (cfg 0).rf Reg.SAFE_SBC_CFG 0 8 * usTicks ≤ (cfg (100 * (cfg 0).rf Reg.SAFE_SBC_CFG 0 8 * usTicks)).now ∧
    ([true, false].map fun r => (brakeTest r true true true).safe.test.map (·.released)) = [some true, some false] := by decide +kernel

theorem witness_FaultReportsAndReactions_windows :
    let map (deg : Bool) (d : Dev) : Dev := d.wb (Reg.FLT_MAP ((slotOf 0x0C31).getD 0)) 30 deg
    let at' (deg : Bool) (s : DState) : Dev := { inState (withRec (rec4 2 true true false) (map deg up)) s with now := 16383 * 10 * usTicks }
    let ended (d : Dev) (r : FltRec) : Bool := r.isOpen && decide (r.eclass = 2) && !r.esc &&
      decide (r.opened + fget (d.mapWord r.code) 0 14 * 10 * usTicks ≤ d.now)
    let waits (code : Nat) : Dev := (at' true .run).fltMod (fun f => { f with inbox := [⟨code, 0, false⟩] })
    (at' true .run).flt.recs.filter (ended (at' true .run)) = [rec4 2 true true false] ∧
    ended (at' true .run) (rec4 2 true true true) = false ∧ ended (at' true .run) (rec4 2 false true false) = false ∧
    (bget ((at' true .run).mapWord 0x0C31) 30 && (at' true .run).dstate == .run) = true ∧
    (bget ((at' false .run).mapWord 0x0C31) 30 && (at' false .run).dstate == .run) = false ∧ (at' true .run).flt.inbox = [] ∧
    (waits 0x0D05).flt.inbox = [⟨0x0D05, 0, false⟩] ∧
    ((waits 0x0D05).mapClass 0x0D05, slotOf 0x0D05 != none, (waits 0x0D05).recOf 0x0D05) = (4, true, none) ∧
    (at' true .run).dstate.toSafeOk = true ∧ (at' true .safe).dstate.toSafeOk = false ∧ (up.lvlOn 0x0C31 0).lvlAny 0x0C31 = true := by decide +kernel

theorem witness_RecoveryLogAndInjection_log :
    let q (n : Nat) (busy : Bool) : Dev := up.prsMod (fun p => { p with log := [[0x1FF, 2, 3, 4]], logRun := some ⟨n, busy, false⟩ })
    let above (f : Word) (seq : Nat) : Bool := decide ((seq + 2 ^ 32 - f.toNat) % 2 ^ 32 < 2 ^ 31)
    let safe' (isOpen : Bool) : Dev := inState (withRec { rec4 3 isOpen true false with code := 0x0C31 } up) .safe
    (q 3 true).prs.logRun = some ⟨3, true, false⟩ ∧ (q 0 false).prs.logRun = some ⟨0, false, false⟩ ∧
    (q 3 true).prs.log = [0x1FF, 2, 3, 4] :: [] ∧ above 0x1FF 0x1FF = true ∧ above 0x200 0x1FF = false ∧ (safe' true).openF3 = true ∧
    (safe' false).openF3 = false ∧ ((safe' true).opens 4, (safe' true).opens 3) = (false, false) ∧
    ((safe' true).fltMod (fun f => { f with inbox := [⟨0x0D05, 0, false⟩] })).opens 4 = true := by decide +kernel

theorem witness_EventsReachVectorsAndSinks_marks :
    let marked (k : Nat) : Dev := up.rgrMod (fun g => { g with sinks := [(k, 0xFF)] })
    ((List.range 10).all fun k => (marked k).rgr.sinks.contains (k, 0xFF)) = true ∧
    ((up.wb (Reg.EVT_PEND 0) 0 true).rb (Reg.EVT_PEND (0 / 32)) (0 % 32)) = true := by decide +kernel

theorem witness_CanControllerStates_entries :
    let at' (n : Nat) : Dev := up.wf (Reg.CAN_STAT 2) 29 3 n
    let obj (n : Nat) : Dev := { ((up.wb (Reg.CAN_OBJ_ID 2 63) 31 true).wf (Reg.CAN_OBJ_TMO 2 63) 0 16 1).ccMod 2 (fun x =>
      { x with activeAt := some 0, objAt := [(63, 5)] }) with now := n }
    let due (d : Dev) : Bool := match (d.cc 2).activeAt with
      | some t => decide (max t ((aget (d.cc 2).objAt 63).getD 0) + d.rf (Reg.CAN_OBJ_TMO 2 63) 0 16 * msTicks ≤ d.now)
      | none => false
    let long (n : Nat) : Dev := { (at' 2).wf (Reg.CAN_RESTR 2) 16 10 0 with now := n }
    ((at' 2).canState 2 ≠ 3 ∧ (at' 4).canState 2 ≠ 3) ∧ ((at' 3).canState 2 ≠ 5 ∧ (at' 4).canState 2 ≠ 7) ∧ (at' 4).canState 2 = 4 ∧
    due (obj (5 + msTicks)) = true ∧ due (obj (4 + msTicks)) = false ∧ ((obj 0).lvlOn 0x0E25 63).lvl 0x0E25 63 = true ∧
    ((long (1000 * msTicks)).cc 2).stAt + 1000 * msTicks ≤ (long (1000 * msTicks)).now ∧
    (¬ ((long (1000 * msTicks - 1)).cc 2).stAt + 1000 * msTicks ≤ (long (1000 * msTicks - 1)).now) ∧
    ((at' 2).ccMod 2 (fun x => { x with prolonged := true })).canState 2 = 2 := by decide +kernel

theorem witness_CanFramesAndErrors_limits :
    let fd (brs : Bool) : Dev := ((canUp.wb (Reg.CAN_DBT 2) 31 true).wb (Reg.CAN_TX_CTL 2 31) 31 true).wb (Reg.CAN_TX_CTL 2 31) 30 brs
    let port (brs : Bool) : Dev := (canUp.wb (Reg.CAN_DBT 2) 31 true).wb (Reg.CAN_PORT_CFG 1) 30 brs
    let reply : Dev := canUp.ccMod 2 (fun x => { x with sending := some (.reply 1 []) })
    let full : Dev := canUp.cpMod 1 (fun q => { q with cmdQ := [[], [], [], []] })
    let counted (n : Nat) : Dev := (canUp.wf (Reg.CAN_STAT 2) 0 8 n).wf (Reg.CAN_BO 2) 0 8 255
    let f (d : Dev) (tec : Nat) : Dev := (d.wf (Reg.CAN_STAT 2) 8 8 (min tec 255)).wf (Reg.CAN_STAT 2) 16 8 0
    let b (d : Dev) : Nat := min 255 ((f d 256).rf (Reg.CAN_STAT 2) 0 8 + 1)
    let g (d : Dev) : Dev := (((f d 256).wf (Reg.CAN_STAT 2) 0 8 (b d)).wsat (Reg.CAN_ERR 2) 0 16).lvlOn 0x0E21 0
    ((fd true).rb (Reg.CAN_DBT 2) 31, (fd true).rb (Reg.CAN_TX_CTL 2 31) 31 && (fd true).rb (Reg.CAN_TX_CTL 2 31) 30) = (true, true) ∧
    ((fd false).rb (Reg.CAN_TX_CTL 2 31) 31 && (fd false).rb (Reg.CAN_TX_CTL 2 31) 30) = false ∧
    ((port true).rb (Reg.CAN_PORT_CFG 1) 30, (port false).rb (Reg.CAN_PORT_CFG 1) 30) = (true, false) ∧
    (canUp.wb (Reg.CAN_DBT 2) 31 false).rb (Reg.CAN_DBT 2) 31 = false ∧ (reply.cc 2).sending = some (.reply 1 []) ∧
    4 ≤ (tget full.cport 1).cmdQ.length ∧ canUp.canState 2 = 3 ∧ (127 < 128 ∧ ¬ 127 < 127) ∧
    b (counted 253) < (g (counted 253)).rf (Reg.CAN_BO 2) 0 8 ∧ (g (counted 254)).rf (Reg.CAN_BO 2) 0 8 ≤ b (counted 254) ∧
    (255 ≤ 255 ∧ 255 < 256) := by decide +kernel

theorem witness_TamperKeyAndAttestation_responses :
    let resp (ok : Bool) (c : Option (List Byte)) (att : Option (List Byte × List Byte)) : Dev :=
      (up.secMod (fun x => { x with resp := some ([1], [2]), chal := c, att := att })).wb Reg.SEC_STAT 26 ok
    let zeros (l : List Byte) : Bool := l.all (fun b => b == 0)
    let seeded (c : Word) (b : Bool) : Dev := up.secMod (fun x => { x with seed := some ([1], c), barred := b })
    (resp true (some [1]) none).sec.resp = some ([1], [2]) ∧ (resp true (some [1]) none).rb Reg.SEC_STAT 26 = true ∧
    (resp false (some [1]) none).rb Reg.SEC_STAT 26 = false ∧ (resp true (some [1]) none).sec.chal = some [1] ∧ zeros [1] = false ∧
    zeros [0, 0] = true ∧ (resp true (some [1]) (some ([], []))).sec.att.isSome = true ∧
    (seeded (crc32c [1]) false).sec.seed = some ([1], crc32c [1]) ∧ (crc32c [1] : Word) ≠ 0 ∧ (seeded 0 true).sec.barred = true ∧
    up.sec.seed = none ∧ up.sec.barred = false := by decide +kernel

theorem witness_ProvisioningOnceInLockout_supply :
    (inState up .lockout).power.ioUp = true ∧ (inState (inState up .lockout) .dormant).dstate ≠ .lockout := by decide +kernel

theorem witness_TestPortAndDebugUnlock_access :
    let open' (s : DState) : Dev := inState (up.wb Reg.SEC_STAT 27 true) s
    let zero : Dev := up.secMod (fun x => { x with resp := some ([1], [2]), chal := some [0] })
    (open' .ready).rb Reg.SEC_STAT 27 = true ∧ ((open' .lockout).dstate.writeOk, (open' .ready).dstate.writeOk) = (false, true) ∧
    ((open' .ready).wb Reg.BIST_STAT 31 true).rb Reg.BIST_STAT 31 = true ∧ (occupied Reg.SYS_ID, occupied 0x250000) = (true, false) ∧
    ((open' .boot).dstate.readOk, (open' .ready).dstate.readOk) = (false, true) ∧
    ({ up with poison := [0x250000] } : Dev).poisonedPart 0x250000 4 = true ∧
    ({ up with poison := [0x250000] } : Dev).poisoned 0x250000 4 = true ∧ up.isolated Reg.SYS_ID = false ∧
    ((up.wb Reg.BIST_STAT 31 true).wf Reg.BIST_STAT 24 4 4).isolated (Reg.PWM_TRIP 3) = true ∧ memReadStatus 4 0x250000 4 = stOk ∧
    stagingOk 0x250000 4 = true ∧ stagingOk 0x24FFFC 4 = false ∧ (zero.sec.chal, zero.sec.resp) = (some [0], some ([1], [2])) ∧
    (inState up .dormant).live = false ∧ Reg.SEC_KS 15 ≠ Reg.SYS_ID := by decide +kernel

theorem witness_BistUnitsAndFusedRepair_links :
    let link (l : Nat) : Dev := { up with link := tmod (laneWith id).link 12 (fun x => { x with trained := l != 0 }) }
    let run (l : List Nat) (rep : Bool) : Dev := up.secMod (fun x => { x with bist := some ⟨l, rep, 0, 0, 0, false⟩ })
    ((link 0).laneUp 12, (link 1).laneUp 12, (link 1).laneUp 13) = (false, true, true) ∧ (link 1).noLink 0xB = false ∧
    up.noLink 0xD = true ∧ (run [5] false).bistResult 5 false bistFix = 1 ∧
    (run [5] true).bistResult 5 true { bistBad with repair := some (List.replicate 9 (3, false)), retestOk := true } = 3 ∧
    (run [5] true).bistResult 5 true { bistBad with repair := some (List.replicate 8 (3, false)), retestOk := true } = 2 ∧
    (run [5] true).bistResult 5 true { bistBad with repair := some (List.replicate 8 (3, false)), retestOk := false } = 1 ∧
    (run [0xA] true).bistResult 0xA true bistBad = 1 ∧ (run [7] true).bistResult 7 true bistPass = 0 := by decide +kernel

theorem witness_SensorsLevelsAndThrottling_links :
    let conv (n : Nat) (d : Dev) : Dev := { d.thermMod (fun x => { x with busy := [(n, 0)] }) with now := 20 * usTicks }
    let way : Dev := { up with link := tmod up.link 11 (fun l => { l with temp := some none }) }
    let free (n : Nat) (d : Dev) : Dev := d.thermMod (fun x => { x with busy := adel x.busy n })
    aget (conv 28 up).therm.busy 28 = some 0 ∧ (free 28 (conv 28 (laneWith id))).sensorLink 28 = true ∧
    (free 28 (conv 28 up)).sensorLink 28 = false ∧ (free 16 (conv 16 (laneWith id))).sensorLink 16 = true ∧
    (free 29 (conv 29 up)).sensorLink 29 = true ∧ (tget way.link 11).temp ≠ none ∧ (tget up.link 11).temp = none ∧
    aget up.therm.busy 29 = none ∧
    ((up.wf Reg.THERM_CFG 0 5 31).wf Reg.THERM_THROT 24 5 30).steps 3 ≠ min (((up.wf Reg.THERM_CFG 0 5 31).wf Reg.THERM_THROT 24 5 30).steps 3 + 1) 31 := by decide +kernel

theorem witness_PreserveTurnsAndPrograms_log :
    let entry' (n : Nat) (busy again : Bool) (d : Dev) : Dev := d.prsMod (fun p => { p with log := [[0x1FF, 2, 3, 4]], logRun := some ⟨n, busy, again⟩ })
    let waits (d : Dev) : Dev := { d with boot := { d.boot with waiting := some .self } }
    let above (f : Word) (seq : Nat) : Bool := decide ((seq + 2 ^ 32 - f.toNat) % 2 ^ 32 < 2 ^ 31)
    (entry' 2 true false up).prs.logRun = some ⟨2, true, false⟩ ∧ (entry' 3 true true up).prs.logRun = some ⟨3, true, true⟩ ∧
    (entry' 3 false false up).prs.logRun = some ⟨3, false, false⟩ ∧ (entry' 3 true true up).prs.log = [0x1FF, 2, 3, 4] :: [] ∧
    (waits (entry' 3 true true up)).live = false ∧ (waits up).prs.cur = none ∧ above (up.pword 0x3F2) 0x1FF = true ∧
    above 0x800001FF 0x1FF = false := by decide +kernel

theorem witness_SuppliesAndFieldImages_supply :
    let ver : Dev := running 0x45 (noIo up)
    up.opRuns 0x45 = false ∧ ver.wordBarred 0 (ver.sigWord 0x0A) = true ∧
    (running 0x45 up).wordBarred 0 ((running 0x45 up).sigWord 0x0A) = false ∧ ver.wordBarred 0 (ver.sigWord 0x0E) = false ∧
    (4 < 5 ∧ (4 : Nat) ≠ 1) := by decide +kernel

theorem witness_DocentLaneCarriesOutCommands_promises :
    let wait (ph : CmdPhase) (op n : Nat) : Dev := { up.setCmds [{ (default : Cmd) with id := ⟨0, 7⟩, op := op, phase := ph, deadline := 5, doc := [0] }] with now := n }
    let silent (n : Nat) : Dev := { { up.wf (Reg.HOST_HB 3) 16 10 1 with hosts := { up.hosts with readySeen := true } } with now := n }
    ((wait .lane 0x12 5).cmdOf ⟨0, 7⟩).map (fun c => decide (c.deadline ≤ 5)) = some true ∧
    ((wait .lane 0x12 4).cmdOf ⟨0, 7⟩).map (fun c => decide (4 < c.deadline)) = some true ∧
    ((wait .running 0x12 5).cmdOf ⟨0, 7⟩).map (fun c => c.phase == .running) = some true ∧
    ((wait .lane 0x11 5).cmdOf ⟨0, 7⟩).map (fun c => c.parts.any (fun p => decide (p.1 ≤ 5))) = some true ∧
    ((wait .lane 0x11 4).cmdOf ⟨0, 7⟩).map (fun c => c.parts.all (fun p => decide (4 < p.1))) = some true ∧
    (tget (silent msTicks).hosts.port 3).hbAt + (silent msTicks).rf (Reg.HOST_HB 3) 16 10 * msTicks ≤ (silent msTicks).now ∧
    (¬ (tget (silent 0).hosts.port 3).hbAt + (silent 0).rf (Reg.HOST_HB 3) 16 10 * msTicks ≤ (silent (msTicks - 1)).now) ∧
    up.isolated 0 = false ∧ (inLane 0x35 0xF [3] (laneWith id)).laneUp (adcLane 3) = true ∧
    acts 0x35 (inLane 0x35 0xF [3] (laneWith id)) = true ∧ (inLane 0x20 0xF [] up).sbcStart.2 = false := by decide +kernel

theorem witness_PowerWakeAndReset_pins :
    (7 < 8 ∧ 2 < 3 ∧ 1 < 2) ∧ (pinned .lockout false false).power.ioUp = false ∧ (pinned .dormant true false).tap.ir ≠ 4 := by decide +kernel

/-! ### Single steps against the spec -/

/-- R95: the check value. -/
theorem test_crc32c : crc32c [0x31, 0x32, 0x33, 0x34, 0x35, 0x36, 0x37, 0x38, 0x39] = 0xE3069283 := by decide +kernel
/-- R350: the CRC of a safety PDU over the same bytes. -/
theorem test_crc_pdu : crcPdu [0x31, 0x32, 0x33, 0x34, 0x35, 0x36, 0x37, 0x38, 0x39] = 0x1697D06A := by decide +kernel
/-- R173: the check value of the frame CRC. -/
theorem test_crc8 :
    crc8 ([0x31, 0x32, 0x33, 0x34, 0x35, 0x36, 0x37, 0x38, 0x39].flatMap (msbFirst 8)) = 0xDF := by decide +kernel
set_option maxRecDepth 100000 in
/-- R401: SHA-256 of the empty message, as FIPS 180-4 has it. -/
theorem test_sha256 : (sha256 []).take 4 = [0xE3, 0xB0, 0xC4, 0x42] := by decide +kernel
/-- R75: in LOCKOUT the xSPI port drives nothing. -/
theorem test_lockout_pins :
    ((pinned .lockout true false).xspiCkPin, (pinned .lockout true false).xspiDqPin 7) = (.highZ, .highZ) := by decide +kernel
/-- R412: the identification code, also while the device sleeps. -/
theorem test_idcode_asleep : (after (.idcode false) (inState d0 .dormant)).tap.out = [0x19, 0x41, 0x2A, 0x5B] := by decide +kernel
/-- R413: EXTEST outside LOCKOUT with TEST_MODE low acts as BYPASS. -/
theorem test_extest_is_bypass : (after (.extest [true] [true]) up).tap = ⟨0xFF, [], []⟩ := by decide +kernel
/-- R26: nRESET in LOCKOUT is ignored; elsewhere BOOT is entered. -/
theorem test_nreset : (after (.nresetPulse false false) (inState up .lockout)).dstate = .lockout ∧ (after (.nresetPulse false false) up).dstate = .boot ∧
    (after (.nresetPulse true false) up).dstate = .dormant ∧ (after (.nresetPulse false false) (after (.nresetPulse true false) up)).dstate = .boot := by
  decide +kernel
/-- R25, R117: SERVICE_ENTER, admitted and carried out. -/
theorem test_service_enter : (after .docentLaneExecute (after (.serviceEnter (frameA 0x40 1 0xF [])) up)).dstate = .service := by
  decide +kernel
/-- R99, R117: the reply to HEARTBEAT echoes its payload. -/
theorem test_heartbeat_reply :
    (((after (.heartbeat (frameA 0x04 0 0xF [0xAB, 0xCD])) up).hp 0).reply.getD []).take 10 =
      [0x5A, 1, 4, 7, 0, 0, 0, 4, 0xAB, 0xCD] := by decide +kernel
/-- R97: a frame with a wrong CRC is counted and refused with status CRC. -/
theorem test_bad_crc :
    let f := { frameA 0x02 0 0xF [] with rest := [0, 0, 0, 0] }
    (after (.identity f) up).rf (Reg.HOST_ERR 0) 0 8 = 1 ∧ ((((after (.identity f) up).hp 0).reply.getD []).getD 4 0).toNat = stCrc := by
  decide +kernel
/-- R182, R183: the low switch is on since an earlier tick: the request for the high one is refused with the flag, and neither is
changed. Asked for in the same tick, neither is sent. -/
theorem test_both_on_refused :
    let d (t : Nat) : Dev := ({ up.swMod 12 (fun x => { x with cdReq := true, cdSent := true }) with now := t }).ilkOn 0
    let seen (d : Dev) : Bool × Bool × Bool := (d.rb (Reg.ISL_H_FLAGS 0) 0, (d.swi 0).cdSent, (d.swi 12).cdSent)
    seen (d 1) = (true, false, true) ∧ seen (d 0) = (true, false, false) := by decide +kernel
/-- R183: off confirmed for 15 ticks is too short, 16 ticks (40 ns) are enough. -/
theorem test_interlock_40ns :
    let d (t : Nat) : Dev := { up.swMod 23 (fun x => { x with cdOff := some 0 }) with now := t }
    (((d 15).ilkOn 11).swi 11).cdSent = false ∧ (((d 16).ilkOn 11).swi 11).cdSent = true := by decide +kernel
/-- R242: a forward edge from sector 0 counts up, a reverse one from sector 0 to 5 down. -/
theorem test_hall_count :
    let d := (hallAt 0).rset (Reg.POS_WRAP 3) 42
    (after (.hallEdge 3 2) d).rf (Reg.POS_STAT 3) 16 16 = 1 ∧ (after (.hallEdge 3 6) d).rf (Reg.POS_STAT 3) 16 16 = 41 := by decide +kernel
/-- R404: a programmed key hash stays. -/
theorem test_keyhash_once :
    let d := after (.provKeyhash (List.replicate 32 1)) (inState up .lockout)
    (after (.provKeyhash (List.replicate 32 2)) d).sec.keyHash = some (List.replicate 32 1) := by decide +kernel
/-- R395: the data lengths above 8 bytes of an FD frame. -/
theorem test_dlc : [9, 10, 11, 12, 13, 14, 15].map (dlcBytes true) = [12, 16, 20, 24, 32, 48, 64] := by decide +kernel
set_option maxRecDepth 100000 in
/-- R389: a frame is stored in the object of its identifier; a second one before the read is marked lost. -/
theorem test_can_object :
    let d := canUp.rset (Reg.CAN_OBJ_ID 2 63) 0x80000123
    let e := after (.canFrameReceived 2 0x123 false true true false false 15 (List.replicate 64 0xAA) 0 0) d
    e.rget (Reg.CAN_OBJ_D 2 63 15) = 0xAAAAAAAA ∧ e.rb (Reg.CAN_RXNEW 2 1) 31 = true ∧ e.rb (Reg.CAN_RXLOST 2 1) 31 = false ∧
    (after (.canFrameReceived 2 0x123 false true true false false 15 (List.replicate 64 0xAA) 0 0) e).rb (Reg.CAN_RXLOST 2 1) 31 = true := by
  decide +kernel
/-- R360, R363: 0x0C31, class F3, opens its record and leads to SAFE. -/
theorem test_f3_report :
    let d := after (.faultReport [⟨0x0C31, 0, false⟩] [] []) (inState up .run)
    d.dstate = .safe ∧ (d.recOf 0x0C31).map (fun r => (r.isOpen, r.eclass, r.occ)) = some (true, 3, 1) := by decide +kernel
/-- R20: reports of one cycle are taken in slot order. -/
theorem test_slot_order :
    (sortReports [⟨0x0D05, 0, false⟩, ⟨0x0020, 1, false⟩]).map (·.code) = [0x0020, 0x0D05] := by decide +kernel
/-- R436: a word programmed twice without success is worn out and its write ends. -/
theorem test_preserve_fails :
    let d : Dev := up.prsMod (fun p => { p with cur := some ⟨0x10, 1, 0, [], false⟩, again := true })
    (after (.preserveProgramEnd false false) d).prs.cur = none ∧ (after (.preserveProgramEnd false false) d).worn 0x10 = true ∧
    (after (.preserveProgramEnd false true) d).pword 0x10 = 1 := by decide +kernel
/-- R4: a register write outside its bounds ends with RANGE and keeps the value. -/
theorem test_bound_refused :
    (after (.registerWrite 0 (Reg.HLT_LO 0) 11) (bounded (Reg.HLT_LO 0))).wstat = stRange ∧
    (after (.registerWrite 0 (Reg.HLT_LO 0) 10) (bounded (Reg.HLT_LO 0))).rget (Reg.HLT_LO 0) = 10 := by decide +kernel
/-- No word of the table spells a command (log entry 1). -/
theorem test_no_word : decodeTableWord 32 0xDEADBEEF = none ∧ (on up).withFetchWord 32 7 = on up := by decide +kernel

end Sys2Proof.Tests
end

/-! ## Bounds of tuning registers, and nRESET in LOCKOUT -/

namespace Sys2Proof.Machine

/-! ### A value outside the bounds that the image declares (R8, R85) -/

section
variable {d : Dev} {a : Nat} {v : Word} {r : RegRow} {bs : List FieldBound}

/-- R4 refuses no write of a register with bounds: commit does not lock it. -/
theorem Dev.locked_of_bounds (hb : aget d.img.bounds a = some bs) : d.locked a r = false := by
  simp [Dev.locked, hb]

theorem Dev.valueOk_of_not_inBounds (hb : aget d.img.bounds a = some bs) (hv : inBounds v bs = false) :
    d.valueOk a r v = false := by
  simp [Dev.valueOk, hb, hv]

/-- A write of a register that is neither read-only nor a preserve word, and that its state takes, is refused for its value. -/
theorem Dev.judgeWrite_of_not_valueOk (hr : rowAt a = some r) (hro : r.access ≠ .ro) (hprs : r.access ≠ .prs)
    (hl : d.locked a r = false) (hi : d.isolated a = false) (hs : r.access = .rws → d.staged? a = true)
    (hv : d.valueOk a r v = false) : d.judgeWrite a v = .inl stRange := by
  have taken : (d.locked a r || d.isolated a || (r.access == .rws && !d.staged? a)) = false := by
    simpa [hl, hi] using hs
  simp [Dev.judgeWrite, hr, hro, hprs, taken, hv]

/-- A staged write that its axis takes is judged by its value once more at its commit point. -/
theorem Dev.applyRws_of_not_valueOk (hr : rowAt a = some r) (hl : d.locked a r = false) (hs : d.staged? a = true)
    (hv : d.valueOk a r v = false) (h : Nat) (p : Option (Nat × Nat)) : d.applyRws h a v p = (d, stRange) := by
  simp [Dev.applyRws, hr, hl, hs, hv]

/-- A write by a host that may write, refused when it is judged, leaves its status only. -/
theorem Dev.hostWrite_of_refused {h st : Nat} (hh : h < 4) (hm : d.mayWrite h a = true) (hj : d.judgeWrite a v = .inl st) :
    d.hostWrite h a v = { d with wstat := st } := by
  simp [Dev.hostWrite, Dev.writeReg, hh, hm, hj]

end

/-! ### nRESET in LOCKOUT (R26, log entry 138) -/

/-- In LOCKOUT `TEST_MODE` is not sampled and no reset is asked for: the level of the pin is kept. -/
theorem Dev.nReset_lockout {d : Dev} (hl : d.dstate = .lockout) (hw : d.boot.waiting = none) (held testMode : Bool) :
    d.nReset held testMode = { d with power := { d.power with nResetLow := held } } := by
  simp [Dev.nReset, hl, hw]

/-- Settles O8: the refused value is judged in `Dev.judgeWrite` for a write by a host and in `Dev.applyRws` at a commit point. -/
theorem boundsHoldAndLockoutStays : Obligations.BoundsHoldAndLockoutStays := by
  refine ⟨?atOnce, ?staged, ?lockout⟩
  case atOnce =>
    intro s h a v r bs hlive hh hr hacc hb hv hm hi hs
    have hro : r.access ≠ .ro := by rcases hacc with e | e | e <;> simp [e]
    have hprs : r.access ≠ .prs := by rcases hacc with e | e | e <;> simp [e]
    have refused := Dev.judgeWrite_of_not_valueOk hr hro hprs (Dev.locked_of_bounds hb) hi hs
      (Dev.valueOk_of_not_inBounds hb hv)
    rw [exec_registerWrite, State.run_live hlive, Dev.hostWrite_of_refused hh hm refused]
  case staged =>
    intro d h a v r bs p hr hb hv hs
    exact Dev.applyRws_of_not_valueOk hr (Dev.locked_of_bounds hb) hs (Dev.valueOk_of_not_inBounds hb hv) h p
  case lockout =>
    intro s held tm hl hw
    rw [exec_nresetPulse, State.runAny, Dev.nReset_lockout hl hw]

end Sys2Proof.Machine

/-! ## CRCs, data lengths and state codes -/

namespace Sys2Proof.Machine

/-! ### Bytes, most significant first -/

theorem beNat_lt : ∀ bs : List Byte, beNat bs < 256 ^ bs.length
  | [] => Nat.one_pos
  | b :: bs => by
    have hb : b.toNat + 1 ≤ 256 := b.isLt
    calc beNat (b :: bs) < b.toNat * 256 ^ bs.length + 256 ^ bs.length := Nat.add_lt_add_left (beNat_lt bs) _
      _ = (b.toNat + 1) * 256 ^ bs.length := (Nat.succ_mul _ _).symm
      _ ≤ 256 * 256 ^ bs.length := Nat.mul_le_mul_right _ hb
      _ = 256 ^ (b :: bs).length := (Nat.pow_succ').symm

/-- What stands above the lowest `k` bytes of a number is not written. -/
theorem beBytes_mul_pow_add (k c n : Nat) : beBytes k (c * 256 ^ k + n) = beBytes k n := by
  induction k generalizing c with
  | zero => rfl
  | succ k ih =>
    have split : c * 256 ^ (k + 1) + n = c * 256 * 256 ^ k + n := by rw [Nat.pow_succ', Nat.mul_assoc]
    have head : BitVec.ofNat 8 (c * 256 + n / 256 ^ k) = BitVec.ofNat 8 (n / 256 ^ k) := by
      apply BitVec.eq_of_toNat_eq
      simp only [BitVec.toNat_ofNat]
      omega
    rw [split, beBytes, beBytes, ih, Nat.mul_comm _ (256 ^ k), Nat.mul_add_div (Nat.pow_pos (by decide)), head]

/-- Bytes read as a number and written again are the same bytes. -/
theorem beBytes_beNat : ∀ bs : List Byte, beBytes bs.length (beNat bs) = bs
  | [] => rfl
  | b :: bs => by
    have head : (b.toNat * 256 ^ bs.length + beNat bs) / 256 ^ bs.length = b.toNat := by
      rw [Nat.mul_comm, Nat.mul_add_div (Nat.pow_pos (by decide)), Nat.div_eq_of_lt (beNat_lt bs), Nat.add_zero]
    simp only [List.length_cons, beBytes, beNat, head, beBytes_mul_pow_add, beBytes_beNat bs, BitVec.ofNat_toNat,
      BitVec.setWidth_eq]

/-- A 32-bit word read from four bytes is written as these bytes. -/
theorem beBytes_ofNat_beNat {bs : List Byte} (h : bs.length = 4) : beBytes 4 (BitVec.ofNat 32 (beNat bs)).toNat = bs := by
  have fits : beNat bs < 2 ^ 32 := by simpa [h] using beNat_lt bs
  rw [BitVec.toNat_ofNat, Nat.mod_eq_of_lt fits, ← h, beBytes_beNat]

/-! ### The frame CRC (R95) -/

theorem crcRun_eq_foldl (poly c : Word) (bs : List Byte) :
    crcRun poly c bs = bs.foldl (fun c b => crcBits poly 8 (c ^^^ b.setWidth 32)) c := by
  induction bs generalizing c with
  | nil => rfl
  | cons b bs ih => exact ih _

/-- A frame passes checks 2–4 only when it is as long as its length field says and its last four bytes are its CRC. -/
theorem of_soundness_eq_inr {p l : Nat} {bs : List Byte} (h : soundness p bs = .inr l) :
    12 + l ≤ bs.length ∧ crc32c (bs.take (8 + l)) = BitVec.ofNat 32 (beAt bs (8 + l) 4) := by
  simp only [soundness] at h
  split_ifs at h with hshort hlen htrunc hcrc
  obtain rfl := Sum.inr.inj h
  exact ⟨Nat.le_of_not_lt htrunc, not_not.mp hcrc⟩

theorem crc_bytes_of_soundness {p l : Nat} {bs : List Byte} (h : soundness p bs = .inr l) :
    beBytes 4 (crc32c (bs.take (8 + l))).toNat = (bs.drop (8 + l)).take 4 := by
  obtain ⟨hlen, hcrc⟩ := of_soundness_eq_inr h
  have four : ((bs.drop (8 + l)).take 4).length = 4 := by
    rw [List.length_take, List.length_drop]
    omega
  rw [hcrc, beAt, beBytes_ofNat_beNat four]

/-! ### The codes of the device's and the axes' states in their registers (R31) -/

theorem DState.code_lt (s : DState) : s.code < 10 := by cases s <;> decide

theorem AState.code_lt (s : AState) : s.code < 7 := by cases s <;> decide

/-- The seconds left of `DEG_TIME` stand above `DSTATE`. -/
theorem Dev.fget_sysState (d : Dev) : fget d.sysState 0 8 = d.dstate.code := by
  have := d.dstate.code_lt
  simp only [fget, Dev.sysState, BitVec.toNat_ofNat]
  omega

/-- What `SYS_AXSTATE` shows of axis `a`. -/
def Dev.axCode (d : Dev) (a : Nat) : Nat := if d.inTopo a then (d.axOf a).code else 0

theorem Dev.axCode_lt (d : Dev) (a : Nat) : d.axCode a < 16 := by
  have := (d.axOf a).code_lt
  unfold Dev.axCode
  split <;> omega

theorem Dev.axStates_eq (d : Dev) :
    d.axStates = d.axCode 0 + d.axCode 1 * 16 + d.axCode 2 * 256 + d.axCode 3 * 4096 := by
  simp [Dev.axStates, Dev.axCode, List.range_succ]

/-- Each axis has four bits of `SYS_AXSTATE`. -/
theorem Dev.fget_axStates (d : Dev) {a : Nat} (ha : a < 4) : fget (BitVec.ofNat 32 d.axStates) (4 * a) 4 = d.axCode a := by
  have h0 := d.axCode_lt 0
  have h1 := d.axCode_lt 1
  have h2 := d.axCode_lt 2
  have h3 := d.axCode_lt 3
  rw [fget, BitVec.toNat_ofNat, d.axStates_eq]
  interval_cases a <;> omega

theorem Dev.peek_SYS_STATE (d : Dev) : d.peek Reg.SYS_STATE = d.sysState := rfl

theorem Dev.peek_SYS_AXSTATE (d : Dev) : d.peek Reg.SYS_AXSTATE = BitVec.ofNat 32 d.axStates := rfl

/-! ### Data lengths (R395) -/

theorem dlcBytes_of_le {dlc : Nat} (h : dlc ≤ 8) (fdf : Bool) : dlcBytes fdf dlc = dlc := if_pos h

/-- A classical frame holds no more than 8 bytes. -/
theorem dlcBytes_classical_of_gt {dlc : Nat} (h : 8 < dlc) : dlcBytes false dlc = 8 := if_neg (Nat.not_le.mpr h)

/-- Settles O10: the CRC's bits are those of `crcBits`; checks 2–4 compare the CRC with a frame's last four bytes, which are written
as they are read; and each code has a field of its register to itself. -/
theorem encodingsOfTheSpec : Obligations.EncodingsOfTheSpec := by
  refine ⟨?crcOfBits, ?crcCheck, ?pduCheck, ?laneCheck, ?frameEnd, ?replyEnd, ?stateFields, ?deviceCodes, ?axisCodes,
    ?shortLength, ?fdLengths, ?classicalLength⟩
  case crcOfBits => exact fun bs => congrArg (· ^^^ 0xFFFFFFFF#32) (crcRun_eq_foldl 0x82F63B78#32 0xFFFFFFFF#32 bs)
  case crcCheck => decide +kernel
  case pduCheck => decide +kernel
  case laneCheck => decide +kernel
  case frameEnd => exact fun p l bs h => crc_bytes_of_soundness h
  case replyEnd => exact fun p op tk st info pl => ⟨_, rfl⟩
  case stateFields =>
    intro d
    rw [d.peek_SYS_STATE, d.peek_SYS_AXSTATE]
    exact ⟨d.fget_sysState, fun a ha => d.fget_axStates ha⟩
  case deviceCodes => rfl
  case axisCodes => rfl
  case shortLength => exact fun dlc h => ⟨dlcBytes_of_le h true, dlcBytes_of_le h false⟩
  case fdLengths => rfl
  case classicalLength => exact fun dlc h _ => dlcBytes_classical_of_gt h

end Sys2Proof.Machine

/-! ## Cancelled transmit buffers -/

namespace Sys2Proof.Machine

/-! ### The controllers beside their registers -/

theorem tget_tmod_same {α : Type} [Inhabited α] {n : Nat} (v : Vector α n) {i : Nat} (hi : i < n) (f : α → α) :
    tget (tmod v i f) i = f (tget v i) := by
  simp [tget, tmod, hi]

theorem Dev.cc_ccMod (d : Dev) {c : Nat} (hc : c < 3) (f : CanCtl → CanCtl) : (d.ccMod c f).cc c = f (d.cc c) :=
  tget_tmod_same d.can hc f

@[simp] theorem Dev.cc_wb (d : Dev) (a i : Nat) (b : Bool) (c : Nat) : (d.wb a i b).cc c = d.cc c := by simp [Dev.cc]

/-- What a register reads depends on the register table alone. -/
theorem Dev.rget_of_regs {d e : Dev} (h : e.regs = d.regs) (a : Nat) : e.rget a = d.rget a := by
  simp only [Dev.rget, h]

theorem Dev.rb_of_rget {d e : Dev} {a : Nat} (h : e.rget a = d.rget a) (i : Nat) : e.rb a i = d.rb a i := by
  simp only [Dev.rb, Dev.rf, h]

theorem wb_canon {d : Dev} (h : canon resetOf d.regs = true) (a i : Nat) (b : Bool) : canon resetOf (d.wb a i b).regs = true :=
  wf_canon h a i 1 b.toNat

theorem Dev.regs_canon {d : Dev} (h : d.tablesOk = true) : canon resetOf d.regs = true := by
  simp only [Dev.tablesOk, Bool.and_eq_true] at h
  obtain ⟨⟨⟨hregs, -⟩, -⟩, -⟩ := h
  exact hregs

/-! ### A write of 1 to bits of `CANc_TXCAN` (R394) -/

/-- What such a write does about buffer `i`. -/
def Dev.cancelBuf (v : Word) (c : Nat) (d : Dev) (i : Nat) : Dev :=
  if bget v i && d.rb (Reg.CAN_TXREQ c) i then
    if (d.cc c).sending = some (.buf i) then d.ccMod c (fun x => { x with cancel := true })
    else (d.wb (Reg.CAN_TXREQ c) i false).wb (Reg.CAN_TXCNC c) i true
  else d

theorem Dev.canTxCancel_eq_foldl (d : Dev) (c : Nat) (v : Word) : d.canTxCancel c v = (List.range 32).foldl (Dev.cancelBuf v c) d := rfl

theorem TXREQ_ne_TXCNC (c : Nat) : Reg.CAN_TXREQ c ≠ Reg.CAN_TXCNC c := by
  simp only [Reg.CAN_TXREQ, Reg.CAN_TXCNC]
  omega

section
variable {d : Dev} {c i j : Nat} {v : Word}

theorem Dev.cancelBuf_of_not_asked (h : bget v i = false ∨ d.rb (Reg.CAN_TXREQ c) i = false) : Dev.cancelBuf v c d i = d := by
  rcases h with h | h <;> simp [Dev.cancelBuf, h]

theorem Dev.cancelBuf_of_sent (hv : bget v i = true) (hp : d.rb (Reg.CAN_TXREQ c) i = true) (hs : (d.cc c).sending = some (.buf i)) :
    Dev.cancelBuf v c d i = d.ccMod c (fun x => { x with cancel := true }) := by
  simp [Dev.cancelBuf, hv, hp, hs]

theorem Dev.cancelBuf_of_waiting (hv : bget v i = true) (hp : d.rb (Reg.CAN_TXREQ c) i = true)
    (hs : (d.cc c).sending ≠ some (.buf i)) :
    Dev.cancelBuf v c d i = (d.wb (Reg.CAN_TXREQ c) i false).wb (Reg.CAN_TXCNC c) i true := by
  simp [Dev.cancelBuf, hv, hp, hs]

/-- A buffer freed as cancelled: what its bits, and those of the other buffers, are. -/
theorem rb_freed (hd : canon resetOf d.regs = true) (hi : i < 32) (j : Nat) :
    let e := (d.wb (Reg.CAN_TXREQ c) i false).wb (Reg.CAN_TXCNC c) i true
    e.rb (Reg.CAN_TXREQ c) j = (if j = i then false else d.rb (Reg.CAN_TXREQ c) j) ∧
    e.rb (Reg.CAN_TXCNC c) j = (if j = i then true else d.rb (Reg.CAN_TXCNC c) j) := by
  have hreq := wb_canon hd (Reg.CAN_TXREQ c) i false
  constructor
  · rw [rb_wb_other hreq (TXREQ_ne_TXCNC c), rb_wb hd _ _ hi]
  · rw [rb_wb hreq _ _ hi, rb_wb_other hd (TXREQ_ne_TXCNC c).symm]

/-- From `d` to `e` nothing happens to buffer `j` of controller `c`, and neither the attempt under way nor its mark ends. -/
structure BufKept (c j : Nat) (d e : Dev) : Prop where
  table : canon resetOf e.regs = true
  txreq : e.rb (Reg.CAN_TXREQ c) j = d.rb (Reg.CAN_TXREQ c) j
  txcnc : e.rb (Reg.CAN_TXCNC c) j = d.rb (Reg.CAN_TXCNC c) j
  sending : (e.cc c).sending = (d.cc c).sending
  marked : (d.cc c).cancel = true → (e.cc c).cancel = true

theorem BufKept.refl (hd : canon resetOf d.regs = true) : BufKept c j d d := ⟨hd, rfl, rfl, rfl, id⟩

theorem BufKept.trans {e f : Dev} (h : BufKept c j d e) (k : BufKept c j e f) : BufKept c j d f :=
  ⟨k.table, k.txreq.trans h.txreq, k.txcnc.trans h.txcnc, k.sending.trans h.sending, fun m => k.marked (h.marked m)⟩

/-- What is done about another buffer. -/
theorem BufKept.cancelBuf (hc : c < 3) (hd : canon resetOf d.regs = true) (hi : i < 32) (hj : j ≠ i) :
    BufKept c j d (Dev.cancelBuf v c d i) := by
  unfold Dev.cancelBuf
  split
  · split
    · have mark := d.cc_ccMod hc (fun x => { x with cancel := true })
      exact ⟨hd, rfl, rfl, by rw [mark], fun _ => by rw [mark]⟩
    · obtain ⟨hreq, hcnc⟩ := rb_freed (c := c) hd hi j
      exact ⟨wb_canon (wb_canon hd ..) .., hreq.trans (if_neg hj), hcnc.trans (if_neg hj), by simp, by simp⟩
  · exact .refl hd

theorem BufKept.foldl_cancelBuf (hc : c < 3) : ∀ {l : List Nat} {d : Dev} (_ : canon resetOf d.regs = true)
    (_ : ∀ i ∈ l, i < 32 ∧ j ≠ i), BufKept c j d (l.foldl (Dev.cancelBuf v c) d)
  | [], _, hd, _ => .refl hd
  | i :: l, d, hd, hl => by
    obtain ⟨⟨hi, hj⟩, hl⟩ := List.forall_mem_cons.1 hl
    have head : BufKept c j d (Dev.cancelBuf v c d i) := .cancelBuf hc hd hi hj
    exact head.trans (foldl_cancelBuf hc head.table hl)

/-- The write does about buffer `j` what it would do about this buffer alone: the buffers before and after it are others. -/
theorem Dev.canTxCancel_around (hc : c < 3) (hj : j < 32) (hd : canon resetOf d.regs = true) (v : Word) :
    ∃ e, BufKept c j d e ∧
      (canon resetOf (Dev.cancelBuf v c e j).regs = true → BufKept c j (Dev.cancelBuf v c e j) (d.canTxCancel c v)) := by
  obtain ⟨before, after, hsplit⟩ := List.append_of_mem (List.mem_range.2 hj)
  have others : ∀ i ∈ before ++ after, i < 32 ∧ j ≠ i := by
    intro i hi
    have hnodup := List.nodup_middle.1 (hsplit ▸ List.nodup_range (n := 32))
    have hmem : i ∈ List.range 32 := by rw [hsplit]; simp only [List.mem_append, List.mem_cons] at hi ⊢; tauto
    exact ⟨List.mem_range.1 hmem, fun e => (List.nodup_cons.1 hnodup).1 (e ▸ hi)⟩
  rw [d.canTxCancel_eq_foldl, hsplit, List.foldl_append, List.foldl_cons]
  exact ⟨_, .foldl_cancelBuf hc hd fun i hi => others i (List.mem_append_left _ hi),
    fun h => .foldl_cancelBuf hc h fun i hi => others i (List.mem_append_right _ hi)⟩

/-- A pending buffer that is not being sent. -/
theorem Dev.canTxCancel_frees (hc : c < 3) (hj : j < 32) (hd : canon resetOf d.regs = true) (hv : bget v j = true)
    (hp : d.rb (Reg.CAN_TXREQ c) j = true) (hs : (d.cc c).sending ≠ some (.buf j)) :
    (d.canTxCancel c v).rb (Reg.CAN_TXREQ c) j = false ∧ (d.canTxCancel c v).rb (Reg.CAN_TXCNC c) j = true := by
  obtain ⟨e, before, after⟩ := Dev.canTxCancel_around hc hj hd v
  rw [Dev.cancelBuf_of_waiting hv (before.txreq.trans hp) (before.sending ▸ hs)] at after
  replace after := after (wb_canon (wb_canon before.table ..) ..)
  obtain ⟨hreq, hcnc⟩ := rb_freed (c := c) before.table hj j
  exact ⟨after.txreq.trans (hreq.trans (if_pos rfl)), after.txcnc.trans (hcnc.trans (if_pos rfl))⟩

/-- A buffer that is being sent. -/
theorem Dev.canTxCancel_marks (hc : c < 3) (hj : j < 32) (hd : canon resetOf d.regs = true) (hv : bget v j = true)
    (hp : d.rb (Reg.CAN_TXREQ c) j = true) (hs : (d.cc c).sending = some (.buf j)) :
    (d.canTxCancel c v).rb (Reg.CAN_TXREQ c) j = true ∧ ((d.canTxCancel c v).cc c).cancel = true ∧
      ((d.canTxCancel c v).cc c).sending = some (.buf j) := by
  obtain ⟨e, before, after⟩ := Dev.canTxCancel_around hc hj hd v
  have hs' := before.sending.trans hs
  have hp' := before.txreq.trans hp
  rw [Dev.cancelBuf_of_sent hv hp' hs'] at after
  replace after := after before.table
  have mark := e.cc_ccMod hc (fun x => { x with cancel := true })
  exact ⟨after.txreq.trans hp', after.marked (by rw [mark]), after.sending.trans (by rw [mark, hs'])⟩

/-- A buffer whose bit is not in the value, or a free one. -/
theorem Dev.canTxCancel_keeps (hc : c < 3) (hj : j < 32) (hd : canon resetOf d.regs = true)
    (h : bget v j = false ∨ d.rb (Reg.CAN_TXREQ c) j = false) : BufKept c j d (d.canTxCancel c v) := by
  obtain ⟨e, before, after⟩ := Dev.canTxCancel_around hc hj hd v
  rw [Dev.cancelBuf_of_not_asked (h.imp_right before.txreq.trans)] at after
  exact before.trans (after before.table)

end

/-! ### `CANc_TXCAN` as a register -/

theorem rowAt_TXCAN {c : Nat} (hc : c < 3) :
    ∃ r, rowAt (Reg.CAN_TXCAN c) = some r ∧ r.access = .wo ∧ r.image = false ∧ r.lims = [] := by
  interval_cases c <;> exact ⟨_, rfl, rfl, rfl, rfl⟩

theorem blockOf_TXCAN {c : Nat} (hc : c < 3) : blockOf (Reg.CAN_TXCAN c) = 0x0E := by
  simp only [blockOf, Reg.CAN_TXCAN]
  omega

/-- No value is out of range, and no state of the controller refuses it. -/
theorem Dev.judgeWrite_TXCAN {d : Dev} {c : Nat} (hc : c < 3) (hi : d.isolated (Reg.CAN_TXCAN c) = false)
    (hb : aget d.img.bounds (Reg.CAN_TXCAN c) = none) (v : Word) :
    ∃ r, d.judgeWrite (Reg.CAN_TXCAN c) v = .inr r ∧ r.access = .wo := by
  obtain ⟨r, hrow, hwo, himg, hlims⟩ := rowAt_TXCAN hc
  have free : d.locked (Reg.CAN_TXCAN c) r = false := by simp [Dev.locked, himg, hwo]
  have fits : d.valueOk (Reg.CAN_TXCAN c) r v = true := by simp [Dev.valueOk, hb, hlims, Dev.ruleOk, blockOf_TXCAN hc]
  exact ⟨r, by simp [Dev.judgeWrite, hrow, hwo, free, hi, fits], hwo⟩

theorem Dev.writeOwn_TXCAN (d : Dev) (h : Nat) {c : Nat} (hc : c < 3) (v : Word) :
    d.writeOwn h (Reg.CAN_TXCAN c) v = some (d.canTxCancel c v, stOk) := by
  have off : Reg.CAN_TXCAN c % 0x10000 = c * 0x4000 + 0x2C := by
    simp only [Reg.CAN_TXCAN]
    omega
  have low : c * 0x4000 + 0x2C < 0xC000 := by omega
  have ctl : (c * 0x4000 + 0x2C) / 0x4000 = c := by omega
  have reg : (c * 0x4000 + 0x2C) % 0x4000 = 0x2C := by omega
  simp [Dev.writeOwn, blockOf_TXCAN hc, off, low, ctl, reg, Dev.canWrite]

/-- A write by a host that may write it is never refused. -/
theorem Dev.hostWrite_TXCAN {d : Dev} {h c : Nat} (hh : h < 4) (hc : c < 3) (hm : d.mayWrite h (Reg.CAN_TXCAN c) = true)
    (hi : d.isolated (Reg.CAN_TXCAN c) = false) (hb : aget d.img.bounds (Reg.CAN_TXCAN c) = none) (v : Word) :
    d.hostWrite h (Reg.CAN_TXCAN c) v = { d.canTxCancel c v with wstat := stOk } := by
  obtain ⟨r, judged, hwo⟩ := Dev.judgeWrite_TXCAN hc hi hb v
  simp [Dev.hostWrite, Dev.writeReg, hh, hm, judged, hwo, d.writeOwn_TXCAN h hc v]

/-! ### The end of an attempt (R392, R394) -/

section
variable {d : Dev} {c j : Nat}

/-- The attempt under way is over, and so is its mark. -/
def Dev.attemptOver (d : Dev) (c : Nat) : Dev := d.ccMod c (fun x => { x with sending := none, cancel := false })

theorem Dev.cc_attemptOver (d : Dev) (hc : c < 3) : (d.attemptOver c).cc c = { d.cc c with sending := none, cancel := false } :=
  d.cc_ccMod hc _

theorem Dev.canFailed_of_marked (hs : (d.cc c).sending = some (.buf j)) (hm : (d.cc c).cancel = true) :
    d.canFailed c = ((d.attemptOver c).wb (Reg.CAN_TXREQ c) j false).wb (Reg.CAN_TXCNC c) j true := by
  simp only [Dev.canFailed, Dev.attemptOver, hs, hm, if_true]

/-- From `d` to `e` the controller `c` changes at most its state, its counters and its event bits, and no stop is asked for. -/
structure StatusOnly (c : Nat) (d e : Dev) : Prop where
  table : canon resetOf e.regs = true
  rget : ∀ a, a ≠ Reg.CAN_STAT c → a ≠ Reg.CAN_ERR c → a ≠ Reg.CAN_EVT c → e.rget a = d.rget a
  stopReq : (e.cc c).stopReq = (d.cc c).stopReq

namespace StatusOnly
variable {e f : Dev}

theorem refl (hd : canon resetOf d.regs = true) : StatusOnly c d d := ⟨hd, fun _ _ _ _ => rfl, rfl⟩

/-- A further operation that writes no register. -/
theorem of_regs (h : StatusOnly c d e) (hr : f.regs = e.regs) (hs : (f.cc c).stopReq = (e.cc c).stopReq) : StatusOnly c d f :=
  ⟨hr ▸ h.table, fun a h1 h2 h3 => (Dev.rget_of_regs hr a).trans (h.rget a h1 h2 h3), hs.trans h.stopReq⟩

theorem wf (h : StatusOnly c d e) {a : Nat} (ha : a = Reg.CAN_STAT c ∨ a = Reg.CAN_ERR c ∨ a = Reg.CAN_EVT c) (lo w x : Nat) :
    StatusOnly c d (e.wf a lo w x) := by
  refine ⟨wf_canon h.table .., fun b h1 h2 h3 => ?_, h.stopReq⟩
  have other : b ≠ a := by rcases ha with rfl | rfl | rfl <;> assumption
  rw [Dev.wf, rget_rset h.table, if_neg other, h.rget b h1 h2 h3]

theorem ite {p : Prop} [Decidable p] (he : StatusOnly c d e) (hf : StatusOnly c d f) : StatusOnly c d (if p then e else f) := by
  split
  · exact he
  · exact hf

theorem ccMod (hc : c < 3) (h : StatusOnly c d e) (g : CanCtl → CanCtl) (hg : ∀ x, (g x).stopReq = x.stopReq) :
    StatusOnly c d (e.ccMod c g) := h.of_regs rfl (by rw [Dev.cc_ccMod e hc, hg])

theorem attemptOver (hc : c < 3) (h : StatusOnly c d e) : StatusOnly c d (e.attemptOver c) := ccMod hc h _ fun _ => rfl

theorem occ (h : StatusOnly c d e) (code src : Nat) : StatusOnly c d (e.occ code src) := h.of_regs rfl rfl

theorem occIf (h : StatusOnly c d e) (b : Bool) (code src : Nat) : StatusOnly c d (e.occIf b code src) :=
  ite (h.occ code src) h

theorem lvlOn (h : StatusOnly c d e) (code src : Nat) : StatusOnly c d (e.lvlOn code src) :=
  h.of_regs (by simp) (by simp [Dev.cc])

theorem lvlOff (h : StatusOnly c d e) (code src : Nat) : StatusOnly c d (e.lvlOff code src) :=
  h.of_regs (by simp) (by simp [Dev.cc])

theorem canEvt (h : StatusOnly c d e) (bit : Nat) : StatusOnly c d (e.canEvt c bit) := by
  have hw := h.wf (.inr (.inr rfl)) bit 1 true.toNat
  exact hw.of_regs (by simp [Dev.canEvt, Dev.wb]) (by simp [Dev.canEvt, Dev.cc])

/-- Messages of the ports are discarded (R387, R398). -/
theorem canDiscard (hc : c < 3) (h : StatusOnly c d e) : StatusOnly c d (e.canDiscard c) := by
  unfold Dev.canDiscard
  refine ccMod hc (h.of_regs ?_ ?_) _ fun _ => rfl
  · exact foldl_view (·.regs) _ (by intros; rfl) _ _
  · exact foldl_view (fun d => (d.cc c).stopReq) _ (by intros; rfl) _ _

/-- The controller takes a state (R384). -/
theorem canGo (hc : c < 3) (h : StatusOnly c d e) (st : Nat) : StatusOnly c d (e.canGo c st) := by
  unfold Dev.canGo
  refine ite h ?_
  extract_lets run e1 e2 e3 e4
  have h1 : StatusOnly c d e1 := ite h (ccMod hc h _ fun _ => rfl)
  have h2 : StatusOnly c d e2 := (h1.wf (.inl rfl) 29 3 st).canEvt 2
  have h3 : StatusOnly c d e3 := ite (h2.lvlOn _ _) (h2.lvlOff _ _)
  have h4 : StatusOnly c d e4 := ite (ccMod hc (h3.lvlOff _ _) _ fun _ => rfl) h3
  exact ite (canDiscard hc h4) h4

/-- The error counters take their values, and the controller the state that follows (R387). -/
theorem canCount (hc : c < 3) (h : StatusOnly c d e) (tec rec' : Nat) : StatusOnly c d (e.canCount c tec rec') := by
  unfold Dev.canCount
  refine ite ?_ h
  extract_lets e1 n e2 e3
  have h1 : StatusOnly c d e1 := (h.wf (.inl rfl) 8 8 _).wf (.inl rfl) 16 8 _
  have h2 : StatusOnly c d e2 := (h1.wf (.inl rfl) 0 8 n).wf (.inr (.inl rfl)) 0 16 _
  have h3 : StatusOnly c d e3 := h2.lvlOn _ _
  exact ite (ite ((canGo hc h3 7).occ _ _) (canGo hc h3 5)) (canGo hc h1 _)

/-- The transmitter delay is measured (R383). -/
theorem canTdc (h : StatusOnly c d e) (m : CanSend) (n : Nat) : StatusOnly c d (e.canTdc c m n) := by
  unfold Dev.canTdc
  exact ite ((h.wf (.inr (.inl rfl)) 24 8 _).occIf _ _ _) h

/-- No bit of a transmit buffer is among what changes. -/
theorem rb_tx (h : StatusOnly c d e) (j : Nat) : e.rb (Reg.CAN_TXREQ c) j = d.rb (Reg.CAN_TXREQ c) j ∧
    e.rb (Reg.CAN_TXDONE c) j = d.rb (Reg.CAN_TXDONE c) j ∧ e.rb (Reg.CAN_TXCNC c) j = d.rb (Reg.CAN_TXCNC c) j := by
  refine ⟨Dev.rb_of_rget (h.rget _ ?_ ?_ ?_) j, Dev.rb_of_rget (h.rget _ ?_ ?_ ?_) j, Dev.rb_of_rget (h.rget _ ?_ ?_ ?_) j⟩ <;>
    simp only [Reg.CAN_TXREQ, Reg.CAN_TXDONE, Reg.CAN_TXCNC, Reg.CAN_STAT, Reg.CAN_ERR, Reg.CAN_EVT] <;> omega

end StatusOnly

/-- A buffer whose frame has been acknowledged becomes free, is marked as done, and its time stamp is kept (R392). -/
def Dev.txDone (d : Dev) (c j : Nat) : Dev :=
  ((d.wb (Reg.CAN_TXREQ c) j false).wb (Reg.CAN_TXDONE c) j true).rset (Reg.CAN_TX_TS c j) (BitVec.ofNat 32 d.stamp)

theorem Dev.cc_txDone (d : Dev) (c j k : Nat) : (d.txDone c j).cc k = d.cc k := by
  simp [Dev.txDone, Dev.cc]

theorem txDone_canon (hd : canon resetOf d.regs = true) (c j : Nat) : canon resetOf (d.txDone c j).regs = true :=
  rset_canon (wb_canon (wb_canon hd ..) ..) ..

theorem rb_txDone (hd : canon resetOf d.regs = true) (c : Nat) (hj : j < 32) :
    (d.txDone c j).rb (Reg.CAN_TXREQ c) j = false ∧ (d.txDone c j).rb (Reg.CAN_TXDONE c) j = true ∧
    (d.txDone c j).rb (Reg.CAN_TXCNC c) j = d.rb (Reg.CAN_TXCNC c) j := by
  have hreq := wb_canon hd (Reg.CAN_TXREQ c) j false
  have hdone := wb_canon hreq (Reg.CAN_TXDONE c) j true
  have apart : Reg.CAN_TXREQ c ≠ Reg.CAN_TXDONE c ∧ Reg.CAN_TXCNC c ≠ Reg.CAN_TXREQ c ∧ Reg.CAN_TXCNC c ≠ Reg.CAN_TXDONE c ∧
      Reg.CAN_TXREQ c ≠ Reg.CAN_TX_TS c j ∧ Reg.CAN_TXDONE c ≠ Reg.CAN_TX_TS c j ∧ Reg.CAN_TXCNC c ≠ Reg.CAN_TX_TS c j := by
    simp only [Reg.CAN_TXREQ, Reg.CAN_TXDONE, Reg.CAN_TXCNC, Reg.CAN_TX_TS]
    omega
  obtain ⟨req_done, cnc_req, cnc_done, req_ts, done_ts, cnc_ts⟩ := apart
  have stamped {a : Nat} (ha : a ≠ Reg.CAN_TX_TS c j) :
      (d.txDone c j).rb a j = ((d.wb (Reg.CAN_TXREQ c) j false).wb (Reg.CAN_TXDONE c) j true).rb a j :=
    Dev.rb_of_rget ((rget_rset hdone ..).trans (if_neg ha)) j
  refine ⟨?_, ?_, ?_⟩
  · rw [stamped req_ts, rb_wb_other hreq req_done, rb_wb hd _ _ hj, if_pos rfl]
  · rw [stamped done_ts, rb_wb hreq _ _ hj, if_pos rfl]
  · rw [stamped cnc_ts, rb_wb_other hreq cnc_done, rb_wb_other hd cnc_req]

theorem Dev.canSent_of_buf (hs : (d.cc c).sending = some (.buf j)) (tec rec' tdc : Nat) :
    d.canSent c tec rec' tdc =
      (((((d.attemptOver c).canTdc c (.buf j) tdc).txDone c j).canEvt c 1).canCount c tec rec').canFrameEnd c := by
  simp only [Dev.canSent, hs, Dev.attemptOver, Dev.txDone]

/-- The end of a frame for which no stop waits. -/
theorem Dev.canFrameEnd_of_no_stop (h : (d.cc c).stopReq = false) : d.canFrameEnd c = d := by
  simp [Dev.canFrameEnd, h]

/-- An acknowledged frame of buffer `j`, when no stop waits for its end: what precedes and what follows the end of the buffer's
request writes none of the buffer's bits. -/
theorem Dev.canSent_frees (hc : c < 3) (hj : j < 32) (hd : canon resetOf d.regs = true) (hs : (d.cc c).sending = some (.buf j))
    (hstop : (d.cc c).stopReq = false) (tec rec' tdc : Nat) :
    let t := d.canSent c tec rec' tdc
    t.rb (Reg.CAN_TXREQ c) j = false ∧ t.rb (Reg.CAN_TXDONE c) j = true ∧ t.rb (Reg.CAN_TXCNC c) j = d.rb (Reg.CAN_TXCNC c) j := by
  rw [Dev.canSent_of_buf hs]
  have start : StatusOnly c d ((d.attemptOver c).canTdc c (.buf j) tdc) := ((StatusOnly.refl hd).attemptOver hc).canTdc _ _
  generalize (d.attemptOver c).canTdc c (.buf j) tdc = e at start ⊢
  have after : StatusOnly c (e.txDone c j) (((e.txDone c j).canEvt c 1).canCount c tec rec') :=
    .canCount hc ((StatusOnly.refl (txDone_canon start.table c j)).canEvt 1) tec rec'
  have noStop := after.stopReq
  rw [Dev.cc_txDone, start.stopReq, hstop] at noStop
  rw [Dev.canFrameEnd_of_no_stop noStop]
  obtain ⟨hreq, hdone, hcnc⟩ := rb_txDone start.table c hj
  obtain ⟨kreq, kdone, kcnc⟩ := after.rb_tx j
  exact ⟨kreq.trans hreq, kdone.trans hdone, kcnc.trans (hcnc.trans (start.rb_tx j).2.2)⟩

/-- An attempt of a marked buffer that ends without acknowledgement. -/
theorem Dev.canFailed_frees (hc : c < 3) (hj : j < 32) (hd : canon resetOf d.regs = true) (hs : (d.cc c).sending = some (.buf j))
    (hm : (d.cc c).cancel = true) : (d.canFailed c).rb (Reg.CAN_TXREQ c) j = false ∧
      (d.canFailed c).rb (Reg.CAN_TXCNC c) j = true ∧ ((d.canFailed c).cc c).sending = none := by
  rw [Dev.canFailed_of_marked hs hm]
  have ended := (StatusOnly.refl hd).attemptOver hc
  obtain ⟨hreq, hcnc⟩ := rb_freed (c := c) ended.table hj j
  exact ⟨hreq.trans (if_pos rfl), hcnc.trans (if_pos rfl), by rw [Dev.cc_wb, Dev.cc_wb, d.cc_attemptOver hc]⟩

end

/-- Settles O9: a write of `CANc_TXCAN` does about a buffer what it would do about this buffer alone, and after the end of an attempt
no bit of a transmit buffer is written. -/
theorem cancelledBuffersBecomeFree : Obligations.CancelledBuffersBecomeFree := by
  intro s h c j v hlive htab hh hc hj
  have hd := Dev.regs_canon htab
  refine ⟨?write, ?unacknowledged, ?acknowledged⟩
  case write =>
    intro hm hi hb
    refine ⟨{ s.dev.canTxCancel c v with wstat := stOk }, ?_, rfl, ?_, ?_, ?_⟩
    · rw [exec_txCancel, State.run_live hlive, if_pos hc, Dev.hostWrite_TXCAN hh hc hm hi hb]
    · exact Dev.canTxCancel_frees hc hj hd
    · exact Dev.canTxCancel_marks hc hj hd
    · intro hkeep
      have kept := Dev.canTxCancel_keeps hc hj hd hkeep
      exact ⟨kept.txreq, kept.txcnc⟩
  case unacknowledged => exact Dev.canFailed_frees hc hj hd
  case acknowledged =>
    intro hs _ hstop tec rec' tdc _
    refine ⟨s.dev.canSent c tec rec' tdc, ?_, Dev.canSent_frees hc hj hd hs hstop tec rec' tdc⟩
    rw [exec_transmitComplete, State.run_live hlive]

end Sys2Proof.Machine

/-! ## What every operation of the device keeps -/

namespace Sys2Proof.Machine

set_option Elab.async false

/-- From `o` to `d` every store keeps its canonical form, no half-bridge comes to have both its switches commanded on, and the fuses
only fill up. -/
structure Kept (o d : Dev) : Prop where
  regs : canon resetOf o.regs = true → canon resetOf d.regs = true
  sram : Memory.wf o.sram = true → Memory.wf d.sram = true
  words : canon (fun _ => (0 : Word)) o.prs.words = true → canon (fun _ => (0 : Word)) d.prs.words = true
  wear : canon (fun _ => (0 : Nat)) o.prs.wear = true → canon (fun _ => (0 : Nat)) d.prs.wear = true
  both : o.noBoth = true → d.noBoth = true
  fuses : FusesKept o.sec d.sec

theorem FusesKept.rfl {x : Sec} : FusesKept x x := ⟨.refl x.uid, id, fun _ => id, fun _ => id, List.prefix_rfl⟩

theorem FusesKept.trans {x y z : Sec} (h : FusesKept x y) (k : FusesKept y z) : FusesKept x z :=
  ⟨k.1.trans h.1, k.2.1 ∘ h.2.1, fun a => k.2.2.1 a ∘ h.2.2.1 a, fun a => k.2.2.2.1 a ∘ h.2.2.2.1 a, h.2.2.2.2.trans k.2.2.2.2⟩

/-- No half-bridge has both its switches commanded on. -/
theorem noBoth_iff {d : Dev} : d.noBoth = true ↔ ∀ n < 12, (d.swi n).cdSent = true → (d.swi (n + 12)).cdSent = false := by
  simp [Dev.noBoth, ← Bool.not_eq_true, imp_iff_not_or]

theorem tget_tmod {α : Type} [Inhabited α] {n : Nat} (v : Vector α n) (i j : Nat) (f : α → α) :
    tget (tmod v i f) j = if i = j ∧ j < n then f (tget v j) else tget v j := by
  unfold tget tmod
  by_cases hi : i < n <;> by_cases hj : j < n <;> by_cases hij : i = j <;> simp [hi, hj, hij]

theorem swi_swMod (d : Dev) (sw j : Nat) (f : Switch → Switch) :
    (d.swMod sw f).swi j = if sw = j ∧ j < 28 then f (d.swi j) else d.swi j := tget_tmod d.sw sw j f

@[simp] theorem islTurnOn_cdSent (x : Switch) : x.islTurnOn.cdSent = x.cdSent := by unfold Switch.islTurnOn; split <;> rfl
@[simp] theorem islTurnOff_cdSent (x : Switch) : x.islTurnOff.cdSent = x.cdSent := by unfold Switch.islTurnOff; split <;> rfl
@[simp] theorem islApply_cdSent (x : Switch) : x.islApply.cdSent = x.cdSent := by unfold Switch.islApply; split <;> simp

theorem blank_noBoth : Dev.blank.noBoth = true := by decide

namespace Kept

variable {o d e : Dev}

theorem rfl : Kept d d := ⟨id, id, id, id, id, .rfl⟩

theorem trans (h : Kept o d) (k : Kept d e) : Kept o e :=
  ⟨k.regs ∘ h.regs, k.sram ∘ h.sram, k.words ∘ h.words, k.wear ∘ h.wear, k.both ∘ h.both, h.fuses.trans k.fuses⟩

/-- Sound stores stay sound. -/
theorem sound (h : Kept o d) (ho : o.sound = true) : d.sound = true := by
  simp only [Dev.sound, Dev.tablesOk, Bool.and_eq_true] at ho ⊢
  obtain ⟨⟨⟨⟨hr, hm⟩, hw⟩, hu⟩, hb⟩ := ho
  exact ⟨⟨⟨⟨h.regs hr, h.sram hm⟩, h.words hw⟩, h.wear hu⟩, h.both hb⟩

theorem tablesOk (h : Kept o d) (ho : o.tablesOk = true) : d.tablesOk = true := by
  simp only [Dev.tablesOk, Bool.and_eq_true] at ho ⊢
  obtain ⟨⟨⟨hr, hm⟩, hw⟩, hu⟩ := ho
  exact ⟨⟨⟨h.regs hr, h.sram hm⟩, h.words hw⟩, h.wear hu⟩

/-! ### How an operation is put together -/

/-- An operation that leaves the stores, the switches and the fuses. -/
theorem same (h : Kept o d) {now freeCtr : Nat} {power : Power} {pins : Pins} {dstate : DState} {ax : Vector AState 4} {axCause :
    Vector (List Nat) 4} {regs0 : List (Nat × Word)} {written : List Nat} {hwSet : List (Nat × Nat)} {poison events : List Nat}
    {topo : Topo} {clk : Clk} {pwm : Vector Pwm 4} {chan : Vector Chan 6} {link : Vector Link 14} {sup : Vector (Vector Bool 6) 13}
    {diag : Vector Diag 4} {conv : Vector Conv 4} {sar : Vector Sar 2} {fld : Vector Fld 4} {pos : Vector Pos 4} {flt : Flt} {ce :
    Ce} {dcl : Dcl} {aux : Vector Aux 2} {swIn : Vector (Vector (Bool × Nat) 3) 2} {safe : Safe} {therm : Therm} {img : Img} {port :
    List PortEntry} {hosts : Hosts} {can : Vector CanCtl 3} {cport : Vector CanPort 2} {tap : Tap} {boot : Boot} {rgr : Rgr} {wstat
    : Nat} :
    Kept o { d with
      now, freeCtr, power, pins, dstate, ax, axCause, regs0, written, hwSet, poison, events, topo, clk, pwm, chan, link, sup,
      diag, conv, sar, fld, pos, flt, ce, dcl, aux, swIn, safe, therm, img, port, hosts, can, cport, tap, boot, rgr, wstat } :=
  ⟨h.regs, h.sram, h.words, h.wear, h.both, h.fuses⟩

theorem ofIte {c : Prop} [Decidable c] (h : Kept o d) (k : Kept o e) : Kept o (if c then d else e) := by
  split <;> assumption

/-- Both branches of a choice go on from the same device. -/
theorem branch {c : Prop} [Decidable c] {a b : Dev} (h : Kept o d) (ha : Kept o d → Kept o a) (hb : Kept o d → Kept o b) :
    Kept o (if c then a else b) := ofIte (ha h) (hb h)

theorem fstIte {α : Type} {c : Prop} [Decidable c] {x y : Dev × α} (h : Kept o x.1) (k : Kept o y.1) :
    Kept o (if c then x else y).1 := by
  split <;> assumption

theorem fst {α : Type} {x : Dev × α} {a : α} (h : Kept o x.1) (hx : x = (e, a)) : Kept o e := by
  subst hx
  exact h

theorem foldl {α : Type} {f : Dev → α → Dev} {l : List α} (hf : ∀ e x, Kept o e → Kept o (f e x)) (h : Kept o d) :
    Kept o (l.foldl f d) := by
  induction l generalizing d with
  | nil => exact h
  | cons x l ih => exact ih (hf d x h)

/-- The device of an outcome with a result. -/
theorem pair {α : Type} {y : α} (h : Kept o d) : Kept o (d, y).1 := h

/-- An operation that may have no outcome. -/
def Gives (o : Dev) (x : Option (Dev × Nat)) : Prop := ∀ y, x = some y → Kept o y.1

theorem Gives.no : Gives o none := fun _ hy => nomatch hy

theorem Gives.some {y : Dev × Nat} (h : Kept o y.1) : Gives o (some y) := fun _ hy => Option.some.inj hy ▸ h

theorem Gives.ofIte {c : Prop} [Decidable c] {x y : Option (Dev × Nat)} (h : Gives o x) (k : Gives o y) :
    Gives o (if c then x else y) := by
  split <;> assumption

/-! ### Registers, SRAM, reports, events -/

theorem rset (h : Kept o d) {a : Nat} {v : Word} : Kept o (d.rset a v) :=
  ⟨fun ho => rset_canon (h.regs ho) a v, h.sram, h.words, h.wear, h.both, h.fuses⟩

theorem wf (h : Kept o d) {a lo w x : Nat} : Kept o (d.wf a lo w x) := h.rset

theorem wb (h : Kept o d) {a i : Nat} {b : Bool} : Kept o (d.wb a i b) := h.wf.same

theorem cpSet (h : Kept o d) {a lo w x : Nat} : Kept o (d.cpSet a lo w x) := ofIte h h.wf

theorem wsat (h : Kept o d) {a lo w : Nat} : Kept o (d.wsat a lo w) := h.wf

theorem wmod (h : Kept o d) {a lo w : Nat} : Kept o (d.wmod a lo w) := h.wf

theorem mset (h : Kept o d) {a : Nat} {b : Byte} : Kept o (d.mset a b) :=
  ⟨h.regs, fun ho => mset_wf (h.sram ho) a b, h.words, h.wear, h.both, h.fuses⟩

theorem mwrite (h : Kept o d) {a : Nat} {bs : List Byte} : Kept o (d.mwrite a bs) := by
  induction bs generalizing d a with
  | nil => exact h
  | cons b bs ih => exact ih h.mset

theorem unpoison (h : Kept o d) {a n : Nat} : Kept o (d.unpoison a n) := h.same

theorem tick1 (h : Kept o d) : Kept o d.tick1 := h.same

theorem ev (h : Kept o d) {n : Nat} : Kept o (d.ev n) := h.same

theorem evIf (h : Kept o d) {c : Bool} {n : Nat} : Kept o (d.evIf c n) := ofIte h.ev h

theorem occ (h : Kept o d) {code src : Nat} : Kept o (d.occ code src) := h.same

theorem occIf (h : Kept o d) {c : Bool} {code src : Nat} : Kept o (d.occIf c code src) := ofIte h.occ h

theorem lvlOn (h : Kept o d) {code src : Nat} : Kept o (d.lvlOn code src) := ofIte h h.same

theorem lvlOff (h : Kept o d) {code src : Nat} : Kept o (d.lvlOff code src) := ofIte h.same h

theorem lvlSet (h : Kept o d) {b : Bool} {code src : Nat} : Kept o (d.lvlSet b code src) := ofIte h.lvlOn h.lvlOff

theorem rmod (h : Kept o d) {a : Nat} {f : Word → Word} : Kept o (d.rmod a f) := h.rset

theorem count32 (h : Kept o d) {a : Nat} : Kept o (d.count32 a) := h.rmod

theorem hltTake (h : Kept o d) {m : Nat} {x : Int} : Kept o (d.hltTake m x) := h.count32.rset.rmod.rmod.count32

theorem hlt (h : Kept o d) {src idx : Nat} {x : Int} : Kept o (d.hlt src idx x) := foldl (fun _ _ h => ofIte h.hltTake h) h

theorem setPhaseH (h : Kept o d) {x p : Nat} : Kept o (d.setPhaseH x p) := h.wf

/-! ### Switches and interlock -/

/-- A switch changed that is not newly commanded on. -/
theorem swMod (h : Kept o d) {sw : Nat} {f : Switch → Switch}
    (hf : ∀ x, (f x).cdSent = true → x.cdSent = true := by simp) : Kept o (d.swMod sw f) := by
  have sent : ∀ j, ((d.swMod sw f).swi j).cdSent = true → (d.swi j).cdSent = true := by
    intro j hj
    rw [swi_swMod] at hj
    split at hj
    · exact hf _ hj
    · exact hj
  refine ⟨h.regs, h.sram, h.words, h.wear, fun ho => noBoth_iff.2 fun n hn hs => ?_, h.fuses⟩
  have := noBoth_iff.1 (h.both ho) n hn (sent n hs)
  by_contra hc
  rw [sent _ (by simpa using hc)] at this
  contradiction

theorem ilkOff (h : Kept o d) {sw : Nat} : Kept o (d.ilkOff sw) := h.swMod

theorem ilkExt (h : Kept o d) {sw ticks : Nat} : Kept o (d.ilkExt sw ticks) := h.hlt.branch (·.wf) (·.wf)

theorem shootReq (h : Kept o d) {n : Nat} : Kept o (d.shootReq n) := h.wb.ev.occ

/-- A switch is commanded on whose partner, where it has one, is not. -/
theorem ilkSend (h : Kept o d) {sw : Nat} (hq : ∀ q, partner sw = some q → (d.swi q).cdSent = false) : Kept o (d.ilkSend sw) := by
  refine ⟨h.regs, h.sram, h.words, h.wear, fun ho => noBoth_iff.2 fun n hn => ?_, h.fuses⟩
  have hb := noBoth_iff.1 (h.both ho) n hn
  unfold Dev.ilkSend
  rw [swi_swMod, swi_swMod]
  by_cases h1 : sw = n
  · have := hq (n + 12) (by simp [partner, h1, hn])
    simp [show ¬sw = n + 12 by omega, this]
  · by_cases h2 : sw = n + 12
    · have := hq n (by simp [partner, h2]; omega)
      simp [h1, this]
    · simpa [h1, h2] using hb

theorem ilkHold (h : Kept o d) {sw : Nat} : Kept o (d.ilkHold sw) := h.swMod

theorem ilkRecall (h : Kept o d) {sw : Nat} : Kept o (d.ilkRecall sw) := ofIte h.swMod h

theorem ilkOn (h : Kept o d) {sw : Nat} : Kept o (d.ilkOn sw) := by
  unfold Dev.ilkOn
  refine ofIte h ?_
  split
  next hp => exact ofIte (h.ilkSend (by simp [hp])) h.ilkHold
  next q hp =>
    split_ifs with h1 h2
    · exact h.ilkHold.ilkRecall.shootReq
    · have hq : (d.swi q).cdSent = false := by simp only [Bool.or_eq_true, not_or, Bool.not_eq_true] at h1; exact h1.2
      exact (h.ilkSend (by simp [hp, hq])).ilkExt
    · exact h.ilkHold

theorem ilkRelease (h : Kept o d) {sw : Nat} : Kept o (d.ilkRelease sw) := by
  unfold Dev.ilkRelease
  split
  next q t hp _ =>
    split_ifs with hc
    · have hq : (d.swi q).cdSent = false := by
        simp only [Dev.ilkFree, Switch.offFor40ns, Bool.and_eq_true, Bool.not_eq_true'] at hc
        exact hc.2.2.1
      exact (h.ilkSend (by simp [hp, hq])).ilkExt
    · exact h
  next hp _ => exact ofIte (h.ilkSend (by simp [hp])) h
  next => exact h

theorem laneMod (h : Kept o d) {lane : Nat} {f : Switch → Switch} (hf : ∀ x, (f x).cdSent = true → x.cdSent = true := by simp) :
    Kept o (d.laneMod lane f) := foldl (fun _ _ h => h.swMod hf) h

theorem commandWord (h : Kept o d) {lane : Nat} {checksOk : Bool} : Kept o (d.commandWord lane checksOk) :=
  ofIte (foldl (fun _ _ h => h.swMod (by intro x; split_ifs <;> simp)) h) h

theorem vgsConfirm (h : Kept o d) {sw : Nat} {on : Bool} : Kept o (d.vgsConfirm sw on) := h.swMod

theorem segmentEnd (h : Kept o d) {sw : Nat} {timeout : Bool} : Kept o (d.segmentEnd sw timeout) := by
  unfold Dev.segmentEnd
  dsimp only
  split
  · exact h
  · exact (ofIte h.wb.occ h).swMod

theorem gateMonitor (h : Kept o d) {sw : Nat} : Kept o (d.gateMonitor sw) := ofIte h.occ h

theorem scBlankEnd (h : Kept o d) {sw : Nat} : Kept o (d.scBlankEnd sw) := ofIte h.swMod h

theorem shortDetected (h : Kept o d) {sw : Nat} : Kept o (d.shortDetected sw) := ofIte h.swMod.wb.ev.occ h

/-! ### PWM -/

theorem pwMod (h : Kept o d) {a : Nat} {f : Pwm → Pwm} : Kept o (d.pwMod a f) := h.same

theorem startBlank (h : Kept o d) {a : Nat} : Kept o (d.startBlank a) := ofIte h (foldl (fun _ _ h => h.wb) h)

theorem syncSw (h : Kept o d) {a p : Nat} {high on : Bool} : Kept o (d.syncSw a p high on) :=
  ofIte ((ofIte h.ilkOn h.ilkOff).startBlank) h

theorem syncGates (h : Kept o d) {a : Nat} : Kept o (d.syncGates a) :=
  foldl (fun _ _ h => h.syncSw.syncSw) (foldl (fun _ _ h => h.syncSw.syncSw) h)

theorem setAx (h : Kept o d) {a : Nat} {st : AState} : Kept o (d.setAx a st) := ofIte h h.same.ev.syncGates

theorem cutAxis (h : Kept o d) {a : Nat} : Kept o (d.cutAxis a) := ofIte h h.pwMod.wb.ev.syncGates

theorem cutPulses (h : Kept o d) {a : Nat} : Kept o (d.cutPulses a) := foldl (fun _ _ h => h.cutAxis) h

theorem tripInput (h : Kept o d) {a src : Nat} {active : Bool} : Kept o (d.tripInput a src active) := h.wb.branch (·.cutPulses) id

theorem ocDetected (h : Kept o d) {a p : Nat} : Kept o (d.ocDetected a p) := h.tripInput.occ

theorem blankingEnd (h : Kept o d) {a : Nat} : Kept o (d.blankingEnd a) := (foldl (fun _ _ h => h.wb) h).branch (·.cutPulses) id

theorem refreshBegin (h : Kept o d) {a p : Nat} : Kept o (d.refreshBegin a p) := (h.pwMod.branch (·.wb) id).wb.ev.occ

theorem refreshMet (h : Kept o d) {a p : Nat} : Kept o (d.refreshMet a p) := ofIte h.pwMod h

theorem reqEdge (h : Kept o d) {a p : Nat} {rise : Bool} : Kept o (d.reqEdge a p rise) := by
  unfold Dev.reqEdge
  exact h.pwMod.syncGates

theorem pwmEdge (h : Kept o d) {a p : Nat} {rise : Bool} : Kept o (d.pwmEdge a p rise) :=
  (ofIte h.refreshBegin h).branch id (fun h => (h.branch (·.refreshMet) id).reqEdge)

theorem probeEdge (h : Kept o d) {a p : Nat} {begins : Bool} : Kept o (d.probeEdge a p begins) := h.pwMod.syncGates

theorem cutLowOn (h : Kept o d) {a p : Nat} : Kept o (d.cutLowOn a p) := h.pwMod.syncGates

theorem deadTimeEnd (h : Kept o d) {a p : Nat} {high : Bool} : Kept o (d.deadTimeEnd a p high) :=
  ofIte h.cutLowOn (ofIte (h.pwMod.branch (·.pwMod) (fun h => h.branch (·.cutPulses.pwMod) (·.pwMod.syncGates))) h)

theorem maskDelay (h : Kept o d) {old : Dev} {a : Nat} : Kept o (d.maskDelay old a) := h.pwMod

theorem maskIndex (h : Kept o d) {a idx : Nat} : Kept o (d.maskIndex a idx) :=
  ofIte h.pwMod.wf.wb.occ.ev.syncGates h.pwMod.wf.maskDelay.ev.syncGates

theorem commutate (h : Kept o d) {a src idx : Nat} : Kept o (d.commutate a src idx) := ofIte h.maskIndex h

theorem maskAdvance (h : Kept o d) {a : Nat} : Kept o (d.maskAdvance a) := ofIte h.maskIndex h

theorem stagedMarks (h : Kept o d) {a : Nat} : Kept o (d.stagedMarks a) := h.wb.wb

theorem stagePer (h : Kept o d) {a : Nat} {v : Word} : Kept o (d.stagePer a v) := h.pwMod.stagedMarks

theorem stageCmp (h : Kept o d) {a i : Nat} {v : Word} : Kept o (d.stageCmp a i v) := h.pwMod

theorem stageNcmp (h : Kept o d) {a i : Nat} {v : Word} : Kept o (d.stageNcmp a i v) := ofIte h.stageCmp h.pwMod.stagedMarks

theorem fieldCmp (h : Kept o d) {a i : Nat} {v : Word} {late : Bool} : Kept o (d.fieldCmp a i v late) := ofIte h.pwMod h.stageCmp

theorem fieldNcmp (h : Kept o d) {a i : Nat} {v : Word} {late : Bool} : Kept o (d.fieldNcmp a i v late) :=
  ofIte h.pwMod (ofIte h.fieldCmp h.stageNcmp)

theorem applyCmps (h : Kept o d) {a : Nat} {l : Vector (Option Word) 6} : Kept o (d.applyCmps a l) := by
  unfold Dev.applyCmps
  refine foldl (fun _ _ h => ?_) h
  split
  · exact h.rset
  · exact h

theorem takeCmps (h : Kept o d) {a : Nat} : Kept o (d.takeCmps a) := h.applyCmps.pwMod

theorem dropHalves (h : Kept o d) {a : Nat} : Kept o (d.dropHalves a) := h.pwMod.stagedMarks

theorem takeNcmps (h : Kept o d) {a : Nat} : Kept o (d.takeNcmps a) := h.applyCmps.pwMod.dropHalves

theorem each (h : Kept o d) {a : Nat} {f : Dev → Nat → Dev} (hf : ∀ e x, Kept o e → Kept o (f e x)) : Kept o (d.each a f) :=
  foldl hf h

theorem pairLock (h : Kept o d) {a : Nat} : Kept o (d.pairLock a) := by
  unfold Dev.pairLock
  dsimp only
  refine ofIte ?_ ?_
  · split
    · exact (h.each (fun _ _ h => h.takeCmps)).branch id (·.rset.dropHalves)
    · exact (h.each (fun _ _ h => h.takeCmps))
  · refine ofIte ?_ ?_
    · exact h.each (fun _ _ h => h.takeCmps)
    · split
      · exact (h.rset.each (fun _ _ h => h.takeNcmps)).wb
      · exact (h.each (fun _ _ h => h.takeCmps)).branch id (fun h => h.branch (·.wb.wf.pwMod.ev) (fun h => h.branch (·.pwMod.wsat)
          (fun h => (h.each (fun _ _ h => h.dropHalves)).wb.wb.ev.occ)))

theorem clampCmps (h : Kept o d) {a : Nat} : Kept o (d.clampCmps a) := foldl (fun _ _ h => ofIte h.rset.wb h) h

theorem windows (h : Kept o d) {a : Nat} : Kept o (d.windows a) := h.wf.wf.pwMod.evIf.evIf

theorem lvlAgain (h : Kept o d) {code src : Nat} : Kept o (d.lvlAgain code src) := ofIte h.same h.lvlOn

theorem latchAxis (h : Kept o d) {a : Nat} : Kept o (d.latchAxis a) := foldl (fun _ _ h => ofIte h.wb h) h

theorem liftAxis (h : Kept o d) {a : Nat} : Kept o (d.liftAxis a) := by
  unfold Dev.liftAxis
  exact h.wb.pwMod.syncGates

theorem tripsAtBoundary (h : Kept o d) {a : Nat} : Kept o (d.tripsAtBoundary a) :=
  ofIte (h.wsat.cutPulses.branch (fun h => (h.each (fun _ _ h => h.latchAxis)).branch (·.ev.lvlAgain) id) id) (h.wf.branch (fun h =>
      h.each (fun _ _ h => h.liftAxis)) id)

theorem tripClear (h : Kept o d) {a bits : Nat} : Kept o (d.tripClear a bits) :=
  ((foldl (fun _ _ h => ofIte h.wb h) h).branch (·.wb.ev.occ) id).branch (·.lvlOff) id

theorem scBoundary (h : Kept o d) {sw : Nat} : Kept o (d.scBoundary sw) := ofIte (ofIte h.swMod.wb h.swMod) h

theorem scHold (h : Kept o d) {a : Nat} : Kept o (d.scHold a) := (foldl (fun _ _ h => h.scBoundary.scBoundary) h).wb

theorem boundaryAxis (h : Kept o d) {a : Nat} : Kept o (d.boundaryAxis a) :=
  h.pwMod.clampCmps.windows.scHold.pwMod.stagedMarks.wmod.ev

theorem pwmBoundary (h : Kept o d) {a : Nat} : Kept o (d.pwmBoundary a) :=
  h.tripsAtBoundary.pairLock.each (fun _ _ h => h.boundaryAxis)

theorem peakAxis (h : Kept o d) {a : Nat} : Kept o (d.peakAxis a) := (ofIte h h.applyCmps.pwMod).clampCmps.windows.pwMod.ev

theorem peakUpdate (h : Kept o d) {a : Nat} : Kept o (d.peakUpdate a) := ofIte (h.each (fun _ _ h => h.peakAxis)) h

theorem chanBoundary (h : Kept o d) {j : Nat} : Kept o (d.chanBoundary j) := h.rset.rset.rset.same.ev

/-! ### Hall interface -/

theorem hallMod (h : Kept o d) {a : Nat} {f : Pos → Pos} : Kept o (d.hallMod a f) := h.same

theorem posOut (h : Kept o d) {a steps : Nat} : Kept o (d.posOut a steps) := h.hallMod.wb.same

theorem posCount (h : Kept o d) {a : Nat} {k : Int} : Kept o (d.posCount a k) := h.wf

theorem latchEdge (h : Kept o d) {a : Nat} : Kept o (d.latchEdge a) := h.wmod.wf.rset.hallMod.ev

theorem singleStep (h : Kept o d) {a : Nat} {rev : Bool} : Kept o (d.singleStep a rev) := by
  have h1 : Kept o (d.posCount a (if rev then -1 else 1)) := h.posCount
  unfold Dev.singleStep
  dsimp only
  split
  · exact h1.wb.hlt.rset.wb.hallMod.latchEdge.posOut
  · exact h1.wb.wb.hallMod.latchEdge.posOut

theorem noInterval (h : Kept o d) {a : Nat} : Kept o (d.noInterval a) := h.wb

theorem sectorStep (h : Kept o d) {a k : Nat} : Kept o (d.sectorStep a k) := by
  unfold Dev.sectorStep
  split
  · exact h.singleStep
  · exact h.singleStep
  · exact h.posCount.wb.noInterval.latchEdge.posOut
  · exact h.posCount.wb.noInterval.latchEdge.posOut
  · exact h.noInterval
  · exact h

theorem hallEdge (h : Kept o d) {a code : Nat} : Kept o (d.hallEdge a code) :=
  ofIte h ((h.wf.hallMod.branch (·.sectorStep.hallMod.wf) (fun h => h.branch (·.wf) (·.wf))).commutate)

theorem hallTimeout (h : Kept o d) {a : Nat} : Kept o (d.hallTimeout a) := ofIte h.hallMod.noInterval h

theorem lposRead (h : Kept o d) {a : Nat} : Kept o (d.lposRead a) := h.hallMod

theorem ltsRead (h : Kept o d) {a : Nat} : Kept o (d.ltsRead a) := h.hallMod

/-! ### Records and notices -/

theorem hpMod (h : Kept o d) {h' : Nat} {f : HostPort → HostPort} : Kept o (d.hpMod h' f) := h.same

theorem setCmds (h : Kept o d) {l : List Cmd} : Kept o (d.setCmds l) := h.same

theorem cmdMod (h : Kept o d) {i : CmdId} {f : Cmd → Cmd} : Kept o (d.cmdMod i f) := h.setCmds

theorem cpMod (h : Kept o d) {p : Nat} {f : CanPort → CanPort} : Kept o (d.cpMod p f) := h.same

theorem notice (h : Kept o d) {p : Nat} {bs : List Byte} : Kept o (d.notice p bs) := ofIte h (ofIte h.wsat h.cpMod)

theorem complete (h : Kept o d) {c : Cmd} {status : Nat} {result : List Byte} : Kept o (d.complete c status result) :=
  ((h.mwrite.unpoison.wf.hpMod.setCmds.branch (·.wb) id).branch (·.notice) id).ev

theorem effectNow (h : Kept o d) {c : Cmd} : Kept o (d.effectNow c) := h.hlt

theorem finish (h : Kept o d) {c : Cmd} {status : Nat} {result : List Byte} : Kept o (d.finish c status result) :=
  h.effectNow.complete

theorem lapse (h : Kept o d) {c : Cmd} {status : Nat} {result : List Byte} : Kept o (d.lapse c status result) := h.complete

theorem completeRun (h : Kept o d) {p : Cmd → Bool} {status : Nat} {result : List Byte} : Kept o (d.completeRun p status result) :=
  foldl (fun _ _ h => h.complete) h

theorem startCmd (h : Kept o d) {c : Cmd} : Kept o (d.startCmd c) := h.effectNow.cmdMod

/-! ### Temperature sources -/

theorem thermMod (h : Kept o d) {f : Therm → Therm} : Kept o (d.thermMod f) := h.same

theorem setSteps (h : Kept o d) {a n : Nat} : Kept o (d.setSteps a n) := ofIte h h.wf.ev

theorem throttleRestart (h : Kept o d) {a : Nat} : Kept o (d.throttleRestart a) := h.thermMod

theorem throttle (h : Kept o d) {a : Nat} : Kept o (d.throttle a) := h.wb.branch (·.throttleRestart.setSteps) id

theorem throttleTimer (h : Kept o d) {a : Nat} : Kept o (d.throttleTimer a) := ofIte h.throttleRestart.setSteps h

theorem setLevel (h : Kept o d) {s l : Nat} : Kept o (d.setLevel s l) :=
  ofIte h (foldl (fun _ _ h => h.throttle) h.wf.ev.occIf.lvlSet.lvlSet)

theorem tempResult (h : Kept o d) {s : Nat} {t : Option Int} : Kept o (d.tempResult s t) := by
  unfold Dev.tempResult
  dsimp only
  split
  · exact h.wmod.wb.occ
  · exact (h.wmod.wb.wf.branch (·.hlt) id).setLevel

theorem tempSet (h : Kept o d) {s : Nat} {t : Option (Option Int)} : Kept o (d.tempSet s t) := foldl (fun _ _ h => h.same) h

theorem tempHere (h : Kept o d) {s : Nat} {t : Option Int} : Kept o (d.tempHere s t) := h.tempResult.completeRun

theorem tempFrame (h : Kept o d) {lane : Nat} : Kept o (d.tempFrame lane) := by
  unfold Dev.tempFrame
  split
  · exact h.tempSet.tempHere
  · exact h

theorem tempLost (h : Kept o d) {lane : Nat} : Kept o (d.tempLost lane) := ofIte h.tempSet.tempHere h

theorem ntcEval (h : Kept o d) {k c : Nat} : Kept o (d.ntcEval k c) := by
  unfold Dev.ntcEval
  split
  · exact h.tempResult
  · exact h

/-! ### Sensing -/

theorem cvMod (h : Kept o d) {k : Nat} {f : Conv → Conv} : Kept o (d.cvMod k f) := h.same

theorem setAdcMode (h : Kept o d) {k m : Nat} : Kept o (d.setAdcMode k m) := h.wf

theorem bufWrite (h : Kept o d) {i : Nat} {bs : List Byte} : Kept o (d.bufWrite i bs) :=
  ofIte (h.mwrite.unpoison.wf.branch (·.wmod.ev) id) h

theorem windowDma (h : Kept o d) {a : Nat} {r : Vector WinRes 3} : Kept o (d.windowDma a r) :=
  ofIte (foldl (fun _ _ h => h.bufWrite) h) h

theorem winStore (h : Kept o d) {k p : Nat} {r : WinRes} : Kept o (d.winStore k p r) := h.wf.wf.wf.wf.wf

theorem deliver (h : Kept o d) {a : Nat} {valid : Bool} {r : Vector WinRes 3} : Kept o (d.deliver a valid r) :=
  (foldl (fun _ _ h => h.winStore) h).windowDma.cvMod

theorem judgeSet (h : Kept o d) {a : Nat} {r : Vector WinRes 3} : Kept o (d.judgeSet a r) :=
  h.ev.hlt.cvMod.branch (fun h => (h.cvMod.branch (fun h => h.wsat.branch (·.wb.occ) id) (·.wf)).deliver) (fun h => h.branch
      (·.cvMod.deliver) (fun h => (h.wb.cvMod.branch (·.occ) id).deliver))

theorem setPhase (h : Kept o d) {a p : Nat} {r : WinRes} : Kept o (d.setPhase a p r) := by
  unfold Dev.setPhase
  dsimp only
  split
  · exact h.cvMod.judgeSet
  · exact h.cvMod

theorem markPeak (h : Kept o d) {a t : Nat} : Kept o (d.markPeak a t) := h.cvMod

theorem emptyPhases (h : Kept o d) {a : Nat} {ps : List Nat} : Kept o (d.emptyPhases a ps) :=
  foldl (fun _ _ h => h.setPhase) (ofIte h.markPeak h)

theorem cutWindows (h : Kept o d) {k : Nat} : Kept o (d.cutWindows k) := h.cvMod

theorem dropWindows (h : Kept o d) {k : Nat} : Kept o (d.dropWindows k) := h.cutWindows.emptyPhases

theorem staleAll (h : Kept o d) {k : Nat} : Kept o (d.staleAll k) := foldl (fun _ _ h => h.wb) h.cvMod

theorem narrowEmpty (h : Kept o d) {a : Nat} : Kept o (d.narrowEmpty a) := h.emptyPhases

theorem enterSlice (h : Kept o d) {k : Nat} {fault : Bool} : Kept o (d.enterSlice k fault) :=
  h.setAdcMode.cvMod.dropWindows.ev.occIf

theorem seqStop (h : Kept o d) {k : Nat} : Kept o (d.seqStop k) := h.cvMod.wb

theorem seqFinish (h : Kept o d) {k : Nat} : Kept o (d.seqFinish k) := ofIte h.cvMod h.seqStop

theorem enterFailed (h : Kept o d) {k : Nat} : Kept o (d.enterFailed k) := h.setAdcMode.seqStop.cvMod.staleAll.dropWindows.occ

theorem forceSlice (h : Kept o d) {bits : Nat} : Kept o (d.forceSlice bits) := foldl (fun _ _ h => ofIte h.enterSlice h) h

theorem seqEntry (h : Kept o d) {k fuel i : Nat} : Kept o (d.seqEntry k fuel i) := by
  induction fuel generalizing d i with
  | zero => exact h.wf.cvMod
  | succ fuel ih =>
    have h1 := h.wf (a := Reg.ADC_STAT k) (lo := 8) (w := 6) (x := i)
    unfold Dev.seqEntry
    dsimp only
    exact ofIte h1.cvMod.cvMod (ofIte h1.cvMod.cvMod (ofIte (ih h1.cvMod) (ih h1.cvMod.ev)))

theorem seqNext (h : Kept o d) {k i : Nat} : Kept o (d.seqNext k i) := ofIte h.seqEntry h.ev.seqEntry

theorem seqStart (h : Kept o d) {k : Nat} : Kept o (d.seqStart k) := ofIte h.wb.seqEntry h

theorem seqGo (h : Kept o d) {bits : Nat} : Kept o (d.seqGo bits) :=
  foldl (fun _ _ h => ofIte h.seqStart (ofIte h.seqFinish h)) h.wf

theorem seqDelayEnd (h : Kept o d) {k : Nat} : Kept o (d.seqDelayEnd k) := by
  unfold Dev.seqDelayEnd
  dsimp only
  split
  · exact h.cvMod
  · exact h.seqNext
  · exact h

theorem seqWaitExpiry (h : Kept o d) {k : Nat} : Kept o (d.seqWaitExpiry k) := by
  unfold Dev.seqWaitExpiry
  split
  · exact h.wsat.seqNext
  · exact h

theorem toExtractor (h : Kept o d) {k c code : Nat} {sat slice : Bool} : Kept o (d.toExtractor k c code sat slice) :=
  ofIte (h.cvMod.branch (·.wb.occ) id) h

theorem latQueue (h : Kept o d) {k c w : Nat} : Kept o (d.latQueue k c w) := (ofIte h.wsat h).cvMod

theorem bufQueue (h : Kept o d) {k i w : Nat} : Kept o (d.bufQueue k i w) := ofIte h.cvMod (h.wsat.wb.branch id (·.cvMod.occ))

theorem latWrite (h : Kept o d) {k c w : Nat} : Kept o (d.latWrite k c w) := h.wmod.wb.wf

theorem adcCheck (h : Kept o d) {k : Nat} {diff : Option Nat} {residue : Bool} : Kept o (d.adcCheck k diff residue) := by
  unfold Dev.adcCheck
  dsimp only
  refine ofIte ?_ ?_
  · refine ofIte ?_ ?_
    · exact h.enterSlice
    · split
      · exact h
      · exact ofIte (h.wb.cvMod.branch (·.enterSlice) id) h.cvMod
  · refine ofIte ?_ ?_
    · split
      · exact h
      · exact ofIte (h.cvMod.branch (·.enterFailed) id) h.cvMod
    · exact h

theorem sampleOut (h : Kept o d) {k c dest code : Nat} : Kept o (d.sampleOut k c dest code) :=
  (h.toExtractor.branch (·.latQueue) id).branch (·.bufQueue) id

theorem entryResult (h : Kept o d) {k code : Nat} : Kept o (d.entryResult k code) := ofIte h h.sampleOut

theorem seqResult (h : Kept o d) {k code : Nat} : Kept o (d.seqResult k code) := by
  unfold Dev.seqResult
  dsimp only
  split
  · exact h.entryResult.cvMod.branch (·.seqNext) id
  · exact h.entryResult.seqStop
  · exact h

theorem urgResult (h : Kept o d) {k code : Nat} : Kept o (d.urgResult k code) := by
  unfold Dev.urgResult
  dsimp only
  split
  · exact h
  · exact ((h.cvMod.wb.toExtractor.branch (·.bufQueue) id).branch (·.latWrite.ntcEval) id).ev

theorem conversion (h : Kept o d) {k code : Nat} {urgent : Bool} {diff : Option Nat} {residue : Bool} : Kept o (d.conversion k code
    urgent diff residue) :=
  ofIte ((ofIte h.urgResult h.seqResult).adcCheck) h

theorem urgSend (h : Kept o d) {k chan dest : Nat} : Kept o (d.urgSend k chan dest) := h.cvMod

theorem urgArrive (h : Kept o d) {k : Nat} : Kept o (d.urgArrive k) := by
  unfold Dev.urgArrive
  dsimp only
  split
  · exact h
  · exact h.cvMod.branch id (fun h => h.branch (·.wb.occ) (·.cvMod.wb))

theorem latArrive (h : Kept o d) {k c w : Nat} : Kept o (d.latArrive k c w) := h.same.cvMod.latWrite

theorem popSample (h : Kept o d) {k0 : Nat} : Kept o (d.popSample k0) := by
  unfold Dev.popSample
  dsimp only
  split
  · exact h
  · exact h.cvMod.cvMod.bufWrite

theorem popSamples (h : Kept o d) {k n : Nat} : Kept o (d.popSamples k n) := by
  induction n generalizing d with
  | zero => exact h
  | succ n ih => exact ih h.popSample

theorem frameSamples (h : Kept o d) {g : Nat} : Kept o (d.frameSamples g) := h.same.popSamples

theorem windowOpen (h : Kept o d) {k p : Nat} : Kept o (d.windowOpen k p) := h.cvMod.branch (·.cvMod) id

theorem windowClose (h : Kept o d) {k p : Nat} : Kept o (d.windowClose k p) :=
  ofIte h.cvMod (ofIte h.markPeak.cvMod (ofIte h.markPeak.cvMod h))

theorem windowReceived (h : Kept o d) {k p : Nat} : Kept o (d.windowReceived k p) := by
  unfold Dev.windowReceived
  split
  · exact h
  · exact h.cvMod.winStore.setPhase

theorem calStart (h : Kept o d) {k : Nat} : Kept o (d.calStart k) := h.setAdcMode.seqStop.staleAll.cvMod

theorem calEnd (h : Kept o d) {k : Nat} {step1 : Bool} {diff : Nat} {words : List Word} : Kept o (d.calEnd k step1 diff words) :=
  (foldl (fun _ _ h => h.rset) h).rset.rset.cvMod.setAdcMode.evIf.occIf.seqStart

theorem adcLaneLost (h : Kept o d) {g : Nat} : Kept o (d.adcLaneLost g) :=
  foldl (fun _ _ h => h.seqStop.staleAll.cutWindows.emptyPhases) h.same

theorem adcLaneBack (h : Kept o d) {g : Nat} : Kept o (d.adcLaneBack g) := h.seqStart.seqStart

theorem sarSync (h : Kept o d) {a : Nat} : Kept o (d.sarSync a) := ofIte h.same h

theorem sarStore (h : Kept o d) {s i v : Nat} {pair : Bool} : Kept o (d.sarStore s i v pair) :=
  h.wmod.wf.branch (·.same) (fun h => h.same.branch (·.same.lvlSet) id)

/-! ### Control engines -/

theorem ceMod (h : Kept o d) {f : Ce → Ce} : Kept o (d.ceMod f) := h.same

theorem engMod (h : Kept o d) {e : Nat} {f : CeEng → CeEng} : Kept o (d.engMod e f) := h.ceMod

theorem laneMod' (h : Kept o d) {l : Nat} {f : CeLane → CeLane} : Kept o (d.laneMod' l f) := h.ceMod

theorem ceSticky (h : Kept o d) {e n : Nat} : Kept o (d.ceSticky e n) := ofIte h h.wb.ev

theorem ceWriteW (h : Kept o d) {e n : Nat} {r : BlkRes} {wr : List Int} : Kept o (d.ceWriteW e n r wr) :=
  h.engMod.branch (·.ceSticky) id

theorem ceWrite (h : Kept o d) {e n : Nat} {r : BlkRes} : Kept o (d.ceWrite e n r) := h.ceWriteW

theorem runInst (h : Kept o d) {e n : Nat} {i : CeInst} : Kept o (d.runInst e n i) := by
  unfold Dev.runInst
  dsimp only
  split
  · exact (ofIte h.ceSticky h).ceWrite
  · split
    · exact (ofIte h.ceSticky h).branch (·.ceMod) id
    · exact (ofIte h.ceSticky h)
  · split
    · exact (ofIte h.ceSticky h).ceWriteW
    · exact (ofIte h.ceSticky h)
  · exact (ofIte h.ceSticky h).ceWrite
  · split
    · exact ((ofIte h.ceSticky h).branch (·.ceMod) id).ceWrite
    · exact (ofIte h.ceSticky h).ceWrite
  · exact (ofIte h.ceSticky h).ceWrite.branch (·.ev.occ) id
  · exact (ofIte h.ceSticky h).ceWrite

theorem runSection (h : Kept o d) {e : Nat} {sec : Option Nat} : Kept o (d.runSection e sec) :=
  foldl (fun _ _ h => ofIte h.runInst h) h

theorem agree (h : Kept o d) {i : Nat} {x y : Int} : Kept o (d.agree i x y) :=
  ofIte (h.ceMod.branch id (fun h => h.wsat.branch (·.wb.occ) id)) (ofIte h.ceMod h.ceMod.wsat.wb.occ)

theorem sampleAsync (h : Kept o d) {e : Nat} {skew : List (Nat × Int)} : Kept o (d.sampleAsync e skew) :=
  ofIte h.engMod (h.engMod.engMod.branch (fun h => foldl (fun _ _ h => h.agree) h) id)

theorem laneLose (h : Kept o d) {l : Nat} : Kept o (d.laneLose l) := ofIte h ((h.laneMod'.wb.branch id (·.rset)).occIf)

theorem laneSet (h : Kept o d) {l : Nat} {v : Word} : Kept o (d.laneSet l v) := h.rset.laneMod'

theorem laneTarget (h : Kept o d) {l : Nat} : Kept o (d.laneTarget l) := ofIte h (ofIte h.laneLose h.laneSet)

theorem laneStep (h : Kept o d) {l : Nat} : Kept o (d.laneStep l) := by
  unfold Dev.laneStep
  dsimp only
  refine ofIte ?_ ?_
  · exact h
  · split
    · exact h.laneTarget.ceMod.rset.laneMod'.evIf
    · exact h.laneTarget.rset.laneMod'

theorem laneTimeout (h : Kept o d) {l : Nat} : Kept o (d.laneTimeout l) := ofIte h.laneLose h

theorem lanesUnsupervised (h : Kept o d) {x : Nat} : Kept o (d.lanesUnsupervised x) := foldl (fun _ _ h => ofIte h.laneMod' h) h

theorem pgApply (h : Kept o d) {g : Nat} {v : Word} : Kept o (d.pgApply g v) := by
  unfold Dev.pgApply
  dsimp only
  refine ofIte ?_ ?_
  · exact h.rset
  · split
    · exact h.rset.ceMod
    · exact h.rset.ceMod

theorem cmdTake (h : Kept o d) {e c : Nat} {x : Int} : Kept o (d.cmdTake e c x) := h.ceMod.branch (·.wb.wb.wf) id

theorem cmdEdge (h : Kept o d) {c perA highA perB highB : Nat} : Kept o (d.cmdEdge c perA highA perB highB) := by
  unfold Dev.cmdEdge
  dsimp only
  split
  · refine cmdTake ?_
    split
    · exact h.cmdTake
    · exact h
  · split
    · exact h.cmdTake
    · exact h

theorem cmdAnalog (h : Kept o d) {c v : Nat} : Kept o (d.cmdAnalog c v) := ofIte h.ceMod h

theorem cmdStep (h : Kept o d) {e : Nat} : Kept o (d.cmdStep e) := by
  unfold Dev.cmdStep
  refine foldl (fun _ _ h => ?_) h
  split
  · exact h.cmdTake
  · exact h

theorem decoderLoss (h : Kept o d) {e c : Nat} : Kept o (d.decoderLoss e c) := ofIte h ((h.ceMod.branch (·.wb) id).ev)

theorem injEnd (h : Kept o d) {g cause : Nat} : Kept o (d.injEnd g cause) := ofIte h.wb.wf.ev.ceMod.occIf h

theorem injRun (h : Kept o d) {g : Nat} {run : Bool} : Kept o (d.injRun g run) :=
  ofIte (ofIte h (ofIte h.rset.wb.ceMod h.wb.injEnd)) h.injEnd

theorem injAxisLeft (h : Kept o d) {x : Nat} : Kept o (d.injAxisLeft x) := foldl (fun _ _ h => ofIte h.injEnd h) h

theorem injStep (h : Kept o d) {g : Nat} : Kept o (d.injStep g) := ofIte h (ofIte h.injEnd h.ceMod.wsat)

theorem takeWords (h : Kept o d) : Kept o d.takeWords := (foldl (fun _ _ h => h.rset) h).ceMod

theorem stepFresh (h : Kept o d) {e : Nat} {es : List Nat} : Kept o (d.stepFresh e es) :=
  foldl (fun _ _ h => ofIte h.ceMod h) (foldl (fun _ _ h => h.engMod) h)

theorem ceStepStart (h : Kept o d) {e : Nat} {skew : List (Nat × Int)} : Kept o (d.ceStepStart e skew) :=
  ofIte h (foldl (fun _ _ h => h.runSection) (foldl (fun _ _ h => ofIte h.injStep h) (foldl (fun _ _ h => ofIte h.laneStep h) (foldl
      (fun _ _ h => h.engMod) (foldl (fun _ _ h => h.cmdStep) ((foldl (fun _ _ h => h.ev) h).branch (·.wmod)
      id).takeWords.stepFresh).sampleAsync))))

theorem ceMismatch (h : Kept o d) {bit lo code : Nat} : Kept o (d.ceMismatch bit lo code) := h.wsat.wb.branch (·.ceMod) (·.ev.occ)

theorem ceCurrent (h : Kept o d) {a : Nat} {upset : Bool} : Kept o (d.ceCurrent a upset).1 :=
  fstIte ((ofIte ((ofIte ((ofIte h.runSection h).runSection) (ofIte h.runSection h)).ceMismatch) (ofIte ((ofIte h.runSection
      h).runSection) (ofIte h.runSection h))).pair) (((ofIte ((ofIte ((ofIte h.runSection h).runSection) (ofIte h.runSection
      h)).ceMismatch) (ofIte ((ofIte h.runSection h).runSection) (ofIte h.runSection h))).ceMod).pair)

theorem overrun (h : Kept o d) {e : Nat} : Kept o (d.overrun e) := h.engMod.wb.occ

theorem setCap (h : Kept o d) {st : Nat} : Kept o (d.setCap st) := h.wf

theorem capAct (h : Kept o d) : Kept o d.capAct := by
  unfold Dev.capAct
  split
  · exact ofIte h.ceMod.setCap.ev h
  · exact h

theorem capTrigger (h : Kept o d) {ns : List Nat} : Kept o (d.capTrigger ns) := by
  unfold Dev.capTrigger
  split
  · exact ofIte h.ceMod.capAct h
  · exact h

theorem capStep (h : Kept o d) {e : Nat} : Kept o (d.capStep e) := by
  unfold Dev.capStep
  dsimp only
  split
  · exact h
  · exact ofIte h (ofIte h (ofIte h.ceMod (h.mwrite.unpoison.wf.rset.branch (·.ceMod.setCap.ev) (·.ceMod.capAct))))

theorem capArm (h : Kept o d) {c : Option CeCap} : Kept o (d.capArm c) := by
  unfold Dev.capArm
  dsimp only
  split
  · exact ofIte h.ceMod.setCap.wb h
  · exact h.rset.rset.ceMod.capAct

theorem joinCopy (h : Kept o d) : Kept o d.joinCopy := by
  unfold Dev.joinCopy
  dsimp only
  split
  · exact h.engMod
  · exact h.engMod.engMod

theorem setCeMode (h : Kept o d) {m j : Nat} : Kept o (d.setCeMode m j) := (ofIte h h.ceMod).wf.wf.wb.wb

theorem joinEnd (h : Kept o d) : Kept o d.joinEnd :=
  ofIte h.setCeMode.ceMod.wb.ev.occ (ofIte h.setCeMode.joinCopy (ofIte h.setCeMode.ev h.setCeMode))

theorem auxDeliver (h : Kept o d) {x : Nat} : Kept o (d.auxDeliver x) := by
  unfold Dev.auxDeliver
  exact h.ceMod

theorem ceUse (h : Kept o d) {k use : Nat} : Kept o (d.ceUse k use) := h.hlt.wf

theorem ceStepEnd (h : Kept o d) {e : Nat} {upset : Bool} {useA useB : Nat} : Kept o (d.ceStepEnd e upset useA useB) :=
  ofIte h ((foldl (fun _ _ h => ofIte h.auxDeliver h) (foldl (fun _ _ h => h.ceUse) (ofIte h.ceMismatch h))).capStep.branch
      (·.joinEnd) id)

theorem ceModeChange (h : Kept o d) {split : Bool} : Kept o (d.ceModeChange split).1 :=
  fstIte h.pair (fstIte ((((foldl (fun _ _ h => h.injEnd) h).setCeMode).ev).pair) ((((foldl (fun _ _ h => h.injEnd)
      h).setCeMode).ceMod).pair))

theorem senseFault (h : Kept o d) : Kept o d.senseFault := by
  unfold Dev.senseFault
  split
  · exact h.occ.tick1
  · exact h.tick1

theorem blockStart (h : Kept o d) {host : Nat} {v : Word} {pair : Option (Nat × Nat)} : Kept o (d.blockStart host v pair) :=
  h.rset.ceMod

theorem blockEnd (h : Kept o d) {x : CeTake} : Kept o (d.blockEnd x) := by
  unfold Dev.blockEnd
  dsimp only
  split
  · exact (h.ceMod.branch (·.senseFault) id).ceMod.rset
  · exact (h.ceMod.branch (·.senseFault) id).rset.wb

/-! ### DC link -/

theorem dclMod (h : Kept o d) {f : Dcl → Dcl} : Kept o (d.dclMod f) := h.same

theorem chopMod (h : Kept o d) {i : Nat} {f : Chop → Chop} : Kept o (d.chopMod i f) := h.dclMod

theorem selDecideAt (h : Kept o d) {a : Nat} {w : Int} : Kept o (d.selDecideAt a w) := h.wf.evIf

theorem selDecide (h : Kept o d) {a : Nat} : Kept o (d.selDecide a) := h.selDecideAt

theorem tmRest (h : Kept o d) {a : Nat} : Kept o (d.tmRest a) := h.wf.lvlOff.same

theorem axMove (h : Kept o d) {a : Nat} {st : AState} : Kept o (d.axMove a st) :=
  ((h.setAx.branch (·.tmRest) id).branch (·.injAxisLeft.lanesUnsupervised) id).branch id (·.same)

theorem axGo (h : Kept o d) {a : Nat} {st : AState} : Kept o (d.axGo a st) := h.axMove.selDecide

theorem toSafe (h : Kept o d) {a : Nat} : Kept o (d.toSafe a) := ofIte h.selDecide.axGo h

theorem toSafeAt (h : Kept o d) {a : Nat} {w : Int} : Kept o (d.toSafeAt a w) := ofIte h.selDecideAt.axMove h

theorem blame (h : Kept o d) {code a : Nat} : Kept o (d.blame code a) := ofIte h.same h

theorem heed (h : Kept o d) {a : Nat} : Kept o (d.heed a) := ofIte h.toSafe.blame h

theorem setAcq (h : Kept o d) {a : Nat} {p : AcqPath} : Kept o (d.setAcq a p) :=
  h.wf.branch id (fun h => foldl (fun _ _ h => h.pwMod.syncGates) h)

theorem acqEnd (h : Kept o d) {a : Nat} : Kept o (d.acqEnd a) := (ofIte h h.setAcq).same

theorem acqToAsc (h : Kept o d) {a : Nat} : Kept o (d.acqToAsc a) := ofIte h.setAcq.same h

theorem followChoice (h : Kept o d) {a : Nat} : Kept o (d.followChoice a) := ofIte h.axGo.acqToAsc h

theorem select (h : Kept o d) {a : Nat} : Kept o (d.select a) := h.selDecide.followChoice

theorem selectAll (h : Kept o d) : Kept o d.selectAll := foldl (fun _ _ h => h.select) h

theorem chopWrite (h : Kept o d) {i : Nat} : Kept o (d.chopWrite i) := h.same.chopMod.wb.wb.wf

theorem escalate (h : Kept o d) : Kept o d.escalate := ofIte h h.wb.ev.lvlSet

theorem clampFactor (h : Kept o d) : Kept o d.clampFactor := h.dclMod.wf

theorem dclOutputs (h : Kept o d) : Kept o d.dclOutputs := h.escalate.clampFactor.chopWrite.chopWrite

theorem demand (h : Kept o d) : Kept o d.demand := h.wb.branch (fun h => foldl (fun _ _ h => h.heed) h) (·.lvlOff)

theorem ladder (h : Kept o d) : Kept o d.ladder :=
  ((h.dclMod.wb.evIf.dclMod.wb.evIf.branch (·.lvlSet) id).dclMod.wb.evIf.branch (·.lvlOn) id).demand

theorem linkVolts (h : Kept o d) : Kept o d.linkVolts :=
  (h.wb.wb.wb.branch (·.wb) id).dclMod.lvlSet.lvlSet.lvlSet.lvlSet.dclMod.wf.wf

theorem dischBelow (h : Kept o d) : Kept o d.dischBelow := ofIte h.wb.ev h

theorem dclEval (h : Kept o d) : Kept o d.dclEval := (h.linkVolts.branch id (·.ladder)).dclOutputs.dischBelow.selectAll.hlt

theorem dclUpdate (h : Kept o d) {c : Nat} : Kept o (d.dclUpdate c) := ofIte h.dclMod.wf.wb.dclEval h.dclMod.wf.wb.dclEval

theorem vdcTimeout (h : Kept o d) {c : Nat} : Kept o (d.vdcTimeout c) := h.wb.dclEval

theorem ov3Seen (h : Kept o d) : Kept o d.ov3Seen := ofIte h (ofIte h.wb.wb.ev.lvlOn.demand.selectAll h.wb.lvlOff.demand.selectAll)

theorem ov3Trip (h : Kept o d) : Kept o d.ov3Trip := (foldl (fun _ _ h => ofIte h.swMod h) h.dclMod).branch (·.ov3Seen) id

theorem ov3Release (h : Kept o d) : Kept o d.ov3Release :=
  (foldl (fun _ _ h => h.swMod (by intro x; split_ifs <;> simp)) h.dclMod).branch (·.ov3Seen) id

theorem ov3Plausible (h : Kept o d) : Kept o d.ov3Plausible := h.occIf

theorem chopMark (h : Kept o d) {i cause : Nat} : Kept o (d.chopMark i cause) :=
  ((h.wb.wf.ev.branch (·.lvlOn) id).branch (·.chopMod) (·.chopMod.rset.ilkOff)).dclOutputs

theorem bcsJudge (h : Kept o d) {i code : Nat} {on : Bool} : Kept o (d.bcsJudge i code on) := by
  unfold Dev.bcsJudge
  dsimp only
  split
  · exact h.wf.chopMod.branch id (·.chopMark)
  · exact h.wf.chopMod

theorem bcsResult (h : Kept o d) {i : Nat} : Kept o (d.bcsResult i) := by
  unfold Dev.bcsResult
  split
  · exact h
  · exact h.bcsJudge

theorem noFallEnd (h : Kept o d) {i : Nat} : Kept o (d.noFallEnd i) := by
  unfold Dev.noFallEnd
  dsimp only
  split
  · exact h
  · exact h.chopMod.branch (·.chopMark) id

theorem chopClear (h : Kept o d) {i : Nat} : Kept o (d.chopClear i) := (foldl (fun _ _ h => h.lvlOff) h.wb.wf.chopMod).dclOutputs

theorem fallbackCross (h : Kept o d) {i : Nat} {above : Bool} : Kept o (d.fallbackCross i above) :=
  h.chopMod.branch (fun h => h.branch (·.swMod) (fun h => h.branch id (·.swMod))) id

theorem setAd (h : Kept o d) {i : Nat} {on : Bool} : Kept o (d.setAd i on) := h.wb.same.branch id (·.ilkOff)

theorem setAds (h : Kept o d) {l : List Nat} : Kept o (d.setAds l) := foldl (fun _ _ h => ofIte h.setAd h) h

theorem probeStart (h : Kept o d) {i : Nat} : Kept o (d.probeStart i) := h.setAds.dclMod

theorem runAll (h : Kept o d) : Kept o d.runAll := by
  unfold Dev.runAll
  split
  · exact h.probeStart
  · exact h.setAds.dclMod

theorem nextProbe (h : Kept o d) {i : Nat} : Kept o (d.nextProbe i) :=
  ofIte h.setAds.dclMod.occ (ofIte h.setAds.dclMod (ofIte h.probeStart (ofIte h.probeStart (ofIte h.probeStart h.runAll))))

theorem dischargeStart (h : Kept o d) : Kept o d.dischargeStart :=
  ofIte h ((foldl (fun _ _ h => ofIte h.wb.occ h) h.rset.dclMod).nextProbe.dischBelow)

theorem dischargeEnd (h : Kept o d) : Kept o d.dischargeEnd := ofIte h.setAds.wb.wf.dclMod h

theorem adFail (h : Kept o d) {i : Nat} : Kept o (d.adFail i) := by
  unfold Dev.adFail
  dsimp only
  refine ofIte ?_ ?_
  · split
    · exact h.wb.occ.branch (·.nextProbe) id
    · exact h.wb.occ.nextProbe
  · exact h

theorem probeEnd (h : Kept o d) : Kept o d.probeEnd := by
  unfold Dev.probeEnd
  dsimp only
  split
  · exact ofIte h.adFail h.nextProbe
  · exact h

theorem targetTimeout (h : Kept o d) : Kept o d.targetTimeout := h.occIf

/-! ### Aux axes -/

theorem auxMod (h : Kept o d) {x : Nat} {f : Aux → Aux} : Kept o (d.auxMod x f) := h.same

theorem bridgeGive (h : Kept o d) {x b : Nat} {s1 s2 : LegSide} {next : Option Nat} : Kept o (d.bridgeGive x b s1 s2 next) :=
  h.auxMod

theorem bridgeDiag (h : Kept o d) {x b : Nat} {pos : Bool} {next : Option Nat} : Kept o (d.bridgeDiag x b pos next) :=
  ofIte h.bridgeGive h.bridgeGive

theorem bridgeSlow (h : Kept o d) {x b : Nat} : Kept o (d.bridgeSlow x b) := h.bridgeGive

theorem bridgesOff (h : Kept o d) {x : Nat} : Kept o (d.bridgesOff x) := h.bridgeGive.bridgeGive.auxMod

theorem setAux (h : Kept o d) {x st : Nat} : Kept o (d.setAux x st) :=
  ofIte h (h.wf.ev.branch (·.wb.setPhaseH.auxMod.bridgesOff.injAxisLeft.lanesUnsupervised) id)

theorem microstep (h : Kept o d) {x : Nat} {p q v : Int} : Kept o (d.microstep x p q v) := by
  unfold Dev.microstep
  dsimp only
  split
  · exact (ofIte h.wf h).wf
  · exact (ofIte h.wf h)

theorem homeFail (h : Kept o d) {x code : Nat} : Kept o (d.homeFail x code) := h.wf.wb.setPhaseH.occ.ev

theorem dutyEnd (h : Kept o d) {x : Nat} : Kept o (d.dutyEnd x) := h.cpSet.auxMod

theorem rampStop (h : Kept o d) {x : Nat} : Kept o (d.rampStop x) := (ofIte h.dutyEnd h.auxMod).setAux

theorem homeSearch (h : Kept o d) {x : Nat} : Kept o (d.homeSearch x) := h.setPhaseH.auxMod

theorem homeLimits (h : Kept o d) {x : Nat} : Kept o (d.homeLimits x) := ofIte h.homeFail.rampStop (ofIte h.homeFail.rampStop h)

theorem homeStart (h : Kept o d) {x : Nat} : Kept o (d.homeStart x).1 :=
  fstIte (((ofIte h.setAux.auxMod.wf.setPhaseH.auxMod h.setAux.auxMod.wf.homeSearch).homeLimits).pair) h.pair

theorem motionEnd (h : Kept o d) {x : Nat} : Kept o (d.motionEnd x) := by
  unfold Dev.motionEnd
  dsimp only
  refine ofIte ?_ ?_
  · split
    · exact h.homeSearch
    · exact h.setPhaseH.auxMod
    · exact ofIte h.homeFail.setAux h.auxMod.setPhaseH.wb.setAux.ev
    · exact h
  · exact h.ev.branch (·.setAux) (·.setAux)

theorem auxTrip (h : Kept o d) {x : Nat} : Kept o (d.auxTrip x) := (ofIte h.homeFail h).setAux

theorem auxTarget (h : Kept o d) {x : Nat} {t : Word} {ce : Bool} : Kept o (d.auxTarget x t ce).1 := by
  unfold Dev.auxTarget
  dsimp only
  split
  · exact h.auxMod.rset.setAux.pair
  · exact (ofIte h.evIf.wb.occ h.evIf).pair

theorem ceTarget (h : Kept o d) {x : Nat} : Kept o (d.ceTarget x) := ofIte h (ofIte h h.auxMod.auxTarget)

theorem profileStep (h : Kept o d) {x : Nat} : Kept o (d.profileStep x) :=
  (h.auxMod.microstep.branch (·.motionEnd) id).branch (·.homeFail.rampStop) id

theorem dutyStep (h : Kept o d) {x : Nat} : Kept o (d.dutyStep x) :=
  h.auxMod.branch (fun h => h.branch (fun h => (h.branch (·.setAux) (·.setAux)).ev) id) (·.setAux)

theorem openCoil (h : Kept o d) {x : Nat} : Kept o (d.openCoil x) := h.auxMod.branch (·.wb.occ.auxTrip) id

theorem auxDecay (h : Kept o d) {x b : Nat} : Kept o (d.auxDecay x b) := h.auxMod.branch (·.bridgeSlow) (·.bridgeDiag.tick1)

theorem bridgeStart (h : Kept o d) {x b : Nat} : Kept o (d.bridgeStart x b) :=
  ofIte h.bridgeGive (ofIte h.auxDecay h.bridgeDiag.auxMod)

theorem auxDrive (h : Kept o d) {x : Nat} : Kept o (d.auxDrive x) := h.auxMod.auxMod.rset.rset.bridgeStart.bridgeStart

theorem auxShow (h : Kept o d) {x : Nat} : Kept o (d.auxShow x) := h.rset.rset

theorem auxFaults (h : Kept o d) {x : Nat} : Kept o (d.auxFaults x) := (ofIte h.setAux h).openCoil

theorem auxBoundary (h : Kept o d) {x : Nat} : Kept o (d.auxBoundary x) :=
  (h.ceTarget.branch (fun h => h.branch id (·.dutyStep)) (fun h => h.branch (·.profileStep) (·.auxMod))).auxDrive.auxShow

theorem driveEnd (h : Kept o d) {x b peak : Nat} : Kept o (d.driveEnd x b peak) := (h.wf.branch (·.auxMod) id).auxDecay

theorem currentTrip (h : Kept o d) {x b peak : Nat} : Kept o (d.currentTrip x b peak) := ofIte h.driveEnd h

theorem auxOvercurrent (h : Kept o d) {x b : Nat} : Kept o (d.auxOvercurrent x b) := ofIte h.wb.occ.auxTrip h

theorem auxHon (h : Kept o d) {x : Nat} : Kept o (d.auxHon x) := h.auxMod.wb.occ

theorem auxBstLow (h : Kept o d) {x leg : Nat} {severe : Bool} : Kept o (d.auxBstLow x leg severe) :=
  ofIte h.wb.lvlOn.auxTrip h.auxMod

theorem auxBstRelease (h : Kept o d) {x leg : Nat} {severe : Bool} : Kept o (d.auxBstRelease x leg severe) :=
  ofIte h.lvlOff h.auxMod

theorem vauxLow (h : Kept o d) {v : Nat} : Kept o (d.vauxLow v) := foldl (fun _ _ h => ofIte h h.auxTrip) h.rset.lvlOn

theorem vauxBack (h : Kept o d) {v : Nat} : Kept o (d.vauxBack v) := h.rset.lvlOff

theorem swRaw (h : Kept o d) {x s : Nat} {level : Bool} : Kept o (d.swRaw x s level) := ofIte h h.same.auxMod

theorem hardLimit (h : Kept o d) {x : Nat} : Kept o (d.hardLimit x) := h.wb.occ.ev.branch (·.dutyEnd.auxMod) (·.rampStop)

theorem homeSwitch (h : Kept o d) {x s : Nat} {active : Bool} : Kept o (d.homeSwitch x s active) :=
  ofIte h.homeLimits (ofIte (ofIte h.auxMod (ofIte h.setPhaseH.rset.auxMod h)) h)

theorem swTake (h : Kept o d) {x s : Nat} {active : Bool} : Kept o (d.swTake x s active) :=
  h.wb.branch (·.homeSwitch) (fun h => h.branch (fun h => h.branch (·.hardLimit) id) id)

theorem swConfirmed (h : Kept o d) {x s : Nat} : Kept o (d.swConfirmed x s) := ofIte h h.swTake

theorem holdDelay (h : Kept o d) {x : Nat} : Kept o (d.holdDelay x) := ofIte h.auxMod h

theorem auxStop (h : Kept o d) {x : Nat} : Kept o (d.auxStop x) := ofIte h.homeFail.rampStop (ofIte h.rampStop h)

theorem auxSafe (h : Kept o d) {x : Nat} : Kept o (d.auxSafe x) := by
  unfold Dev.auxSafe
  dsimp only
  split
  · exact ofIte h.setAux h
  · exact h.rampStop.auxMod
  · exact h.auxMod
  · exact h.homeFail.rampStop.auxMod
  · exact h

theorem auxArmed (h : Kept o d) {x : Nat} : Kept o (d.auxArmed x) := by
  unfold Dev.auxArmed
  split
  · exact h.setAux
  · exact h.rampStop.auxMod
  · exact h.auxMod
  · exact h.homeFail.rampStop.auxMod
  · exact h

theorem auxLockout (h : Kept o d) {x : Nat} : Kept o (d.auxLockout x) := h.setAux

theorem chanGate (h : Kept o d) {j : Nat} : Kept o (d.chanGate j) := ofIte h (ofIte h.chopMod.ilkOn h.ilkOff)

theorem chanEdge (h : Kept o d) {j b : Nat} : Kept o (d.chanEdge j b) := ofIte (ofIte h.ilkOff h) (ofIte h.driveEnd.tick1 h)

/-! ### Links -/

theorem lnkMod (h : Kept o d) {lane : Nat} {f : Link → Link} : Kept o (d.lnkMod lane f) := h.same

theorem badCount (h : Kept o d) {lane : Nat} : Kept o (d.badCount lane) := h.same.branch (·.wsat) (·.wsat)

theorem linkFlags (h : Kept o d) {lane : Nat} {ok lost : Bool} : Kept o (d.linkFlags lane ok lost) := ofIte h.wb.wb h.wb.wb

theorem giLost (h : Kept o d) {g : Nat} : Kept o (d.giLost g) :=
  (foldl (fun _ _ h => foldl (fun _ _ h => h.ilkOff) ((ofIte h.axGo h).blame)) h).adcLaneLost.adFail.wb.branch (·.dclEval) id

theorem sendChoices (h : Kept o d) {lane : Nat} {received : Bool} : Kept o (d.sendChoices lane received) :=
  (foldl (fun _ _ h => h.wb) h.lnkMod).branch (·.chopMod) id

theorem cdDeclare (h : Kept o d) {lane : Nat} : Kept o (d.cdDeclare lane) :=
  ofIte h ((ofIte h h.sendChoices).lnkMod.laneMod.linkFlags.tempLost.lvlOn.ev.branch id (·.giLost))

theorem islDeclare (h : Kept o d) {lane : Nat} : Kept o (d.islDeclare lane) :=
  ofIte h (h.lnkMod.branch (·.swMod) (fun h => (foldl (fun _ _ h => ofIte h h.swMod) h).chopMod.branch (·.swMod) (fun h => h.branch
      id (·.swMod))))

theorem telemetry (h : Kept o d) {lane : Nat} {t : Telemetry} : Kept o (d.telemetry lane t) := by
  unfold Dev.telemetry
  dsimp only
  refine ofIte ?_ ?_
  · split
    · exact h.lnkMod.wf.wf.hlt
    · exact h.lnkMod.wf.wf
    · exact h.lnkMod.wf.wf
    · exact h.lnkMod.wf.branch id (·.wf)
  · split
    · exact (foldl (fun _ _ h => h.wf) h.lnkMod).wf.hlt
    · exact (foldl (fun _ _ h => h.wf) h.lnkMod).wf
    · exact (foldl (fun _ _ h => h.wf) h.lnkMod)

theorem frameAtCd (h : Kept o d) {lane : Nat} {bad lossFlag : Bool} {t : Telemetry} : Kept o (d.frameAtCd lane bad lossFlag t) :=
  ofIte h (ofIte (h.badCount.lnkMod.branch (·.cdDeclare) id) (h.lnkMod.branch (·.cdDeclare) (fun h => h.telemetry.tempFrame.branch
      (·.frameSamples) id)))

theorem frameAtIsl (h : Kept o d) {lane : Nat} {bad lossFlag : Bool} : Kept o (d.frameAtIsl lane bad lossFlag) :=
  ofIte h ((ofIte h.sendChoices h).branch (fun h => h.badCount.lnkMod.branch (·.islDeclare) id) (fun h => h.lnkMod.branch
      (·.islDeclare) id))

theorem frameReceived (h : Kept o d) {lane : Nat} {atCd : Bool} {words : List Nat} {checksOk seqOk lossFlag : Bool} {tel :
    Telemetry} : Kept o (d.frameReceived lane atCd words checksOk seqOk lossFlag tel) :=
  ofIte h.frameAtCd h.frameAtIsl

theorem giApply (h : Kept o d) {g : Nat} : Kept o (d.giApply g) :=
  ofIte (foldl (fun _ _ h => h.wb.branch (fun h => foldl (fun _ _ h => h.swMod) h) id) h) h

theorem assumeOff (h : Kept o d) {n : Nat} : Kept o (d.assumeOff n) := ofIte h.swMod h

theorem retrainStart (h : Kept o d) {lane : Nat} : Kept o (d.retrainStart lane) := ofIte h.lnkMod h

theorem reissue (h : Kept o d) {lane : Nat} : Kept o (d.reissue lane) := foldl (fun _ _ h => ofIte h.ilkHold.ilkRelease h) h

theorem giTrained (h : Kept o d) : Kept o d.giTrained :=
  ofIte (foldl (fun _ _ h => h.lnkMod) h.calStart.calStart.calStart.calStart) h

theorem laneBack (h : Kept o d) {lane : Nat} : Kept o (d.laneBack lane) :=
  h.lnkMod.linkFlags.lvlOff.lvlOff.branch (fun h => (h.branch (·.wsat) id).reissue) (fun h => (foldl (fun _ _ h => h.select) ((foldl
      (fun _ _ h => h.wb) h).wb.chopMod.ilkOff.sendChoices.branch (·.giTrained) (·.adcLaneBack))).reissue)

theorem untrained (h : Kept o d) {lane : Nat} : Kept o (d.untrained lane) := ofIte h h.lnkMod.linkFlags.lvlOn

theorem linkRetrain (h : Kept o d) {lane : Nat} : Kept o (d.linkRetrain lane) := ofIte h.lnkMod h

theorem retrainEnd (h : Kept o d) {lane : Nat} {ok : Bool} : Kept o (d.retrainEnd lane ok) :=
  ofIte (ofIte h.laneBack (h.lnkMod.branch id (·.untrained))) h

theorem refreshDue (h : Kept o d) {n : Nat} : Kept o (d.refreshDue n) := ofIte h.pwMod h

theorem supFlag (h : Kept o d) {isl mon : Nat} : Kept o (d.supFlag isl mon) :=
  ofIte h (h.wb.lvlSet.evIf.evIf.branch (·.refreshDue) id)

theorem supSeen (h : Kept o d) {isl : Nat} : Kept o (d.supSeen isl) :=
  (foldl (fun _ _ h => h.supFlag) h).branch id (fun h => foldl (fun _ _ h => foldl (fun _ _ h => h.wb) h) h)

theorem statusOf (h : Kept o d) {sw : Nat} : Kept o (d.statusOf sw) := h.wb.wb.wb.wb.swMod

theorem scFollow (h : Kept o d) {a : Nat} : Kept o (d.scFollow a) := ofIte h h.tripInput

theorem statusWord (h : Kept o d) {lane : Nat} {checksOk lossFlag : Bool} : Kept o (d.statusWord lane checksOk lossFlag) :=
  ofIte h (ofIte h.cdDeclare (((foldl (fun _ _ h => h.statusOf) h).supSeen).branch (·.scFollow) (fun h => (foldl (fun _ _ h =>
      h.scFollow) h).ov3Seen)))

theorem gateTimeout (h : Kept o d) {sw : Nat} : Kept o (d.gateTimeout sw) := h.gateMonitor.branch (·.chopMark) id

theorem supReact (h : Kept o d) {isl mon : Nat} {beyond : Bool} : Kept o (d.supReact isl mon beyond) := by
  unfold Dev.supReact
  dsimp only
  split
  · exact foldl (fun _ _ h => h.swMod (by intro x; split_ifs <;> simp)) h
  · exact ofIte h (foldl (fun _ _ h => h.swMod) h)
  · exact ofIte (foldl (fun _ _ h => h.swMod) h) h
  · exact h

theorem supplyCross (h : Kept o d) {isl mon : Nat} {beyond : Bool} : Kept o (d.supplyCross isl mon beyond) :=
  ofIte h (h.supReact.same.branch (·.supSeen) id)

theorem diagMod (h : Kept o d) {a : Nat} {f : Diag → Diag} : Kept o (d.diagMod a f) := h.same

theorem diagStart (h : Kept o d) {a : Nat} : Kept o (d.diagStart a) := h.rset.diagMod.axGo

theorem diagPhase (h : Kept o d) {a : Nat} {vk : Int} {ir var : Nat} : Kept o (d.diagPhase a vk ir var) :=
  h.wf.occIf.branch (·.diagMod) (·.wb.wb.diagMod.ev.axGo)

theorem diagAbandon (h : Kept o d) {a : Nat} : Kept o (d.diagAbandon a) := ofIte h.diagMod.ev h

/-! ### Preserve array -/

/-- The preserve array changed but for its words and their wear. -/
theorem prsMod (h : Kept o d) {f : Prs → Prs} (hf : ∀ p, (f p).words = p.words ∧ (f p).wear = p.wear := by exact fun _ => ⟨.refl _, .refl _⟩) :
    Kept o (d.prsMod f) :=
  ⟨h.regs, h.sram, (hf d.prs).1 ▸ h.words, (hf d.prs).2 ▸ h.wear, h.both, h.fuses⟩

theorem setWord (h : Kept o d) {w : Nat} {v : Word} : Kept o (d.setWord w v) :=
  ⟨h.regs, h.sram, fun ho => sparse_canon (dflt := fun _ => (0 : Word)) (h.words ho) w v, h.wear, h.both, h.fuses⟩

theorem setWear (h : Kept o d) {w n : Nat} : Kept o (d.setWear w n) := by
  have h1 : Kept o (d.prsMod (fun p =>
      { p with wear := if min n wearLimit = 0 then adel p.wear w else aput p.wear w (min n wearLimit) })) :=
    ⟨h.regs, h.sram, h.words, fun ho => sparse_canon (dflt := fun _ => (0 : Nat)) (h.wear ho) w _, h.both, h.fuses⟩
  exact h1.occIf

theorem program (h : Kept o d) {w : Nat} {v : Word} : Kept o (d.program w v) := h.setWear.setWord

theorem ownWord (h : Kept o d) {w : Nat} {v : Word} : Kept o (d.ownWord w v) := ofIte h h.program

/-! ### Observer -/

theorem fuMod (h : Kept o d) {a : Nat} {f : Fld → Fld} : Kept o (d.fuMod a f) := h.same

theorem observe (h : Kept o d) {a dt : Nat} {cs : CurSet} {v : Int × Int} : Kept o (d.observe a dt cs v) := ofIte h.fuMod h.fuMod

theorem seedObs (h : Kept o d) {a : Nat} {ang : Word} {w : Int} : Kept o (d.seedObs a ang w) := h.fuMod

theorem seed (h : Kept o d) {a s : Nat} {ang : Word} {w : Int} : Kept o (d.seed a s ang w) := by
  unfold Dev.seed
  split
  · exact h.seedObs
  · exact h.fuMod
  · exact h

theorem hfiStart (h : Kept o d) {a : Nat} : Kept o (d.hfiStart a) := h.fuMod

theorem hfiTrack (h : Kept o d) {a dt : Nat} {cs : CurSet} : Kept o (d.hfiTrack a dt cs).1 :=
  fstIte h.fuMod.pair (fstIte h.fuMod.fuMod.pair (fstIte h.fuMod.fuMod.pair h.fuMod.fuMod.pair))

theorem recordPhi (h : Kept o d) {a t : Nat} {i : Int × Int} {wait keep : Nat} : Kept o (d.recordPhi a t i wait keep) := h.fuMod

/-! ### Field units -/

theorem takeSrc (h : Kept o d) {a s : Nat} : Kept o (d.takeSrc a s) := ofIte h (h.wf.ev.fuMod.branch (·.hfiStart) id)

theorem setSrc (h : Kept o d) {a s : Nat} : Kept o (d.setSrc a s) := h.takeSrc.branch (·.wb.lvlOff) id

theorem attempt (h : Kept o d) {a : Nat} : Kept o (d.attempt a) := h.setAcq.fuMod

theorem observerLost (h : Kept o d) {a cause : Nat} {held : Int} : Kept o (d.observerLost a cause held) :=
  h.wf.wb.ev.lvlOn.fuMod.branch (·.takeSrc) (fun h => (foldl (fun _ _ h => h.toSafeAt.blame) h.rset.fuMod.wf).branch (·.attempt)
      (·.occ))

theorem attemptFail (h : Kept o d) {a : Nat} : Kept o (d.attemptFail a) := h.setAcq.wsat.ev.fuMod.branch (·.occ) (·.fuMod)

theorem acqTimeout (h : Kept o d) {a : Nat} : Kept o (d.acqTimeout a) := ofIte h h.attemptFail

theorem attemptOk (h : Kept o d) {a s : Nat} {ang : Word} {w : Int} : Kept o (d.attemptOk a s ang w) :=
  foldl (fun _ _ h => h.fuMod) ((h.setAcq.wf.ev.branch id (·.wf.ev)).wb).lvlOff.seedObs.seed

theorem acqMeasured (h : Kept o d) {a : Nat} : Kept o (d.acqMeasured a) := ofIte h (foldl (fun _ _ h => h.select) h.fuMod)

theorem standstill (h : Kept o d) {a : Nat} : Kept o (d.standstill a) :=
  ofIte h.setAcq.hfiStart.fuMod (ofIte h.attemptOk h.attemptFail)

theorem acqAsc (h : Kept o d) {a : Nat} : Kept o (d.acqAsc a) := ofIte h.attemptOk h.acqMeasured

theorem acqProbe (h : Kept o d) {a : Nat} : Kept o (d.acqProbe a) :=
  ofIte (ofIte h.standstill (ofIte h.attemptOk h.acqMeasured)) h.acqMeasured

theorem acqHfi (h : Kept o d) {a : Nat} {ok : Bool} : Kept o (d.acqHfi a ok) := ofIte h.occ.attemptFail (ofIte h.attemptOk h)

theorem attemptStep (h : Kept o d) {a : Nat} {valid ok : Bool} : Kept o (d.attemptStep a valid ok) := by
  unfold Dev.attemptStep
  split
  · exact ofIte h.attempt h
  · exact h.acqHfi
  · exact ofIte h.acqAsc h
  · exact ofIte h.acqProbe h

theorem chooseSrc (h : Kept o d) {a : Nat} : Kept o (d.chooseSrc a) := by
  unfold Dev.chooseSrc
  dsimp only
  split
  · exact h.setSrc
  · exact h.setSrc
  · exact ofIte h (ofIte (ofIte h h.observerLost) (h.seed.branch (·.wb) (·.setSrc)))

theorem lossChecks (h : Kept o d) {a : Nat} : Kept o (d.lossChecks a).1 := fstIte h.pair h.fuMod.pair

theorem hfiStep (h : Kept o d) {a dt : Nat} {cs : CurSet} : Kept o (d.hfiStep a dt cs).1 := fstIte h.hfiTrack h.pair

theorem sourceStep (h : Kept o d) {a : Nat} {ok : Bool} : Kept o (d.sourceStep a ok) := ofIte h.occ.setSrc h.chooseSrc

theorem showAngle (h : Kept o d) {a : Nat} : Kept o (d.showAngle a) := (ofIte h.seedObs h).rset.rset.rset.rset

theorem fieldSource (h : Kept o d) {a : Nat} {valid ok : Bool} : Kept o (d.fieldSource a valid ok) := by
  unfold Dev.fieldSource
  refine ofIte ?_ ?_
  · exact h.attemptStep
  · split
    · next _ _ _ hx =>
      have h' := (fstIte h.lossChecks h.pair).fst hx
      exact h'.observerLost
    · next _ hx =>
      have h' := (fstIte h.lossChecks h.pair).fst hx
      exact h'.sourceStep

theorem leaderStep (h : Kept o d) {a dt : Nat} {cs : CurSet} : Kept o (d.leaderStep a dt cs) :=
  (h.observe.hfiStep.branch (·.recordPhi) id).fieldSource.showAngle

theorem followAngle (h : Kept o d) {a : Nat} : Kept o (d.followAngle a) := h.rset.rset

theorem currents (h : Kept o d) {a : Nat} {cs : CurSet} : Kept o (d.currents a cs) := ofIte h.fuMod h.wb.fuMod

theorem appliedV (h : Kept o d) {a : Nat} {v : Int × Int} : Kept o (d.appliedV a v) := h.fuMod

theorem sectorChange (h : Kept o d) {a : Nat} : Kept o (d.sectorChange a) := ofIte h h.wf.ev.commutate

theorem hallEdgeAt (h : Kept o d) {a code : Nat} : Kept o (d.hallEdgeAt a code) :=
  h.hallEdge.branch (fun h => h.each (fun _ _ h => h.sectorChange)) id

theorem cmpFlags (h : Kept o d) {a : Nat} {c : FieldCmps} : Kept o (d.cmpFlags a c) := (ofIte h.wb h).branch (·.wb.occ) id

theorem stageVolts (h : Kept o d) {a : Nat} {vd vq : Int} : Kept o (d.stageVolts a vd vq) := by
  unfold Dev.stageVolts
  dsimp only
  split
  · exact (foldl (fun _ _ h => h.fieldNcmp) (((foldl (fun _ _ h => h.fieldCmp) h).cmpFlags).branch (·.wb.occ) id)).cmpFlags
  · exact (((foldl (fun _ _ h => h.fieldCmp) h).cmpFlags).branch (·.wb.occ) id)

theorem modulate (h : Kept o d) {a : Nat} {vd vq : Int} : Kept o (d.modulate a vd vq) := h.hlt.branch (·.stageVolts) id

theorem currentSection (h : Kept o d) {a : Nat} {upset : Bool} : Kept o (d.currentSection a upset) := by
  unfold Dev.currentSection
  split
  · next _ _ hx =>
    have h' := h.ceCurrent.fst hx
    exact h'.modulate
  · next _ hx =>
    have h' := h.ceCurrent.fst hx
    exact h'

theorem unitStep (h : Kept o d) {a : Nat} : Kept o (d.unitStep a) := by
  unfold Dev.unitStep
  dsimp only
  split
  · exact h
  · exact (h.cvMod.branch (·.followAngle) (·.leaderStep)).currents.appliedV.fuMod.sectorChange.select.branch (·.stageVolts) id

theorem fieldStep (h : Kept o d) {a : Nat} : Kept o (d.fieldStep a) := ofIte (ofIte h.unitStep.unitStep h) h.unitStep

theorem resumeAt (h : Kept o d) {a : Nat} : Kept o (d.resumeAt a) := ofIte (ofIte h.fuMod (ofIte h.fuMod.axGo.heed h)) h

theorem stopTest (h : Kept o d) {a : Nat} : Kept o (d.stopTest a) := ofIte h.axGo h

/-! ### Safety block -/

theorem safeMod (h : Kept o d) {f : Safe → Safe} : Kept o (d.safeMod f) := h.same

theorem stoField (h : Kept o d) : Kept o d.stoField := foldl (fun _ _ h => ofIte h.ilkOff.swMod h) h

theorem stoAxis (h : Kept o d) {a : Nat} : Kept o (d.stoAxis a) :=
  (ofIte (ofIte h.selDecide.axGo h.selDecide) h.toSafe.select).blame

theorem sbcPins (h : Kept o d) {hs ls : Bool} : Kept o (d.sbcPins hs ls) := ofIte h h.wb.wb.wb.same.safeMod

theorem sbcEnd (h : Kept o d) : Kept o d.sbcEnd := by
  unfold Dev.sbcEnd
  dsimp only
  split
  · exact h
  · exact (h.wb.safeMod.ev.branch (·.safeMod.lvlOff) id).completeRun

theorem sbcRes (h : Kept o d) {sw res : Nat} : Kept o (d.sbcRes sw res) := h.wf.branch id (·.wb.occ)

theorem sbcAbort (h : Kept o d) : Kept o d.sbcAbort := by
  unfold Dev.sbcAbort
  split
  · exact h
  · exact (foldl (fun _ _ h => h.sbcRes) h).sbcEnd

theorem sbcTake (h : Kept o d) {rel : Bool} : Kept o (d.sbcTake rel) := h.sbcAbort.sbcPins.ev

theorem sbcUpdate (h : Kept o d) : Kept o d.sbcUpdate :=
  ofIte (ofIte h h.sbcTake) (ofIte (ofIte h h.sbcTake) (ofIte h h.sbcAbort.sbcPins))

theorem brakeSlow (h : Kept o d) : Kept o d.brakeSlow := ofIte h.sbcTake h

theorem sbcSettle (h : Kept o d) : Kept o d.sbcSettle := ofIte h h.wb.safeMod

theorem stoStart (h : Kept o d) : Kept o d.stoStart :=
  (foldl (fun _ _ h => h.stoAxis.acqEnd.tmRest) h.wb.wsat.wb.ev.lvlOn).stoField.sbcUpdate

theorem stoEnd (h : Kept o d) : Kept o d.stoEnd := by
  unfold Dev.stoEnd
  exact (foldl (fun _ _ h => h.tmRest) h.wb.ev.lvlOff).selectAll.sbcUpdate

theorem stoFollow (h : Kept o d) : Kept o d.stoFollow :=
  (h.wb.wb.wb.branch id (·.lvlOff)).branch (·.stoStart) (fun h => h.branch (·.stoEnd) id)

theorem stoInput (h : Kept o d) {i : Nat} {high : Bool} : Kept o (d.stoInput i high) :=
  ofIte h (h.safeMod.branch id (fun h => h.branch (·.safeMod.stoFollow) (fun h => h.branch (·.safeMod.stoFollow) id)))

theorem stoFilter (h : Kept o d) {i : Nat} : Kept o (d.stoFilter i) := ofIte h.safeMod.stoFollow h

theorem stoDisc (h : Kept o d) : Kept o d.stoDisc := ofIte h.lvlOn h

theorem stoCommit (h : Kept o d) : Kept o d.stoCommit := h.safeMod.stoFollow.stoDisc

theorem ptStart (h : Kept o d) : Kept o d.ptStart := ofIte h.safeMod h

theorem ptPhase (h : Kept o d) {ok : Bool} : Kept o (d.ptPhase ok) := by
  unfold Dev.ptPhase
  dsimp only
  refine ofIte ?_ ?_
  · exact h
  · split
    · exact h
    · exact h.safeMod
    · exact h.safeMod.wf.branch (·.occ) (·.safeMod.lvlOff)

theorem stoOverdue (h : Kept o d) : Kept o d.stoOverdue := ofIte h.lvlOn h

theorem torqueEval (h : Kept o d) {a : Nat} : Kept o (d.torqueEval a) :=
  ofIte h (h.wf.branch (·.tmRest) (fun h => h.safeMod.hlt.wf.wf.lvlSet.branch (·.toSafe.blame.wb.ev.occ.sbcUpdate) id))

theorem sbcNext (h : Kept o d) {t : SbcTest} : Kept o (d.sbcNext t) := h.safeMod

theorem sbcStart (h : Kept o d) : Kept o (d.sbcStart).1 := fstIte h.pair h.wb.sbcPins.sbcNext.pair

theorem sbcReclose (h : Kept o d) {t : SbcTest} {res : Nat} : Kept o (d.sbcReclose t res) := h.sbcPins.sbcRes.sbcNext

theorem sbcRecovered (h : Kept o d) {t : SbcTest} : Kept o (d.sbcRecovered t) := ofIte h.sbcEnd.sbcUpdate h.sbcPins.sbcNext

theorem sbcFeedback (h : Kept o d) : Kept o d.sbcFeedback := by
  unfold Dev.sbcFeedback
  dsimp only
  split
  · exact ofIte (ofIte (ofIte h.sbcRecovered h) (ofIte h.sbcReclose h)) (ofIte h h.safeMod)
  · exact ofIte h ((h.safeMod.branch (·.wb) id).lvlSet)

theorem sbcWaitEnd (h : Kept o d) : Kept o d.sbcWaitEnd := by
  unfold Dev.sbcWaitEnd
  dsimp only
  split
  · exact h
  · exact ofIte h (ofIte (ofIte h.sbcRes.sbcPins.ev.sbcEnd h.sbcReclose) (ofIte h.sbcPins.sbcNext (h.sbcPins.sbcRes.branch
      (·.safeMod.sbcEnd.sbcUpdate) (·.sbcNext))))

theorem sbcAuto (h : Kept o d) : Kept o d.sbcAuto := ofIte h.sbcStart h

theorem sbcOverdue (h : Kept o d) : Kept o d.sbcOverdue := ofIte h.lvlOn h

theorem connTimeout (h : Kept o d) {c : Nat} : Kept o (d.connTimeout c) := ofIte h.wb.wb.ev.lvlOn h

theorem pduReject (h : Kept o d) {conn : Option Nat} {lo : Nat} : Kept o (d.pduReject conn lo) := by
  unfold Dev.pduReject
  dsimp only
  split
  · exact h.wb.ev.wsat
  · exact h.wb.ev

theorem pduCheck (h : Kept o d) {p : Nat} {bs : List Byte} : Kept o (d.pduCheck p bs).1 := by
  unfold Dev.pduCheck
  dsimp only
  refine fstIte ?_ ?_
  · exact h.pduReject.pair
  · refine fstIte ?_ ?_
    · exact h.pduReject.pair
    · split
      · exact h.pduReject.pair
      · exact fstIte h.pduReject.pair (fstIte h.pduReject.pair h.rset.lvlOff.safeMod.pair)

theorem pduWrap (h : Kept o d) {c : Nat} {pl : List Byte} {age : Nat} : Kept o (d.pduWrap c pl age).1 := by
  unfold Dev.pduWrap
  exact h.safeMod.pair

/-! ### Device states -/

theorem setState (h : Kept o d) {st : DState} : Kept o (d.setState st) := h.same.ev

theorem leftRun (h : Kept o d) {was : Bool} : Kept o (d.leftRun was) := ofIte (foldl (fun _ _ h => ofIte h.injEnd h) h) h

theorem diagLeave (h : Kept o d) {a : Nat} : Kept o (d.diagLeave a) := ofIte h.diagAbandon.completeRun h

theorem axisToSafe (h : Kept o d) {a : Nat} : Kept o (d.axisToSafe a) := by
  unfold Dev.axisToSafe
  split
  · exact h.axGo
  · exact h.diagLeave.axGo
  · exact h.toSafe
  · exact h.toSafe
  · exact h.toSafe
  · exact h.select
  · exact h.select

theorem axisSafe (h : Kept o d) {a : Nat} : Kept o (d.axisSafe a) := ofIte h (foldl (fun _ _ h => h.blame) h.axisToSafe)

theorem autoDischarge (h : Kept o d) : Kept o d.autoDischarge := ofIte h.dischargeStart h

theorem ptDrop (h : Kept o d) : Kept o d.ptDrop := h.safeMod

theorem enterSafe (h : Kept o d) : Kept o d.enterSafe :=
  (foldl (fun _ _ h => h.auxSafe) (foldl (fun _ _ h => h.axisSafe) h.setState.ptDrop)).leftRun.autoDischarge.sbcUpdate

theorem enterLockout (h : Kept o d) : Kept o d.enterLockout :=
  (foldl (fun _ _ h => ofIte h h.auxLockout) (foldl (fun _ _ h => h.axisSafe) h.setState.ptDrop)).leftRun.autoDischarge.sbcUpdate

theorem enterDegraded (h : Kept o d) : Kept o d.enterDegraded := h.setState.safeMod.wb.ev.occ

theorem enterReady (h : Kept o d) : Kept o d.enterReady :=
  ((foldl (fun _ _ h => h.rset.diagMod) h.setState.ptDrop).branch id (·.same.safeMod.same.rset.wf)).branch (·.enterSafe)
      (·.sbcUpdate)

theorem enterArmed (h : Kept o d) : Kept o d.enterArmed :=
  (h.setState.dischargeEnd.safeMod.branch (fun h => foldl (fun _ _ h => h.auxArmed) h) id).leftRun.sbcUpdate.ptStart

theorem enterRun (h : Kept o d) : Kept o d.enterRun := h.setState.ptDrop.sbcUpdate

theorem enterService (h : Kept o d) : Kept o d.enterService := h.setState.sbcUpdate

theorem idled (h : Kept o d) : Kept o d.idled := ofIte h.enterArmed h

/-! ### Registrar -/

theorem fltMod (h : Kept o d) {f : Flt → Flt} : Kept o (d.fltMod f) := h.same

theorem rgrMod (h : Kept o d) {f : Rgr → Rgr} : Kept o (d.rgrMod f) := h.same

theorem logLost (h : Kept o d) : Kept o d.logLost := h.wsat.branch id (·.rgrMod.occ)

theorem logStart (h : Kept o d) {l : List (List Word)} : Kept o (d.logStart l) := by
  induction l generalizing d with
  | nil => exact h.prsMod
  | cons e l ih => exact ofIte (ih h.logLost) h.prsMod

theorem logResume (h : Kept o d) : Kept o d.logResume := by
  unfold Dev.logResume
  refine ofIte ?_ ?_
  · exact h
  · split
    · exact h.logStart
    · exact h.prsMod

theorem logQueue (h : Kept o d) {r : FltRec} {esc : Bool} : Kept o (d.logQueue r esc) := ofIte h.logLost h.prsMod.rgrMod.logResume

theorem logNext (h : Kept o d) : Kept o d.logNext := h.prsMod.logResume

theorem logDone (h : Kept o d) {e : List Word} : Kept o (d.logDone e) := (ofIte h.rgrMod h).logNext

theorem logFailed (h : Kept o d) {ws : List (Nat × Word)} : Kept o (d.logFailed ws) := by
  unfold Dev.logFailed
  have h1 := foldl (l := ws.take (d.free 0x380 % ws.length)) (f := fun d x => d.program x.1 x.2) (fun _ _ h => h.program) h.tick1
  dsimp only
  cases (ws.drop (d.free 0x380 % ws.length)).head? with
  | none => exact h1.occ.logNext
  | some x => exact h1.setWear.occ.logNext

theorem logWritten (h : Kept o d) {ok : Bool} : Kept o (d.logWritten ok) := by
  unfold Dev.logWritten
  dsimp only
  split
  · exact ofIte h (ofIte ((foldl (fun _ _ h => h.program) h).logDone) h.logFailed)
  · exact h

theorem logWordEnd (h : Kept o d) {ok : Bool} : Kept o (d.logWordEnd ok) := by
  unfold Dev.logWordEnd
  dsimp only
  split
  · exact ofIte h (h.setWear.branch (fun h => h.setWord.branch (·.logDone) (·.prsMod)) (fun h => h.branch (·.prsMod)
      (·.occ.logNext)))
  · exact h

theorem setRec (h : Kept o d) {r : FltRec} : Kept o (d.setRec r) := h.fltMod

theorem openRec (h : Kept o d) {r : Report} : Kept o (d.openRec r) := h.setRec.ev.branch (·.logQueue) id

theorem updateRec (h : Kept o d) {r : Report} {x : FltRec} : Kept o (d.updateRec r x) := h.setRec

theorem injNote (h : Kept o d) {r : Report} : Kept o (d.injNote r) := by
  unfold Dev.injNote
  split
  · exact ofIte h.rgrMod h
  · exact h

theorem report (h : Kept o d) {r : Report} : Kept o (d.report r) := by
  unfold Dev.report
  dsimp only
  refine ofIte ?_ ?_
  · exact h
  · split
    · exact h.injNote.branch (·.updateRec) (·.openRec)
    · exact h.injNote.openRec

theorem reports (h : Kept o d) {l : List Report} : Kept o (d.reports l) :=
  (foldl (fun _ _ h => h.report) h).branch (fun h => h.branch id (·.enterLockout)) (fun h => h.branch (·.enterSafe) id)

theorem raise (h : Kept o d) {code src : Nat} : Kept o (d.raise code src) := h.reports

theorem poisonWords (h : Kept o d) {ws : List Nat} : Kept o (d.poisonWords ws) := h.same

theorem ceEcc (h : Kept o d) {l : List Report} : Kept o (d.ceEcc l) := foldl (fun _ _ h => ofIte h.engMod h) h

theorem faultReport (h : Kept o d) {ext : List Report} {gone : List (Nat × Nat)} {poison : List Nat} :
    Kept o (d.faultReport ext gone poison) :=
  (foldl (fun _ _ h => ofIte h.fltMod h) (foldl (fun _ _ h => h.lvlOff) h.poisonWords.ceEcc)).fltMod.rgrMod.branch
    (fun h => ⟨h.regs, h.sram, h.words, h.wear, h.both, h.fuses⟩) (·.reports)

theorem causeOver (h : Kept o d) {code : Nat} : Kept o (d.causeOver code) := ofIte h h.fltMod

theorem causeExpiry (h : Kept o d) {code : Nat} : Kept o (d.causeExpiry code) := by
  unfold Dev.causeExpiry
  split
  · exact ofIte h.causeOver h
  · exact h

theorem escalateRec (h : Kept o d) {r : FltRec} : Kept o (d.escalateRec r) := h.setRec.ev.logQueue

theorem windowsEnd (h : Kept o d) : Kept o d.windowsEnd :=
  (foldl (fun _ _ h => h.escalateRec) h).branch id (fun h => h.branch (·.enterDegraded) (·.enterSafe))

theorem windowEnd (h : Kept o d) {code : Nat} : Kept o (d.windowEnd code) := ofIte h.windowsEnd h

theorem degExpired (h : Kept o d) : Kept o d.degExpired := ofIte h.raise.causeOver h

theorem safeExit (h : Kept o d) {d0 : Dev} : Kept o (d.safeExit d0) := ofIte h.enterReady h

theorem fltClear (h : Kept o d) {h' code : Nat} : Kept o (d.fltClear h' code).1 := h.windowsEnd.fltMod.safeExit.pair

theorem compatOne (h : Kept o d) {code : Nat} : Kept o (d.compatOne code) := by
  unfold Dev.compatOne
  dsimp only
  split
  · exact h
  · exact ofIte (ofIte h.setRec (ofIte h.setRec.rgrMod.ownWord (ofIte h h.rgrMod.occ))) h

theorem compatScan (h : Kept o d) : Kept o d.compatScan := ofIte ((foldl (fun _ _ h => h.compatOne) h.windowsEnd.rgrMod).safeExit) h

theorem hourEnd (h : Kept o d) : Kept o d.hourEnd := ofIte h.rgrMod h

theorem fltCmd (h : Kept o d) {v : Word} : Kept o (d.fltCmd v).1 :=
  fstIte h.pair (fstIte h.pair (fstIte h.pair ((ofIte (((ofIte h.rgrMod.ownWord h).ownWord).rgrMod) (ofIte h.rgrMod.ownWord
      h)).pair)))

theorem fltLookup (h : Kept o d) {code : Nat} : Kept o (d.fltLookup code) := by
  unfold Dev.fltLookup
  dsimp only
  split
  · exact h.rset
  · exact h.rset

theorem injStart (h : Kept o d) {code src len : Nat} : Kept o (d.injStart code src len) := h.rset.rgrMod

theorem injectionEnd (h : Kept o d) : Kept o d.injectionEnd := by
  unfold Dev.injectionEnd
  dsimp only
  split
  · exact h
  · exact ofIte h h.wb.rgrMod.occIf.completeRun

theorem docentCheckIn (h : Kept o d) : Kept o d.docentCheckIn := h.rgrMod

theorem aliveHalf (h : Kept o d) {selfOk : Bool} : Kept o (d.aliveHalf selfOk) := ofIte h (h.rgrMod.branch (·.same) id)

theorem docentStall (h : Kept o d) : Kept o d.docentStall := ofIte h (h.raise.branch id (·.enterLockout))

/-! ### Lattice -/

theorem vecHit (h : Kept o d) {v : Nat} : Kept o (d.vecHit v) := (ofIte h.wb h.wb).rmod.branch (·.notice) id

theorem eventDelivery (h : Kept o d) : Kept o d.eventDelivery := by
  unfold Dev.eventDelivery
  dsimp only
  split
  · exact h
  · exact (foldl (fun _ _ h => ofIte h.vecHit h) h.same).rgrMod

theorem sinkAct (h : Kept o d) {s : Nat} {ns : List Nat} : Kept o (d.sinkAct s ns) :=
  ofIte h.maskAdvance (ofIte h.urgSend (ofIte h.capTrigger (ofIte h.sbcStart h)))

theorem sinkClear (h : Kept o d) {s : Nat} : Kept o (d.sinkClear s) := h.rgrMod

theorem sinkAction (h : Kept o d) {s : Nat} : Kept o (d.sinkAction s) := ofIte h h.sinkClear.sinkAct

theorem hltZero (h : Kept o d) {m : Nat} : Kept o (d.hltZero m) := foldl (fun _ _ h => h.rset) h.rset.rset.rset

theorem hltClr (h : Kept o d) {v : Word} : Kept o (d.hltClr v) := foldl (fun _ _ h => ofIte h.hltZero h) h

theorem hltWrite (h : Kept o d) {m : Nat} {lo : Bool} {v : Word} : Kept o (d.hltWrite m lo v).1 :=
  fstIte h.rset.hltZero.pair (fstIte h.rset.hltZero.pair h.pair)

/-! ### Clocks -/

theorem setPend (h : Kept o d) {i : Int} : Kept o (d.setPend i) := h.wf

theorem switchOver (h : Kept o d) {path : Nat} : Kept o (d.switchOver path) := (h.wf.branch (·.rset) id).same.ev

theorem lossOfLock (h : Kept o d) {path : Nat} : Kept o (d.lossOfLock path) :=
  h.wb.lvlOn.branch (fun h => h.branch (·.switchOver) (·.wf)) id

theorem pathRelock (h : Kept o d) {path : Nat} : Kept o (d.pathRelock path) := h.wb.lvlOff.branch (·.wf) id

theorem clkCmd (h : Kept o d) {v : Word} : Kept o (d.clkCmd v).1 :=
  fstIte (fstIte h.switchOver.pair h.pair) (fstIte h.setPend.pair h.pair)

theorem tapWrap (h : Kept o d) {later : Bool} : Kept o (d.tapWrap later) := h.same

theorem applyStep (h : Kept o d) {later : Bool} : Kept o (d.applyStep later) := h.wf.setPend.same.branch (·.tapWrap) id

theorem phaseStep (h : Kept o d) : Kept o d.phaseStep := ofIte h.applyStep h

theorem clkinDetect (h : Kept o d) {edges : Nat} : Kept o (d.clkinDetect edges) := by
  unfold Dev.clkinDetect
  refine ofIte ?_ ?_
  · exact h
  · split
    · exact h.wf.wb
    · exact h.wf.wb

theorem refGone (h : Kept o d) : Kept o d.refGone := h.wb.wb.wf

theorem clockWindow (h : Kept o d) {ctrl pwm mgmt can ref watch : Nat} : Kept o (d.clockWindow ctrl pwm mgmt can ref watch) :=
  (h.lvlSet.lvlSet.lvlSet.lvlSet.lvlSet.branch (·.refGone.ev) id).lvlSet.same

theorem dlcalLost (h : Kept o d) : Kept o d.dlcalLost := h.wb.lvlOn

theorem dlcalReturn (h : Kept o d) : Kept o d.dlcalReturn := h.wb.lvlOff

theorem epochTick (h : Kept o d) : Kept o d.epochTick := ofIte h.same.ev h

theorem syncOutEnd (h : Kept o d) : Kept o d.syncOutEnd := ofIte h.same h

theorem alignEdge (h : Kept o d) {e : Int} : Kept o (d.alignEdge e) := ofIte h.same (ofIte h.occ (ofIte h.setPend h))

theorem syncInEdge (h : Kept o d) {ph : Nat} : Kept o (d.syncInEdge ph) :=
  ofIte h ((h.rset.wmod.wb.ev.hlt.branch (·.same) id).branch (fun h => h.lvlOff.same.branch (·.alignEdge) id) id)

theorem snap (h : Kept o d) : Kept o d.snap := by
  unfold Dev.snap
  dsimp only
  split
  · exact h
  · exact ofIte h h.same.wsat.same.ev

theorem syncMissing (h : Kept o d) : Kept o d.syncMissing := by
  unfold Dev.syncMissing
  split
  · exact ofIte h.lvlOn h
  · exact h

/-! ### CAN -/

theorem ccMod (h : Kept o d) {c : Nat} {f : CanCtl → CanCtl} : Kept o (d.ccMod c f) := h.same

theorem canEvt (h : Kept o d) {c bit : Nat} : Kept o (d.canEvt c bit) := h.wb.evIf

theorem canDiscard (h : Kept o d) {c : Nat} : Kept o (d.canDiscard c) := (foldl (fun _ _ h => h.cpMod.hpMod) h).ccMod

theorem canGo (h : Kept o d) {c st : Nat} : Kept o (d.canGo c st) :=
  ofIte h (((ofIte h h.ccMod).wf.canEvt.lvlSet.branch (·.lvlOff.ccMod) id).branch (·.canDiscard) id)

theorem canRestrict (h : Kept o d) {c : Nat} : Kept o (d.canRestrict c) := h.wf.ccMod.canGo

theorem canLeave (h : Kept o d) {c : Nat} : Kept o (d.canLeave c) := ofIte h.canGo h

theorem canJoin (h : Kept o d) {c : Nat} : Kept o (d.canJoin c) := ofIte h.canGo h.canGo

theorem canIntegrated (h : Kept o d) {c : Nat} : Kept o (d.canIntegrated c) := ofIte h.canRestrict h

theorem canTimer (h : Kept o d) {c : Nat} : Kept o (d.canTimer c) := ofIte h.ccMod.canLeave h

theorem canProlonged (h : Kept o d) {c : Nat} : Kept o (d.canProlonged c) := ofIte h.ccMod.occ h

theorem canWaitEnd (h : Kept o d) {c : Nat} : Kept o (d.canWaitEnd c) := ofIte h.canGo h

theorem canRecovered (h : Kept o d) {c : Nat} : Kept o (d.canRecovered c) := ofIte h.canRestrict h

theorem canBoReset (h : Kept o d) {c : Nat} : Kept o (d.canBoReset c) := ofIte h.wf h

theorem canFailed (h : Kept o d) {c : Nat} : Kept o (d.canFailed c) := by
  unfold Dev.canFailed
  dsimp only
  split
  · exact h
  · exact h.ccMod.branch (·.wb.wb) id
  · exact h.ccMod

theorem canFrameEnd (h : Kept o d) {c : Nat} : Kept o (d.canFrameEnd c) := ofIte h.ccMod.canGo h

theorem canCount (h : Kept o d) {c tec rec' : Nat} : Kept o (d.canCount c tec rec') :=
  ofIte (h.wf.wf.branch (fun h => h.wf.wsat.lvlOn.branch (·.canGo.occ) (·.canGo)) (·.canGo)) h

theorem canTdc (h : Kept o d) {c : Nat} {m : CanSend} {n : Nat} : Kept o (d.canTdc c m n) := ofIte h.wf.occIf h

theorem canTdcErr (h : Kept o d) {c : Nat} {tdc : Option Nat} : Kept o (d.canTdcErr c tdc) := by
  unfold Dev.canTdcErr
  split
  · exact h.canTdc
  · exact h

theorem canError (h : Kept o d) {c lec tec rec' : Nat} {tdc : Option Nat} : Kept o (d.canError c lec tec rec' tdc) :=
  ofIte (h.wf.ccMod.branch (·.canGo.occ) id) (ofIte h.wf.canTdcErr.canFailed.canCount.canFrameEnd h)

theorem canStore (h : Kept o d) {c i : Nat} {fdf brs esi : Bool} {dlc : Nat} {data : List Byte} : Kept o (d.canStore c i fdf brs esi
    dlc data) :=
  (((foldl (fun _ _ h => h.rset) h.tick1.rset.rset).wb.branch (·.wb.canEvt) id).branch (·.canEvt) id).ccMod.lvlOff

theorem portDrop (h : Kept o d) {c p : Nat} : Kept o (d.portDrop c p) := h.wsat.wsat.occ

theorem portCmd (h : Kept o d) {c p : Nat} {fdf : Bool} {data : List Byte} : Kept o (d.portCmd c p fdf data) :=
  ofIte h.portDrop h.cpMod

theorem canSort (h : Kept o d) {c id : Nat} {ide fdf brs esi remote : Bool} {dlc : Nat} {data : List Byte} : Kept o (d.canSort c id
    ide fdf brs esi remote dlc data) := by
  unfold Dev.canSort
  split
  · exact ofIte h h.canStore
  · exact h.portCmd
  · exact ofIte h h.wsat

theorem canFrame (h : Kept o d) {c id : Nat} {ide fdf brs esi remote : Bool} {dlc : Nat} {data : List Byte} {tec rec' : Nat} : Kept
    o (d.canFrame c id ide fdf brs esi remote dlc data tec rec') :=
  ofIte h.canSort.ccMod.canLeave (ofIte h.canFailed.canSort.canCount.canFrameEnd h)

theorem takeMsg (h : Kept o d) {c : Nat} {m : CanSend} : Kept o (d.takeMsg c m) := by
  unfold Dev.takeMsg
  refine ofIte ?_ ?_
  · exact h.ccMod
  · split
    · exact h
    · exact h.cpMod
    · exact h.cpMod

theorem canStart (h : Kept o d) {c : Nat} : Kept o (d.canStart c) := by
  unfold Dev.canStart
  refine ofIte ?_ ?_
  · split
    · exact h
    · exact h.takeMsg.ccMod
  · exact h

theorem canSent (h : Kept o d) {c tec rec' tdc : Nat} : Kept o (d.canSent c tec rec' tdc) := by
  unfold Dev.canSent
  split
  · exact h
  next m _ =>
    have h1 : Kept o ((d.ccMod c (fun x => { x with sending := none, cancel := false })).canTdc c m tdc) := h.ccMod.canTdc
    dsimp only
    split
    · exact h1.wb.wb.rset.canEvt.canCount.canFrameEnd
    · exact h1.canCount.canFrameEnd

theorem objTimeout (h : Kept o d) {c i : Nat} : Kept o (d.objTimeout c i) := ofIte h.lvlOn.canEvt.ev h

theorem canCmd (h : Kept o d) {c : Nat} {v : Word} : Kept o (d.canCmd c v).1 :=
  fstIte h.pair (fstIte (fstIte h.pair (fstIte h.ccMod.pair h.canGo.pair)) (fstIte (fstIte h.canGo.pair (fstIte h.wf.canGo.pair
      h.pair)) h.pair))

theorem canTxReq (h : Kept o d) {c : Nat} {v : Word} : Kept o (d.canTxReq c v).1 := (foldl (fun _ _ h => h.wb) h).pair

theorem canTxCancel (h : Kept o d) {c : Nat} {v : Word} : Kept o (d.canTxCancel c v) :=
  foldl (fun _ _ h => ofIte (ofIte h.ccMod h.wb.wb) h) h

theorem rxLostClear (h : Kept o d) {c k : Nat} {v : Word} : Kept o (d.rxLostClear c k v) := foldl (fun _ _ h => ofIte h.wb.wb h) h

theorem hdrRead (h : Kept o d) {h' c i : Nat} : Kept o (d.hdrRead h' c i) := h.ccMod.branch (·.wb.wb) (·.wb.wb)

theorem queueReply (h : Kept o d) {p : Nat} {bs : List Byte} : Kept o (d.queueReply p bs) := ofIte h.cpMod h

/-! ### Security -/

/-- A change of the security unit that keeps the fuses. -/
theorem secMod (h : Kept o d) {f : Sec → Sec} (hf : ∀ s, FusesKept s (f s) := by exact fun _ => .rfl) : Kept o (d.secMod f) :=
  ⟨h.regs, h.sram, h.words, h.wear, h.both, h.fuses.trans (hf d.sec)⟩

theorem tapMod (h : Kept o d) {f : Tap → Tap} : Kept o (d.tapMod f) := h.same

theorem showKey (h : Kept o d) {key : List Byte} : Kept o (d.showKey key) := foldl (fun _ _ h => h.rset) h

theorem keyClear (h : Kept o d) : Kept o d.keyClear := h.secMod

theorem deriveStart (h : Kept o d) : Kept o d.deriveStart := by
  unfold Dev.deriveStart
  refine ofIte ?_ ?_
  · exact h
  · split
    · exact h.occ
    · exact ofIte h.secMod h.occ

theorem keyDerived (h : Kept o d) : Kept o d.keyDerived := by
  unfold Dev.keyDerived
  split
  · exact h.secMod.showKey
  · exact h

theorem attZero (h : Kept o d) : Kept o d.attZero := h.mwrite.unpoison

theorem attest (h : Kept o d) {c : Cmd} : Kept o (d.attest c) := by
  unfold Dev.attest
  dsimp only
  refine ofIte ?_ ?_
  · exact h.lapse
  · split
    · exact h.attZero.wf.finish
    · exact h.wmod.wb.mwrite.unpoison.secMod.startCmd

theorem attEnd (h : Kept o d) {code status : Nat} : Kept o (d.attEnd code status) := h.wb.wf.secMod.completeRun

theorem attSigned (h : Kept o d) : Kept o d.attSigned := by
  unfold Dev.attSigned
  dsimp only
  split
  · exact h
  · exact h.mwrite.unpoison.attEnd.ev

theorem tamperOne (h : Kept o d) {k : Nat} : Kept o (d.tamperOne k) :=
  (h.secMod.branch (·.attZero.attEnd) id).wb.wsat.ev.branch (·.occ) (·.lvlAgain)

theorem tamper (h : Kept o d) {k : Nat} : Kept o (d.tamper k) := h.tamperOne.branch (fun h => h.secMod.branch id (·.tamperOne)) id

theorem setSigfail (h : Kept o d) {n : Nat} : Kept o (d.setSigfail n) :=
  h.ownWord.branch (·.tamper) (fun h => h.branch (·.lvlOff) id)

theorem tamperClear (h : Kept o d) {v : Word} : Kept o (d.tamperClear v).1 := fstIte h.rmod.pair (fstIte h.pair h.pair)

theorem tapGo (h : Kept o d) {code : Nat} {out : List Byte} : Kept o (d.tapGo code out) := h.tapMod

theorem tapBypass (h : Kept o d) : Kept o d.tapBypass := h.tapGo

theorem idcode (h : Kept o d) {trst : Bool} : Kept o (d.idcode trst) := ofIte h.tapMod h.tapGo

theorem pinHold (h : Kept o d) {code : Nat} : Kept o (d.pinHold code) := ofIte h.tapGo h.tapBypass

theorem scan (h : Kept o d) : Kept o d.scan := ofIte h.tapGo h.tapBypass.tamper

theorem entropy (h : Kept o d) {ok : Bool} : Kept o (d.entropy ok) := h.wb.occIf

theorem dbgChal (h : Kept o d) {entropyOk : Bool} {rnd : List Byte} : Kept o (d.dbgChal entropyOk rnd) := by
  unfold Dev.dbgChal
  exact h.entropy.tapGo.secMod

theorem dbgResp (h : Kept o d) {key sig : List Byte} : Kept o (d.dbgResp key sig) := ofIte h.tapGo.secMod h.tapBypass

theorem dbgVerified (h : Kept o d) : Kept o d.dbgVerified := by
  unfold Dev.dbgVerified
  dsimp only
  split
  · exact h
  · exact h.secMod.branch id (fun h => h.branch (·.secMod.wb) (·.tamper))

theorem provHash (h : Kept o d) {hash : List Byte} : Kept o (d.provHash hash) := by
  refine ofIte (tapGo (h.secMod ?_)) h.tapBypass
  exact fun _ => ⟨.refl _, id, fun _ hk => by simp [hk], fun _ => id, List.prefix_rfl⟩

theorem provPolicy (h : Kept o d) {policy : Byte} : Kept o (d.provPolicy policy) := by
  refine ofIte (tapGo (h.secMod ?_)) h.tapBypass
  exact fun _ => ⟨.refl _, id, fun _ => id, fun _ hk => by simp [hk], List.prefix_rfl⟩

theorem provIdent (h : Kept o d) {entropyOk : Bool} {seed : List Byte} : Kept o (d.provIdent entropyOk seed) :=
  ofIte (h.entropy.branch (·.secMod.showKey.tapGo) (·.tick1.tapGo)) h.tapBypass

theorem provLock (h : Kept o d) : Kept o d.provLock := by
  refine ofIte (tapGo (h.secMod ?_)) h.tapBypass
  exact fun _ => ⟨.refl _, fun _ => .refl _, fun _ => id, fun _ => id, List.prefix_rfl⟩

/-! ### Temperature demands, preserve lane -/

theorem sensorEnd (h : Kept o d) {s : Nat} {t : Option Int} : Kept o (d.sensorEnd s t) :=
  ofIte h (h.thermMod.branch (·.tempHere) (fun h => h.branch (·.tempHere) (·.tempSet)))

theorem sensorStart (h : Kept o d) {s : Nat} : Kept o (d.sensorStart s) := ofIte h h.thermMod

theorem sensorDemand (h : Kept o d) {s : Nat} : Kept o (d.sensorDemand s) := ofIte h.thermMod.sensorStart h

theorem latUpdate (h : Kept o d) {k c : Nat} : Kept o (d.latUpdate k c) := by
  unfold Dev.latUpdate
  split
  · exact h
  · exact h.latArrive.ntcEval

theorem writeDone (h : Kept o d) {i : CmdId} : Kept o (d.writeDone i) := by
  unfold Dev.writeDone
  split
  · exact h
  · refine ofIte ?_ ?_
    · split
      · exact h.effectNow.complete
      · exact h.effectNow.complete
    · exact h

theorem pairEnd (h : Kept o d) {i : CmdId} {k st : Nat} : Kept o (d.pairEnd i k st) := h.cmdMod

theorem laneDone (h : Kept o d) {w : PresWrite} {st : Nat} : Kept o (d.laneDone w st) :=
  (foldl (fun _ _ h => h.writeDone) (foldl (fun _ _ h => h.pairEnd) h)).branch (·.same) id

theorem laneAdmit (h : Kept o d) {src : List (CmdId × Nat)} {w : Nat} {v : Word} {dl : Nat} : Kept o (d.laneAdmit src w v dl) :=
  h.prsMod

theorem turnStart (h : Kept o d) : Kept o d.turnStart := by
  unfold Dev.turnStart
  dsimp only
  refine ofIte ?_ ?_
  · exact h
  · split
    · exact h
    · exact h.prsMod.branch (·.laneDone) (fun h => h.branch (·.laneDone) (fun h => h.branch (·.occ.laneDone) (fun h => h.branch
        (·.laneDone) (·.prsMod))))

theorem programEnd (h : Kept o d) {ok : Bool} : Kept o (d.programEnd ok) := by
  unfold Dev.programEnd
  dsimp only
  split
  · exact h
  · exact h.setWear.branch (·.prsMod.setWord.hlt.laneDone) (fun h => h.branch (·.prsMod) (·.prsMod.setWear.occ.laneDone))

/-! ### Registers of the image -/

theorem loadRegs (h : Kept o d) {l : List (Nat × Word)} : Kept o (d.loadRegs l) := by
  unfold Dev.loadRegs
  refine foldl (fun _ _ h => ?_) h
  split
  · exact h.rset
  · exact h

theorem withImage (h : Kept o d) {c : ImageContent} : Kept o (d.withImage c) := h.loadRegs.same

/-! ### Commit -/

theorem reload (h : Kept o d) {p : Nat → Bool} : Kept o (d.reload p) := by
  have h1 : Kept o { d with regs := d.regs.filter (fun r => !p r.1) } :=
    ⟨fun ho => canon_sublist List.filter_sublist (h.regs ho), h.sram, h.words, h.wear, h.both, h.fuses⟩
  exact h1.loadRegs

theorem pwmStat (h : Kept o d) {a : Nat} : Kept o (d.pwmStat a) := h.wb.wf

theorem startPwm (h : Kept o d) : Kept o d.startPwm := foldl (fun _ _ h => h.pwmStat) h.same.same

theorem startCe (h : Kept o d) : Kept o d.startCe := foldl (fun _ _ h => h.pgApply) h.setCeMode

theorem startCtrl (h : Kept o d) : Kept o d.startCtrl := h.startPwm.dclOutputs.stoCommit

theorem clearCtrl (h : Kept o d) : Kept o d.clearCtrl := h.same

theorem loadTenant (h : Kept o d) {t : Tenant} : Kept o (d.loadTenant t) := h.rset.wf.wf

theorem setOwners (h : Kept o d) {l : List (Nat × Nat)} : Kept o (d.setOwners l) := foldl (fun _ _ h => ofIte h.wf h) h

theorem clockCommit (h : Kept o d) : Kept o d.clockCommit := ((ofIte h.switchOver h).branch (·.lvlOn) id).same.wb

theorem setStep (h : Kept o d) {n : Nat} : Kept o (d.setStep n) := h.wf

theorem showActive (h : Kept o d) : Kept o d.showActive := h.rset

theorem commit (h : Kept o d) {c : ImageContent} : Kept o (d.commit c) :=
  (foldl (fun _ _ h => h.canJoin) ((foldl (fun _ _ h => h.loadTenant)
      h.withImage.same).setOwners).rset.showActive.clockCommit.startCe.startCtrl).occIf.setStep

/-! ### Start-up -/

theorem cleared (h : Kept o d) : Kept o d.cleared := by
  have hp : d.prs.cut.words = d.prs.words ∧ d.prs.cut.wear = d.prs.wear := by unfold Prs.cut; split <;> exact ⟨.refl _, .refl _⟩
  exact ⟨fun _ => .refl _, fun _ => .refl _, hp.1 ▸ h.words, hp.2 ▸ h.wear, fun _ => blank_noBoth,
    h.fuses.trans ⟨.refl _, id, fun _ => id, fun _ => id, List.prefix_rfl⟩⟩

theorem registrarBoot (h : Kept o d) : Kept o d.registrarBoot := h.rgrMod.ownWord

theorem enterBoot (h : Kept o d) {c : BootCause} : Kept o (d.enterBoot c) := h.cleared.same.registrarBoot

theorem resetEnds (h : Kept o d) : Kept o d.resetEnds := by
  unfold Dev.resetEnds
  split
  · exact ofIte h h.enterBoot
  · exact h

theorem bootRequest (h : Kept o d) {c : BootCause} : Kept o (d.bootRequest c) := by
  unfold Dev.bootRequest
  exact h.cleared.same.resetEnds

theorem goDormant (h : Kept o d) : Kept o d.goDormant :=
  same (h.cleared.secMod (f := fun s => { s with soft := [] }))

theorem porEnd (h : Kept o d) {testMode : Bool} : Kept o (d.porEnd testMode) :=
  ofIte (h.same.branch (·.bootRequest) (fun h => h.branch (·.bootRequest) id)) h

theorem wakeUp (h : Kept o d) : Kept o d.wakeUp := ofIte (ofIte h.bootRequest h.same) h

theorem wakeFall (h : Kept o d) : Kept o d.wakeFall := ofIte h h.same

theorem railLoss (h : Kept o d) {rail : Nat} : Kept o (d.railLoss rail) := h.goDormant.same

theorem vkaLoss (h : Kept o d) : Kept o d.vkaLoss := h.goDormant.same

theorem vkaReturn (h : Kept o d) : Kept o d.vkaReturn := h.same

theorem nReset (h : Kept o d) {held testMode : Bool} : Kept o (d.nReset held testMode) :=
  h.same.branch (·.resetEnds) (fun h => h.branch id (·.bootRequest))

theorem selfReset (h : Kept o d) : Kept o d.selfReset := ofIte h.bootRequest h

theorem logCutEnd (h : Kept o d) : Kept o d.logCutEnd := ofIte h h.prsMod

theorem programEnds (h : Kept o d) {log ok : Bool} : Kept o (d.programEnds log ok) :=
  (ofIte h.logWordEnd.logCutEnd h.programEnd).resetEnds

theorem bootFail (h : Kept o d) {code : Nat} : Kept o (d.bootFail code) := h.setStep.raise

theorem clockRomEnd (h : Kept o d) {romOk mdll ilo : Bool} : Kept o (d.clockRomEnd romOk mdll ilo) :=
  ofIte h (h.rset.wb.wb.wf.same.branch (·.reports) (fun h => h.branch (·.bootFail) (·.setState.setStep)))

theorem setRes (h : Kept o d) {slot r : Nat} : Kept o (d.setRes slot r) := h.rset

theorem countFail (h : Kept o d) {r : Nat} : Kept o (d.countFail r) := ofIte h.setSigfail h

theorem slotBad (h : Kept o d) {r : Nat} : Kept o (d.slotBad r) := h.setRes.wf.countFail

theorem bothBad (h : Kept o d) {r : Nat} : Kept o (d.bothBad r) := h.slotBad.bootFail

theorem slotFail (h : Kept o d) {r : Nat} : Kept o (d.slotFail r) :=
  ofIte h.bothBad (h.slotBad.ownWord.wf.same.branch (·.setStep) (·.bothBad))

theorem flashEnd (h : Kept o d) {profileOk : Bool} {hdrA hdrB : List Byte} : Kept o (d.flashEnd profileOk hdrA hdrB) :=
  ofIte h (h.same.setRes.setRes.rset.wf.branch (·.setStep) (·.slotFail))

theorem readEnd (h : Kept o d) {body : List Byte} {cd aux strobeOk : Bool} : Kept o (d.readEnd body cd aux strobeOk) :=
  ofIte h (h.same.branch (·.setStep) (·.slotFail))

theorem verifyEnd (h : Kept o d) {sig : List Byte} : Kept o (d.verifyEnd sig) := ofIte h (ofIte h.setSigfail.setStep h.slotFail)

theorem commitEnd (h : Kept o d) {c : ImageContent} : Kept o (d.commitEnd c) := ofIte h (ofIte h.setRes.commit h.slotFail)

theorem islandsStart (h : Kept o d) : Kept o d.islandsStart := (foldl (fun _ _ h => h.lnkMod) h).setStep.deriveStart

theorem islandsEnd (h : Kept o d) : Kept o d.islandsEnd := ofIte h (((foldl (fun _ _ h => h.untrained) h).seqGo).same.enterReady)

theorem supplyFault (h : Kept o d) {rail : Nat} : Kept o (d.supplyFault rail) := h.lvlOn

theorem supplyReturn (h : Kept o d) {rail : Nat} : Kept o (d.supplyReturn rail) :=
  h.lvlOff.branch (fun h => h.same.branch (·.logResume) id) id

theorem vddIoLow (h : Kept o d) : Kept o d.vddIoLow := h.same

/-! ### Register accesses -/

theorem readObj (h : Kept o d) {h' a c i b : Nat} : Kept o (d.readObj h' a c i b).1 := by
  unfold Dev.readObj
  refine fstIte ?_ ?_
  · exact h.hdrRead.pair
  · split
    · exact fstIte h.pair h.pair
    · exact h.pair

theorem readReg (h : Kept o d) {h' a : Nat} : Kept o (d.readReg h' a).1 := by
  unfold Dev.readReg
  split
  · exact h.readObj
  · exact h.lposRead.pair
  · split
    · exact h.ltsRead.pair
    · exact h.pair
  · exact h.pair

theorem evtWrite (h : Kept o d) {h' a : Nat} {v : Word} : Kept o (d.evtWrite h' a v).1 := fstIte h.rmod.pair h.rmod.pair

theorem canWrite (h : Kept o d) {c r : Nat} {v : Word} : Gives o (d.canWrite c r v) :=
  .ofIte (.some h.canCmd) (.ofIte (.some h.canTxReq) (.ofIte (.some h.canTxCancel) (.ofIte (.some h.rxLostClear)
    (.ofIte (.some h) .no))))

theorem writeOwn (h : Kept o d) {h' a : Nat} {v : Word} : Gives o (d.writeOwn h' a v) := by
  unfold Dev.writeOwn
  dsimp only
  split
  · exact .ofIte (.some h.rmod.pair) .no
  · exact .ofIte (.some h.tamperClear) .no
  · exact .ofIte (.some h.clkCmd) .no
  · exact .ofIte (.some h.tripClear) .no
  · exact .ofIte (.some h.seqGo) (.ofIte (.some h.forceSlice) (.ofIte (.some (h.rset.branch (·.urgSend) id)) .no))
  · exact .ofIte (.some (foldl (fun _ _ h => ofIte h.chopClear h) h).rmod.pair) .no
  · exact .ofIte (.some h.fltLookup) (.ofIte (.some h.fltCmd) (.ofIte (.some h.hltClr) (.ofIte (.some h.hltWrite) .no)))
  · exact .ofIte h.canWrite .no
  · exact .ofIte (.some h.evtWrite) .no
  · exact .no

theorem writePlain (h : Kept o d) {a : Nat} {r : RegRow} {v : Word} : Kept o (d.writePlain a r v) := by
  unfold Dev.writePlain
  dsimp only
  split
  · exact h.rset
  · exact h
  · exact h.rset.same

theorem rwsPwm (h : Kept o d) {a : Nat} {r : RegRow} {v : Word} : Kept o (d.rwsPwm a r v) :=
  ofIte h.same (ofIte h.stagePer (ofIte h.stageCmp (ofIte h.stageNcmp (ofIte h.writePlain.maskDelay.syncGates h.writePlain))))

theorem rwsCe (h : Kept o d) {h' a : Nat} {r : RegRow} {v : Word} {pair : Option (Nat × Nat)} : Kept o (d.rwsCe h' a r v pair) :=
  ofIte h.blockStart (ofIte h.pgApply (ofIte h.injRun h.writePlain))

theorem rwsAux (h : Kept o d) {a : Nat} {r : RegRow} {v : Word} : Kept o (d.rwsAux a r v).1 := by
  unfold Dev.rwsAux
  dsimp only
  refine fstIte ?_ ?_
  · refine fstIte ?_ ?_
    · exact h.pair
    · split
      · next _ hx =>
        have h' := h.auxTarget.fst hx
        exact h'.pair
      · next _ hx =>
        have h' := h.auxTarget.fst hx
        exact h'.pair
      · next _ hx =>
        have h' := h.auxTarget.fst hx
        exact h'.pair
  · exact fstIte (fstIte h.homeStart.pair h.pair) h.writePlain.pair

theorem dischWrite (h : Kept o d) {v : Word} : Kept o (d.dischWrite v).1 :=
  (ofIte ((ofIte h.dischargeStart h).dischargeEnd) (ofIte h.dischargeStart h)).pair

theorem applyRws (h : Kept o d) {h' a : Nat} {v : Word} {pair : Option (Nat × Nat)} : Kept o (d.applyRws h' a v pair).1 := by
  unfold Dev.applyRws
  dsimp only
  split
  · exact h.pair
  · refine fstIte ?_ ?_
    · exact h.pair
    · refine fstIte ?_ ?_
      · exact h.pair
      · split
        · exact h.rwsPwm.pair
        · split
          · exact h.writePlain.fuMod.pair
          · exact h.writePlain.pair
        · exact h.rwsCe.pair
        · exact h.rwsAux
        · exact fstIte h.dischWrite h.writePlain.pair
        · exact h.writePlain.sbcUpdate.pair
        · exact h.writePlain.pair

theorem portPut (h : Kept o d) {h' a : Nat} {v : Word} : Kept o (d.portPut h' a v) := h.same

theorem writeReg (h : Kept o d) {h' a : Nat} {v : Word} : Kept o (d.writeReg h' a v).1 := by
  unfold Dev.writeReg
  refine fstIte h ?_
  split
  · exact h
  next r _ =>
    split
    · exact fstIte h h.laneAdmit
    · exact h.portPut
    · cases hw : d.writeOwn h' a v with
      | none => exact h.writePlain
      | some x => exact h.writeOwn x hw

theorem hostWrite (h : Kept o d) {h' a : Nat} {v : Word} : Kept o (d.hostWrite h' a v) := ofIte h.writeReg.same h

theorem portApply (h : Kept o d) {xs : List Nat} {n : Nat} : Kept o (d.portApply xs n) :=
  foldl (fun _ _ h => (fstIte h.applyRws h.pair).same) h.same

theorem dbgAccess (h : Kept o d) {write : Bool} {a : Nat} {v : Word} : Kept o (d.dbgAccess write a v) :=
  ofIte h.tapBypass.tamper (ofIte (ofIte h.tapGo (ofIte h.writeReg.same.tapGo (ofIte h.mwrite.unpoison.tapGo h.tapGo))) (ofIte
      h.tapGo (ofIte (ofIte h.tapGo h.readReg.tapGo) (ofIte h.tapGo h.tapGo))))

/-! ### Self-test -/

theorem bistStore (h : Kept o d) {u : Nat} {repair : Bool} {o' : BistOut} : Kept o (d.bistStore u repair o') :=
  h.secMod.wf.wsat.rset.rset.wf.wb.branch (·.entropy) id

theorem isolate (h : Kept o d) {u : Nat} : Kept o (d.isolate u) := by
  unfold Dev.isolate
  dsimp only
  split
  · exact h.setCeMode.ceMod
  · exact h.setCeMode.ceMod
  · exact h.setCeMode.ceMod
  · exact h.setCeMode.ceMod
  · exact foldl (fun _ _ h => h.ilkOff) h
  · exact foldl (fun _ _ h => h.swMod) h
  · exact foldl (fun _ _ h => h.swMod) h
  · exact h.same.bridgesOff.bridgesOff
  · exact foldl (fun _ _ h => h.canDiscard.canGo) h
  · exact h

theorem levelsGone (h : Kept o d) {p : Nat → Bool} : Kept o (d.levelsGone p) := foldl (fun _ _ h => ofIte h.lvlOff h) h

theorem ceReinit (h : Kept o d) {e : Nat} {split : Bool} : Kept o (d.ceReinit e split) :=
  (foldl (fun _ _ h => h.pgApply) h.reload.ceMod).engMod.branch (·.setCeMode) (·.setCeMode.ceMod)

theorem mgmtReinit (h : Kept o d) : Kept o d.mgmtReinit :=
  reports (same (h.reload.levelsGone.secMod (f := fun s => { s with held := [] })))

theorem ctrlReinit (h : Kept o d) : Kept o d.ctrlReinit := h.levelsGone.clearCtrl.reload.startCtrl.wb

theorem hostReinit (h : Kept o d) : Kept o d.hostReinit :=
  foldl (fun _ _ h => h.canJoin) (foldl (fun _ _ h => h.rset.rset.rset.hpMod) h.levelsGone.reload.same)

theorem rangeReload (h : Kept o d) {lo hi : Nat} : Kept o (d.rangeReload lo hi) := h.reload

theorem islShow (h : Kept o d) {isl : Nat} : Kept o (d.islShow isl) := foldl (fun _ _ h => h.wb) h

theorem laneShow (h : Kept o d) {lane : Nat} : Kept o (d.laneShow lane) := h.linkFlags.linkRetrain

theorem giReinit (h : Kept o d) : Kept o d.giReinit := h.rangeReload.rangeReload.same.wf.islShow.laneShow.laneShow

theorem hiReinit (h : Kept o d) : Kept o d.hiReinit := foldl (fun _ _ h => h.islShow.laneShow) h.rangeReload

theorem reinit (h : Kept o d) {u : Nat} {split : Bool} : Kept o (d.reinit u split) := by
  unfold Dev.reinit
  dsimp only
  split
  · exact h.ceReinit
  · split
    · exact h.ctrlReinit
    · exact h.mgmtReinit
    · exact h.rangeReload.same
    · exact h.giReinit
    · exact h.hiReinit
    · exact h.same
    · exact h.hostReinit
    · exact h

theorem bistKeyClear (h : Kept o d) : Kept o d.bistKeyClear := by
  unfold Dev.bistKeyClear
  exact (ofIte h.attZero.attEnd h).secMod

theorem bistEnd (h : Kept o d) {r : BistRun} : Kept o (d.bistEnd r) := (h.wb.wf.secMod.branch id (·.deriveStart)).completeRun

theorem bistNext (h : Kept o d) {r : BistRun} {l : List Nat} : Kept o (d.bistNext r l) := by
  induction l generalizing d r with
  | nil => exact h.bistEnd
  | cons u l ih => exact ofIte (ih h.wf) h.bistKeyClear.wf.secMod.isolate

theorem bistStart (h : Kept o d) {mask : Nat} {repair : Bool} : Kept o (d.bistStart mask repair) := h.wb.bistNext

theorem bistUnitEnd (h : Kept o d) {o' : BistOut} : Kept o (d.bistUnitEnd o') := by
  unfold Dev.bistUnitEnd
  dsimp only
  split
  · exact h
  · split
    · exact h
    · exact h.bistStore.occIf.reinit.ev.bistNext

theorem bootBist (h : Kept o d) {outs : List BistOut} : Kept o (d.bootBist outs) :=
  ofIte h ((foldl (fun _ _ h => h.bistStore.ev) h).branch (·.raise) (·.occIf.islandsStart))

theorem fuseStart (h : Kept o d) {c : Cmd} : Kept o (d.fuseStart c) := ofIte h.finish (ofIte h.finish h.secMod.startCmd)

theorem fuseEnd (h : Kept o d) {ok : Bool} {n : Nat} : Kept o (d.fuseEnd ok n) := by
  unfold Dev.fuseEnd
  split
  · exact h
  · refine branch (h.secMod ?_) (·.same.completeRun) (·.occ.completeRun)
    exact fun _ => ⟨.refl _, id, fun _ => id, fun _ => id, List.prefix_append _ _⟩

/-! ### Admission -/

theorem admitWords (h : Kept o d) {c : Cmd} {dl : Nat} : Kept o (d.admitWords c dl) := foldl (fun _ _ h => h.laneAdmit) h

theorem admitCmd (h : Kept o d) {c : Cmd} {r : Req} : Kept o (d.admitCmd c r) := h.same.setCmds.admitWords.hlt

/-! ### Frames -/

theorem holdReply (h : Kept o d) {p : Nat} {bs : List Byte} {t : Nat} : Kept o (d.holdReply p bs t) :=
  h.hpMod.branch (·.hlt) (·.queueReply)

theorem answerFrom (h : Kept o d) {p : Nat} {bs : List Byte} {conn : Option Nat} {st info : Nat} {pl : List Byte} {from' : Nat} :
    Kept o (d.answerFrom p bs conn st info pl from') := by
  unfold Dev.answerFrom
  cases conn with
  | none => exact h.holdReply.tick1
  | some c => exact h.pduWrap.holdReply.tick1

theorem answer (h : Kept o d) {p : Nat} {bs : List Byte} {conn : Option Nat} {st info : Nat} {pl : List Byte} : Kept o (d.answer p
    bs conn st info pl) :=
  h.answerFrom

theorem refuse (h : Kept o d) {p : Nat} {bs : List Byte} {conn : Option Nat} {st : Nat} : Kept o (d.refuse p bs conn st) :=
  h.answer.evIf

theorem heartbeat (h : Kept o d) {p : Nat} : Kept o (d.heartbeat p) := h.hpMod.wb

theorem acknowledge (h : Kept o d) {p n : Nat} : Kept o (d.acknowledge p n) := h.hpMod.wf.branch (·.wb) id

theorem regRead (h : Kept o d) {h' : Nat} {as : List Nat} : Kept o (d.regRead h' as).1 := by
  suffices ∀ (as : List Nat) (r : Dev × List Byte), Kept o r.1 → Kept o (as.foldl
      (fun r a => (let x := r.1.readReg h' a; (x.1, r.2 ++ beBytes 4 x.2.toNat))) r).1 from this as (d, []) h
  intro as
  induction as with
  | nil => exact fun _ h => h
  | cons a as ih => exact fun r h => ih _ h.readReg

theorem direct (h : Kept o d) {r : Req} : Kept o (d.direct r).1 := by
  unfold Dev.direct
  dsimp only
  split
  · exact h.pair
  · exact h.pair
  · exact h.heartbeat.pair
  · exact h.acknowledge.pair
  · exact h.pair
  · exact h.pair
  · exact h.regRead.pair
  · exact h.pair

theorem unwrap (h : Kept o d) {p : Nat} {bs : List Byte} {l : Nat} : Kept o (d.unwrap p bs l).1 := by
  unfold Dev.unwrap
  dsimp only
  refine fstIte ?_ ?_
  · split
    · next _ _ hx =>
      have h' := h.pduCheck.fst hx
      exact h'.pair
    · next _ _ hx =>
      have h' := h.pduCheck.fst hx
      exact h'.pair
  · exact h.pair

theorem replyAgain (h : Kept o d) {p : Nat} : Kept o (d.replyAgain p) := by
  unfold Dev.replyAgain
  split
  · exact ofIte h h.queueReply
  · exact h

theorem request (h : Kept o d) {r : Req} {bs : List Byte} : Kept o (d.request r bs) := by
  unfold Dev.request
  split
  · exact h.answer.ev
  · exact h.admitCmd.answer

theorem putOff (h : Kept o d) {r : Req} {bs : List Byte} : Kept o (d.putOff r bs) := h.same

theorem carry (h : Kept o d) {r : Req} {bs : List Byte} : Kept o (d.carry r bs) := h.direct.answerFrom

theorem serve (h : Kept o d) {r : Req} {bs : List Byte} : Kept o (d.serve r bs) :=
  ofIte h.refuse (ofIte h.request (ofIte h.replyAgain (ofIte h.putOff h.carry)))

theorem frameIn (h : Kept o d) {p : Nat} {bs : List Byte} : Kept o (d.frameIn p bs) := by
  unfold Dev.frameIn
  refine ofIte ?_ ?_
  · exact h.wsat
  · split
    · exact h.wsat.refuse
    · split
      · next _ _ hx =>
        have h' := h.unwrap.fst hx
        exact h'.refuse
      · next _ _ _ hx =>
        have h' := h.unwrap.fst hx
        exact h'.serve

theorem clearEnd (h : Kept o d) : Kept o d.clearEnd := foldl (fun _ _ h => h.carry) h.same

theorem frameEnds (h : Kept o d) {p : Nat} {bs : List Byte} {more : Bool} : Kept o (d.frameEnds p bs more) :=
  ofIte h.same (foldl (fun _ _ h => h.frameIn) h.same)

theorem clockOut (h : Kept o d) {p n : Nat} {early : Bool} : Kept o (d.clockOut p n early) := h.hpMod

theorem frame (h : Kept o d) {op : Nat} {pick : Option Byte → Bool} {f : Frame} : Kept o (d.frame op pick f) := by
  unfold Dev.frame
  dsimp only
  refine ofIte ?_ ?_
  · exact h
  · refine ofIte ?_ ?_
    · exact ofIte h.clockOut.frameEnds h
    · split
      · exact h
      · exact ofIte h.cpMod.same.frameEnds h

/-! ### Commands -/

theorem memWrite (h : Kept o d) {c : Cmd} : Kept o (d.memWrite c) := ofIte h.lapse (ofIte h.lapse h.mwrite.unpoison.finish)

theorem sbcCommand (h : Kept o d) {c : Cmd} : Kept o (d.sbcCommand c) := ofIte h.sbcStart.startCmd h.lapse

theorem offerAxis (h : Kept o d) {x recipient : Nat} : Kept o (d.offerAxis x recipient) := h.wf.same

theorem clearCommand (h : Kept o d) {c : Cmd} : Kept o (d.clearCommand c) := h.fltClear.finish

theorem injCommand (h : Kept o d) {c : Cmd} : Kept o (d.injCommand c) := ofIte h.lapse h.injStart.startCmd

theorem captureCommand (h : Kept o d) {c : Cmd} : Kept o (d.captureCommand c) := ofIte h.capArm.finish h.capArm.finish

theorem calCommand (h : Kept o d) {c : Cmd} : Kept o (d.calCommand c) := ofIte h.calStart.startCmd h.lapse

theorem bistCommand (h : Kept o d) {c : Cmd} : Kept o (d.bistCommand c) := h.startCmd.bistStart

theorem setPref (h : Kept o d) {slot : Nat} {trial : Bool} : Kept o (d.setPref slot trial) := h.ownWord.showActive

theorem resetLater (h : Kept o d) : Kept o d.resetLater := h.same

theorem imgAccept (h : Kept o d) : Kept o d.imgAccept := (ofIte h.ownWord h).setPref

theorem imgCommand (h : Kept o d) {c : Cmd} : Kept o (d.imgCommand c) := by
  unfold Dev.imgCommand
  dsimp only
  refine ofIte ?_ ?_
  · exact h.lapse
  · split
    · exact h.same.startCmd
    · exact h.startCmd
    · exact h.setPref.finish.resetLater
    · exact h.imgAccept.finish
    · exact h.setPref.finish.resetLater

theorem docentEffect (h : Kept o d) {c : Cmd} : Kept o (d.docentEffect c) := by
  unfold Dev.docentEffect
  refine ofIte ?_ ?_
  · exact h.lapse
  · split
    · exact h.memWrite
    · exact h.enterArmed.finish
    · exact h.enterReady.finish
    · exact h.sbcCommand
    · exact h.offerAxis.finish
    · exact h.clearCommand
    · exact h.injCommand
    · exact h.sensorStart.startCmd
    · exact h.captureCommand
    · exact h.calCommand
    · exact h.enterService.finish
    · exact h.enterReady.finish
    · exact h.bistCommand
    · exact h.fuseStart
    · exact h.attest
    · exact h.imgCommand

theorem docPair (h : Kept o d) {i : CmdId} {payload : List Byte} {k : Nat} : Kept o (d.docPair i payload k) :=
  (fstIte h.writeReg h.pair).pairEnd

theorem staged (h : Kept o d) {i : CmdId} : Kept o (d.staged i) := h.cmdMod

theorem laneExec (h : Kept o d) : Kept o d.laneExec := by
  unfold Dev.laneExec
  split
  · exact h
  · exact ofIte ((foldl (fun _ _ h => h.docPair) h.staged).writeDone) (ofIte h.staged.docentEffect h.staged)

theorem enableAxis (h : Kept o d) {x : Nat} : Kept o (d.enableAxis x) := (ofIte h.axGo.heed h.setAux).branch (·.enterRun) id

theorem disableAxis (h : Kept o d) {x : Nat} : Kept o (d.disableAxis x) := ofIte h.axGo.idled h.setAux

theorem stopAxis (h : Kept o d) {x : Nat} : Kept o (d.stopAxis x) := ofIte h.axGo h.auxStop

theorem moveOwner (h : Kept o d) {c : Cmd} {seize : Bool} : Kept o (d.moveOwner c seize) :=
  h.wf.wf.ev.finish.branch (fun h => foldl (fun _ _ h => h.lapse) h) id

theorem modeCommand (h : Kept o d) {c : Cmd} : Kept o (d.modeCommand c) := ofIte (fstIte h.ceModeChange h.pair).finish h.lapse

theorem axisEffect (h : Kept o d) {c : Cmd} : Kept o (d.axisEffect c) := by
  unfold Dev.axisEffect
  refine ofIte ?_ ?_
  · exact h.modeCommand
  · refine ofIte ?_ ?_
    · exact h.lapse
    · split
      · exact h.enableAxis.finish
      · exact h.disableAxis.finish
      · exact h.stopAxis.finish
      · exact (foldl (fun _ _ h => h.laneSet) h).finish
      · exact h.diagStart.startCmd
      · exact h.moveOwner
      · exact h.moveOwner

theorem groupPair (h : Kept o d) {i : CmdId} {payload : List Byte} {k : Nat} : Kept o (d.groupPair i payload k) :=
  (fstIte h.applyRws h.pair).branch (·.cmdMod) (·.pairEnd)

theorem groupEffect (h : Kept o d) {i : CmdId} {g : CmdGroup} : Kept o (d.groupEffect i g) := by
  unfold Dev.groupEffect
  dsimp only
  split
  · exact h
  · exact ofIte ((foldl (fun _ _ h => h.groupPair) h.cmdMod).writeDone) h.axisEffect

theorem commitPoint (h : Kept o d) {xs : List Nat} : Kept o (d.commitPoint xs) :=
  (foldl (fun _ _ h => h.portApply.groupEffect) h.setCmds).portApply

theorem missWrite (h : Kept o d) {c : Cmd} : Kept o (d.missWrite c) := (foldl (fun _ _ h => h.pairEnd) h.prsMod.cmdMod).cmdMod

theorem missed (h : Kept o d) {host label : Nat} : Kept o (d.missed host label) := by
  unfold Dev.missed
  dsimp only
  split
  · exact h
  · exact ofIte h ((ofIte ((h.missWrite.branch (·.cmdMod) id).writeDone) h.complete).tick1.occ.ev)

theorem hbExpired (h : Kept o d) {h' : Nat} : Kept o (d.hbExpired h') := ofIte h.wb.occ.ev h

theorem offerExpired (h : Kept o d) {x : Nat} : Kept o (d.offerExpired x) := ofIte h.wf h

theorem imgWritten (h : Kept o d) {ok : Bool} : Kept o (d.imgWritten ok) := ofIte h.occIf.completeRun h

theorem imgVerified (h : Kept o d) {r : Nat} : Kept o (d.imgVerified r) :=
  ofIte (ofIte h.completeRun ((h.setRes.branch (·.setSigfail) (·.countFail)).same.completeRun)) h

/-! ### Boundaries -/

theorem backToIdle (h : Kept o d) {a : Nat} : Kept o (d.backToIdle a) := ofIte h.acqEnd.axGo.idled h

theorem axisTurn (h : Kept o d) {a : Nat} : Kept o (d.axisTurn a) := by
  unfold Dev.axisTurn
  dsimp only
  refine ofIte ?_ ?_
  · exact h.resumeAt
  · split
    · exact h.resumeAt.branch (·.axGo) id
    · exact h.resumeAt.stopTest
    · exact h.resumeAt.backToIdle
    · exact h.resumeAt.backToIdle
    · exact h.resumeAt
    · exact h.resumeAt
    · exact h.resumeAt

theorem mirror (h : Kept o d) {a : Nat} : Kept o (d.mirror a) := ofIte h h.mwrite.unpoison

theorem boundaryEnd (h : Kept o d) {a : Nat} : Kept o (d.boundaryEnd a) := h.thermMod.narrowEmpty.sarSync.mirror

theorem periodBoundary (h : Kept o d) {a : Nat} : Kept o (d.periodBoundary a) :=
  ofIte h ((h.commitPoint.each (fun _ _ h => h.axisTurn)).pwmBoundary.each (fun _ _ h => h.boundaryEnd))

theorem channelBoundary (h : Kept o d) {j : Nat} : Kept o (d.channelBoundary j) :=
  ofIte h ((ofIte h.auxFaults.commitPoint h).chanBoundary.chanGate.branch (·.auxBoundary) id)

theorem diagPhaseEnd (h : Kept o d) {a : Nat} {vk : Int} {ir var : Nat} : Kept o (d.diagPhaseEnd a vk ir var) :=
  ofIte h (h.diagPhase.branch id (·.idled.completeRun))

theorem calibrated (h : Kept o d) {k : Nat} {step1 : Bool} {diff : Nat} {words : List Word} : Kept o (d.calibrated k step1 diff
    words) :=
  ofIte h h.calEnd.completeRun

theorem sarTake (h : Kept o d) {s i v : Nat} {pair : Bool} : Kept o (d.sarTake s i v pair) :=
  (h.sarStore.branch (·.cmdAnalog) id).branch (·.sbcFeedback) id

theorem sarResult (h : Kept o d) {s v : Nat} : Kept o (d.sarResult s v) := by
  unfold Dev.sarResult
  split
  · exact h.sarTake
  · exact h

theorem takeEnd (h : Kept o d) : Kept o d.takeEnd := by
  unfold Dev.takeEnd
  dsimp only
  split
  · exact h
  · split
    · exact h.blockEnd.pairEnd.writeDone
    · exact h.blockEnd.same

/-! ### Pins -/

theorem chain (h : Kept o d) {code : Nat} {cells levels : List Bool} : Kept o (d.chain code cells levels) := h.tapGo.tapMod

theorem extest (h : Kept o d) {cells levels : List Bool} : Kept o (d.extest cells levels) := ofIte h.chain h.tapBypass

theorem preload (h : Kept o d) {cells levels : List Bool} : Kept o (d.preload cells levels) := h.chain

/-! ### The tick -/

theorem driveTick (h : Kept o d) : Kept o d.driveTick := ofIte h.same h

theorem laneUse (h : Kept o d) : Kept o d.laneUse := h.hlt.tick1

theorem badFrames (h : Kept o d) : Kept o d.badFrames := (foldl (fun _ _ h => h.hlt) h).same

theorem corrections (h : Kept o d) : Kept o d.corrections := h.hlt.same

theorem tick (h : Kept o d) : Kept o d.tick :=
  ((h.same.driveTick.branch (·.laneUse) id).branch (·.badFrames) id).branch (·.corrections) id

end Kept

/-! ### Every row of the table -/

/-- The outcome of a row: a next state with the queue as it was, whose device keeps what `Kept` says; a row that does not act asleep
leaves a device that does not run. -/
def Answers (asleep : Bool) (s : State) (r : Host.Outcome State Fault Refusal) : Prop :=
  ∃ e, r = .next ⟨e, s.pending⟩ ∧ Kept s.dev e ∧ (s.dev.live = false → asleep = false → e = s.dev)

section

variable {s : State} {f : Dev → Dev} {r : Host.Outcome State Fault Refusal}

theorem Answers.run {b : Bool} (hr : r = s.run f) (h : Kept s.dev (f s.dev)) : Answers b s r := by
  subst hr
  cases hl : s.dev.live with
  | false => exact ⟨s.dev, State.run_still hl, .rfl, fun _ _ => rfl⟩
  | true => exact ⟨f s.dev, State.run_live hl, h, fun h => nomatch hl.symm.trans h⟩

theorem Answers.any (hr : r = s.runAny f) (h : Kept s.dev (f s.dev)) : Answers true s r := ⟨f s.dev, hr, h, fun _ h => nomatch h⟩

theorem Answers.tap (hr : r = s.runTap f) (h : Kept s.dev (f s.dev)) : Answers true s r := by
  subst hr
  unfold State.runTap
  split
  · exact ⟨f s.dev, rfl, h, fun _ h => nomatch h⟩
  · exact ⟨s.dev, rfl, .rfl, fun _ h => nomatch h⟩

end

/-- What each row of the table answers, by the operation that is its meaning. -/
theorem exec_answers (i : Instr) (s : State) : Answers (actsAsleep i) s (exec i s) := by
  have h : Kept s.dev s.dev := .rfl
  cases i with
  | powerOnResetEnd _ => exact .any (exec_powerOnResetEnd ..) h.porEnd
  | wakeRecognised => exact .any (exec_wakeRecognised ..) h.wakeUp
  | wakeFall => exact .any (exec_wakeFall ..) h.wakeFall
  | mainRailLoss _ => exact .any (exec_mainRailLoss ..) h.railLoss
  | vkaLoss => exact .any (exec_vkaLoss ..) h.vkaLoss
  | vkaReturn => exact .any (exec_vkaReturn ..) h.vkaReturn
  | nresetPulse _ _ => exact .any (exec_nresetPulse ..) h.nReset
  | sramClearEnd => exact .run (exec_sramClearEnd ..) h.clearEnd
  | clkinDetectEnd _ => exact .run (exec_clkinDetectEnd ..) h.clkinDetect
  | clockRomStepEnd _ _ _ => exact .run (exec_clockRomStepEnd ..) h.clockRomEnd
  | flashStartEnd _ _ _ => exact .run (exec_flashStartEnd ..) h.flashEnd
  | imageReadEnd _ _ _ _ => exact .run (exec_imageReadEnd ..) h.readEnd
  | verifyEnd _ => exact .run (exec_verifyEnd ..) h.verifyEnd
  | commitEnd _ => exact .run (exec_commitEnd ..) h.commitEnd
  | mandatoryBistEnd _ => exact .run (exec_mandatoryBistEnd ..) h.bootBist
  | islandsStepEnd => exact .run (exec_islandsStepEnd ..) h.islandsEnd
  | keyDerived => exact .run (exec_keyDerived ..) h.keyDerived
  | replyAgain _ => exact .run (exec_replyAgain ..) h.frame
  | identity _ => exact .run (exec_identity ..) h.frame
  | status _ => exact .run (exec_status ..) h.frame
  | heartbeat _ => exact .run (exec_heartbeat ..) h.frame
  | ringRead _ => exact .run (exec_ringRead ..) h.frame
  | memRead _ => exact .run (exec_memRead ..) h.frame
  | vitRead _ => exact .run (exec_vitRead ..) h.frame
  | regRead _ => exact .run (exec_regRead ..) h.frame
  | regWrite _ => exact .run (exec_regWrite ..) h.frame
  | memWrite _ => exact .run (exec_memWrite ..) h.frame
  | arm _ => exact .run (exec_arm ..) h.frame
  | disarm _ => exact .run (exec_disarm ..) h.frame
  | axisEnable _ => exact .run (exec_axisEnable ..) h.frame
  | axisDisable _ => exact .run (exec_axisDisable ..) h.frame
  | axisStop _ => exact .run (exec_axisStop ..) h.frame
  | setpoint _ => exact .run (exec_setpoint ..) h.frame
  | islDiag _ => exact .run (exec_islDiag ..) h.frame
  | sbcTest _ => exact .run (exec_sbcTest ..) h.frame
  | ownOffer _ => exact .run (exec_ownOffer ..) h.frame
  | ownTake _ => exact .run (exec_ownTake ..) h.frame
  | ownSeize _ => exact .run (exec_ownSeize ..) h.frame
  | fltClear _ => exact .run (exec_fltClear ..) h.frame
  | fltInj _ => exact .run (exec_fltInj ..) h.frame
  | thermMeasure _ => exact .run (exec_thermMeasure ..) h.frame
  | ceCapture _ => exact .run (exec_ceCapture ..) h.frame
  | ceMode _ => exact .run (exec_ceMode ..) h.frame
  | adcCal _ => exact .run (exec_adcCal ..) h.frame
  | serviceEnter _ => exact .run (exec_serviceEnter ..) h.frame
  | serviceExit _ => exact .run (exec_serviceExit ..) h.frame
  | bistRun _ => exact .run (exec_bistRun ..) h.frame
  | repairFuse _ => exact .run (exec_repairFuse ..) h.frame
  | imgWrite _ => exact .run (exec_imgWrite ..) h.frame
  | imgVerify _ => exact .run (exec_imgVerify ..) h.frame
  | imgSelect _ => exact .run (exec_imgSelect ..) h.frame
  | imgAccept _ => exact .run (exec_imgAccept ..) h.frame
  | imgReject _ => exact .run (exec_imgReject ..) h.frame
  | attest _ => exact .run (exec_attest ..) h.frame
  | docentLaneExecute => exact .run (exec_docentLaneExecute ..) h.laneExec
  | promiseMissed _ _ => exact .run (exec_promiseMissed ..) h.missed
  | heartbeatExpired _ => exact .run (exec_heartbeatExpired ..) h.hbExpired
  | ownOfferExpired _ => exact .run (exec_ownOfferExpired ..) h.offerExpired
  | selfReset => exact .run (exec_selfReset ..) h.selfReset
  | lossOfLock _ => exact .run (exec_lossOfLock ..) h.lossOfLock
  | pathRelock _ => exact .run (exec_pathRelock ..) h.pathRelock
  | clkReturn _ => exact .run (exec_clkReturn ..) h.hostWrite
  | clkStep _ _ => exact .run (exec_clkStep ..) h.hostWrite
  | phaseStep => exact .run (exec_phaseStep ..) h.phaseStep
  | clockMonitorWindow _ _ _ _ _ _ => exact .run (exec_clockMonitorWindow ..) h.clockWindow
  | delayLineCalLost => exact .run (exec_delayLineCalLost ..) h.dlcalLost
  | epochTick => exact .run (exec_epochTick ..) h.epochTick
  | syncOutPulseEnd => exact .run (exec_syncOutPulseEnd ..) h.syncOutEnd
  | syncInEdge _ => exact .run (exec_syncInEdge ..) h.syncInEdge
  | snap => exact .run (exec_snap ..) h.snap
  | syncInMissing => exact .run (exec_syncInMissing ..) h.syncMissing
  | periodBoundary _ => exact .run (exec_periodBoundary ..) h.periodBoundary
  | peakUpdate _ => exact .run (exec_peakUpdate ..) h.peakUpdate
  | pwmEdge _ _ _ => exact .run (exec_pwmEdge ..) (.ofIte (.ofIte h.pwmEdge h.probeEdge) h.chanEdge)
  | deadTimeEnd _ _ _ => exact .run (exec_deadTimeEnd ..) h.deadTimeEnd
  | tripInputChange _ _ _ => exact .run (exec_tripInputChange ..) h.tripInput
  | blankingEnd _ => exact .run (exec_blankingEnd ..) h.blankingEnd
  | tripLatchClear _ _ _ => exact .run (exec_tripLatchClear ..) (.ofIte h.hostWrite h)
  | sinkAction _ => exact .run (exec_sinkAction ..) h.sinkAction
  | channelBoundary _ => exact .run (exec_channelBoundary ..) h.channelBoundary
  | linkFrameReceived _ _ _ _ _ _ _ => exact .run (exec_linkFrameReceived ..) h.frameReceived
  | linkTimeout _ _ => exact .run (exec_linkTimeout ..) (.ofIte h.cdDeclare h.islDeclare)
  | giSafeStateApply _ => exact .run (exec_giSafeStateApply ..) h.giApply
  | cdConfirmOffAssumed _ => exact .run (exec_cdConfirmOffAssumed ..) h.assumeOff
  | retrainStart _ => exact .run (exec_retrainStart ..) h.retrainStart
  | retrainEnd _ _ => exact .run (exec_retrainEnd ..) h.retrainEnd
  | islandCommandWord _ _ => exact .run (exec_islandCommandWord ..) h.commandWord
  | statusWordReceived _ _ _ => exact .run (exec_statusWordReceived ..) h.statusWord
  | interlockRelease _ => exact .run (exec_interlockRelease ..) h.ilkRelease
  | vgsConfirm _ _ => exact .run (exec_vgsConfirm ..) h.vgsConfirm
  | segmentEnd _ _ => exact .run (exec_segmentEnd ..) h.segmentEnd
  | gateMonitorTimeout _ => exact .run (exec_gateMonitorTimeout ..) h.gateTimeout
  | scBlankEnd _ => exact .run (exec_scBlankEnd ..) h.scBlankEnd
  | shortDetected _ => exact .run (exec_shortDetected ..) h.shortDetected
  | ocDetected _ _ => exact .run (exec_ocDetected ..) h.ocDetected
  | islandSupplyCrossing _ _ _ => exact .run (exec_islandSupplyCrossing ..) h.supplyCross
  | honLimit _ => exact .run (exec_honLimit ..) h.refreshDue
  | diagPhaseEnd _ _ _ _ => exact .run (exec_diagPhaseEnd ..) h.diagPhaseEnd
  | supplyFault _ => exact .run (exec_supplyFault ..) h.supplyFault
  | vddIoLow => exact .any (exec_vddIoLow ..) h.vddIoLow
  | seqDelayEnd _ => exact .run (exec_seqDelayEnd ..) h.seqDelayEnd
  | seqWindowWaitExpiry _ => exact .run (exec_seqWindowWaitExpiry ..) h.seqWaitExpiry
  | conversionResult _ _ _ _ _ => exact .run (exec_conversionResult ..) h.conversion
  | calibrationEnd _ _ _ _ => exact .run (exec_calibrationEnd ..) h.calibrated
  | sequencerGo _ _ => exact .run (exec_sequencerGo ..) h.hostWrite
  | forceSlice _ _ => exact .run (exec_forceSlice ..) h.hostWrite
  | urgentRequest _ _ _ => exact .run (exec_urgentRequest ..) (.ofIte h.hostWrite h)
  | urgentArrival _ => exact .run (exec_urgentArrival ..) h.urgArrive
  | latestValueUpdate _ _ => exact .run (exec_latestValueUpdate ..) h.latUpdate
  | windowOpen _ _ => exact .run (exec_windowOpen ..) h.windowOpen
  | windowClose _ _ => exact .run (exec_windowClose ..) h.windowClose
  | windowResultReceived _ _ => exact .run (exec_windowResultReceived ..) h.windowReceived
  | sarResult _ _ => exact .run (exec_sarResult ..) h.sarResult
  | fieldStep _ => exact .run (exec_fieldStep ..) h.fieldStep
  | sectorChange _ => exact .run (exec_sectorChange ..) h.sectorChange
  | reacqTimeout _ => exact .run (exec_reacqTimeout ..) h.acqTimeout
  | hallEdge _ _ => exact .run (exec_hallEdge ..) h.hallEdgeAt
  | hallTimeout _ => exact .run (exec_hallTimeout ..) h.hallTimeout
  | lposRead _ => exact .run (exec_lposRead ..) h.lposRead
  | ceStepStart _ _ => exact .run (exec_ceStepStart ..) h.ceStepStart
  | ceCurrentSection _ _ => exact .run (exec_ceCurrentSection ..) h.currentSection
  | ceStepEnd _ _ _ _ => exact .run (exec_ceStepEnd ..) h.ceStepEnd
  | stepOverrun _ => exact .run (exec_stepOverrun ..) h.overrun
  | laneTimeout _ => exact .run (exec_laneTimeout ..) h.laneTimeout
  | cmdinEdge _ _ _ _ _ => exact .run (exec_cmdinEdge ..) h.cmdEdge
  | decoderLoss _ _ => exact .run (exec_decoderLoss ..) h.decoderLoss
  | paramBlockWrite _ _ _ => exact .run (exec_paramBlockWrite ..) h.hostWrite
  | paramBlockTakeEnd => exact .run (exec_paramBlockTakeEnd ..) h.takeEnd
  | injectionRun _ _ _ => exact .run (exec_injectionRun ..) (.ofIte h.hostWrite h)
  | auxCurrentTrip _ _ _ => exact .run (exec_auxCurrentTrip ..) h.currentTrip
  | auxOvercurrent _ _ => exact .run (exec_auxOvercurrent ..) h.auxOvercurrent
  | auxHonLimit _ _ => exact .run (exec_auxHonLimit ..) h.auxHon
  | auxBootstrapLow _ _ _ => exact .run (exec_auxBootstrapLow ..) h.auxBstLow
  | vauxUndervoltage _ => exact .run (exec_vauxUndervoltage ..) h.vauxLow
  | auxSwitchConfirmed _ _ => exact .run (exec_auxSwitchConfirmed ..) h.swConfirmed
  | holdDelayEnd _ => exact .run (exec_holdDelayEnd ..) h.holdDelay
  | auxTarget _ _ _ => exact .run (exec_auxTarget ..) (.ofIte h.hostWrite h)
  | home _ _ => exact .run (exec_home ..) (.ofIte h.hostWrite h)
  | auxDuty _ _ _ => exact .run (exec_auxDuty ..) (.ofIte h.hostWrite h)
  | dclEvaluation _ => exact .run (exec_dclEvaluation ..) h.dclUpdate
  | vdcStale _ => exact .run (exec_vdcStale ..) h.vdcTimeout
  | ov3Trip => exact .run (exec_ov3Trip ..) h.ov3Trip
  | ov3Release => exact .run (exec_ov3Release ..) h.ov3Release
  | ov3PlausibilityTimer => exact .run (exec_ov3PlausibilityTimer ..) h.ov3Plausible
  | bcsResult _ => exact .run (exec_bcsResult ..) h.bcsResult
  | noFallTimer _ => exact .run (exec_noFallTimer ..) h.noFallEnd
  | chopperMarkClear _ _ => exact .run (exec_chopperMarkClear ..) (.ofIte h.hostWrite h)
  | fallbackLevelCross _ _ => exact .run (exec_fallbackLevelCross ..) h.fallbackCross
  | dischargeGo _ => exact .run (exec_dischargeGo ..) h.hostWrite
  | dischargeStop _ => exact .run (exec_dischargeStop ..) h.hostWrite
  | dischargeProbeEnd => exact .run (exec_dischargeProbeEnd ..) h.probeEnd
  | dischargeTargetTimeout => exact .run (exec_dischargeTargetTimeout ..) h.targetTimeout
  | stoInputChange _ _ => exact .any (exec_stoInputChange ..) (.ofIte h.stoInput h.safeMod)
  | stoFilterExpiry _ => exact .run (exec_stoFilterExpiry ..) h.stoFilter
  | stoDiscrepancy => exact .run (exec_stoDiscrepancy ..) h.stoDisc
  | stoPathTestStart => exact .run (exec_stoPathTestStart ..) h.ptStart
  | stoPathTestPhaseEnd _ => exact .run (exec_stoPathTestPhaseEnd ..) h.ptPhase
  | stoTestOverdue => exact .run (exec_stoTestOverdue ..) h.stoOverdue
  | torqueMonitorEval _ => exact .run (exec_torqueMonitorEval ..) h.torqueEval
  | sbcRel _ _ => exact .run (exec_sbcRel ..) h.hostWrite
  | brakeApplySpeedReached => exact .run (exec_brakeApplySpeedReached ..) h.brakeSlow
  | sbcTestWaitExpiry => exact .run (exec_sbcTestWaitExpiry ..) h.sbcWaitEnd
  | sbcAutoTestStart => exact .run (exec_sbcAutoTestStart ..) h.sbcAuto
  | sbcTestOverdue => exact .run (exec_sbcTestOverdue ..) h.sbcOverdue
  | degTimeExpired => exact .run (exec_degTimeExpired ..) h.degExpired
  | safetyWatchdogExpiry _ => exact .run (exec_safetyWatchdogExpiry ..) h.connTimeout
  | faultReport _ _ _ => exact .run (exec_faultReport ..) h.faultReport
  | causeExpiry _ => exact .run (exec_causeExpiry ..) h.causeExpiry
  | reactionWindowEnd _ => exact .run (exec_reactionWindowEnd ..) h.windowEnd
  | compatRecoveryScan => exact .run (exec_compatRecoveryScan ..) h.compatScan
  | recoveryHourEnd => exact .run (exec_recoveryHourEnd ..) h.hourEnd
  | recovRst _ => exact .run (exec_recovRst ..) h.hostWrite
  | logclr _ => exact .run (exec_logclr ..) h.hostWrite
  | fltLookup _ _ => exact .run (exec_fltLookup ..) h.hostWrite
  | logEntryWritten _ => exact .run (exec_logEntryWritten ..) h.logWritten
  | injectionEnd => exact .run (exec_injectionEnd ..) h.injectionEnd
  | docentCheckIn => exact .run (exec_docentCheckIn ..) h.docentCheckIn
  | aliveHalfPeriod _ => exact .run (exec_aliveHalfPeriod ..) h.aliveHalf
  | docentStall => exact .run (exec_docentStall ..) h.docentStall
  | hltClr _ _ => exact .run (exec_hltClr ..) h.hostWrite
  | hltConfigWrite _ _ _ _ => exact .run (exec_hltConfigWrite ..) (.ofIte h.hostWrite h)
  | eventDelivery => exact .run (exec_eventDelivery ..) h.eventDelivery
  | canFrameReceived _ _ _ _ _ _ _ _ _ _ _ => exact .run (exec_canFrameReceived ..) h.canFrame
  | canFrameStart _ => exact .run (exec_canFrameStart ..) h.canStart
  | transmitComplete _ _ _ _ => exact .run (exec_transmitComplete ..) h.canSent
  | canError _ _ _ _ _ => exact .run (exec_canError ..) h.canError
  | integrationComplete _ => exact .run (exec_integrationComplete ..) h.canIntegrated
  | restrictedTimer _ => exact .run (exec_restrictedTimer ..) h.canTimer
  | restrictionProlonged _ => exact .run (exec_restrictionProlonged ..) h.canProlonged
  | busOffWaitEnd _ => exact .run (exec_busOffWaitEnd ..) h.canWaitEnd
  | recoveryComplete _ => exact .run (exec_recoveryComplete ..) h.canRecovered
  | bocntResetTimer _ => exact .run (exec_bocntResetTimer ..) h.canBoReset
  | canStop _ _ => exact .run (exec_canStop ..) (.ofIte h.hostWrite h)
  | canRecover _ _ => exact .run (exec_canRecover ..) (.ofIte h.hostWrite h)
  | txRequest _ _ _ => exact .run (exec_txRequest ..) (.ofIte h.hostWrite h)
  | txCancel _ _ _ => exact .run (exec_txCancel ..) (.ofIte h.hostWrite h)
  | objectHeaderRead _ _ _ => exact .run (exec_objectHeaderRead ..) h.hdrRead
  | objectTimeout _ _ => exact .run (exec_objectTimeout ..) h.objTimeout
  | tamperAlarm _ => exact .run (exec_tamperAlarm ..) h.tamper
  | secTamperClear _ _ => exact .run (exec_secTamperClear ..) h.hostWrite
  | provKeyhash _ => exact .tap (exec_provKeyhash ..) h.provHash
  | provPolicy _ => exact .tap (exec_provPolicy ..) h.provPolicy
  | provIdent _ _ => exact .tap (exec_provIdent ..) h.provIdent
  | provLock => exact .tap (exec_provLock ..) h.provLock
  | extest _ _ => exact .tap (exec_extest ..) h.extest
  | samplePreload _ _ => exact .tap (exec_samplePreload ..) h.preload
  | idcode _ => exact .tap (exec_idcode ..) h.idcode
  | clamp => exact .tap (exec_clamp ..) h.pinHold
  | highz => exact .tap (exec_highz ..) h.pinHold
  | bypass => exact .tap (exec_bypass ..) h.tapBypass
  | scan => exact .tap (exec_scan ..) h.scan
  | dbgChal _ _ => exact .tap (exec_dbgChal ..) h.dbgChal
  | dbgResp _ _ => exact .tap (exec_dbgResp ..) h.dbgResp
  | dbgRespVerified => exact .run (exec_dbgRespVerified ..) h.dbgVerified
  | dbgAccess _ _ _ => exact .tap (exec_dbgAccess ..) h.dbgAccess
  | bistUnitComplete _ => exact .run (exec_bistUnitComplete ..) h.bistUnitEnd
  | repairProgramEnd _ _ => exact .run (exec_repairProgramEnd ..) h.fuseEnd
  | attestSignatureComplete => exact .run (exec_attestSignatureComplete ..) h.attSigned
  | sensorDemand _ => exact .run (exec_sensorDemand ..) h.sensorDemand
  | sensorConversionEnd _ _ => exact .run (exec_sensorConversionEnd ..) h.sensorEnd
  | throttleInterval _ => exact .run (exec_throttleInterval ..) h.throttleTimer
  | preserveTurnStart => exact .run (exec_preserveTurnStart ..) h.turnStart
  | preserveProgramEnd _ _ => exact .any (exec_preserveProgramEnd ..) h.programEnds
  | registerWrite _ _ _ => exact .run (exec_registerWrite ..) h.hostWrite
  | unknownOpcodeFrame _ _ => exact .run (exec_unknownOpcodeFrame ..) h.frame
  | imgWriteEnd _ => exact .run (exec_imgWriteEnd ..) h.imgWritten
  | imgVerifyEnd _ _ _ _ _ _ => exact .run (exec_imgVerifyEnd ..) h.imgVerified
  | switchRawTransition _ _ _ => exact .run (exec_switchRawTransition ..) h.swRaw
  | supplyReturn _ => exact .any (exec_supplyReturn ..) h.supplyReturn
  | vauxReturn _ => exact .run (exec_vauxReturn ..) h.vauxBack
  | auxBootstrapRelease _ _ _ => exact .run (exec_auxBootstrapRelease ..) h.auxBstRelease
  | delayLineCalReturn => exact .run (exec_delayLineCalReturn ..) h.dlcalReturn
  | sbcSettleEnd => exact .run (exec_sbcSettleEnd ..) h.sbcSettle

/-- A step keeps what `Kept` says, on an empty queue too. -/
theorem step_kept {s t : State} (h : step s = .next t) : Kept s.dev t.dev := by
  unfold step at h
  split at h
  next hp =>
    obtain ⟨e, he, hk, -⟩ : Answers true s (s.run Dev.tick) := .run rfl (.tick .rfl)
    rw [he] at h
    cases h
    exact hk
  next c rest hp =>
    obtain ⟨e, he, hk, -⟩ := exec_answers c { s with pending := rest }
    rw [he] at h
    cases h
    exact hk

/-- Settles O5: whatever is commanded, the stores stay canonical, and the interlock sends a turn-on only while the other switch of the
half-bridge is not sent. -/
theorem everyStepKeepsSound : Obligations.EveryStepKeepsSound := fun _ _ hs h => (step_kept h).sound hs

/-- Settles O7: no operation of the device takes a fuse back. -/
theorem everyStepKeepsTheFuses : Obligations.EveryStepKeepsTheFuses := fun _ _ h => (step_kept h).fuses

/-- Settles O2, by what each row answers. -/
theorem everyCommandAnswersANextState : Obligations.EveryCommandAnswersANextState := by
  intro i s
  obtain ⟨e, he, -, hq⟩ := exec_answers i s
  exact ⟨e, he, hq⟩

end Sys2Proof.Machine

/-! ## Steps, reset, stores -/

namespace Sys2Proof.Machine

set_option Elab.async false

/-! ### Operations that write registers only -/

/-- From `d` to `e` nothing but the registers changes. -/
def RegsOnly (d e : Dev) : Prop := ∃ r, e = { d with regs := r }

namespace RegsOnly

variable {c d e : Dev}

theorem rfl : RegsOnly d d := ⟨d.regs, .refl _⟩

theorem rset (h : RegsOnly c d) {a : Nat} {v : Word} : RegsOnly c (d.rset a v) := by
  obtain ⟨r, hr⟩ := h
  subst hr
  exact ⟨_, .refl _⟩

theorem wf (h : RegsOnly c d) {a lo w x : Nat} : RegsOnly c (d.wf a lo w x) := h.rset
theorem rmod (h : RegsOnly c d) {a : Nat} {f : Word → Word} : RegsOnly c (d.rmod a f) := h.rset
theorem count32 (h : RegsOnly c d) {a : Nat} : RegsOnly c (d.count32 a) := h.rset
theorem hltTake (h : RegsOnly c d) {m : Nat} {x : Int} : RegsOnly c (d.hltTake m x) := h.count32.rset.rmod.rmod.count32

theorem foldl {α : Type} {f : Dev → α → Dev} {l : List α} (hf : ∀ e x, RegsOnly c e → RegsOnly c (f e x)) (h : RegsOnly c d) :
    RegsOnly c (l.foldl f d) := by
  induction l generalizing d with
  | nil => exact h
  | cons x l ih => exact ih (hf d x h)

theorem ofIte {p : Prop} [Decidable p] (h : RegsOnly c d) (k : RegsOnly c e) : RegsOnly c (if p then d else e) := by
  split <;> assumption

theorem hlt (h : RegsOnly c d) {src idx : Nat} {x : Int} : RegsOnly c (d.hlt src idx x) :=
  foldl (fun _ _ h => ofIte h.hltTake h) h

end RegsOnly

/-! ### The tick -/

/-- What the health monitors take with a tick is kept in their registers, the free counter and the counts of the Registrar. -/
structure MonitorsOnly (d e : Dev) : Prop where
  now : e.now = d.now
  regs0 : e.regs0 = d.regs0
  written : e.written = d.written
  sram : e.sram = d.sram
  sw : e.sw = d.sw
  ax : e.ax = d.ax
  hosts : e.hosts = d.hosts
  prs : e.prs = d.prs
  sec : e.sec = d.sec
  flt : e.flt = d.flt
  safe : e.safe = d.safe

namespace MonitorsOnly

variable {c d e : Dev}

theorem rfl : MonitorsOnly d d := ⟨.refl _, .refl _, .refl _, .refl _, .refl _, .refl _, .refl _, .refl _, .refl _, .refl _, .refl _⟩

theorem hlt (h : MonitorsOnly c d) (src idx : Nat) (x : Int) : MonitorsOnly c (d.hlt src idx x) := by
  obtain ⟨r, hr⟩ := (RegsOnly.rfl (d := d)).hlt (src := src) (idx := idx) (x := x)
  rw [hr]
  exact ⟨h.now, h.regs0, h.written, h.sram, h.sw, h.ax, h.hosts, h.prs, h.sec, h.flt, h.safe⟩

/-- A change of the free counter or of what the Registrar holds. -/
theorem other (h : MonitorsOnly c d) {n : Nat} {g : Rgr} : MonitorsOnly c { d with freeCtr := n, rgr := g } :=
  ⟨h.now, h.regs0, h.written, h.sram, h.sw, h.ax, h.hosts, h.prs, h.sec, h.flt, h.safe⟩

theorem ofIte {p : Prop} [Decidable p] (h : MonitorsOnly c d) (k : MonitorsOnly c e) : MonitorsOnly c (if p then d else e) := by
  split <;> assumption

theorem laneUse (h : MonitorsOnly c d) : MonitorsOnly c d.laneUse := (h.hlt 0x03 0 ((d.free 0x300 % 101 : Nat) : Int)).other

theorem badFrames (h : MonitorsOnly c d) : MonitorsOnly c d.badFrames := by
  have all : ∀ l : List Nat, ∀ e, MonitorsOnly c e →
      MonitorsOnly c (l.foldl (fun e i => e.hlt 0x09 i ((tget d.rgr.badMs i : Nat) : Int)) e) := by
    intro l
    induction l with
    | nil => exact fun _ h => h
    | cons i l ih => exact fun e h => ih _ (h.hlt ..)
  exact (all (List.range 14) d h).other

theorem corrections (h : MonitorsOnly c d) : MonitorsOnly c d.corrections := (h.hlt 0x0E 0 (d.rgr.eccSec : Int)).other

end MonitorsOnly

/-- A tick: the time, the registers as they now stand and drive time, then what the monitors take. -/
theorem Dev.tick_monitors (d : Dev) :
    MonitorsOnly ({ d with now := d.now + 1, regs0 := d.regs, written := [], hwSet := [] } : Dev).driveTick d.tick := by
  unfold Dev.tick
  extract_lets c e f
  have he : MonitorsOnly c e := .ofIte (.laneUse .rfl) .rfl
  have hf : MonitorsOnly c f := .ofIte he.badFrames he
  exact .ofIte hf.corrections hf

theorem Dev.driveTick_eq (d : Dev) : d.driveTick = { d with safe :=
    if d.dstate = .run ∨ d.dstate = .degraded then { d.safe with stoT := d.safe.stoT + 1, sbcT := d.safe.sbcT + 1 } else d.safe } := by
  unfold Dev.driveTick
  split <;> rfl

/-- Settles O1: the front command runs; on an empty queue a running device ticks, and a sleeping one stays. -/
theorem stepRunsTheFrontCommand : Obligations.StepRunsTheFrontCommand := by
  refine ⟨?front, ?asleep, ?tick⟩
  case front =>
    intro c rest s hp
    simp only [step, hp]
  case asleep =>
    intro s hp hl
    simp only [step, hp]
    exact State.run_still hl
  case tick =>
    intro s hp hl
    have h := s.dev.tick_monitors
    rw [Dev.driveTick_eq] at h
    refine ⟨s.dev.tick, ?_, h.now, h.regs0, h.written, h.sram, h.sw, h.ax, h.hosts, h.prs, h.sec, h.flt, ?_, ?_⟩
    · simp only [step, hp]
      rw [State.run_live hl, hp]
    · intro hs
      rw [h.safe]
      exact if_pos hs
    · intro h1 h2
      rw [h.safe]
      exact if_neg (by simp [h1, h2])

/-! ### Reset -/

theorem Dev.occIf_eq (d : Dev) (c : Bool) (code src : Nat) : ∃ f, d.occIf c code src = { d with flt := f } := by
  cases c with
  | false => exact ⟨d.flt, rfl⟩
  | true => exact ⟨_, rfl⟩

/-- A program of a word changes the preserve array, and reports. -/
theorem Dev.setWear_eq (d : Dev) (w n : Nat) : ∃ p f, d.setWear w n = { d with prs := p, flt := f } := by
  unfold Dev.setWear
  extract_lets n' old e
  obtain ⟨f, hf⟩ := e.occIf_eq (decide (old < wearWarn) && decide (wearWarn ≤ n')) 0x1101 0
  exact ⟨e.prs, f, hf⟩

theorem Dev.ownWord_eq (d : Dev) (w : Nat) (v : Word) : ∃ p f, d.ownWord w v = { d with prs := p, flt := f } := by
  unfold Dev.ownWord
  split
  · exact ⟨d.prs, d.flt, rfl⟩
  · obtain ⟨p, f, hf⟩ := d.setWear_eq w (d.wear w + d.wearUnit)
    unfold Dev.program
    rw [hf]
    exact ⟨_, f, rfl⟩

/-- The Registrar's own words are no registers, no state and no time. -/
theorem Dev.registrarBoot_eq (d : Dev) : ∃ p f g, d.registrarBoot = { d with prs := p, flt := f, rgr := g } := by
  unfold Dev.registrarBoot
  extract_lets n seq r e w
  obtain ⟨p, f, hf⟩ := e.ownWord_eq 0x3F0 (fset w 16 16 (fget w 16 16 + 1))
  exact ⟨p, f, e.rgr, hf⟩

theorem Dev.enterBoot_keeps (d : Dev) (c : BootCause) : (d.enterBoot c).dstate = .boot ∧ (d.enterBoot c).now = 0 ∧
    (d.enterBoot c).boot.cause = c ∧ (d.enterBoot c).regs = Dev.blank.regs := by
  unfold Dev.enterBoot
  dsimp only
  obtain ⟨p, f, g, h⟩ := Dev.registrarBoot_eq { d.cleared with
    now := 0
    dstate := .boot
    pins := { d.cleared.pins with nPorOut := true }
    power := { d.cleared.power with wake := false }
    boot := { d.cleared.boot with cause := c } }
  rw [h]
  exact ⟨rfl, rfl, rfl, rfl⟩

/-- Settles O3, by evaluation of the state after reset; every entry to BOOT clears the registers. -/
theorem resetLeavesTheReset : Obligations.ResetLeavesTheReset := by
  have sent : ∀ n < 28, (State.reset.dev.swi n).cdSent = false ∧ (State.reset.dev.swi n).islOff = true := by decide
  have wear : ∀ w, State.reset.dev.wear w = if w = 0x3F0 then 4 else 0 := by
    intro w
    by_cases hw : w = 0x3F0
    · subst hw
      rfl
    · simp [Dev.wear, State.reset, aget, hw, Ne.symm hw]
  refine ⟨rfl, rfl, rfl, fun _ => rfl, by decide, fun _ => rfl, rfl, rfl, rfl, sent, by decide, rfl, wear, fun e c => ?_⟩
  obtain ⟨h1, h2, h3, h4⟩ := e.enterBoot_keeps c
  exact ⟨h1, h2, h3, fun a => by rw [Dev.rget, h4]; rfl⟩

/-- Settles O6, by evaluation of the state after reset. -/
theorem resetIsSound : Obligations.ResetIsSound := by
  unfold Obligations.ResetIsSound
  decide

/-! ### Stores -/

/-- Settles O4, by what each store reads back. -/
theorem storesReadBack : Obligations.StoresReadBack := by
  intro d hd
  have hr := Dev.regs_canon hd
  have hm : Memory.wf d.sram = true := by
    simp only [Dev.tablesOk, Bool.and_eq_true] at hd
    exact hd.1.1.2
  have self : Kept d d := .rfl
  refine ⟨fun a v b => ⟨rget_rset hr a v b, self.rset.tablesOk hd⟩, fun a lo w x h => ⟨rf_wf_same hr a x h, self.wf.tablesOk hd, ?_⟩,
    fun a b c => ⟨mget_mset hm a b c, self.mset.tablesOk hd⟩,
    fun a bs => ⟨mread_mwrite bs hm a, self.mwrite.tablesOk hd, fun c hc => mget_mwrite_outside bs hm a c hc⟩⟩
  intro lo' w' _ hdis
  exact rf_wf_disjoint hr a x h hdis.symm

end Sys2Proof.Machine

/-! ## Clocks and synchronisation -/

namespace Sys2Proof.Machine

set_option Elab.async false

/-! ### Paths -/

theorem Dev.onIlo_iff (d : Dev) : d.onIlo = true ↔ d.rf Reg.CLK_STATUS 1 2 ≠ 0 := by simp [Dev.onIlo]

/-- The path that feeds the tree, as a number. -/
theorem Dev.feeding_eq (d : Dev) : (if d.onIlo then 1 else 0) = if d.rf Reg.CLK_STATUS 1 2 = 0 then 0 else 1 := by
  by_cases h : d.rf Reg.CLK_STATUS 1 2 = 0 <;> simp [Dev.onIlo, h]

/-- Settles O23: the branches of `Dev.lossOfLock`, by the path that feeds and the lock of the other one. -/
theorem clockPathLossAndRelock : Obligations.ClockPathLossAndRelock := by
  intro s p hl hp
  extract_lets d feeds moved u
  have loss : exec (.lossOfLock p) s = .next ⟨if p = feeds then (if d.pathLock (1 - p) then d.switchOver (1 - p) else
      d.wf Reg.CLK_STATUS 1 2 2) else d, s.pending⟩ := by
    rw [exec_lossOfLock, State.run_live hl]
    unfold Dev.lossOfLock
    dsimp only
    rw [Dev.feeding_eq]
  have lock : d.pathLock (1 - p) = d.rb Reg.CLK_STATUS (4 - p) := by
    obtain rfl | rfl : p = 0 ∨ p = 1 := by omega
    · rfl
    · rfl
  rw [lock] at loss
  refine ⟨fun h => ?_, fun h hk => ?_, fun h hk h0 => ?_, fun h hk h1 => ?_, ?_⟩
  · rw [loss, if_neg h]
  · rw [loss, if_pos h, hk]; rfl
  · rw [loss, if_pos h, if_pos hk, h0]; rfl
  · rw [loss, if_pos h, if_pos hk, h1]; rfl
  · rw [exec_pathRelock, State.run_live hl]; rfl

theorem toSigned8_range (n : Nat) : -128 ≤ toSigned 8 n ∧ toSigned 8 n ≤ 127 := by
  unfold toSigned
  split <;> omega

/-- Settles O27: the branches of `Dev.alignEdge`. -/
theorem alignActsOnCapture : Obligations.AlignActsOnCapture := by
  intro d e
  have range : -128 ≤ d.pend ∧ d.pend ≤ 127 := toSigned8_range _
  refine ⟨fun h1 h2 => ?_, fun h1 h2 => ?_, fun h1 h2 h3 h4 => ?_, fun h1 h2 h3 h4 => ?_, fun h1 h2 h3 => ?_⟩
  · rw [Dev.alignEdge, if_pos ⟨h1, h2⟩]
  · rw [Dev.alignEdge, if_neg h1, if_pos h2]
  · rw [Dev.alignEdge, if_neg h1, if_neg (by omega), if_pos ⟨d.onIlo_iff.2 h3, by omega⟩, if_pos h4]
    have fits : clampInt (-128) 127 (d.pend + 1) = min 127 (d.pend + 1) := by unfold clampInt; omega
    rw [fits]
    rfl
  · rw [Dev.alignEdge, if_neg h1, if_neg (by omega), if_pos ⟨d.onIlo_iff.2 h3, by omega⟩, if_neg (by omega)]
    have fits : clampInt (-128) 127 (d.pend + -1) = max (-128) (d.pend - 1) := by unfold clampInt; omega
    rw [fits]
    rfl
  · rw [Dev.alignEdge, if_neg h1, if_neg (by omega), if_neg]
    rw [d.onIlo_iff]
    tauto

end Sys2Proof.Machine

/-! ## The reference, the epoch and their windows -/

namespace Sys2Proof.Machine

set_option Elab.async false

/-- A frequency of the table of R121, with its factor, to which the count is near is the one that is found. -/
theorem multOf_of_near {n f m : Nat}
    (hx : (f, m) ∈ [(1000, 40), (1250, 32), (1600, 25), (2000, 20), (2500, 16), (4000, 10), (5000, 8)])
    (h : 92 * f ≤ 100 * n ∧ 100 * n ≤ 108 * f) : multOf n = some m := by
  simp only [List.mem_cons, Prod.mk.injEq, List.not_mem_nil, or_false] at hx
  rcases hx with ⟨rfl, rfl⟩ | ⟨rfl, rfl⟩ | ⟨rfl, rfl⟩ | ⟨rfl, rfl⟩ | ⟨rfl, rfl⟩ | ⟨rfl, rfl⟩ | ⟨rfl, rfl⟩ <;>
    grind [multOf]

theorem multOf_of_not_near {n : Nat}
    (h : ∀ x ∈ [(1000, 40), (1250, 32), (1600, 25), (2000, 20), (2500, 16), (4000, 10), (5000, 8)],
      ¬(92 * x.1 ≤ 100 * n ∧ 100 * n ≤ 108 * x.1)) : multOf n = none := by
  simp only [List.forall_mem_cons, List.not_mem_nil] at h
  obtain ⟨h1, h2, h3, h4, h5, h6, h7, -⟩ := h
  unfold multOf
  dsimp only
  rw [if_neg h1, if_neg h2, if_neg h3, if_neg h4, if_neg h5, if_neg h6, if_neg h7]
  rfl

/-- Settles O25: the table of R121 by `multOf_of_near`, the windows and the calibration as their operations are defined. -/
theorem clockChoiceWindowsAndCalibration : Obligations.ClockChoiceWindowsAndCalibration := by
  intro s n ctrl pwm mgmt can ref watch hl
  extract_lets d near table out w m lost
  have found : exec (.clkinDetectEnd n) s = .next { s with dev := d.clkinDetect n } := by
    rw [exec_clkinDetectEnd, State.run_live hl]
  refine ⟨fun h => ?_, fun h x hx hn => ?_, fun h hn => ?_, ?_, ?_, ?_, fun e => ⟨fun h x => ?_, fun h x => ?_⟩⟩
  · rw [found, Dev.clkinDetect, if_pos h]
  · rw [found, Dev.clkinDetect, if_neg (not_not.2 h), multOf_of_near hx hn]
  · rw [found, Dev.clkinDetect, if_neg (not_not.2 h), multOf_of_not_near hn]
  · have same : ∀ c e, outOfWindow c e = out c e := fun c e => by simp [outOfWindow, out]
    rw [exec_clockMonitorWindow, State.run_live hl]
    unfold Dev.clockWindow
    simp only [same]
    rfl
  · rw [exec_delayLineCalLost, State.run_live hl]; rfl
  · rw [exec_delayLineCalReturn, State.run_live hl]; rfl
  · simp [Dev.edgeCmp, h]
  · simp [Dev.edgeCmp, h]

theorem Dev.snapDue_iff (d : Dev) : d.snapDue = true ↔ ∀ t, d.clk.lastEdge = some t → t + 40 ≤ d.now := by
  unfold Dev.snapDue
  split <;> simp_all

theorem Dev.epochWraps_iff (d : Dev) :
    ((tget d.pwm 0).running && decide ((d.rf Reg.CLK_TBPER 0 24 : Int) ≤ d.epochCount)) = true ↔
      (tget d.pwm 0).running = true ∧ (d.rf Reg.CLK_TBPER 0 24 : Int) ≤ (d.now : Int) - d.clk.epochAt := by
  rw [Bool.and_eq_true, decide_eq_true_iff]
  rfl

/-- Settles O26: the branches of the operations of the epoch counter and of `SYNC_IN`. -/
theorem epochAndSynchronisation : Obligations.EpochAndSynchronisation := by
  intro s ph hl hph d m r0 r ok c c' g
  have edge : exec (.syncInEdge ph) s = .next { s with dev := d.syncInEdge ph } := by
    rw [exec_syncInEdge, State.run_live hl]
  have snap : exec .snap s = .next { s with dev := d.snap } := by rw [exec_snap, State.run_live hl]
  have tick : exec .epochTick s = .next { s with dev := d.epochTick } := by rw [exec_epochTick, State.run_live hl]
  have pulse : exec .syncOutPulseEnd s = .next { s with dev := d.syncOutEnd } := by
    rw [exec_syncOutPulseEnd, State.run_live hl]
  have gap : exec .syncInMissing s = .next { s with dev := d.syncMissing } := by
    rw [exec_syncInMissing, State.run_live hl]
  have judged (h0 : d.rf Reg.CLK_CFG 16 3 ≠ 0) (hr : (tget d.pwm 0).running = true) :
      d.syncInEdge ph = if c'.rf Reg.CLK_CFG 16 3 = 2 then (if ok then g.alignEdge (r - g.rfs Reg.CLK_SYNCOFS 0 16) else g)
        else c' := by
    unfold Dev.syncInEdge
    rw [if_neg (by simp [Dev.syncMode, h0, hr])]
    rfl
  refine ⟨?_, fun h => ?_, fun h => ?_, fun h => ?_, fun h0 hr h2 => ?_, fun h0 hr h2 => ?_, fun h => ?_,
    fun n hn ht => ?_, ?_⟩
  · intro wraps clk pins
    refine ⟨fun h => ?_, fun h => ?_⟩
    · rw [tick, Dev.epochTick, if_pos (d.epochWraps_iff.2 h)]
    · rw [tick, Dev.epochTick, if_neg (d.epochWraps_iff.not.2 h)]
  · rw [pulse, Dev.syncOutEnd, if_pos h]
  · rw [pulse, Dev.syncOutEnd, if_neg (by omega)]
  · rw [edge, Dev.syncInEdge, if_pos (by simpa [Dev.syncMode] using h)]
  · rw [edge, judged h0 hr, if_neg h2]
  · rw [edge, judged h0 hr, if_pos h2]
  · rw [snap]
    obtain h | ⟨t, ht, hlt⟩ := h
    · rw [Dev.snap, h]
    · have early : d.snapDue = false := by simp [Dev.snapDue, ht, hlt]
      unfold Dev.snap
      split
      · rfl
      · rw [if_pos (by simp [early])]
  · intro base k from' lastB pwm
    rw [snap]
    unfold Dev.snap
    rw [hn]
    dsimp only
    rw [(d.snapDue_iff).2 ht]
    rfl
  · intro missing
    refine ⟨fun h => ?_, fun h => ?_⟩
    · obtain ⟨h2, t, ht, hle⟩ := h
      rw [gap, Dev.syncMissing, ht]
      dsimp only
      rw [if_pos ⟨h2, hle⟩]
    · rw [gap, Dev.syncMissing]
      split
      · next t ht => rw [if_neg fun hh => h ⟨hh.1, t, ht, hh.2⟩]
      · rfl

end Sys2Proof.Machine

/-! ## Writes of registers by a row of their own -/

namespace Sys2Proof.Machine

set_option Elab.async false

variable {d u : Dev} {h a st : Nat} {v : Word} {r : RegRow} {c : Access}

theorem Dev.hostWrite_eq (hh : h < 4) (d : Dev) (a : Nat) (v : Word) :
    d.hostWrite h a v = { (d.writeReg h a v).1 with wstat := (d.writeReg h a v).2 } := by
  rw [Dev.hostWrite, if_pos hh]

/-! ### The outcome before the effect -/

theorem Dev.writeReg_of_no_row (hr : rowAt a = none) : d.writeReg h a v = (d, stRange) := by
  simp [Dev.writeReg, Dev.mayWrite, hr]

theorem Dev.writeReg_of_barred (hr : rowAt a = some r) (hm : d.mayWrite h a = false) : d.writeReg h a v = (d, stPriv) := by
  simp [Dev.writeReg, hm, hr]

theorem Dev.writeReg_of_refused (hm : d.mayWrite h a = true) (hj : d.judgeWrite a v = .inl st) : d.writeReg h a v = (d, st) := by
  simp [Dev.writeReg, hm, hj]

theorem Dev.judgeWrite_of_ro (hr : rowAt a = some r) (hro : r.access = .ro) : d.judgeWrite a v = .inl stOk := by
  simp [Dev.judgeWrite, hr, hro]

/-- What a write meets before its value is judged (R4, R85, R419, R146). -/
structure Dev.Admits (d : Dev) (a : Nat) (r : RegRow) : Prop where
  row : rowAt a = some r
  notRo : r.access ≠ .ro
  locked : d.locked a r = false
  isolated : d.isolated a = false
  staged : r.access = .rws → d.staged? a = true

theorem Dev.judgeWrite_of_state (hr : rowAt a = some r) (hro : r.access ≠ .ro)
    (h : d.locked a r = true ∨ d.isolated a = true ∨ (r.access = .rws ∧ d.staged? a = false)) :
    d.judgeWrite a v = .inl stState := by
  have barred : (d.locked a r || d.isolated a || (r.access == .rws && !d.staged? a)) = true := by
    rcases h with h | h | ⟨h1, h2⟩ <;> simp [*]
  simp only [Dev.judgeWrite, hr, if_neg hro, if_pos barred]

theorem Dev.judgeWrite_of_admits (hr : d.Admits a r) :
    d.judgeWrite a v = if r.access ≠ .prs ∧ !d.valueOk a r v then .inl stRange else .inr r := by
  have free : (d.locked a r || d.isolated a || (r.access == .rws && !d.staged? a)) = false := by
    have staged := hr.staged
    simp only [hr.locked, hr.isolated, Bool.false_or, Bool.and_eq_false_iff, beq_eq_false_iff_ne, Bool.not_eq_false']
    tauto
  simp only [Dev.judgeWrite, hr.row, if_neg hr.notRo, free, Bool.false_eq_true, if_false]

theorem Dev.judgeWrite_of_valueOk (hr : d.Admits a r) (hv : d.valueOk a r v = true) : d.judgeWrite a v = .inr r := by
  rw [Dev.judgeWrite_of_admits hr, if_neg (by simp [hv])]

/-! ### The effect -/

theorem Dev.writeReg_of_prs (hm : d.mayWrite h a = true) (hr : d.Admits a r) (hc : r.access = .prs) :
    d.writeReg h a v = if ownWordRange ((a - Reg.PRES_W 0) / 4) then (d, stOk)
      else (d.laneAdmit [] ((a - Reg.PRES_W 0) / 4) v (d.now + 50 * msTicks), stOk) := by
  simp [Dev.writeReg, hm, Dev.judgeWrite_of_admits hr, hc]

theorem Dev.writeReg_of_rws (hm : d.mayWrite h a = true) (hj : d.judgeWrite a v = .inr r) (hc : r.access = .rws) :
    d.writeReg h a v = (d.portPut h a v, stOk) := by
  simp [Dev.writeReg, hm, hj, hc]

theorem Dev.writeReg_at_once (hm : d.mayWrite h a = true) (hj : d.judgeWrite a v = .inr r) (hprs : r.access ≠ .prs)
    (hrws : r.access ≠ .rws) : d.writeReg h a v = (d.writeOwn h a v).getD (d.writePlain a r v, stOk) := by
  rw [Dev.writeReg, if_neg (by simp [hm]), hj]
  cases hc : r.access <;> simp_all

/-- Settles O19: `Dev.judgeWrite` decides in the order of the rule, and the access code decides what follows. -/
theorem registerWritesAreJudged : Obligations.RegisterWritesAreJudged := by
  intro s h a v hl hh d ends
  have done {u : Dev} {st : Nat} (hw : d.writeReg h a v = (u, st)) : ends u st := by
    simp only [ends]
    rw [exec_registerWrite, State.run_live hl, Dev.hostWrite_eq hh, hw]
  refine ⟨fun hr => done (Dev.writeReg_of_no_row hr), fun r hr hm => done (Dev.writeReg_of_barred hr hm), fun r hr hm =>
    ⟨fun hro => done (Dev.writeReg_of_refused hm (Dev.judgeWrite_of_ro hr hro)),
      fun hro hst => done (Dev.writeReg_of_refused hm (Dev.judgeWrite_of_state hr hro hst)), fun hro hlk hiso hstg => ?_⟩⟩
  have adm : d.Admits a r := ⟨hr, hro, hlk, hiso, hstg⟩
  have once (hv : d.valueOk a r v = true) (hprs : r.access ≠ .prs) (hrws : r.access ≠ .rws) :=
    Dev.writeReg_at_once (h := h) hm (Dev.judgeWrite_of_valueOk adm hv) hprs hrws
  refine ⟨fun hp hv => ?_, fun hp ho => ?_, fun hp ho => ?_, fun hc hv => ?_, fun hp hs hv u st ho => ?_, fun hc hv ho => ?_,
    fun hc hv ho => ?_, fun hc hv ho => ?_⟩
  · exact done (Dev.writeReg_of_refused hm (by rw [Dev.judgeWrite_of_admits adm, if_pos ⟨hp, by simp [hv]⟩]))
  · exact done (by rw [Dev.writeReg_of_prs hm adm hp, if_pos ho])
  · exact done (by rw [Dev.writeReg_of_prs hm adm hp, if_neg (by simp [ho])])
  · exact done (Dev.writeReg_of_rws hm (Dev.judgeWrite_of_valueOk adm hv) hc)
  · exact done (by rw [once hv hp hs, ho, Option.getD_some])
  · exact done (by rw [once hv (by simp [hc]) (by simp [hc]), ho, Option.getD_none, Dev.writePlain, hc])
  · exact done (by rw [once hv (by simp [hc]) (by simp [hc]), ho, Option.getD_none, Dev.writePlain, hc])
  · refine done ?_
    rcases hc with hc | hc <;> rw [once hv (by simp [hc]) (by simp [hc]), ho, Option.getD_none, Dev.writePlain, hc]

/-! ### Rows that no image and no table limits -/

/-- The register has access code `c`; no image loads it and no field of it is limited. -/
def freeRow (a : Nat) (c : Access) : Bool :=
  match rowAt a with
  | some r => r.access == c && !r.image && r.lims.isEmpty
  | none => false

theorem freeRow_iff : freeRow a c = true ↔ ∃ r, rowAt a = some r ∧ r.access = c ∧ r.image = false ∧ r.lims = [] := by
  unfold freeRow
  cases rowAt a <;> simp [and_assoc]

/-- Codes whose writes act at once (R4). -/
def Access.immediate : Access → Bool
  | .rw | .w1c | .wo => true
  | _ => false

/-- A write to such a register, by a host that may write it. -/
theorem Dev.judgeWrite_of_free (hf : freeRow a c = true) (hc : c.immediate = true) (hi : d.isolated a = false)
    (hb : aget d.img.bounds a = none) : ∃ r, rowAt a = some r ∧ r.access = c ∧ d.judgeWrite a v =
      if d.ruleOk (d.rset a (v &&& BitVec.ofNat 32 r.wmask)) a v then .inr r else .inl stRange := by
  obtain ⟨r, hr, rfl, himg, hlims⟩ := freeRow_iff.1 hf
  have adm : d.Admits a r := by
    refine ⟨hr, ?_, ?_, hi, ?_⟩ <;> cases hacc : r.access <;> simp_all [Access.immediate, Dev.locked]
  have hprs : r.access ≠ .prs := by cases hacc : r.access <;> simp_all [Access.immediate]
  refine ⟨r, hr, rfl, ?_⟩
  rw [Dev.judgeWrite_of_admits adm]
  simp only [Dev.valueOk, hb, hlims, List.all_nil, Bool.true_and, ne_eq, hprs, not_false_eq_true, true_and]
  split <;> split <;> simp_all

/-- The write has its own effect, when the rules between registers allow the value. -/
theorem Dev.hostWrite_own (hh : h < 4) (hm : d.mayWrite h a = true) (hi : d.isolated a = false) (hb : aget d.img.bounds a = none)
    (hf : freeRow a c = true) (hc : c.immediate = true) (hrule : ∀ e, d.ruleOk e a v = true)
    (ho : d.writeOwn h a v = some (u, st)) : d.hostWrite h a v = { u with wstat := st } := by
  obtain ⟨r, hr, rfl, hj⟩ := Dev.judgeWrite_of_free (v := v) hf hc hi hb
  rw [if_pos (hrule _)] at hj
  rw [Dev.hostWrite_eq hh, Dev.writeReg_at_once hm hj (by intro e; simp [e, Access.immediate] at hc)
    (by intro e; simp [e, Access.immediate] at hc), ho, Option.getD_some]

/-- A value that the rules between registers forbid. -/
theorem Dev.hostWrite_of_rule (hh : h < 4) (hm : d.mayWrite h a = true) (hi : d.isolated a = false)
    (hb : aget d.img.bounds a = none) (hf : freeRow a c = true) (hc : c.immediate = true)
    (hrule : ∀ e, d.ruleOk e a v = false) : d.hostWrite h a v = { d with wstat := stRange } := by
  obtain ⟨r, hr, -, hj⟩ := Dev.judgeWrite_of_free (v := v) hf hc hi hb
  rw [if_neg (by simp [hrule])] at hj
  rw [Dev.hostWrite_eq hh, Dev.writeReg_of_refused hm hj]

theorem Dev.hostWrite_of_barred (hh : h < 4) (hr : rowAt a = some r) (hm : d.mayWrite h a = false) :
    d.hostWrite h a v = { d with wstat := stPriv } := by
  rw [Dev.hostWrite_eq hh, Dev.writeReg_of_barred hr hm]

end Sys2Proof.Machine

/-! ## The rows of registers that act at once -/

namespace Sys2Proof.Machine

set_option Elab.async false

/-! ### Fields of the values that the rows write -/

theorem fget_ofNat_of_lt {n w : Nat} (hn : n < 2 ^ w) (hw : w ≤ 32) : fget (BitVec.ofNat 32 n) 0 w = n := by
  have : n < 2 ^ 32 := Nat.lt_of_lt_of_le hn (Nat.pow_le_pow_right (by decide) hw)
  rw [fget, BitVec.toNat_ofNat, Nat.mod_eq_of_lt this, Nat.pow_zero, Nat.div_one, Nat.mod_eq_of_lt hn]

theorem fget_or_mask {v m : Word} {lo w : Nat} (hm : m.extractLsb' lo w = 0#w) : fget (v ||| m) lo w = fget v lo w := by
  have field (x : Word) : fget x lo w = (x.extractLsb' lo w).toNat := by
    simp [fget, Nat.shiftRight_eq_div_pow]
  rw [field, field, BitVec.extractLsb'_or, hm, BitVec.or_zero]

theorem or_and_of_and_eq_zero {v m k : Word} (hm : m &&& k = 0#32) : (v ||| m) &&& k = v &&& k := by
  rw [BitVec.and_comm, BitVec.and_or_distrib_left, BitVec.and_comm k m, hm, BitVec.or_zero, BitVec.and_comm]

section
variable {d : Dev} {h k m c i : Nat} {v : Word}

/-! ### What each register does -/

theorem Dev.writeOwn_PWM_TRIP (hk : k < 4) : d.writeOwn h (Reg.PWM_TRIP k) v =
    some (d.tripClear k (fget (v &&& d.clearable (Reg.PWM_TRIP k)) 0 4), stOk) := by
  interval_cases k <;> rfl

theorem Dev.writeOwn_ADC_URG (hk : k < 4) (hv : bget v 31 = true) : d.writeOwn h (Reg.ADC_URG k) v =
    some ((d.rset (Reg.ADC_URG k) (v &&& 0x0F0000FF)).urgSend k (fget v 24 4) (fget v 0 8), stOk) := by
  interval_cases k <;> exact congrArg (fun e => some (e, stOk)) (if_pos hv)

theorem Dev.writeOwn_DCL_FLAGS (hi : i < 2) : d.writeOwn h Reg.DCL_FLAGS (BitVec.ofNat 32 (2 ^ i)) =
    some ((if bget (BitVec.ofNat 32 (2 ^ i) &&& d.clearable Reg.DCL_FLAGS) i then d.chopClear i else d).rmod Reg.DCL_FLAGS
      (fun o => o &&& ~~~((BitVec.ofNat 32 (2 ^ i) &&& d.clearable Reg.DCL_FLAGS) &&& 0xC)), stOk) := by
  interval_cases i
  · have other : bget (BitVec.ofNat 32 (2 ^ 0) &&& d.clearable Reg.DCL_FLAGS) 1 = false := by simp [bget]
    simp [Dev.writeOwn, Reg.DCL_FLAGS, blockOf] at other ⊢
    simp [other]
  · have other : bget (BitVec.ofNat 32 (2 ^ 1) &&& d.clearable Reg.DCL_FLAGS) 0 = false := by simp [bget]
    simp [Dev.writeOwn, Reg.DCL_FLAGS, blockOf] at other ⊢
    simp [other]

theorem Dev.writeOwn_FLT_CMD (d : Dev) (h : Nat) (v : Word) : d.writeOwn h Reg.FLT_CMD v = some (d.fltCmd v) := rfl

theorem Dev.ruleOk_HLT (hm : m < 32) (lo : Bool) (e : Dev) :
    d.ruleOk e (if lo then Reg.HLT_LO m else Reg.HLT_CFG m) v = true := by
  have blk : blockOf (if lo then Reg.HLT_LO m else Reg.HLT_CFG m) = 0x0D := by
    cases lo <;> simp only [blockOf, Reg.HLT_LO, Reg.HLT_CFG, if_true, Bool.false_eq_true, if_false] <;> omega
  simp [Dev.ruleOk, blk]

theorem Dev.writeOwn_HLT (hm : m < 32) (lo : Bool) :
    d.writeOwn h (if lo then Reg.HLT_LO m else Reg.HLT_CFG m) v = some (d.hltWrite m lo v) := by
  have place (b : Nat) (hb : b = 0 ∨ b = 4) : d.writeOwn h (0x0D8000 + m * 0x80 + b) v = some (d.hltWrite m (b == 4) v) := by
    have off : (0x0D8000 + m * 0x80 + b) % 0x10000 = 0x8000 + m * 0x80 + b := by omega
    have blk : blockOf (0x0D8000 + m * 0x80 + b) = 0x0D := by unfold blockOf; omega
    have low : 0x8000 + m * 0x80 + b < 0x9000 ∧ (0x8000 + m * 0x80 + b) % 0x80 = b ∧ b < 8 ∧
        (0x8000 + m * 0x80 + b - 0x8000) / 0x80 = m := by omega
    have other : 0x0D8000 + m * 0x80 + b ≠ Reg.FLT_LOOKUP ∧ 0x0D8000 + m * 0x80 + b ≠ Reg.FLT_CMD ∧
        0x0D8000 + m * 0x80 + b ≠ Reg.HLT_CLR := by
      simp only [Reg.FLT_LOOKUP, Reg.FLT_CMD, Reg.HLT_CLR]; omega
    simp only [Dev.writeOwn, blk, off, if_neg other.1, if_neg other.2.1, if_neg other.2.2]
    rw [if_pos ⟨by omega, low.1, by omega⟩, low.2.1, low.2.2.2]
  cases lo
  · exact place 0 (.inl rfl)
  · have := place 4 (.inr rfl)
    rwa [show 0x0D8000 + m * 0x80 + 4 = Reg.HLT_LO m by simp only [Reg.HLT_LO]; omega] at this

theorem Dev.writeOwn_CAN_CMD (hc : c < 3) : d.writeOwn h (Reg.CAN_CMD c) v = some (d.canCmd c v) := by
  interval_cases c <;> rfl

theorem Dev.writeOwn_CAN_TXREQ (hc : c < 3) : d.writeOwn h (Reg.CAN_TXREQ c) v = some (d.canTxReq c v) := by
  interval_cases c <;> rfl

theorem Dev.ruleOk_ADC_URG (hk : k < 4) (e : Dev) : d.ruleOk e (Reg.ADC_URG k) v = chanValid k (fget v 24 4) := by
  interval_cases k <;> rfl

theorem Dev.fltCmd_recovRst (hs : d.dstate = .service) :
    let u := d.rgrMod (fun g => { g with recov := 0 })
    d.fltCmd 2 = if u.wordBarred 0x3F1 u.recovWord then (d, stState) else (u.ownWord 0x3F1 u.recovWord, stOk) := by
  intro u
  rw [Dev.fltCmd, if_neg (by decide), if_neg (not_not.2 hs)]
  simp [bget, u]

theorem Dev.fltCmd_logclr (hs : d.dstate = .service) :
    let floor := BitVec.ofNat 32 d.rgr.logSeq
    d.fltCmd 1 = if d.wordBarred 0x3F2 floor then (d, stState)
      else ((d.ownWord 0x3F2 floor).rgrMod (fun g => { g with logNew := none }), stOk) := by
  intro floor
  rw [Dev.fltCmd, if_neg (by decide), if_neg (not_not.2 hs)]
  simp [bget, floor]

/-! ### The rows are free -/

theorem freeRow_PWM_TRIP : ∀ k < 4, freeRow (Reg.PWM_TRIP k) .w1c = true := by decide
theorem freeRow_ADC_URG : ∀ k < 4, freeRow (Reg.ADC_URG k) .rw = true := by decide
theorem freeRow_HLT_LO : ∀ m < 32, freeRow (Reg.HLT_LO m) .rw = true := by decide
theorem freeRow_HLT_CFG : ∀ m < 32, freeRow (Reg.HLT_CFG m) .rw = true := by decide
theorem freeRow_CAN_CMD : ∀ c < 3, freeRow (Reg.CAN_CMD c) .wo = true := by decide
theorem freeRow_CAN_TXREQ : ∀ c < 3, freeRow (Reg.CAN_TXREQ c) .rw = true := by decide

end

/-- Settles O20: each row writes a free register, whose own effect the rule names. -/
theorem immediateRegisterRows : Obligations.ImmediateRegisterRows := by
  intro s h k bits v hl hh hk hbits d may ends
  have row {i : Instr} {a : Nat} {c : Access} {x : Word} {u : Dev} {st : Nat}
      (hx : exec i s = s.run (·.hostWrite h a x)) (hm : may a) (hf : freeRow a c = true) (hc : c.immediate = true)
      (hr : ∀ e, d.ruleOk e a x = true) (ho : d.writeOwn h a x = some (u, st)) : ends i u st := by
    simp only [ends]
    rw [hx, State.run_live hl, Dev.hostWrite_own hh hm.1 hm.2.1 hm.2.2 hf hc hr ho]
  have mod16 : bits % 16 = bits := Nat.mod_eq_of_lt hbits
  have field : fget (BitVec.ofNat 32 bits) 0 4 = bits := fget_ofNat_of_lt hbits (by decide)
  have chan : fget (v ||| 0x80000000) 24 4 = fget v 24 4 := fget_or_mask rfl
  refine ⟨fun hm => ?_, fun hm => ?_, fun hm => ?_, fun hm hv => ?_, fun hm hv => ?_, fun i hi hm => ?_, fun hm hs => ?_,
    fun hm hs => ?_, fun code hcode hm => ?_, fun hm => ?_, fun m hmm hm => ?_, fun m hmm hm => ?_, fun hm => ?_⟩
  · refine row ?_ hm (freeRow_PWM_TRIP k hk) rfl ?_ (Dev.writeOwn_PWM_TRIP hk)
    · rw [exec_tripLatchClear]; simp only [if_pos hk, mod16]
    · interval_cases k <;> intro e <;> rfl
  · refine row (x := BitVec.ofNat 32 bits) (c := .rw) ?_ hm rfl rfl (fun _ => rfl) ?_
    · rw [exec_sequencerGo, mod16]
    · exact congrArg (fun n => some (d.seqGo n, stOk)) field
  · refine row (x := BitVec.ofNat 32 bits) (c := .wo) ?_ hm rfl rfl (fun _ => rfl) ?_
    · rw [exec_forceSlice, mod16]
    · exact congrArg (fun n => some (d.forceSlice n, stOk)) field
  · refine row ?_ hm (freeRow_ADC_URG k hk) rfl (fun e => ?_) ?_ (x := v ||| 0x80000000)
    · rw [exec_urgentRequest]; simp only [if_pos hk]
    · rw [Dev.ruleOk_ADC_URG hk, chan, hv]
    · rw [Dev.writeOwn_ADC_URG hk (by simp [bget]), chan, fget_or_mask rfl, or_and_of_and_eq_zero rfl]
  · simp only [ends]
    rw [exec_urgentRequest, State.run_live hl, if_pos hk, Dev.hostWrite_of_rule hh hm.1 hm.2.1 hm.2.2 (freeRow_ADC_URG k hk) rfl]
    intro e
    rw [Dev.ruleOk_ADC_URG hk, chan, hv]
  · refine ⟨_, row (x := BitVec.ofNat 32 (2 ^ i)) (c := .w1c) ?_ hm rfl rfl (fun _ => rfl) (Dev.writeOwn_DCL_FLAGS hi), rfl⟩
    rw [exec_chopperMarkClear]; simp only [if_pos hi]
  · have refused {b : Word} (hb : (!bget b 0 && !bget b 1) = false) : d.writeOwn h Reg.FLT_CMD b = some (d, stState) := by
      rw [Dev.writeOwn_FLT_CMD, Dev.fltCmd, hb, if_neg (by simp), if_pos hs]
    exact ⟨row (exec_recovRst ..) hm (c := .wo) rfl rfl (fun _ => rfl) (refused rfl),
      row (exec_logclr ..) hm (c := .wo) rfl rfl (fun _ => rfl) (refused rfl)⟩
  · intro u floor
    have done {i : Instr} {b : Word} {e : Dev} {st : Nat} (hx : exec i s = s.run (·.hostWrite h Reg.FLT_CMD b))
        (hc : d.fltCmd b = (e, st)) : ends i e st :=
      row hx hm (c := .wo) rfl rfl (fun _ => rfl) (hc ▸ d.writeOwn_FLT_CMD h b)
    refine ⟨fun hw => done (exec_recovRst ..) ?_, fun hw => done (exec_recovRst ..) ?_, fun hw => done (exec_logclr ..) ?_,
      fun hw => done (exec_logclr ..) ?_⟩
    · rw [Dev.fltCmd_recovRst hs, if_pos hw]
    · rw [Dev.fltCmd_recovRst hs, if_neg (by simp [u, hw])]
    · rw [Dev.fltCmd_logclr hs, if_pos hw]
    · rw [Dev.fltCmd_logclr hs, if_neg (by simp [floor, hw])]
  · have lookup : ends (.fltLookup h code) (d.fltLookup code) stOk := by
      refine row (x := BitVec.ofNat 32 code) (c := .rw) ?_ hm rfl rfl (fun _ => rfl) ?_
      · rw [exec_fltLookup, Nat.mod_eq_of_lt hcode]
      · exact congrArg (fun n => some (d.fltLookup n, stOk)) (fget_ofNat_of_lt hcode (by decide))
    rw [Dev.fltLookup, Nat.mod_eq_of_lt hcode] at lookup
    refine ⟨fun n hn => ?_, fun hn => ?_⟩
    · simpa only [hn] using lookup
    · simpa only [hn] using lookup
  · exact row (exec_hltClr ..) hm (c := .wo) rfl rfl (fun _ => rfl) rfl
  · refine row ?_ hm (freeRow_HLT_LO m hmm) rfl (Dev.ruleOk_HLT hmm true) (Dev.writeOwn_HLT hmm true)
    rw [exec_hltConfigWrite]; simp only [if_pos hmm]; rfl
  · have write : ends (.hltConfigWrite h m false v) (d.hltWrite m false v).1 (d.hltWrite m false v).2 := by
      refine row ?_ hm (freeRow_HLT_CFG m hmm) rfl (Dev.ruleOk_HLT hmm false) (Dev.writeOwn_HLT hmm false)
      rw [exec_hltConfigWrite]; simp only [if_pos hmm]; rfl
    refine ⟨fun hv => ?_, fun hv => ?_⟩
    · simpa only [Dev.hltWrite, hv, if_true, Bool.false_eq_true, if_false] using write
    · simpa only [Dev.hltWrite, hv, Bool.false_eq_true, if_false] using write
  · have clear {e : Dev} {st : Nat} (ht : d.tamperClear v = (e, st)) : ends (.secTamperClear h v) e st :=
      row (exec_secTamperClear ..) hm (c := .w1c) rfl rfl (fun _ => rfl) (congrArg some ht)
    refine ⟨fun hs => clear ?_, fun hs h0 => clear ?_, fun hs h0 => clear ?_⟩
    · rw [Dev.tamperClear, if_pos hs]
    · rw [Dev.tamperClear, if_neg hs, if_pos h0]
    · rw [Dev.tamperClear, if_neg hs, if_neg h0]

theorem Dev.cancelBuf_keeps (v : Word) (c : Nat) (d : Dev) (j : Nat) :
    (Dev.cancelBuf v c d j).sram = d.sram ∧ (Dev.cancelBuf v c d j).flt = d.flt := by
  unfold Dev.cancelBuf
  split
  · split <;> simp [Dev.ccMod]
  · simp

/-- With no frame under way every buffer that waits is freed. -/
theorem foldl_cancelBuf_of_idle {v : Word} {c : Nat} : ∀ (l : List Nat) (d : Dev), (d.cc c).sending = none →
    l.foldl (Dev.cancelBuf v c) d = l.foldl (fun e j => if bget v j && e.rb (Reg.CAN_TXREQ c) j then
      (e.wb (Reg.CAN_TXREQ c) j false).wb (Reg.CAN_TXCNC c) j true else e) d
  | [], _, _ => rfl
  | j :: l, d, hs => by
    have head : Dev.cancelBuf v c d j = if bget v j && d.rb (Reg.CAN_TXREQ c) j then
        (d.wb (Reg.CAN_TXREQ c) j false).wb (Reg.CAN_TXCNC c) j true else d := by
      simp [Dev.cancelBuf, hs]
    have still : ((Dev.cancelBuf v c d j).cc c).sending = none := by
      rw [head]; split <;> simpa [Dev.cc] using hs
    rw [List.foldl_cons, List.foldl_cons, foldl_cancelBuf_of_idle l _ still, head]

/-- Settles O21: each row writes a register of the controller, and its branches are those of `Dev.canCmd`, `Dev.canTxReq` and
`Dev.canTxCancel`. -/
theorem canCommandsAndRequests : Obligations.CanCommandsAndRequests := by
  intro s h c v hl hh hc d st may ends bad asked
  have row {i : Instr} {a : Nat} {k : Access} {x : Word} {u : Dev} {st : Nat} (hx : exec i s = s.run (fun d =>
      if c < 3 then d.hostWrite h a x else d)) (hm : may a) (hf : freeRow a k = true) (hk : k.immediate = true)
      (hr : ∀ e, d.ruleOk e a x = true) (ho : d.writeOwn h a x = some (u, st)) : ends i u st := by
    simp only [ends]
    rw [hx, State.run_live hl, if_pos hc, Dev.hostWrite_own hh hm.1 hm.2.1 hm.2.2 hf hk hr ho]
  refine ⟨fun hm => ?_, fun hm => ?_, fun hm => ?_⟩
  · have done {i : Instr} {x : Word} {u : Dev} {st : Nat} (hx : exec i s = s.run (fun d =>
        if c < 3 then d.hostWrite h (Reg.CAN_CMD c) x else d)) (hw : d.canCmd c x = (u, st)) : ends i u st := by
      refine row hx hm (freeRow_CAN_CMD c hc) rfl (fun e => ?_) (hw ▸ Dev.writeOwn_CAN_CMD hc)
      interval_cases c <;> rfl
    have stop : d.canCmd c 1 = if st = 0 ∨ st = 7 then (d, stState)
        else if (d.cc c).sending.isSome then (d.ccMod c (fun x => { x with stopReq := true }), stOk) else (d.canGo c 7, stOk) := by
      rw [Dev.canCmd]; rfl
    have recover : d.canCmd c 2 = if st = 5 then (d.canGo c 6, stOk)
        else if st = 7 then ((d.wf (Reg.CAN_STAT c) 0 24 0).canGo c 1, stOk) else (d, stState) := by
      rw [Dev.canCmd]; rfl
    refine ⟨fun h1 => ?_, fun h0 h7 hs => ?_, fun h0 h7 hs => ?_, fun h5 => ?_, fun h7 => ?_, fun h5 h7 => ?_⟩
    · exact done (exec_canStop ..) (by rw [stop, if_pos h1])
    · exact done (exec_canStop ..) (by rw [stop, if_neg (by tauto), if_pos hs])
    · exact done (exec_canStop ..) (by rw [stop, if_neg (by tauto), if_neg (by simp [hs])])
    · exact done (exec_canRecover ..) (by rw [recover, if_pos h5])
    · exact done (exec_canRecover ..) (by rw [recover, if_neg (by omega), if_pos h7])
    · exact done (exec_canRecover ..) (by rw [recover, if_neg h5, if_neg h7])
  · refine row (exec_txRequest ..) hm (freeRow_CAN_TXREQ c hc) rfl (fun e => ?_) (Dev.writeOwn_CAN_TXREQ hc)
    interval_cases c <;> rfl
  · refine ⟨d.canTxCancel c v, ?_, ?_, ?_, fun hs => ?_⟩
    · simp only [ends]
      rw [exec_txCancel, State.run_live hl, if_pos hc, Dev.hostWrite_TXCAN hh hc hm.1 hm.2.1 hm.2.2]
    · exact foldl_view (·.sram) _ (fun e j => (Dev.cancelBuf_keeps v c e j).1) _ d
    · exact foldl_view (·.flt) _ (fun e j => (Dev.cancelBuf_keeps v c e j).2) _ d
    · exact foldl_cancelBuf_of_idle _ d hs

/-! ### `CLK_CMD` -/

theorem Dev.mayWrite_CLK_CMD {d : Dev} {h : Nat} (hh : h < 4) : d.mayWrite h Reg.CLK_CMD = d.rb (Reg.HOST_TEN h) 8 := by
  obtain ⟨r, hr, hacc, himg, -⟩ := freeRow_iff.1 (show freeRow Reg.CLK_CMD .wo = true from rfl)
  have host : ¬ 4 ≤ h := by omega
  simp only [Dev.mayWrite, hr, host, hacc, Dev.locked, himg]
  simp [Dev.regAxis, Dev.mayWriteDevice, blockOf, Reg.CLK_CMD, Dev.privArm]

theorem Dev.hostWrite_CLK_CMD {d : Dev} {h : Nat} (hh : h < 4) (hb : aget d.img.bounds Reg.CLK_CMD = none) (v : Word) :
    d.hostWrite h Reg.CLK_CMD v = if d.rb (Reg.HOST_TEN h) 8 then
      { (d.clkCmd v).1 with wstat := if (d.clkCmd v).2 then stOk else stState } else { d with wstat := stPriv } := by
  split
  · next hm =>
    rw [← Dev.mayWrite_CLK_CMD hh] at hm
    exact Dev.hostWrite_own (c := .wo) hh hm (by simp [Dev.isolated, blockOf, Reg.CLK_CMD]) hb rfl rfl (fun _ => rfl) rfl
  · next hm =>
    rw [← Dev.mayWrite_CLK_CMD hh, Bool.not_eq_true] at hm
    obtain ⟨r, hr, -⟩ := freeRow_iff.1 (show freeRow Reg.CLK_CMD .wo = true from rfl)
    exact Dev.hostWrite_of_barred hh hr hm

theorem Dev.returnOk_iff (d : Dev) : d.returnOk = true ↔ d.allIdle = true ∧
    d.rb Reg.CLK_STATUS (3 + d.rf Reg.CLK_CFG 0 1) = true ∧
    (if d.rf Reg.CLK_STATUS 1 2 = 0 then 0 else 1) ≠ d.rf Reg.CLK_CFG 0 1 := by
  have prim : d.rf Reg.CLK_CFG 0 1 = 0 ∨ d.rf Reg.CLK_CFG 0 1 = 1 := by
    simp only [Dev.rf, fget]; omega
  unfold Dev.returnOk Dev.primary Dev.pathLock Dev.onIlo Dev.mdllLock Dev.iloLock
  rcases prim with h | h <;> by_cases hs : d.rf Reg.CLK_STATUS 1 2 = 0 <;> simp [h, hs]

theorem Dev.stepFree_iff (d : Dev) : d.stepFree = true ↔ ∀ t, d.clk.stepAt = some t → t + 400 ≤ d.now := by
  unfold Dev.stepFree
  split
  · next t ht =>
    rw [decide_eq_true_iff]
    exact ⟨fun hle t' ht' => Option.some.inj (ht.symm.trans ht') ▸ hle, fun hall => hall t ht⟩
  · next ht => simp [ht]

/-- A signed field keeps the value it is written with. -/
theorem fromSigned_toSigned_byte {n : Nat} (hn : n < 256) : fromSigned 8 (toSigned 8 n) = n := by
  unfold fromSigned toSigned
  split <;> omega

/-- A tap that wraps moves the epoch, every axis and every channel. -/
def Dev.wrapTo (d u : Dev) (k : Int) (f : Nat → Nat) : Dev := { u with
  clk := { u.clk with stepAt := some d.now, epochAt := d.clk.epochAt + k }
  pwm := d.pwm.map (fun w => { w with lastB := f w.lastB }), chan := d.chan.map (fun c => { c with lastB := f c.lastB }) }

theorem Dev.applyStep_later (d : Dev) : d.applyStep true =
    let u := (d.wf Reg.CLK_PHASE 0 6 ((d.rf Reg.CLK_PHASE 0 6 + 1) % 64)).wf Reg.CLK_PHASE 16 8
      (fromSigned 8 (d.rfs Reg.CLK_PHASE 16 8 - 1))
    if d.rf Reg.CLK_PHASE 0 6 = 63 then d.wrapTo u 1 (fun n => n + 1) else { u with clk := { u.clk with stepAt := some d.now } } := by
  simp only [Dev.applyStep, Dev.setPend, Dev.pend, Dev.tapWrap, Dev.wrapTo, Int.sub_eq_add_neg, ↓reduceIte, Dev.wf_keeps]

theorem Dev.applyStep_earlier (d : Dev) : d.applyStep false =
    let u := (d.wf Reg.CLK_PHASE 0 6 ((d.rf Reg.CLK_PHASE 0 6 + 63) % 64)).wf Reg.CLK_PHASE 16 8
      (fromSigned 8 (d.rfs Reg.CLK_PHASE 16 8 + 1))
    if d.rf Reg.CLK_PHASE 0 6 = 0 then d.wrapTo u (-1) (fun n => n - 1)
      else { u with clk := { u.clk with stepAt := some d.now } } := by
  simp only [Dev.applyStep, Dev.setPend, Dev.pend, Dev.tapWrap, Dev.wrapTo, Bool.false_eq_true, ↓reduceIte, Dev.wf_keeps]

/-- Settles O24: the returns and steps of `Dev.clkCmd`, and the branches of `Dev.phaseStep`. -/
theorem clockReturnAndPhaseSteps : Obligations.ClockReturnAndPhaseSteps := by
  intro s h n hl hh hn hb d feeds prim e f moved may pend tap
  have ret : exec (.clkReturn h) s = .next { s with dev := d.hostWrite h Reg.CLK_CMD 0x100 } := by
    rw [exec_clkReturn, State.run_live hl]
  have step : exec (.clkStep h n) s = .next { s with dev := d.hostWrite h Reg.CLK_CMD (BitVec.ofNat 32 n) } := by
    rw [exec_clkStep, State.run_live hl, Nat.mod_eq_of_lt hn]
  have phase : exec .phaseStep s = .next { s with dev := d.phaseStep } := by rw [exec_phaseStep, State.run_live hl]
  have noReturn : bget (BitVec.ofNat 32 n) 8 = false := by
    rw [bget, BitVec.getLsbD_ofNat, Nat.testBit_lt_two_pow hn, Bool.and_false]
  have stepCmd : d.clkCmd (BitVec.ofNat 32 n) = if d.stepOk then (d.wf Reg.CLK_PHASE 16 8 n, true) else (d, false) := by
    rw [Dev.clkCmd, noReturn, if_neg (by decide), fget_ofNat_of_lt (show n < 2 ^ 8 from hn) (by decide), Dev.setPend,
      fromSigned_toSigned_byte hn]
  have retCmd : d.clkCmd 0x100 = if d.returnOk then (d.switchOver d.primary, true) else (d, false) := if_pos (by decide)
  rw [Dev.hostWrite_CLK_CMD hh hb] at ret step
  rw [stepCmd] at step
  rw [retCmd] at ret
  have onIlo : d.onIlo = true ↔ feeds = 1 := by
    rw [Dev.onIlo_iff]; simp only [feeds]; split <;> simp_all
  have stepOk : d.stepOk = true ↔ d.rf Reg.CLK_CFG 16 3 ≠ 2 ∧ feeds = 1 := by
    rw [Dev.stepOk, Bool.and_eq_true, onIlo, bne_iff_ne]; rfl
  have feeds01 : feeds = 0 ∨ feeds = 1 := by simp only [feeds]; split <;> simp
  refine ⟨fun hm => ⟨?_, ?_⟩, fun hm h1 h2 h3 => ?_, fun hm h1 => ?_, fun hm h1 h2 => ?_, fun hm h1 => ?_, ?_⟩
  · rw [ret, if_neg (by simp [may] at hm; simp [d, hm])]
  · rw [step, if_neg (by simp [may] at hm; simp [d, hm])]
  · rw [ret, if_pos hm, if_pos (d.returnOk_iff.2 ⟨h1, h2, h3⟩)]; rfl
  · rw [ret, if_pos hm, if_neg (mt d.returnOk_iff.1 h1)]; rfl
  · rw [step, if_pos hm, if_pos (stepOk.2 ⟨h1, h2⟩)]; rfl
  · rw [step, if_pos hm, if_neg (by rw [stepOk]; omega)]; rfl
  · intro up down free moved
    have free_iff : d.stepFree = true ↔ free := d.stepFree_iff
    have applied (hf : feeds = 1) (hfree : free) (hp : pend ≠ 0) : d.phaseStep = d.applyStep (decide (0 < pend)) := by
      rw [Dev.phaseStep, if_pos]
      · rfl
      · simp only [Bool.and_eq_true, bne_iff_ne]
        exact ⟨⟨onIlo.2 hf, free_iff.2 hfree⟩, hp⟩
    refine ⟨fun hf hfree hp ht => ?_, fun hf hfree hp ht => ?_, fun hf hfree hp ht => ?_, fun hf hfree hp ht => ?_, fun hno => ?_⟩
    · rw [phase, applied hf hfree (by omega), decide_eq_true hp, Dev.applyStep_later, if_neg ht]
    · rw [phase, applied hf hfree (by omega), decide_eq_true hp, Dev.applyStep_later, if_pos ht]; rfl
    · rw [phase, applied hf hfree (by omega), decide_eq_false (by omega), Dev.applyStep_earlier, if_neg ht]
    · rw [phase, applied hf hfree (by omega), decide_eq_false (by omega), Dev.applyStep_earlier, if_pos ht]; rfl
    · rw [phase, Dev.phaseStep, if_neg]
      simp only [Bool.and_eq_true, bne_iff_ne, onIlo, free_iff]
      intro hall
      rcases hno with h0 | h0 | h0
      · omega
      · exact hall.2 h0
      · exact h0 hall.1.2

end Sys2Proof.Machine

/-! ## The rows of staged registers -/

namespace Sys2Proof.Machine

set_option Elab.async false

/-- A write that its axis and its register take waits in the staging of its commit point. -/
theorem Dev.hostWrite_staged {d : Dev} {h a : Nat} {v : Word} {r : RegRow} (hh : h < 4) (hm : d.mayWrite h a = true)
    (hr : d.Admits a r) (hrws : r.access = .rws) (hv : d.valueOk a r v = true) :
    d.hostWrite h a v = { d.portPut h a v with wstat := stOk } := by
  rw [Dev.hostWrite_eq hh, Dev.writeReg_of_rws hm (Dev.judgeWrite_of_valueOk hr hv) hrws]

section
variable {e : Dev} {g : Nat}

theorem freeRow_AUX_TGT : ∀ g < 2, freeRow (Reg.AUX_TGT g) .rws = true := by decide
theorem freeRow_AUX_CMD : ∀ g < 2, freeRow (Reg.AUX_CMD g) .rws = true := by decide
theorem freeRow_AUX_DUTY : ∀ g < 2, freeRow (Reg.AUX_DUTY g) .rws = true := by decide
theorem freeRow_CE_INJ_CTL : ∀ g < 2, freeRow (Reg.CE_INJ_CTL g) .rws = true := by decide

/-- The effect of a staged write at its commit point, once its axis and its value are in order (R16). -/
theorem Dev.applyRws_of_held {a : Nat} {v : Word} {r : RegRow} (hr : rowAt a = some r) (hs : e.staged? a = true)
    (hl : e.locked a r = false) (hv : e.valueOk a r v = true) (h : Nat) (p : Option (Nat × Nat)) :
    e.applyRws h a v p = match blockOf a with
      | 0x04 => (e.rwsPwm a r v, stOk)
      | 0x07 => match ixOf a (Reg.FLD_EXTANG 0) 0x400 4 with
        | some x => ((e.writePlain a r v).fuMod x (fun f => { f with extT := e.now }), stOk)
        | none => (e.writePlain a r v, stOk)
      | 0x09 => (e.rwsCe h a r v p, stOk)
      | 0x0A => e.rwsAux a r v
      | 0x0B => if a = Reg.DCL_DISCH then e.dischWrite v else (e.writePlain a r v, stOk)
      | 0x0C => ((e.writePlain a r v).sbcUpdate, stOk)
      | _ => (e.writePlain a r v, stOk) := by
  have free : (e.locked a r || !e.staged? a) = false := by simp [hl, hs]
  simp only [Dev.applyRws, hr, free, hv, Bool.not_true, Bool.false_eq_true, if_false] <;> rfl

theorem Dev.applyRws_AUX {a : Nat} {v : Word} {r : RegRow} {h : Nat} {p : Option (Nat × Nat)} (hr : rowAt a = some r)
    (hs : e.staged? a = true) (hl : e.locked a r = false) (hv : e.valueOk a r v = true)
    (ha : a = Reg.AUX_TGT g ∨ a = Reg.AUX_CMD g) (hg : g < 2) : e.applyRws h a v p = e.rwsAux a r v := by
  have blk : blockOf a = 0x0A := by
    rcases ha with rfl | rfl <;> simp only [blockOf, Reg.AUX_TGT, Reg.AUX_CMD] <;> omega
  rw [Dev.applyRws_of_held hr hs hl hv]
  simp only [blk]

theorem Dev.rwsAux_TGT {r : RegRow} {v : Word} (hg : g < 2) : e.rwsAux (Reg.AUX_TGT g) r v =
    if e.rb (Reg.AUX_CFG g) 29 then (e, stPriv) else ((e.auxTarget g v false).1,
      match (e.auxTarget g v false).2 with | .accepted => stOk | .state => stState | .limit => stLimit) := by
  have split : (match e.auxTarget g v false with
      | (d, .accepted) => (d, stOk) | (d, .state) => (d, stState) | (d, .limit) => (d, stLimit)) =
      ((e.auxTarget g v false).1,
        match (e.auxTarget g v false).2 with | .accepted => stOk | .state => stState | .limit => stLimit) := by
    rcases e.auxTarget g v false with ⟨d, _ | _ | _⟩ <;> rfl
  rw [← split]
  interval_cases g <;> rfl

theorem Dev.rwsAux_HOME {r : RegRow} (hg : g < 2) : e.rwsAux (Reg.AUX_CMD g) r 1 =
    ((e.homeStart g).1, if (e.homeStart g).2 then stOk else stState) := by
  interval_cases g <;> rfl

theorem Dev.dischWrite_GO (e : Dev) : e.dischWrite 1 =
    (if (e.dstate == .ready || e.dstate == .safe || e.dstate == .service) then e.dischargeStart else e,
      if (e.dstate == .ready || e.dstate == .safe || e.dstate == .service) then stOk else stState) := by
  cases ok : (e.dstate == .ready || e.dstate == .safe || e.dstate == .service) <;> simp [Dev.dischWrite, bget, ok]

theorem Dev.dischWrite_STOP (e : Dev) : e.dischWrite 2 = (e.dischargeEnd, stOk) := by
  simp [Dev.dischWrite, bget]

theorem row_SAFE_SBC_CTL {r : RegRow} (hr : rowAt Reg.SAFE_SBC_CTL = some r) : r.access = .rws ∧ r.wmask = 1 := by
  obtain rfl := Option.some.inj hr
  exact ⟨rfl, rfl⟩

theorem wmask_CE_PBLK {r : RegRow} (hr : rowAt Reg.CE_PBLK = some r) : r.wmask = 0x0FFF07FF := by
  obtain rfl := Option.some.inj hr
  rfl

/-- First word and count of a block lie in bits that the register keeps. -/
theorem block_and_mask {first count : Nat} (hf : first < 4096) (hc : count < 2048) :
    BitVec.ofNat 32 (first * 65536 + count) &&& BitVec.ofNat 32 0x0FFF07FF = BitVec.ofNat 32 (first * 65536 + count) := by
  refine BitVec.eq_of_getLsbD_eq fun i hi => ?_
  rw [BitVec.getLsbD_and, BitVec.getLsbD_ofNat, BitVec.getLsbD_ofNat]
  interval_cases i <;> simp [Nat.testBit_eq_decide_div_mod_eq] <;> omega

end

/-- Settles O22: the rows write registers with code RWS, and `Dev.applyRws` names the effect of each. -/
theorem stagedRegisterRows : Obligations.StagedRegisterRows := by
  intro s h g first count v b hl hh hg hfirst hcount d may waits block held
  have wait {i : Instr} {a : Nat} {x : Word} (hx : exec i s = s.run (·.hostWrite h a x)) (hf : freeRow a .rws = true)
      (hm : may a x) : waits i a x := by
    obtain ⟨hmay, hiso, hstg, hall⟩ := hm
    obtain ⟨r, hr, hacc, -⟩ := freeRow_iff.1 hf
    obtain ⟨hlk, hv⟩ := hall r hr
    have adm : d.Admits a r := ⟨hr, by simp [hacc], hlk, hiso, fun _ => hstg⟩
    simp only [waits]
    rw [hx, State.run_live hl, Dev.hostWrite_staged hh hmay adm hacc hv]
    rfl
  refine ⟨fun hm => wait ?_ rfl hm, fun hm => wait ?_ (freeRow_CE_INJ_CTL g hg) hm,
    fun hm => ⟨wait ?_ (freeRow_AUX_TGT g hg) hm, ?_⟩, fun hm => ⟨wait ?_ (freeRow_AUX_CMD g hg) hm, ?_⟩,
    fun hm => ⟨wait ?_ (freeRow_AUX_DUTY g hg) hm, ?_⟩, fun hm => wait (exec_dischargeGo ..) rfl hm,
    fun hm => wait (exec_dischargeStop ..) rfl hm, fun hm => wait (exec_sbcRel ..) rfl hm, fun e p => ?_⟩
  · rw [exec_paramBlockWrite, Nat.mod_eq_of_lt hfirst, Nat.mod_eq_of_lt hcount]
  · rw [exec_injectionRun]; simp only [if_pos hg]
  · rw [exec_auxTarget]; simp only [if_pos hg]
  · interval_cases g <;> rfl
  · rw [exec_home]; simp only [if_pos hg]
  · interval_cases g <;> rfl
  · rw [exec_auxDuty]; simp only [if_pos hg]
  · interval_cases g <;> rfl
  · have took {a : Nat} {x : Word} (hf : freeRow a .rws = true) (hx : held e a x) : ∃ r, rowAt a = some r ∧ e.staged? a = true ∧
        e.locked a r = false ∧ e.valueOk a r x = true := by
      obtain ⟨r, hr, -⟩ := freeRow_iff.1 hf
      exact ⟨r, hr, hx.1, (hx.2 r hr).1, (hx.2 r hr).2⟩
    refine ⟨fun hx h29 => ?_, fun hx h29 => ?_, fun hx => ?_, fun hx hst => ?_, fun hx h1 h2 h3 => ?_, fun hx => ?_, fun hx => ?_,
      fun hx => ?_, fun hx => ?_⟩
    · obtain ⟨r, hr, hs, hlk, hv⟩ := took (freeRow_AUX_TGT g hg) hx
      rw [Dev.applyRws_AUX hr hs hlk hv (.inl rfl) hg, Dev.rwsAux_TGT hg, if_pos h29]
    · obtain ⟨r, hr, hs, hlk, hv⟩ := took (freeRow_AUX_TGT g hg) hx
      rw [Dev.applyRws_AUX hr hs hlk hv (.inl rfl) hg]
      exact (Dev.rwsAux_TGT hg).trans (if_neg (by simp [h29]))
    · obtain ⟨r, hr, hs, hlk, hv⟩ := took (freeRow_AUX_CMD g hg) hx
      rw [Dev.applyRws_AUX hr hs hlk hv (.inr rfl) hg, Dev.rwsAux_HOME hg]
    · obtain ⟨r, hr, hs, hlk, hv⟩ := took rfl hx
      have legal : (e.dstate == .ready || e.dstate == .safe || e.dstate == .service) = true := by simpa [or_assoc] using hst
      rw [Dev.applyRws_of_held hr hs hlk hv]
      exact (Dev.dischWrite_GO e).trans (by rw [legal]; rfl)
    · obtain ⟨r, hr, hs, hlk, hv⟩ := took rfl hx
      have barred : (e.dstate == .ready || e.dstate == .safe || e.dstate == .service) = false := by simp [h1, h2, h3]
      rw [Dev.applyRws_of_held hr hs hlk hv]
      exact (Dev.dischWrite_GO e).trans (by rw [barred]; rfl)
    · obtain ⟨r, hr, hs, hlk, hv⟩ := took rfl hx
      rw [Dev.applyRws_of_held hr hs hlk hv]
      exact Dev.dischWrite_STOP e
    · obtain ⟨r, hr, hs, hlk, hv⟩ := took rfl hx
      obtain ⟨hacc, hmask⟩ := row_SAFE_SBC_CTL hr
      rw [Dev.applyRws_of_held hr hs hlk hv]
      have plain : e.writePlain Reg.SAFE_SBC_CTL r (BitVec.ofNat 32 b.toNat) =
          { e.rset Reg.SAFE_SBC_CTL (BitVec.ofNat 32 b.toNat) with written := e.written ++ [Reg.SAFE_SBC_CTL] } := by
        cases b <;> simp [Dev.writePlain, hacc, hmask]
      exact congrArg (fun u : Dev => (u.sbcUpdate, stOk)) plain
    · obtain ⟨r, hr, hs, hlk, hv⟩ := took (freeRow_CE_INJ_CTL g hg) hx
      rw [Dev.applyRws_of_held hr hs hlk hv]
      have run : bget (BitVec.ofNat 32 b.toNat) 0 = b := by cases b <;> rfl
      rw [← congrArg (e.injRun g) run]
      interval_cases g <;> rfl
    · obtain ⟨r, hr, hs, hlk, hv⟩ := took rfl hx
      rw [Dev.applyRws_of_held hr hs hlk hv]
      have fits : block &&& BitVec.ofNat 32 r.wmask = block := by rw [wmask_CE_PBLK hr]; exact block_and_mask hfirst hcount
      exact congrArg (fun x => (e.blockStart h x p, stOk)) fits

end Sys2Proof.Machine

/-! ## Trips, compare edges and dead times -/

namespace Sys2Proof.Machine

set_option Elab.async false

/-! ### Registers and events of two devices that agree -/

theorem Dev.wf_regs {d e : Dev} (h : e.regs = d.regs) (a lo w x : Nat) : (e.wf a lo w x).regs = (d.wf a lo w x).regs := by
  obtain ⟨⟩ := d
  obtain ⟨⟩ := e
  cases h
  rfl

theorem Dev.wb_regs {d e : Dev} (h : e.regs = d.regs) (a i : Nat) (b : Bool) : (e.wb a i b).regs = (d.wb a i b).regs :=
  Dev.wf_regs h a i 1 b.toNat

theorem Dev.ev_regs (d : Dev) (n : Nat) : (d.ev n).regs = d.regs := rfl

theorem Dev.occ_regs (d : Dev) (code src : Nat) : (d.occ code src).regs = d.regs := rfl

theorem Dev.leader_of_topo {d e : Dev} (h : e.topo = d.topo) (a : Nat) : e.leader a = d.leader a := by
  have : e.paired a = d.paired a := congrArg (fun t : Topo => tget t.pair (a / 2)) h
  rw [Dev.leader, Dev.leader, this]

theorem Dev.ev_events (d : Dev) (n : Nat) : (d.ev n).events = d.events ++ [n] := rfl

theorem Dev.wb_events (d : Dev) (a i : Nat) (b : Bool) : (d.wb a i b).events = d.events := rfl

/-- Deleting another key, whatever the order of the table. -/
theorem aget_adel_other {β : Type} {j k : Nat} (hj : j ≠ k) : ∀ l : List (Nat × β), aget (adel l k) j = aget l j
  | [] => rfl
  | (a, w) :: l => by
    by_cases hk : a = k
    · have : a ≠ j := by omega
      simp [adel, aget, hk, show k ≠ j by omega]
    · simp [adel, aget, hk, aget_adel_other hj l]

/-- Another register reads as before, whatever the table. -/
theorem Dev.rget_rset_other (d : Dev) {a b : Nat} (v : Word) (h : b ≠ a) : (d.rset a v).rget b = d.rget b := by
  unfold Dev.rget Dev.rset
  dsimp only
  split
  · rw [aget_adel_other h]
  · rw [aget_aput, if_neg (Ne.symm h)]

theorem Dev.rget_wb_other (d : Dev) {a b : Nat} (i : Nat) (v : Bool) (h : b ≠ a) : (d.wb a i v).rget b = d.rget b :=
  d.rget_rset_other _ h

/-! ### Trip sources -/

theorem Dev.srcBlanked_eq (d : Dev) (a : Nat) {src : Nat} (h : src < 4) : d.srcBlanked a src =
    (d.rb (Reg.PWM_STAT (d.leader a)) 11 && src != 2 && d.rb (Reg.PWM_BLK (d.leader a)) (if src = 3 then 18 else 16 + src)) := by
  interval_cases src <;> simp [Dev.srcBlanked]

/-- Settles O29: the operations of the trip sources as they are defined; a cut that stands is kept. -/
theorem tripSourcesCutPulses : Obligations.TripSourcesCutPulses := by
  intro s a src p active hl ha hsrc hp d e o enabled held b
  have blanked (e : Dev) {src : Nat} (h : src < 4) : e.srcBlanked a src = held e src := e.srcBlanked_eq a h
  refine ⟨?_, ?_, ?_, fun c hc => ?_, fun c hc => ?_⟩
  · rw [exec_tripInputChange, State.run_live hl, Dev.tripInput, blanked _ hsrc]
    rfl
  · rw [exec_ocDetected, State.run_live hl, Dev.ocDetected, Dev.tripInput, blanked _ (by decide : 3 < 4)]
    cases hb : held o 3 <;> simp [o, d, hb, Dev.srcEnabled]
  · rw [exec_blankingEnd, State.run_live hl]
    rfl
  · rw [Dev.cutAxis, if_pos (show c.isCut a = true from hc)]
  · have cut : c.isCut a = false := hc
    rw [Dev.cutAxis, if_neg (by simp [cut])]
    refine ⟨_, rfl, ?_, ?_, by simp [Dev.pwMod], by simp [Dev.pwMod]⟩
    · rw [Dev.ev_regs]
      exact Dev.wb_regs rfl ..
    · rw [Dev.ev_events, Dev.wb_events]
      rfl

/-! ### Compare edges -/

/-- What a change of the request of phase `p` does to the generator of its axis (R143). -/
def Pwm.turn (w : Pwm) (now dt p : Nat) (rise : Bool) : Pwm :=
  { w with
    reqH := tset w.reqH p rise
    on := tset (tset w.on (swIx p (!rise)) false) (swIx p rise) (dt == 0)
    dead := tset (tset w.dead (swIx p (!rise)) false) (swIx p rise) (dt != 0)
    lowFrom := if rise then w.lowFrom else tset w.lowFrom p (now + dt)
    refreshing := if rise then tset w.refreshing p none else w.refreshing }

theorem Dev.reqEdge_eq (d : Dev) (a p : Nat) (rise : Bool) : d.reqEdge a p rise = (d.pwMod a (fun w =>
    w.turn d.now (d.rf (Reg.PWM_DT (d.leader a)) (if rise then 16 else 0) 12) p rise)).syncGates a := rfl

theorem swIx_lt {p : Nat} (hp : p < 3) (b : Bool) : swIx p b < 6 := by
  cases b <;> simp [swIx] <;> omega

theorem swIx_not_ne (p : Nat) (b : Bool) : swIx p b ≠ swIx p (!b) := by
  cases b <;> simp [swIx]

theorem tget_tset {α : Type} [Inhabited α] {n : Nat} (v : Vector α n) (i j : Nat) (x : α) :
    tget (tset v i x) j = if i = j ∧ j < n then x else tget v j := tget_tmod v i j _

/-- The request, and both switches of the phase. -/
theorem Pwm.turn_switches (w : Pwm) (now dt : Nat) {p : Nat} (hp : p < 3) (rise : Bool) :
    tget (w.turn now dt p rise).reqH p = rise ∧
    tget (w.turn now dt p rise).on (swIx p (!rise)) = false ∧ tget (w.turn now dt p rise).dead (swIx p (!rise)) = false ∧
    tget (w.turn now dt p rise).on (swIx p rise) = decide (dt = 0) ∧
    tget (w.turn now dt p rise).dead (swIx p rise) = decide (dt ≠ 0) := by
  have hon := swIx_lt hp rise
  have hoff := swIx_lt hp (!rise)
  have apart := swIx_not_ne p rise
  simp only [Pwm.turn, tget_tset, hp, hon, hoff, apart, and_self, and_true, if_true, if_false, true_and, false_and]
  exact ⟨rfl, by cases dt <;> rfl⟩

theorem Dev.tget_pwMod (d : Dev) (a b : Nat) (f : Pwm → Pwm) :
    tget (d.pwMod a f).pwm b = if a = b ∧ b < 4 then f (tget d.pwm b) else tget d.pwm b := tget_tmod ..

/-- The PWM has met a refresh: only the marks of its axis change. -/
theorem Dev.refreshMet_eq (d : Dev) (a p : Nat) : ∃ f : Pwm → Pwm, d.refreshMet a p = d.pwMod a f := by
  unfold Dev.refreshMet
  split
  · exact ⟨_, rfl⟩
  · refine ⟨id, ?_⟩
    have same : tmod d.pwm a id = d.pwm := by
      unfold tmod
      split <;> simp
    simp only [Dev.pwMod, same]

/-- The begin of a refresh: its flags, its event and its report, and the marks of its axis. -/
theorem Dev.refreshBegin_keeps (d : Dev) (a p : Nat) : (d.refreshBegin a p).sram = d.sram ∧ (d.refreshBegin a p).ax = d.ax ∧
    (d.refreshBegin a p).sw = d.sw ∧ (d.refreshBegin a p).topo = d.topo ∧
    (d.refreshBegin a p).events = d.events ++ [0x78 + (3 * a + p)] ∧
    ∃ f : Pwm → Pwm, (d.refreshBegin a p).pwm = tmod d.pwm a f := by
  unfold Dev.refreshBegin
  dsimp only
  split <;> exact ⟨by simp [Dev.pwMod], by simp [Dev.pwMod], by simp [Dev.pwMod], by simp [Dev.pwMod], by simp [Dev.pwMod, Dev.ev_events],
    ⟨_, by simp [Dev.pwMod]; rfl⟩⟩

theorem Dev.refreshBegin_regs (d : Dev) (a p : Nat) : (d.refreshBegin a p).regs =
    ((if d.maskPass a p false then d else d.wb (Reg.ISL_H_FLAGS (3 * a + p)) 4 true).wb (Reg.ISL_H_FLAGS (3 * a + p)) 3 true).regs := by
  have marks (f : Pwm → Pwm) : (d.pwMod a f).regs = d.regs := rfl
  unfold Dev.refreshBegin
  dsimp only
  rw [Dev.occ_regs, Dev.ev_regs]
  cases d.maskPass a p false
  · exact Dev.wb_regs (Dev.wb_regs (marks _) ..) ..
  · exact Dev.wb_regs (marks _) ..

/-- A register other than the flags of the half-bridge. -/
theorem Dev.rget_refreshBegin (d : Dev) (a p : Nat) {b : Nat} (h : b ≠ Reg.ISL_H_FLAGS (3 * a + p)) :
    (d.refreshBegin a p).rget b = d.rget b := by
  rw [Dev.rget_of_regs (d.refreshBegin_regs a p), Dev.rget_wb_other _ _ _ h]
  split
  · rfl
  · rw [Dev.rget_wb_other _ _ _ h]

/-- The device at a compare edge, after a refresh that is due has begun. -/
def Dev.refreshed (d : Dev) (a p : Nat) (rise : Bool) : Dev := if !rise && d.isRefresh a p then d.refreshBegin a p else d

theorem Dev.refreshed_keeps (d : Dev) (a p : Nat) (rise : Bool) : (d.refreshed a p rise).sram = d.sram ∧
    (d.refreshed a p rise).ax = d.ax ∧ (d.refreshed a p rise).sw = d.sw ∧ (d.refreshed a p rise).topo = d.topo ∧
    ∀ b, b ≠ a → tget (d.refreshed a p rise).pwm b = tget d.pwm b := by
  unfold Dev.refreshed
  split
  · obtain ⟨hsram, hax, hsw, htopo, -, f, hf⟩ := d.refreshBegin_keeps a p
    exact ⟨hsram, hax, hsw, htopo, fun b hb => by rw [hf, tget_tmod, if_neg (by tauto)]⟩
  · exact ⟨rfl, rfl, rfl, rfl, fun _ _ => rfl⟩

/-- The dead times of the axis are those before the refresh. -/
theorem Dev.refreshed_deadTime (d : Dev) (a p : Nat) (rise : Bool) (lo : Nat) :
    (d.refreshed a p rise).rf (Reg.PWM_DT ((d.refreshed a p rise).leader a)) lo 12 = d.rf (Reg.PWM_DT (d.leader a)) lo 12 := by
  obtain ⟨-, -, -, htopo, -⟩ := d.refreshed_keeps a p rise
  have leader : (d.refreshed a p rise).leader a = d.leader a := Dev.leader_of_topo htopo a
  have other : Reg.PWM_DT (d.leader a) ≠ Reg.ISL_H_FLAGS (3 * a + p) := by
    have hle : d.leader a ≤ a := by unfold Dev.leader; split <;> omega
    simp only [Reg.PWM_DT, Reg.ISL_H_FLAGS]
    omega
  have read : (d.refreshed a p rise).rget (Reg.PWM_DT (d.leader a)) = d.rget (Reg.PWM_DT (d.leader a)) := by
    unfold Dev.refreshed
    split
    · exact d.rget_refreshBegin a p other
    · rfl
  rw [leader, Dev.rf, Dev.rf, read]

theorem Dev.pwmEdge_of_refreshed {d e : Dev} {a p : Nat} {rise : Bool} (he : d.refreshed a p rise = e) : d.pwmEdge a p rise =
    if e.requestHigh a p != rise || tget (e.pw a).reqH p == rise then e
    else (if rise then e.refreshMet a p else e).reqEdge a p rise := by
  subst he
  rfl

/-- The device from which the gates follow a change of a request. -/
theorem Dev.reqEdge_from (e : Dev) {a p : Nat} (ha : a < 4) (hp : p < 3) (rise : Bool) : ∃ u : Dev,
    (if rise then e.refreshMet a p else e).reqEdge a p rise = u.syncGates a ∧ u.sram = e.sram ∧ u.ax = e.ax ∧ u.sw = e.sw ∧
    u.regs = e.regs ∧ u.events = e.events ∧ u.flt = e.flt ∧ (∀ b, b ≠ a → tget u.pwm b = tget e.pwm b) ∧
    ∃ w : Pwm, tget u.pwm a = w.turn e.now (e.rf (Reg.PWM_DT (e.leader a)) (if rise then 16 else 0) 12) p rise := by
  have from' (f : Pwm → Pwm) : ∃ u : Dev, (e.pwMod a f).reqEdge a p rise = u.syncGates a ∧ u.sram = e.sram ∧ u.ax = e.ax ∧
      u.sw = e.sw ∧ u.regs = e.regs ∧ u.events = e.events ∧ u.flt = e.flt ∧ (∀ b, b ≠ a → tget u.pwm b = tget e.pwm b) ∧
      ∃ w : Pwm, tget u.pwm a = w.turn e.now (e.rf (Reg.PWM_DT (e.leader a)) (if rise then 16 else 0) 12) p rise := by
    refine ⟨_, Dev.reqEdge_eq .., rfl, rfl, rfl, rfl, rfl, rfl, fun b hb => ?_, f (tget e.pwm a), ?_⟩
    · rw [Dev.tget_pwMod, if_neg (by tauto), Dev.tget_pwMod, if_neg (by tauto)]
    · rw [Dev.tget_pwMod, if_pos ⟨rfl, ha⟩, Dev.tget_pwMod, if_pos ⟨rfl, ha⟩]
      rfl
  cases rise
  · refine ⟨_, Dev.reqEdge_eq .., rfl, rfl, rfl, rfl, rfl, rfl, fun b hb => ?_, tget e.pwm a, ?_⟩
    · exact (Dev.tget_pwMod ..).trans (if_neg (by tauto))
    · exact (Dev.tget_pwMod ..).trans (if_pos ⟨rfl, ha⟩)
  · obtain ⟨f, hf⟩ := e.refreshMet_eq a p
    rw [if_pos rfl, hf]
    exact from' f

theorem Dev.requestHigh_iff (e : Dev) (a p : Nat) : e.requestHigh a p = true ↔
    e.carrierHigh a p = true ∧ ¬∃ t, tget (e.pw a).refreshing p = some t ∧ e.now < t := by
  unfold Dev.requestHigh Dev.refreshHolds
  split <;> simp_all

/-! ### Ends of dead times -/

section
variable {d : Dev} {a p : Nat} {high : Bool}

theorem Dev.deadTimeEnd_of_cutWait (h : (!high && tget (d.pw a).cutWait p) = true) :
    d.deadTimeEnd a p high = d.cutLowOn a p := by
  rw [Dev.deadTimeEnd, if_pos h]

theorem Dev.deadTimeEnd_of_none (h0 : (!high && tget (d.pw a).cutWait p) = false) (h : tget (d.pw a).dead (swIx p high) = false) :
    d.deadTimeEnd a p high = d := by
  rw [Dev.deadTimeEnd, h0, if_neg (by decide), h, if_neg (by decide)]

/-- The dead time of a switch is over. -/
def Dev.deadOver (d : Dev) (a p : Nat) (high : Bool) : Dev :=
  d.pwMod a (fun w => { w with dead := tset w.dead (swIx p high) false })

/-- The request of a switch is past its dead time. -/
def Dev.requested (d : Dev) (a p : Nat) (high : Bool) : Dev := d.pwMod a (fun w => { w with on := tset w.on (swIx p high) true })

theorem Dev.deadTimeEnd_of_running (h0 : (!high && tget (d.pw a).cutWait p) = false)
    (h : tget (d.pw a).dead (swIx p high) = true) : d.deadTimeEnd a p high =
      if (d.deadOver a p high).isCut a then (d.deadOver a p high).requested a p high
      else if (d.deadOver a p high).tripNow a then ((d.deadOver a p high).cutPulses a).requested a p high
      else ((d.deadOver a p high).requested a p high).syncGates a := by
  rw [Dev.deadTimeEnd, h0, if_neg (by decide), if_pos h]
  rfl

end

/-- Settles O28: the operations of the edges and of the dead times; what a change of a request does to its phase is
`Pwm.turn_switches`. -/
theorem compareEdgesAndDeadTimes : Obligations.CompareEdgesAndDeadTimes := by
  intro s a p up hl ha hp d w on off dt pr ended waits cutOn turned e tick cmp carrier held given
  have edge : exec (.pwmEdge a p up) s = .next ⟨d.pwmEdge a p up, s.pending⟩ := by
    rw [exec_pwmEdge, State.run_live hl, if_pos ha, if_pos hp]
  have deadEnd : exec (.deadTimeEnd a p up) s = .next ⟨d.deadTimeEnd a p up, s.pending⟩ := by
    rw [exec_deadTimeEnd, State.run_live hl]
  have he : d.refreshed a p up = e := rfl
  have past : d.deadOver a p up = ended := rfl
  have hoffIx : off = swIx p (!up) := by cases up <;> rfl
  have given_iff : given ↔ (e.requestHigh a p = true ↔ up = true) := by
    rw [Dev.requestHigh_iff]
    simp only [given, carrier, held, Dev.carrierHigh, decide_eq_true_iff]
    rfl
  have moves : (e.requestHigh a p != up || tget (e.pw a).reqH p == up) = true ↔ ¬given ∨ tget (tget e.pwm a).reqH p = up := by
    rw [given_iff, Bool.or_eq_true, bne_iff_ne, beq_iff_eq, ← Bool.eq_iff_iff]
    rfl
  have nth (x : Dev) (f : Pwm → Pwm) : x.pwMod a f = { x with pwm := tmod x.pwm a f } := rfl
  refine ⟨?_, fun h => ?_, d.refreshBegin_regs a p, (d.refreshBegin_keeps a p).2.2.2.2.1, fun h => ?_, fun h => ?_, fun hg hne => ?_,
    fun h => ?_, fun h0 h => ?_, fun h0 h hc => ?_, fun h0 h hc ht => ?_, fun h0 h hc ht => ?_, ?_, fun x hx => ?_⟩
  · intro pulse
    rw [exec_pwmEdge, State.run_live hl, if_pos ha, if_neg (by omega), Nat.add_sub_cancel_left]
    rfl
  · have none' : tget (d.pw a).refresh p = none := h
    rw [Dev.isRefresh, none']
  · unfold Dev.isRefresh at h
    split at h
    · cases h
    · next t ht =>
      simp only [Bool.and_eq_true, beq_iff_eq, decide_eq_true_iff] at h
      exact ⟨t, ht, h.1.1, h.1.2, by omega⟩
  · rw [edge, Dev.pwmEdge_of_refreshed he, if_pos (moves.2 h)]
  · obtain ⟨u, hu, hsram, hax, hsw, hregs, hev, hflt, hother, w', hw⟩ := e.reqEdge_from ha hp up
    obtain ⟨ksram, kax, ksw, -, kpwm⟩ := d.refreshed_keeps a p up
    have hdt : e.rf (Reg.PWM_DT (e.leader a)) (if up then 16 else 0) 12 = dt := d.refreshed_deadTime a p up _
    rw [hdt] at hw
    obtain ⟨hreq, hoff, hdead, hon, hwait⟩ := w'.turn_switches e.now dt hp up
    refine ⟨u, ?_, hsram.trans ksram, hax.trans kax, hsw.trans ksw, hregs, hev, hflt, ?_, ?_, ?_, ?_, ?_⟩
    · rw [edge, Dev.pwmEdge_of_refreshed he, if_neg fun hh => (moves.1 hh).elim (fun hn => hn hg) hne, hu]
    · rw [hw]; exact hreq
    · rw [hw, hoffIx]; exact hoff
    · rw [hw, hoffIx]; exact hdead
    · rw [hw]; exact hon
    · refine ⟨by rw [hw]; exact hwait, fun b _ hb => (hother b hb).trans (kpwm b hb)⟩
  · rw [deadEnd, Dev.deadTimeEnd_of_cutWait h]
    rfl
  · rw [deadEnd, Dev.deadTimeEnd_of_none h0 h]
  · rw [deadEnd, Dev.deadTimeEnd_of_running h0 h, past, if_pos hc]
    rfl
  · rw [deadEnd, Dev.deadTimeEnd_of_running h0 h, past, if_neg (by simp only [hc, Bool.false_eq_true, not_false_eq_true]), if_pos ht]
    rfl
  · rw [deadEnd, Dev.deadTimeEnd_of_running h0 h, past, if_neg (by simp only [hc, Bool.false_eq_true, not_false_eq_true]),
      if_neg (by simp only [ht, Bool.false_eq_true, not_false_eq_true])]
    rfl
  · intro per
    rw [exec_pwmEdge, State.run_live hl, if_neg (by omega), Nat.add_sub_cancel_left, Dev.chanEdge, if_pos ha]
  · intro ends
    have row : exec (.pwmEdge (8 + x) p up) s = .next ⟨d.chanEdge (4 + x) p, s.pending⟩ := by
      rw [exec_pwmEdge, State.run_live hl, if_neg (by omega), show 8 + x - 4 = 4 + x from by omega]
    have hasEnded : d.onEnded (4 + x) (d.auxOnTime x p) = true ↔
        16 * (tget d.chan (4 + x)).lastB + d.auxOnTime x p ≤ 16 * d.now + 15 := decide_eq_true_iff
    rw [row, Dev.chanEdge, if_neg (by omega), Nat.add_sub_cancel_left]
    refine ⟨fun h => ?_, fun h => ?_⟩
    · rw [if_neg fun hh => h ⟨hh.2.1, hasEnded.1 hh.2.2⟩]
    · rw [if_pos ⟨by omega, h.1, hasEnded.2 h.2⟩]
      rfl

end Sys2Proof.Machine

/-! ## Boundaries and pair lock -/

namespace Sys2Proof.Machine

set_option Elab.async false

/-! ### Axes that are alone -/

theorem Dev.group_of_topo {d e : Dev} (h : e.topo = d.topo) (a : Nat) : e.group a = d.group a := by
  have : e.paired a = d.paired a := congrArg (fun t : Topo => tget t.pair (a / 2)) h
  rw [Dev.group, Dev.group, this]

theorem Dev.takeCmps_topo (d : Dev) (a : Nat) : (d.takeCmps a).topo = d.topo := by
  refine foldl_view (·.topo) _ (fun e i => ?_) _ d
  split <;> rfl

/-- Two functions that agree at the generator of the axis change the device alike. -/
theorem Dev.pwMod_of_tget {d : Dev} {a : Nat} {f g : Pwm → Pwm} (ha : a < 4) (h : f (tget d.pwm a) = g (tget d.pwm a)) :
    d.pwMod a f = d.pwMod a g := by
  have : tmod d.pwm a f = tmod d.pwm a g := by
    simp only [tget, ha, dif_pos] at h
    simp only [tmod, ha, dif_pos, h]
  rw [Dev.pwMod, Dev.pwMod, this]

theorem Dev.each_of_alone {d : Dev} {a : Nat} (h : d.group a = [a]) (f : Dev → Nat → Dev) : d.each a f = f d a := by
  rw [Dev.each, h, List.foldl_cons, List.foldl_nil]

/-! ### Pair lock -/

theorem Dev.hasNcmp_iff (d : Dev) (a : Nat) : d.hasNcmp a = true ↔ ∃ i < 6, tget (tget d.pwm a).ncmp i ≠ none := by
  unfold Dev.hasNcmp Dev.pw
  rw [List.any_eq_true]
  simp only [Vector.mem_toList_iff, Vector.mem_iff_getElem, Option.isSome_iff_ne_none]
  constructor
  · rintro ⟨x, ⟨i, hi, rfl⟩, hx⟩
    exact ⟨i, hi, by simpa [tget, hi] using hx⟩
  · rintro ⟨i, hi, hx⟩
    exact ⟨_, ⟨i, hi, rfl⟩, by simpa [tget, hi] using hx⟩

section
variable {e : Dev} {a : Nat}

/-- The boundary falls where the pairs of the axis apply (R145, R152). -/
theorem Dev.epochHold_iff (e : Dev) (a : Nat) : (e.rb (Reg.PWM_CFG a) 1 && !e.onEpoch a) = true ↔
    ¬(e.rb (Reg.PWM_CFG a) 1 = false ∨
      ((e.now : Int) - e.clk.epochAt - e.rf (Reg.PWM_PHS a) 0 24) % (e.rf Reg.CLK_TBPER 0 24 : Int) = 0) := by
  unfold Dev.onEpoch Dev.epochCount
  cases e.rb (Reg.PWM_CFG a) 1 <;> simp

/-- Pair lock of an axis that is alone and PAIRED, at a boundary where its pairs do not apply. -/
theorem Dev.pairLock_off_epoch (hg : e.group a = [a]) (hp : e.rb (Reg.PWM_CFG a) 2 = false)
    (hh : (e.rb (Reg.PWM_CFG a) 1 && !e.onEpoch a) = true) : e.pairLock a = e.takeCmps a := by
  simp only [Dev.pairLock, hp, hh, Bool.false_eq_true, if_false, if_true, Dev.each_of_alone hg]

/-- A pair that is complete applies. -/
theorem Dev.pairLock_pair {v : Word} (hg : e.group a = [a]) (hp : e.rb (Reg.PWM_CFG a) 2 = false)
    (hh : (e.rb (Reg.PWM_CFG a) 1 && !e.onEpoch a) = false) (hv : (tget e.pwm a).per = some v) (hn : e.hasNcmp a = true) :
    e.pairLock a = ((e.rset (Reg.PWM_PER a) v).takeNcmps a).wb (Reg.PWM_STAT a) 8 false := by
  have alone : (e.rset (Reg.PWM_PER a) v).group a = [a] := hg
  have per : (e.pw a).per = some v := hv
  simp only [Dev.pairLock, hp, hh, hg, hn, per, Bool.false_eq_true, if_false, List.all_cons, List.all_nil, Bool.and_true,
    Dev.each_of_alone alone]

/-- What a boundary does with a half alone, or with nothing (R151). -/
def Dev.waitHalf (f : Dev) (a : Nat) (none' : Bool) : Dev :=
  if none' then f
  else if !f.rb (Reg.PWM_STAT a) 8 then
    (((f.wb (Reg.PWM_STAT a) 8 true).wf (Reg.PWM_STAT a) 4 4 1).pwMod a (fun w => { w with waitAge := 0 })).ev (0x34 + 10 * a)
  else if (f.pw a).waitAge + 1 < f.rf (Reg.PWM_CFG a) 8 4 then
    (f.pwMod a (fun w => { w with waitAge := w.waitAge + 1 })).wsat (Reg.PWM_STAT a) 4 4
  else (((((f.each a Dev.dropHalves).wb (Reg.PWM_STAT a) 8 false).wb (Reg.PWM_FLAGS a) 0 true).ev (0x35 + 10 * a)).occ
    (0x0401 + 0x10 * a) 0)

section
variable {f : Dev}

theorem Dev.waitHalf_new (hw : f.rb (Reg.PWM_STAT a) 8 = false) : f.waitHalf a false =
    (((f.wb (Reg.PWM_STAT a) 8 true).wf (Reg.PWM_STAT a) 4 4 1).pwMod a (fun w => { w with waitAge := 0 })).ev (0x34 + 10 * a) := by
  simp only [Dev.waitHalf, hw, Bool.false_eq_true, Bool.not_false, if_false, if_true]

theorem Dev.waitHalf_more (hw : f.rb (Reg.PWM_STAT a) 8 = true) (hc : (f.pw a).waitAge + 1 < f.rf (Reg.PWM_CFG a) 8 4) :
    f.waitHalf a false = (f.pwMod a (fun w => { w with waitAge := w.waitAge + 1 })).wsat (Reg.PWM_STAT a) 4 4 := by
  rw [Dev.waitHalf, hw, if_neg (by decide), if_neg (by decide), if_pos hc]

theorem Dev.waitHalf_over (hw : f.rb (Reg.PWM_STAT a) 8 = true) (hc : f.rf (Reg.PWM_CFG a) 8 4 ≤ (f.pw a).waitAge + 1) :
    f.waitHalf a false = ((((f.each a Dev.dropHalves).wb (Reg.PWM_STAT a) 8 false).wb (Reg.PWM_FLAGS a) 0 true).ev
      (0x35 + 10 * a)).occ (0x0401 + 0x10 * a) 0 := by
  rw [Dev.waitHalf, hw, if_neg (by decide), if_neg (by decide), if_neg (Nat.not_lt.2 hc)]

end

theorem Dev.pairLock_wait (hg : e.group a = [a]) (hp : e.rb (Reg.PWM_CFG a) 2 = false)
    (hh : (e.rb (Reg.PWM_CFG a) 1 && !e.onEpoch a) = false) (hn : (tget e.pwm a).per = none ∨ e.hasNcmp a = false) :
    e.pairLock a = (e.takeCmps a).waitHalf a ((tget e.pwm a).per.isNone && !e.hasNcmp a) := by
  have per : (e.pw a).per = (tget e.pwm a).per := rfl
  unfold Dev.pairLock
  simp only [hp, hh, hg, per, Bool.false_eq_true, if_false, List.all_cons, List.all_nil, Bool.and_true, List.any_cons, List.any_nil,
    Bool.or_false, Dev.each_of_alone hg]
  rcases hn with hn | hn
  · rw [hn]
    rfl
  · rw [hn]
    cases (tget e.pwm a).per <;> rfl

end

/-! ### Trips at a boundary of an axis that is alone -/

theorem Dev.tripsAtBoundary_of_quiet {e : Dev} {a : Nat} (he : e.tripAny a = false)
    (hf : (e.wf (Reg.PWM_TRIP a) 16 8 0).group a = [a]) : e.tripsAtBoundary a =
      if (e.wf (Reg.PWM_TRIP a) 16 8 0).latch a = 0 then (e.wf (Reg.PWM_TRIP a) 16 8 0).liftAxis a
      else e.wf (Reg.PWM_TRIP a) 16 8 0 := by
  simp only [Dev.tripsAtBoundary, he, Bool.false_eq_true, if_false, hf, Dev.each_of_alone hf, List.all_cons, List.all_nil,
    Bool.and_true, beq_iff_eq]

theorem Dev.tripsAtBoundary_of_active {e : Dev} {a : Nat} (he : e.tripAny a = true)
    (hf : ((e.wsat (Reg.PWM_TRIP a) 16 8).cutPulses a).group a = [a]) :
    let f := (e.wsat (Reg.PWM_TRIP a) 16 8).cutPulses a
    let g := f.latchAxis a
    e.tripsAtBoundary a = if f.rf (Reg.PWM_TRIPCFG a) 16 8 ≤ f.rf (Reg.PWM_TRIP a) 16 8 then
      if g.rf (Reg.PWM_TRIP a) 0 4 ≠ f.rf (Reg.PWM_TRIP a) 0 4 then (g.ev (0x33 + 10 * a)).lvlAgain (0x0402 + 0x10 * a) 0 else g
      else f := by
  simp only [Dev.tripsAtBoundary, he, if_true, hf, Dev.each_of_alone hf, List.any_cons, List.any_nil, Bool.or_false, bne_iff_ne,
    Dev.latch]

/-! ### Natural transitions of an axis (R28) -/

section
variable {d : Dev} {a : Nat}

theorem Dev.hasTarget_iff : d.hasTarget a = true ↔
    ∃ l < 32, d.rb (Reg.CE_LANE_CFG l) 31 = true ∧ d.laneAxis l = a ∧ d.rget (Reg.CE_LANE_TGT l) ≠ 0 := by
  simp only [Dev.hasTarget, List.any_eq_true, List.mem_range, Bool.and_eq_true, beq_iff_eq, bne_iff_ne, and_assoc]

theorem Dev.faultGone_iff {code : Nat} : d.faultGone code = true ↔
    ¬(∃ r ∈ d.flt.recs, r.code = code ∧ r.isOpen = true) ∧ d.lvlAny code = false ∧ ∀ r ∈ d.flt.inbox, r.code ≠ code := by
  simp [Dev.faultGone, and_assoc]

theorem Dev.slowEnough_iff : d.slowEnough a = true ↔ d.rf (Reg.DCL_SEL a) 30 2 = 1 ∨
    (10 * d.rf (Reg.DCL_SEL a) 0 16 = 0 ∧ d.selSpeed a = 0) ∨ (d.selSpeed a).natAbs < 10 * d.rf (Reg.DCL_SEL a) 0 16 := by
  unfold Dev.slowEnough
  by_cases h : 10 * d.rf (Reg.DCL_SEL a) 0 16 = 0
  · simp [h]
  · simp [h]

theorem Dev.mayIdle_iff : d.mayIdle a = true ↔ (tget d.link (if a < 2 then 12 else 13)).cdLost = false ∧
    (∀ c ∈ tget d.axCause a, d.faultGone c = true) ∧ d.slowEnough a = true := by
  simp [Dev.mayIdle, Dev.axisLaneUp, and_assoc]

/-- Without a transition by the resume, the one of the state. -/
theorem Dev.axisTurn_of_same (h : (d.resumeAt a).axOf a = d.axOf a) : d.axisTurn a =
    match (d.resumeAt a).axOf a with
    | .enabled => if (d.resumeAt a).hasTarget a then (d.resumeAt a).axGo a .driving else d.resumeAt a
    | .stopping => (d.resumeAt a).stopTest a
    | .asc => (d.resumeAt a).backToIdle a
    | .freewheel => (d.resumeAt a).backToIdle a
    | .idle => d.resumeAt a
    | .diag => d.resumeAt a
    | .driving => d.resumeAt a := by
  rw [Dev.axisTurn]
  rw [if_neg (not_not.2 h)] <;> rfl

theorem Dev.stopTest_of_slow (hs : d.axOf a = .stopping)
    (h : (tget d.ce.iref a).natAbs ≤ fget (d.rget (Reg.FLD_STOP a)) 16 16 * 65536 ∧
      (sword (d.rget (Reg.FLD_SPEED (d.leader a)))).natAbs < fget (d.rget (Reg.FLD_STOP a)) 0 16 * 10) :
    d.stopTest a = d.axGo a .enabled := by
  rw [Dev.stopTest, if_pos (by simp only [hs, h.1, h.2, decide_true, beq_self_eq_true, Bool.and_self])]

theorem Dev.stopTest_of_fast
    (h : ¬((tget d.ce.iref a).natAbs ≤ fget (d.rget (Reg.FLD_STOP a)) 16 16 * 65536 ∧
      (sword (d.rget (Reg.FLD_SPEED (d.leader a)))).natAbs < fget (d.rget (Reg.FLD_STOP a)) 0 16 * 10)) :
    d.stopTest a = d := by
  rw [Dev.stopTest, if_neg]
  simp only [Bool.and_eq_true, decide_eq_true_iff]
  tauto

end

/-! ### Mirrors (R19) -/

theorem length_beBytes : ∀ k n : Nat, (beBytes k n).length = k
  | 0, _ => rfl
  | k + 1, n => congrArg (· + 1) (length_beBytes k n)

theorem Dev.mread_of_sram {d e : Dev} (h : e.sram = d.sram) : ∀ n a : Nat, e.mread a n = d.mread a n
  | 0, _ => rfl
  | n + 1, a => by
    rw [Dev.mread, Dev.mread, Dev.mread_of_sram h n, Dev.mget, Dev.mget, h]

/-- Bytes written, whose words are sound again, read back. -/
theorem Dev.mread_written {d : Dev} {a b n k : Nat} {bs : List Byte} (hd : Memory.wf d.sram = true) (h : bs.length = k) :
    ((d.mwrite a bs).unpoison b n).mread a k = bs := by
  subst h
  have same : ((d.mwrite a bs).unpoison b n).sram = (d.mwrite a bs).sram := by simp only [Dev.unpoison_keeps]
  rw [Dev.mread_of_sram same, mread_mwrite bs hd]

theorem Dev.sram_wf {d : Dev} (h : d.tablesOk = true) : Memory.wf d.sram = true := by
  simp only [Dev.tablesOk, Bool.and_eq_true] at h
  obtain ⟨⟨⟨-, hsram⟩, -⟩, -⟩ := h
  exact hsram

theorem Dev.length_mirrorWords (d : Dev) (a : Nat) : ((d.mirrorWords a).flatMap (beBytes 4)).length = 64 := by
  simp only [Dev.mirrorWords, List.flatMap_cons, List.flatMap_nil, List.length_append, length_beBytes, List.length_nil]

/-- The mirror holds its words, and no other byte and no register changes. -/
theorem Dev.mirror_written {e : Dev} (a : Nat) (hd : Memory.wf e.sram = true) (hb : e.bistUnit ≠ some 5) :
    (e.mirror a).mread (mirrorBase a) 64 = (e.mirrorWords a).flatMap (beBytes 4) ∧ (e.mirror a).regs = e.regs ∧
    ∀ b, (b < mirrorBase a ∨ mirrorBase a + 64 ≤ b) → (e.mirror a).mget b = e.mget b := by
  have len := e.length_mirrorWords a
  rw [Dev.mirror, if_neg hb]
  refine ⟨Dev.mread_written hd len, by simp only [Dev.unpoison_keeps, Dev.mwrite_keeps], fun b h => ?_⟩
  have same : ∀ d : Dev, (d.unpoison (mirrorBase a) 64).mget b = d.mget b := fun _ => rfl
  rw [same]
  exact mget_mwrite_outside _ hd _ _ (by rw [len]; exact h)

/-- Settles O30: `Dev.pairLock`, the trips at a boundary, the natural transitions and the mirror of an axis, case by case. -/
theorem boundariesPeaksAndPairLock : Obligations.BoundariesPeaksAndPairLock := by
  intro s a j hl ha hj d idle
  have row : exec (.periodBoundary a) s = .next ⟨d.periodBoundary a, s.pending⟩ := by rw [exec_periodBoundary, State.run_live hl]
  have peak : exec (.peakUpdate a) s = .next ⟨d.peakUpdate a, s.pending⟩ := by rw [exec_peakUpdate, State.run_live hl]
  have chan : exec (.channelBoundary j) s = .next ⟨d.channelBoundary j, s.pending⟩ := by
    rw [exec_channelBoundary, State.run_live hl]
  have barred : (4 ≤ a ∨ d.leader a ≠ a ∨ (!d.committed) = true ∨ d.bistUnit = some 4) ↔ idle := by
    simp only [idle, Bool.not_eq_true', show ¬4 ≤ a by omega, false_or]
  have chanBarred : (6 ≤ j ∨ (!d.committed) = true ∨ d.bistUnit = some 4) ↔ d.committed = false ∨ d.bistUnit = some 4 := by
    simp only [Bool.not_eq_true', show ¬6 ≤ j by omega, false_or]
  refine ⟨fun h => ?_, fun h => ?_, fun h => ?_, fun h => ?_, fun h => ?_, fun hc hb => ?_, fun e hg hp => ?_, fun e he => ?_,
    fun e he => ?_, fun e => ?_⟩
  · rw [row, Dev.periodBoundary, if_pos (barred.2 h)]
  · intro d1 d2 d3
    rw [row, Dev.periodBoundary, if_neg (mt barred.1 h)]
    rfl
  · rw [peak, Dev.peakUpdate, if_neg (by simp [h])]
  · rw [peak, Dev.peakUpdate, if_pos h]
    rfl
  · rw [chan, Dev.channelBoundary, if_pos (chanBarred.2 h)]
  · intro d1 d2
    rw [chan, Dev.channelBoundary, if_neg (mt chanBarred.1 (by simp [hc, hb]))]
  · intro due per some' f half waited
    have hhold := e.epochHold_iff a
    have hsome : e.hasNcmp a = true ↔ some' := e.hasNcmp_iff a
    have onDue (h : due) : (e.rb (Reg.PWM_CFG a) 1 && !e.onEpoch a) = false :=
      Bool.eq_false_iff.2 fun hh => hhold.1 hh h
    have noSome (h : ¬some') : e.hasNcmp a = false := Bool.eq_false_iff.2 (mt hsome.1 h)
    have lone (h : half) : (tget e.pwm a).per = none ∨ e.hasNcmp a = false := h.elim (fun h => .inr (noSome h.2)) (fun h => .inl h.1)
    have present (h : half) : (per.isNone && !e.hasNcmp a) = false := by
      rcases h with ⟨h1, h2⟩ | ⟨h1, h2⟩
      · obtain ⟨v, hv⟩ := Option.ne_none_iff_exists'.1 h1
        simp [hv]
      · simp [hsome.2 h2]
    have wait (h : due) (hn : per = none ∨ e.hasNcmp a = false) : e.pairLock a = f.waitHalf a (per.isNone && !e.hasNcmp a) :=
      Dev.pairLock_wait hg hp (onDue h) hn
    refine ⟨fun h => ?_, fun v h hv hn => ?_, fun h hv hn => ?_, fun h hh hw => ?_, fun h hh hw hc => ?_, fun h hh hw hc => ?_⟩
    · exact Dev.pairLock_off_epoch hg hp (hhold.2 h)
    · exact Dev.pairLock_pair hg hp (onDue h) hv (hsome.2 hn)
    · rw [wait h (.inl hv), noSome hn, hv]
      rfl
    · rw [wait h (lone hh), present hh, Dev.waitHalf_new hw]
      rfl
    · rw [wait h (lone hh), present hh, Dev.waitHalf_more hw hc]
      exact congrArg (fun u : Dev => u.wsat (Reg.PWM_STAT a) 4 4) (Dev.pwMod_of_tget ha rfl)
    · rw [wait h (lone hh), present hh, Dev.waitHalf_over hw hc, Dev.each_of_alone]
      exact (Dev.group_of_topo (e.takeCmps_topo a) a).trans hg
  · intro f hf
    exact Dev.tripsAtBoundary_of_quiet he hf
  · intro f hf g reached
    rw [Dev.tripsAtBoundary_of_active he hf]
    exact ⟨fun h => if_neg h, fun h hs => (if_pos h).trans (if_neg (not_not.2 hs)), fun h hs => (if_pos h).trans (if_pos hs)⟩
  · intro u st target stops on slow gone mayIdle
    have may_iff : u.mayIdle a = true ↔ mayIdle := by
      rw [Dev.mayIdle_iff, Dev.slowEnough_iff]
      simp only [Dev.faultGone_iff]
      rfl
    have turn (h : st = tget e.ax a) := Dev.axisTurn_of_same (d := e) (a := a) h
    refine ⟨fun h => ?_, fun h => ⟨fun hs ht => ?_, fun hs ht => ?_, fun hs ht => ?_, fun hs ht => ?_, fun hs hm => ?_, fun hs hm => ?_,
      fun hs => ?_⟩, fun h => ?_, fun h => ?_, fun ht h => ?_⟩
    · exact if_pos h
    · rw [turn h, show u.axOf a = .enabled from hs]
      exact if_pos (Dev.hasTarget_iff.2 ht)
    · rw [turn h, show u.axOf a = .enabled from hs]
      exact if_neg (mt Dev.hasTarget_iff.1 ht)
    · rw [turn h, show u.axOf a = .stopping from hs]
      exact Dev.stopTest_of_slow hs ht
    · rw [turn h, show u.axOf a = .stopping from hs]
      exact Dev.stopTest_of_fast ht
    · intro v
      have back : e.axisTurn a = v.idled := by
        rw [turn h]
        rcases hs with hs | hs <;> rw [show u.axOf a = _ from hs] <;> exact if_pos (may_iff.2 hm)
      rw [back]
      exact ⟨fun h1 h2 => if_pos ⟨h1, h2⟩, fun h1 => if_neg fun hh =>
        h1.elim (fun h => h hh.1) fun h => Bool.false_ne_true (h.symm.trans hh.2)⟩
    · rw [turn h]
      rcases hs with hs | hs <;> rw [show u.axOf a = _ from hs] <;> exact if_neg (mt may_iff.1 hm)
    · rw [turn h]
      rcases hs with hs | hs | hs <;> rw [show u.axOf a = _ from hs]
    · exact if_neg fun hh => Bool.false_ne_true (h.symm.trans hh)
    · exact if_pos h
    · intro f n pu ws
      exact Dev.mirror_written a (Dev.sram_wf ht) h

end Sys2Proof.Machine

/-! ## The interlock and the islands' switches -/

namespace Sys2Proof.Machine

set_option Elab.async false

/-! ### The interlock (R182, R183) -/

theorem partner_of_high {sw : Nat} (h : sw < 12) : partner sw = some (sw + 12) := if_pos h

theorem partner_of_low {sw : Nat} (h1 : 12 ≤ sw) (h2 : sw < 24) : partner sw = some (sw - 12) := by
  rw [partner, if_neg (by omega), if_pos h2]

theorem partner_of_alone {sw : Nat} (h : 24 ≤ sw) : partner sw = none := by
  rw [partner, if_neg (by omega), if_neg (by omega)]

/-- The other switch of a half-bridge. -/
theorem partner_of_bridge {sw : Nat} (h : sw < 24) : partner sw = some (if sw < 12 then sw + 12 else sw - 12) := by
  split
  · next h1 => exact partner_of_high h1
  · next h1 => exact partner_of_low (by omega) h

theorem Switch.offFor40ns_iff (x : Switch) (now : Nat) : x.offFor40ns now = true ↔
    x.cdSent = false ∧ ∃ t, x.cdOff = some t ∧ t + 16 ≤ now := by
  unfold Switch.offFor40ns
  split <;> simp [*]

theorem Dev.ilkFree_iff (d : Dev) (sw q : Nat) : d.ilkFree sw q = true ↔ (!(tget d.link (laneOf sw)).cdLost) = true ∧
    (d.swi q).cdReq = false ∧ (d.swi q).cdSent = false ∧ ∃ t, (d.swi q).cdOff = some t ∧ t + 16 ≤ d.now := by
  simp only [Dev.ilkFree, Dev.sends, Bool.and_eq_true, Switch.offFor40ns_iff, Bool.not_eq_true', and_assoc]

section
variable {d : Dev} {sw t : Nat}

theorem Dev.ilkRelease_of_bridge (h : sw < 24) (ht : (d.swi sw).cdHeld = some t) : d.ilkRelease sw =
    if (d.swi sw).cdReq && d.ilkFree sw (if sw < 12 then sw + 12 else sw - 12) then (d.ilkSend sw).ilkExt sw (d.now - t) else d := by
  rw [Dev.ilkRelease, partner_of_bridge h, ht]

theorem Dev.ilkRelease_of_alone (h : 24 ≤ sw) (ht : (d.swi sw).cdHeld = some t) : d.ilkRelease sw =
    if (d.swi sw).cdReq && d.sends sw then d.ilkSend sw else d := by
  rw [Dev.ilkRelease, partner_of_alone h, ht]

theorem Dev.ilkRelease_of_none (ht : (d.swi sw).cdHeld = none) : d.ilkRelease sw = d := by
  rw [Dev.ilkRelease, ht]
  cases partner sw <;> rfl

end

/-- A switch of a lane acts on a command word (R173, R319, R333). -/
theorem Dev.swMod_command (e : Dev) (sw : Nat) :
    e.swMod sw (if e.heldOn sw then Switch.islTurnOn else if e.stoBars sw then Switch.islTurnOff else Switch.islApply) =
      e.swMod sw (fun x => if e.heldOn sw then x.islTurnOn else if !e.stoBars sw && x.cdSent then x.islTurnOn else x.islTurnOff) := by
  congr 1
  funext x
  cases e.heldOn sw <;> cases e.stoBars sw <;> simp [Switch.islApply]

/-- Settles O31: each operation by the partner of its switch, the state of its lane, and what bars the switch. -/
theorem interlockAndIslandCommands : Obligations.InterlockAndIslandCommands := by
  intro s sw lane on hl hsw d x y carries off40 free sent
  have release : exec (.interlockRelease sw) s = .next ⟨d.ilkRelease sw, s.pending⟩ := by
    rw [exec_interlockRelease, State.run_live hl]
  have word (c : Bool) : exec (.islandCommandWord lane c) s = .next ⟨d.commandWord lane c, s.pending⟩ := by
    rw [exec_islandCommandWord, State.run_live hl]
  have same : d.swi sw = x := rfl
  have bridge (h : sw < 24) : ((d.swi sw).cdReq && d.ilkFree sw (if sw < 12 then sw + 12 else sw - 12)) = true ↔ free := by
    rw [Bool.and_eq_true, Dev.ilkFree_iff]
    simp only [free, show ¬24 ≤ sw by omega, false_or]
    rfl
  have alone (h : 24 ≤ sw) : ((d.swi sw).cdReq && d.sends sw) = true ↔ free := by
    rw [Bool.and_eq_true]
    simp only [free, h, true_or, and_true]
    rfl
  refine ⟨fun t ht hf => ?_, fun h => ?_, ?_, fun h => ?_, fun h => ?_, fun h1 h2 => ?_, fun e sw h => ?_, fun e sw h1 h2 => ?_,
    fun e sw h => ?_, fun e i h => ?_, fun e sw h => ?_, fun h => ?_, ?_⟩
  · rw [release]
    by_cases h : sw < 24
    · rw [Dev.ilkRelease_of_bridge h ht, if_pos ((bridge h).2 hf), if_pos h]
      rfl
    · rw [Dev.ilkRelease_of_alone (by omega) ht, if_pos ((alone (by omega)).2 hf), if_neg h]
      rfl
  · rw [release]
    cases ht : (d.swi sw).cdHeld with
    | none => rw [Dev.ilkRelease_of_none ht]
    | some t =>
      have notFree : ¬free := h.resolve_left fun hn => Option.some_ne_none t (ht.symm.trans hn)
      by_cases h24 : sw < 24
      · rw [Dev.ilkRelease_of_bridge h24 ht, if_neg (mt (bridge h24).1 notFree)]
      · rw [Dev.ilkRelease_of_alone (by omega) ht, if_neg (mt (alone (by omega)).1 notFree)]
  · rw [exec_vgsConfirm, State.run_live hl]
    rfl
  · rw [exec_cdConfirmOffAssumed, State.run_live hl, Dev.assumeOff]
    exact congrArg (fun u => Host.Outcome.next (State.mk u s.pending)) (if_pos h)
  · rw [exec_cdConfirmOffAssumed, State.run_live hl, Dev.assumeOff]
    exact congrArg (fun u => Host.Outcome.next (State.mk u s.pending)) (if_neg fun hh => Bool.false_ne_true (h.symm.trans hh))
  · rw [word, Dev.commandWord, if_pos (by simp only [h1, h2, Bool.not_false, Bool.and_self])]
    simp only [Dev.swMod_command]
  · simp [Dev.stoBars, h, show sw < 24 by omega]
  · simp [Dev.stoBars, h2, show ¬sw < 12 by omega]
  · simp [Dev.stoBars, show ¬sw < 24 by omega]
  · interval_cases i <;> simp [Dev.heldOn, Dev.giMayChop]
  · simp [Dev.heldOn, show sw ≠ 24 by omega, show sw ≠ 25 by omega]
  · rw [word, Dev.commandWord, if_neg]
    rcases h with h | h <;> simp [h]
  · rw [word, Dev.commandWord, Bool.false_and, Bool.false_and, if_neg (by decide)]

section
variable {d : Dev} {sw q : Nat}

theorem partner_ne (h : partner sw = some q) : sw ≠ q := by
  unfold partner at h
  split_ifs at h <;> simp only [Option.some.injEq] at h <;> omega

theorem Dev.swi_ilkHold_other (h : sw ≠ q) : (d.ilkHold sw).swi q = d.swi q := by
  rw [Dev.ilkHold, swi_swMod, if_neg (by tauto)]

/-- What is held is not sent by it. -/
theorem Dev.ilkHold_sent (j : Nat) : ((d.ilkHold sw).swi j).cdSent = (d.swi j).cdSent := by
  rw [Dev.ilkHold, swi_swMod]
  split <;> rfl

theorem Dev.ilkRecall_sent {j : Nat} (h : ((d.ilkRecall sw).swi j).cdSent = true) : (d.swi j).cdSent = true := by
  unfold Dev.ilkRecall at h
  split at h
  · rw [swi_swMod] at h
    split at h
    · cases h
    · exact h
  · exact h

/-- A turn-on that was sent in this tick is taken back. -/
theorem Dev.ilkRecall_off (hsw : sw < 28) (h : (d.swi sw).cdAt = d.now) : ((d.ilkRecall sw).swi sw).cdSent = false := by
  unfold Dev.ilkRecall
  split
  · rw [swi_swMod, if_pos ⟨rfl, hsw⟩]
  · next hc => simpa [h] using hc

theorem Dev.swi_shootReq (n j : Nat) : (d.shootReq n).swi j = d.swi j := by
  simp only [Dev.swi, Dev.shootReq, Dev.occ_keeps, Dev.ev_keeps, Dev.wb_keeps]

theorem Dev.swi_ilkExt (n : Nat) (j : Nat) : (d.ilkExt sw n).swi j = d.swi j := by
  unfold Dev.ilkExt Dev.swi
  split <;> simp

/-- A turn-on that reaches the interlock turns on its own switch only, and that only while its partner is not commanded on. -/
theorem Dev.ilkOn_sent (hp : partner sw = some q) {j : Nat} (h : ((d.ilkOn sw).swi j).cdSent = true) :
    (d.swi j).cdSent = true ∨ (j = sw ∧ (d.swi q).cdSent = false) := by
  unfold Dev.ilkOn at h
  rw [hp] at h
  dsimp only at h
  split_ifs at h with hb hc hf
  · exact .inl h
  · rw [Dev.swi_shootReq] at h
    have h := Dev.ilkRecall_sent h
    rw [Dev.ilkHold_sent] at h
    exact .inl h
  · rw [Dev.swi_ilkExt, Dev.ilkSend, swi_swMod] at h
    split at h
    · next hj => exact .inr ⟨hj.1.symm, (Dev.ilkFree_iff ..).1 hf |>.2.2.1⟩
    · exact .inl h
  · rw [Dev.ilkHold_sent] at h
    exact .inl h

end

/-- Settles O32: the branches of `Dev.ilkOn`; a turn-on is sent only while the other switch is off, and the partner of the switch is
never turned on by it. -/
theorem bothOnRequestIsRefused : Obligations.BothOnRequestIsRefused := by
  intro d n high hn sw q y carries held back off40
  have part : partner sw = some q := by
    cases high
    · simp only [sw, q, Bool.false_eq_true, if_false]
      rw [partner_of_low (by omega) (by omega), Nat.add_sub_cancel]
    · exact partner_of_high hn
  have lane : sw % 12 = n := by cases high <;> simp [sw] <;> omega
  have free : d.ilkFree sw q = true ↔ carries = true ∧ (d.swi q).cdReq = false ∧ (d.swi q).cdSent = false ∧ off40 := d.ilkFree_iff sw q
  have apart : sw ≠ q := partner_ne part
  have recalled : back = (d.ilkHold sw).ilkRecall q := by
    rw [Dev.ilkRecall, Dev.swi_ilkHold_other apart]
    rfl
  have on (hb : d.bistUnit ≠ some 4) : d.ilkOn sw = if (y.cdReq || y.cdSent) = true then
      (back.shootReq n) else if d.ilkFree sw q then (d.ilkSend sw).ilkExt sw 0 else d.ilkHold sw := by
    rw [Dev.ilkOn, if_neg hb, part, recalled, ← lane]
    rfl
  refine ⟨fun h => if_pos h, fun hb hy => ?_, fun hb hy hc ho => ?_, fun hb hy hno => ?_, fun hy hat hb => ?_, fun hboth => ?_⟩
  · rw [on hb, if_pos hy]
    rfl
  · rw [on hb, if_neg (by simp [hy]), if_pos]
    · rfl
    · rw [Bool.or_eq_false_iff] at hy
      exact free.2 ⟨hc, hy.1, hy.2, ho⟩
  · rw [on hb, if_neg (by simp [hy]), if_neg]
    · rfl
    · rw [free]
      rcases hno with h | h
      · simp [h]
      · exact fun hh => h hh.2.2.2
  · have q28 : q < 28 := by cases high <;> simp [q] <;> omega
    rw [on hb, if_pos (by simp [hy]), recalled]
    have off := Dev.ilkRecall_off (d := d.ilkHold sw) q28 ((congrArg Switch.cdAt (Dev.swi_ilkHold_other apart)).trans hat)
    rw [← Dev.swi_shootReq n] at off
    exact off
  · have both (hs : ((d.ilkOn sw).swi sw).cdSent = true) (hq : ((d.ilkOn sw).swi q).cdSent = true) :
        (d.swi sw).cdSent = true ∧ (d.swi q).cdSent = true := by
      have hq' := (Dev.ilkOn_sent part hq).resolve_right fun h => apart h.1.symm
      exact ⟨(Dev.ilkOn_sent part hs).resolve_right fun h => Bool.false_ne_true (h.2.symm.trans hq'), hq'⟩
    rintro ⟨h1, h2⟩
    cases high
    · exact hboth (both h2 h1).symm
    · exact hboth (both h1 h2)

/-! ### Segments, the gate monitor and short circuits (R184–R189) -/

/-- The fault of a switch of either kind (R196). -/
theorem Dev.occ_swFault (e : Dev) (sw c g : Nat) : e.occ (swFault sw c g).1 (swFault sw c g).2 =
    if sw < 12 then e.occ (0x0540 + 0x10 * sw + c) 0 else e.occ g (sw - 12) := by
  unfold swFault
  split
  · rfl
  · rfl

/-- The switch has not been confirmed as the island has applied it. -/
theorem Switch.unconfirmed_eq (x : Switch) :
    (x.islOn && !x.islOnConf || !x.islOn && !x.islOff) = !(if x.islOn then x.islOnConf else x.islOff) := by
  cases x.islOn <;> simp

/-- Settles O33: the operations of a switch, whose fault `Dev.occ_swFault` names. -/
theorem segmentsGateMonitorAndShortCircuit : Obligations.SegmentsGateMonitorAndShortCircuit := by
  intro s sw timeout hl hsw d x f flags ok hold soft
  have segment : exec (.segmentEnd sw timeout) s = .next ⟨d.segmentEnd sw timeout, s.pending⟩ := by
    rw [exec_segmentEnd, State.run_live hl]
  have monitor : exec (.gateMonitorTimeout sw) s = .next ⟨d.gateTimeout sw, s.pending⟩ := by
    rw [exec_gateMonitorTimeout, State.run_live hl]
  have short : exec (.shortDetected sw) s = .next ⟨d.shortDetected sw, s.pending⟩ := by
    rw [exec_shortDetected, State.run_live hl]
  have fault (e : Dev) (c g : Nat) : e.occ (swFault sw c g).1 (swFault sw c g).2 = f c g e := e.occ_swFault sw c g
  have timeoutEq : d.gateTimeout sw = if !ok && (sw == 24 || sw == 25) && !((if !ok then f 0xB 0x050A d else d).chopper (sw - 24)).faulty
      then (if !ok then f 0xB 0x050A d else d).chopMark (sw - 24) 5 else if !ok then f 0xB 0x050A d else d := by
    simp only [Dev.gateTimeout, Dev.gateMonitor, Switch.unconfirmed_eq, fault]
    rfl
  refine ⟨fun h => ?_, fun e i h => ?_, fun h => ?_, fun h hn => ?_, fun h hy => ?_, ?_, fun h h1 => ?_, fun h => ?_⟩
  · rw [segment, Dev.segmentEnd, show (d.swi sw).edge = none from h]
  · intro seg d1
    rw [segment, Dev.segmentEnd, show (d.swi sw).edge = some (e, i) from h]
    simp only [fault]
    rfl
  · rw [monitor, timeoutEq, h]
    rfl
  · have other : (sw == 24 || sw == 25) = false := by simpa using hn
    rw [monitor, timeoutEq, h, other]
    rfl
  · have chopper : (sw == 24 || sw == 25) = true := by simpa using hy
    rw [monitor, timeoutEq, h, chopper]
    simp only [Bool.not_false, Bool.true_and, if_true]
    have mark : (f 0xB 0x050A d).chopper (sw - 24) = tget (f 0xB 0x050A d).dcl.chop (sw - 24) := rfl
    rw [mark]
    cases (tget (f 0xB 0x050A d).dcl.chop (sw - 24)).faulty <;> rfl
  · rw [exec_scBlankEnd, State.run_live hl]
    rfl
  · have armed : (decide (sw < 24) && (d.swi sw).scArmed) = true := by simp [h]; exact h1
    rw [short, Dev.shortDetected, if_pos armed]
    simp only [fault]
    rfl
  · rw [short, Dev.shortDetected, if_neg]
    rw [Bool.and_eq_true, decide_eq_true_iff]
    exact fun hh => h.elim (fun h => by omega) fun h => Bool.false_ne_true (h.symm.trans hh.2)

end Sys2Proof.Machine

/-! ## Lanes -/

namespace Sys2Proof.Machine

set_option Elab.async false

/-! ### What a completion leaves alone -/

theorem Dev.notice_link (d : Dev) (p : Nat) (bs : List Byte) : (d.notice p bs).link = d.link := by
  unfold Dev.notice
  split_ifs
  · rfl
  · simp
  · rfl

theorem Dev.complete_link (d : Dev) (c : Cmd) (st : Nat) (r : List Byte) : (d.complete c st r).link = d.link := by
  unfold Dev.complete
  extract_lets h i n irq d1 d2 d3 d4 d5 d6
  have h4 : d4.link = d.link := by simp [d4, d3, d2, d1, Dev.setCmds, Dev.hpMod]
  have h5 : d5.link = d.link := by simp only [d5]; split <;> simp [h4]
  have h6 : d6.link = d.link := by simp only [d6]; split <;> simp [Dev.notice_link, h5]
  simp [h6]

theorem Dev.completeRun_link (d : Dev) (p : Cmd → Bool) (st : Nat) (r : List Byte) : (d.completeRun p st r).link = d.link :=
  foldl_view (·.link) _ (fun e c => e.complete_link c st r) _ d

/-! ### Numbers of a lane -/

section
variable {d : Dev} {lane : Nat}

theorem Dev.linkFlags_of_isl (h : lane < 12) (d : Dev) (ok lost : Bool) : d.linkFlags lane ok lost =
    (d.wb (Reg.ISL_H_STAT lane) 15 ok).wb (Reg.ISL_H_STAT lane) 14 lost := if_pos h

theorem Dev.linkFlags_of_gi (h : 12 ≤ lane) (d : Dev) (ok lost : Bool) : d.linkFlags lane ok lost =
    (d.wb Reg.ISL_GI_STAT (6 + (lane - 12)) ok).wb Reg.ISL_GI_STAT (8 + (lane - 12)) lost := if_neg (Nat.not_lt.2 h)

theorem lossFault_of_isl (h : lane < 12) : lossFault lane = 0x0540 + 0x10 * lane := if_pos h
theorem lossFault_of_gi (h : 12 ≤ lane) : lossFault lane = 0x0501 + (lane - 12) := if_neg (Nat.not_lt.2 h)
theorem untrainedFault_of_isl (h : lane < 12) : untrainedFault lane = (0x0541 + 0x10 * lane, 0) := if_pos h
theorem untrainedFault_of_gi (h : 12 ≤ lane) : untrainedFault lane = (0x0503, lane - 12) := if_neg (Nat.not_lt.2 h)

theorem tget_ofFn {α : Type} [Inhabited α] {n : Nat} (f : Fin n → α) {i : Nat} (h : i < n) : tget (Vector.ofFn f) i = f ⟨i, h⟩ := by
  simp [tget, h]

/-- A lost temperature leaves the choices of every lane. -/
theorem Dev.tempLost_sent (d : Dev) (lane l : Nat) : (tget (d.tempLost lane).link l).sent = (tget d.link l).sent := by
  have kept (s : Nat) (t : Option (Option Int)) (d : Dev) : (tget (d.tempSet s t).link l).sent = (tget d.link l).sent := by
    refine foldl_view (fun d => (tget d.link l).sent) _ (fun e m => ?_) _ d
    rw [tget_tmod]
    split <;> rfl
  unfold Dev.tempLost
  extract_lets s
  split
  · rw [Dev.tempHere, Dev.completeRun_link]
    simpa [Dev.tempResult] using kept s none d
  · rfl

/-- The lane is untrained or lost at the CD. -/
theorem Dev.not_heard_iff (d : Dev) (lane : Nat) : (!(d.lnk lane).trained || (d.lnk lane).cdLost) = true ↔
    (tget d.link lane).cdLost = true ∨ (tget d.link lane).trained = false := by
  rw [Bool.or_eq_true, Bool.not_eq_true', or_comm]
  rfl

/-- The lane is untrained or lost at its other end. -/
theorem Dev.mute_iff (d : Dev) (lane : Nat) : (!(d.lnk lane).trained || (d.lnk lane).islLost) = true ↔
    (tget d.link lane).islLost = true ∨ (tget d.link lane).trained = false := by
  rw [Bool.or_eq_true, Bool.not_eq_true', or_comm]
  rfl

/-! ### Frames -/

theorem Dev.lnk_lnkMod (hl : lane < 14) (d : Dev) (f : Link → Link) : (d.lnkMod lane f).lnk lane = f (d.lnk lane) :=
  tget_tmod_same d.link hl f

/-- A good frame at the CD, on a lane that it hears. -/
theorem Dev.frameAtCd_of_good (hl : lane < 14) (h : (!(d.lnk lane).trained || (d.lnk lane).cdLost) = false) (flag : Bool) (t : Telemetry) :
    let e := d.lnkMod lane (fun l => { l with badCd := 0 })
    d.frameAtCd lane false flag t = if flag || (d.lnk lane).islLost then e.cdDeclare lane
      else if 12 ≤ lane then ((e.telemetry lane t).tempFrame lane).frameSamples (lane - 12) else (e.telemetry lane t).tempFrame lane := by
  have same : ((d.lnkMod lane (fun l => { l with badCd := 0 })).lnk lane).islLost = (d.lnk lane).islLost := by rw [Dev.lnk_lnkMod hl]
  intro e
  rw [Dev.frameAtCd, h, if_neg (by decide), if_neg (by decide), ← same]

/-- A good frame at an island with the flag, or from a CD that has declared the loss. -/
theorem Dev.frameAtIsl_of_loss (h : (!(d.lnk lane).trained || (d.lnk lane).islLost) = false) {flag : Bool}
    (hf : flag = true ∧ lane < 12 ∨ (d.lnk lane).cdLost = true) :
    d.frameAtIsl lane false flag = (d.lnkMod lane (fun l => { l with badIsl := 0 })).islDeclare lane := by
  have quiet : (decide (12 ≤ lane) && !(d.lnk lane).cdLost) = false := by
    rcases hf with ⟨-, h12⟩ | hc
    · simp [h12]
    · simp [hc]
  have told : (flag || (d.lnk lane).cdLost) = true := by
    rcases hf with ⟨hf, -⟩ | hc
    · simp [hf]
    · simp [hc]
  simp only [Dev.frameAtIsl, h, quiet, told, Bool.false_eq_true, if_false, if_true]

/-! ### Declarations -/

theorem Dev.cdDeclare_of_barred (h : ((d.lnk lane).cdLost || !(d.lnk lane).trained || d.laneTest lane) = true) :
    d.cdDeclare lane = d := if_pos h

theorem Dev.islDeclare_of_barred (h : ((d.lnk lane).islLost || !(d.lnk lane).trained || d.laneTest lane) = true) :
    d.islDeclare lane = d := if_pos h

/-- What the CD's declaration of any lane does to the lane (R177, R178). -/
def Dev.laneGone (d : Dev) (lane : Nat) : Dev :=
  (d.lnkMod lane (fun l => { l with cdLost := true, retraining := false, badCd := 0 })).laneMod lane
    (fun x => { x with cdSent := false, cdHeld := none, cdOff := none })

theorem Dev.cdDeclare_of_isl (h : ((d.lnk lane).cdLost || !(d.lnk lane).trained || d.laneTest lane) = false) (h12 : lane < 12) :
    d.cdDeclare lane = (((((d.laneGone lane).wb (Reg.ISL_H_STAT lane) 15 false).wb (Reg.ISL_H_STAT lane) 14 true).tempLost lane).lvlOn
      (0x0540 + 0x10 * lane) 0).ev 0x86 := by
  simp only [Dev.cdDeclare, Dev.laneGone, h, h12, Bool.false_eq_true, if_false, if_true, Dev.linkFlags_of_isl, lossFault_of_isl]

theorem Dev.cdDeclare_of_gi (h : ((d.lnk lane).cdLost || !(d.lnk lane).trained || d.laneTest lane) = false) (h12 : 12 ≤ lane) :
    d.cdDeclare lane = ((((((((d.sendChoices lane false).laneGone lane).wb Reg.ISL_GI_STAT (6 + (lane - 12)) false).wb Reg.ISL_GI_STAT
      (8 + (lane - 12)) true).tempLost lane).lvlOn (0x0501 + (lane - 12)) 0).ev (0x84 + (lane - 12))).giLost (lane - 12)) := by
  simp only [Dev.cdDeclare, Dev.laneGone, h, show ¬lane < 12 by omega, Bool.false_eq_true, if_false, Dev.linkFlags_of_gi h12,
    lossFault_of_gi h12]

/-- The choices of a lane that is lost are the ones that stand (log entry 152). -/
theorem Dev.sendChoices_unheard (d : Dev) (lane : Nat) : d.sendChoices lane false =
    ((d.lnkMod lane (fun l => { l with sent := Vector.ofFn (fun a : Fin 4 => d.choice a) })).wb Reg.ISL_GI_SAFE (2 * (lane - 12))
      (tget (Vector.ofFn (fun a : Fin 4 => d.choice a)) (2 * (lane - 12)))).wb Reg.ISL_GI_SAFE (2 * (lane - 12) + 1)
      (tget (Vector.ofFn (fun a : Fin 4 => d.choice a)) (2 * (lane - 12) + 1)) := by
  simp only [Dev.sendChoices, Bool.false_eq_true, if_false, laneAxes, List.foldl_cons, List.foldl_nil]

/-- What the loss of a lane of the GI does to one of its axes (R180). -/
def Dev.axisLost (g : Nat) (asc : Bool) (u : Dev) (a : Nat) : Dev :=
  let u := (if (tget u.ax a).active then u.axGo a (if asc then .asc else .freewheel) else u).blame (0x0501 + g) a
  ((u.ilkOff (3 * a)).ilkOff (3 * a + 1)).ilkOff (3 * a + 2)

theorem Dev.giLost_eq {g : Nat} (hg : g < 2) (d : Dev) (asc : Nat → Bool)
    (h : (tget d.link (12 + g)).sent = Vector.ofFn (fun a : Fin 4 => asc a)) :
    let f := ((((Dev.axisLost g (asc (2 * g + 1)) (Dev.axisLost g (asc (2 * g)) d (2 * g)) (2 * g + 1)).adcLaneLost g).adFail g).wb
      (Reg.DCL_CH_STAT g) 26 true)
    d.giLost g = if g = 0 then f.dclEval else f := by
  have low : tget (Vector.ofFn (fun a : Fin 4 => asc a)) (2 * g) = asc (2 * g) := tget_ofFn _ (by omega)
  have high : tget (Vector.ofFn (fun a : Fin 4 => asc a)) (2 * g + 1) = asc (2 * g + 1) := tget_ofFn _ (by omega)
  have sent : (d.lnk (12 + g)).sent = Vector.ofFn (fun a : Fin 4 => asc a) := h
  simp only [Dev.giLost, laneAxes, List.foldl_cons, List.foldl_nil, sent, low, high, lossFault_of_gi (Nat.le_add_right 12 g),
    Nat.add_sub_cancel_left]
  rfl

theorem Dev.laneMod_link (d : Dev) (lane : Nat) (f : Switch → Switch) : (d.laneMod lane f).link = d.link :=
  foldl_view (·.link) (fun e sw => e.swMod sw f) (fun _ _ => rfl) _ d

/-- The choices that a lane carried last are those that stand when its loss is declared. -/
theorem Dev.sent_of_lost (h12 : 12 ≤ lane) (hl : lane < 14) (d : Dev) :
    (tget ((((((d.sendChoices lane false).laneGone lane).wb Reg.ISL_GI_STAT (6 + (lane - 12)) false).wb Reg.ISL_GI_STAT
      (8 + (lane - 12)) true).tempLost lane).lvlOn (0x0501 + (lane - 12)) 0 |>.ev (0x84 + (lane - 12))).link lane).sent =
      Vector.ofFn (fun a : Fin 4 => d.choice a) := by
  simp only [Dev.ev_keeps, Dev.lvlOn_keeps]
  rw [Dev.tempLost_sent]
  simp only [Dev.wb_keeps]
  rw [Dev.laneGone, Dev.laneMod_link, Dev.sendChoices_unheard]
  have first (e : Dev) (f : Link → Link) : tget (e.lnkMod lane f).link lane = f (tget e.link lane) := Dev.lnk_lnkMod hl e f
  rw [first]
  simp only [Dev.wb_keeps]
  rw [first]

/-- The declaration of a lane at its island (R178). -/
theorem Dev.islDeclare_of_isl (h : ((d.lnk lane).islLost || !(d.lnk lane).trained || d.laneTest lane) = false) (h12 : lane < 12) :
    d.islDeclare lane = (d.lnkMod lane (fun l => { l with islLost := true, badIsl := 0 })).swMod lane Switch.islTurnOff := by
  simp only [Dev.islDeclare, h, h12, Bool.false_eq_true, if_false, if_true]

/-- A lane of the GI that the GI declares lost, before its chopper follows the fallback (R179, R323). -/
def Dev.giFallback (d : Dev) (lane : Nat) : Dev :=
  (((laneSwitches lane).foldl (fun e sw => if sw = 24 + (lane - 12) then e else e.swMod sw Switch.islTurnOff)
    (d.lnkMod lane (fun l => { l with islLost := true, badIsl := 0 }))).chopMod (lane - 12) (fun c => { c with fbk := true }))

theorem Dev.islDeclare_of_gi (h : ((d.lnk lane).islLost || !(d.lnk lane).trained || d.laneTest lane) = false) (h12 : 12 ≤ lane) :
    let e := d.giFallback lane
    d.islDeclare lane = if e.fbkHolds (lane - 12) then e.swMod (24 + (lane - 12)) Switch.islTurnOn
      else if e.dcl.tripped && e.giMayChop (lane - 12) then e else e.swMod (24 + (lane - 12)) Switch.islTurnOff := by
  simp only [Dev.islDeclare, h, show ¬lane < 12 by omega, Bool.false_eq_true, if_false, Dev.giFallback]
  rfl

theorem foldl_filter_ne {α : Type} (f : α → Nat → α) (k : Nat) : ∀ (l : List Nat) (x : α),
    (l.filter (fun n => n ≠ k)).foldl f x = l.foldl (fun x n => if n = k then x else f x n) x
  | [], _ => rfl
  | n :: l, x => by
    by_cases h : n = k
    · simpa [h] using foldl_filter_ne f k l x
    · simpa [h] using foldl_filter_ne f k l (f x n)

/-! ### Training -/

theorem Dev.untrained_of_new (h : (tget d.link lane).trained = false) : d.untrained lane =
    ((d.lnkMod lane (fun l => { l with cdLost := true, retraining := false })).linkFlags lane false true).lvlOn
      (untrainedFault lane).1 (untrainedFault lane).2 :=
  if_neg fun hh => Bool.false_ne_true (h.symm.trans hh)

/-- The lane is up at both ends (R181). -/
def Dev.laneUpAgain (d : Dev) (lane : Nat) : Dev := d.lnkMod lane (fun l =>
  { l with trained := true, cdLost := false, islLost := false, retraining := false, badCd := 0, badIsl := 0 })

theorem Dev.laneBack_of_isl (h12 : lane < 12) (d : Dev) :
    let e := ((((d.laneUpAgain lane).wb (Reg.ISL_H_STAT lane) 15 true).wb (Reg.ISL_H_STAT lane) 14 false).lvlOff
      (0x0540 + 0x10 * lane) 0).lvlOff (0x0541 + 0x10 * lane) 0
    d.laneBack lane = (if (d.lnk lane).cdLost then e.wsat (Reg.ISL_H_LINK lane) 24 8 else e).reissue lane := by
  simp only [Dev.laneBack, h12, if_true, Dev.linkFlags_of_isl, lossFault_of_isl, untrainedFault_of_isl, Dev.laneUpAgain]

/-- A lane of the GI that carries frames again, before its converters and selectors follow. -/
def Dev.giBack (d : Dev) (lane : Nat) : Dev :=
  let g := lane - 12
  let e := ((((d.laneUpAgain lane).wb Reg.ISL_GI_STAT (6 + g) true).wb Reg.ISL_GI_STAT (8 + g) false).lvlOff (0x0501 + g) 0).lvlOff
    0x0503 g
  let e := (((e.wb Reg.ISL_GI_STAT (12 + 2 * g) false).wb Reg.ISL_GI_STAT (12 + (2 * g + 1)) false).wb (Reg.DCL_CH_STAT g) 26
    false).chopMod g (fun c => { c with fbk := false })
  (e.ilkOff (24 + g)).sendChoices lane true

theorem Dev.laneBack_of_gi (h12 : 12 ≤ lane) (d : Dev) :
    let e := d.giBack lane
    d.laneBack lane = (((if e.dstate = .imageCheck then e.giTrained else e.adcLaneBack (lane - 12)).select
      (2 * (lane - 12))).select (2 * (lane - 12) + 1)).reissue lane := by
  simp only [Dev.laneBack, show ¬lane < 12 by omega, if_false, Dev.linkFlags_of_gi h12, lossFault_of_gi h12, untrainedFault_of_gi h12,
    laneAxes, List.foldl_cons, List.foldl_nil, Dev.giBack, Dev.laneUpAgain] <;> rfl

/-- Choices that the GI has received are those that stand. -/
theorem Dev.sendChoices_received (hl : lane < 14) (u : Dev) (a : Fin 4) :
    (tget (u.sendChoices lane true).link lane).sent[a] = u.choice a ∧ (tget (u.sendChoices lane true).link lane).recv[a] = u.choice a := by
  have first (e : Dev) (f : Link → Link) : tget (e.lnkMod lane f).link lane = f (tget e.link lane) := Dev.lnk_lnkMod hl e f
  have chop (e : Dev) (i : Nat) (f : Chop → Chop) : (e.chopMod i f).link = e.link := rfl
  have wb2 (e : Dev) (f : Nat → Bool) (l : List Nat) : (l.foldl (fun d a => d.wb Reg.ISL_GI_SAFE a (f a)) e).link = e.link :=
    foldl_view (·.link) _ (fun _ _ => by simp) l e
  simp only [Dev.sendChoices, if_true, chop, wb2, first]
  exact ⟨by simp, by simp⟩

end

/-- Settles O34: frames, declarations and training by the end, the kind of lane and its state. -/
theorem lanesAreLostAndRetrained : Obligations.LanesAreLostAndRetrained := by
  intro s lane words checksOk seqOk flag ok t hl hlane d l n bad counted good gone mute atCd atIsl
  have cd : atCd = .next ⟨d.frameAtCd lane bad flag t, s.pending⟩ := by
    simp only [atCd]
    rw [exec_linkFrameReceived, State.run_live hl]
    rfl
  have isl : atIsl = .next ⟨d.frameAtIsl lane bad flag, s.pending⟩ := by
    simp only [atIsl]
    rw [exec_linkFrameReceived, State.run_live hl]
    rfl
  have timeout (b : Bool) : exec (.linkTimeout lane b) s = .next ⟨if b then d.cdDeclare lane else d.islDeclare lane, s.pending⟩ := by
    rw [exec_linkTimeout, State.run_live hl]
  have training : exec (.retrainEnd lane ok) s = .next ⟨d.retrainEnd lane ok, s.pending⟩ := by
    rw [exec_retrainEnd, State.run_live hl]
  have gone_iff : (!(d.lnk lane).trained || (d.lnk lane).cdLost) = true ↔ gone := d.not_heard_iff lane
  have mute_iff : (!(d.lnk lane).trained || (d.lnk lane).islLost) = true ↔ mute := d.mute_iff lane
  have heard (h : ¬gone) : (!(d.lnk lane).trained || (d.lnk lane).cdLost) = false := Bool.eq_false_iff.2 (mt gone_iff.1 h)
  have cdBarred : ((d.lnk lane).cdLost || !(d.lnk lane).trained || d.laneTest lane) = true ↔ gone ∨ d.laneTest lane = true := by
    rw [Bool.or_eq_true, Bool.or_eq_true, Bool.not_eq_true']
    rfl
  have islBarred : ((d.lnk lane).islLost || !(d.lnk lane).trained || d.laneTest lane) = true ↔ mute ∨ d.laneTest lane = true := by
    rw [Bool.or_eq_true, Bool.or_eq_true, Bool.not_eq_true']
    rfl
  have cdFree (h : ¬gone) (ht : d.laneTest lane = false) :=
    Bool.eq_false_iff.2 fun hh => (cdBarred.1 hh).elim h fun h => Bool.false_ne_true (ht.symm.trans h)
  have islFree (h : ¬mute) (ht : d.laneTest lane = false) :=
    Bool.eq_false_iff.2 fun hh => (islBarred.1 hh).elim h fun h => Bool.false_ne_true (ht.symm.trans h)
  have heardIsl (h : ¬mute) : (!(d.lnk lane).trained || (d.lnk lane).islLost) = false := Bool.eq_false_iff.2 (mt mute_iff.1 h)
  refine ⟨fun h => ?_, fun h hb => ?_, fun h hb hf => ?_, fun h hb hf hi => ?_, fun h => ?_, fun h hb hf => ?_, timeout true, timeout false,
    fun h => ?_, fun h => ?_, fun h12 h ht => ?_, fun h12 h ht => ?_, fun h12 h ht => ?_, fun h12 h ht => ?_, ?_, fun h => ?_,
    ?_, fun h => ?_, fun h h12 => ?_, fun h => ?_, ?_⟩
  · rw [cd, Dev.frameAtCd, if_pos (gone_iff.2 h)]
  · rw [cd, Dev.frameAtCd, if_neg (mt gone_iff.1 h), if_pos hb]
    rfl
  · rw [cd, hb, Dev.frameAtCd_of_good hlane (heard h)]
    exact congrArg (fun u => Host.Outcome.next (State.mk u s.pending)) (if_pos (Bool.or_eq_true_iff.2 hf))
  · have silent : (flag || (d.lnk lane).islLost) = false := Bool.or_eq_false_iff.2 ⟨hf, hi⟩
    rw [cd, hb, Dev.frameAtCd_of_good hlane (heard h)]
    exact congrArg (fun u => Host.Outcome.next (State.mk u s.pending)) (if_neg (Bool.eq_false_iff.1 silent))
  · rw [isl, Dev.frameAtIsl]
    exact congrArg (fun u => Host.Outcome.next (State.mk u s.pending)) (if_pos (mute_iff.2 h))
  · rw [isl, hb, Dev.frameAtIsl_of_loss (heardIsl h) hf]
    rfl
  · exact Dev.cdDeclare_of_barred (cdBarred.2 h)
  · exact Dev.islDeclare_of_barred (islBarred.2 h)
  · exact Dev.cdDeclare_of_isl (cdFree h ht) h12
  · intro g asc e1 e2 e3 e4 e5 off f
    have hg : lane = 12 + g := by omega
    have asc_eq (a : Nat) (ha : a < 4) : tget (Vector.ofFn (fun a : Fin 4 => d.choice a)) a = asc a := tget_ofFn _ ha
    have start : d.sendChoices lane false = e2 := by
      rw [Dev.sendChoices_unheard, asc_eq _ (by omega), asc_eq _ (by omega)]
      rfl
    rw [Dev.cdDeclare_of_gi (cdFree h ht) h12, Dev.giLost_eq (by omega) _ asc (hg ▸ Dev.sent_of_lost h12 hlane d), start]
    rfl
  · intro g e1 e2 e3
    have fallback : d.giFallback lane = e3 := by
      simp only [Dev.giFallback, e3, e2, g, foldl_filter_ne]
      rfl
    have holds : e3.fbkHolds (lane - 12) = ((tget e3.dcl.chop g).fbkOn && e3.giMayChop g) := by
      have fbk : (e3.chopper g).fbk = true := by
        have same : e3.chopper g = { tget e2.dcl.chop g with fbk := true } := tget_tmod_same e2.dcl.chop (by omega) _
        rw [same]
      rw [Dev.fbkHolds, fbk, Bool.true_and]
      rfl
    rw [Dev.islDeclare_of_gi (islFree h ht) h12, fallback]
    refine ⟨fun h1 h2 => ?_, fun h1 h2 h3 => ?_, fun h1 => ?_⟩
    · exact if_pos (by rw [holds, h1, h2]; rfl)
    · rw [show e3.fbkHolds (lane - 12) = false from by rw [holds, h1]; rfl, if_neg (by decide)]
      exact if_pos (by rw [h2, h3]; rfl)
    · have no1 : e3.fbkHolds (lane - 12) = false := by
        rw [holds]
        rcases h1 with h1 | ⟨h1, -⟩ <;> simp [h1]
      have no2 : (e3.dcl.tripped && e3.giMayChop (lane - 12)) = false := by
        rcases h1 with h1 | ⟨-, h1⟩
        · rw [show e3.giMayChop (lane - 12) = false from h1, Bool.and_false]
        · rw [h1, Bool.false_and]
      rw [no1, no2, if_neg (by decide), if_neg (by decide)]
  · exact Dev.islDeclare_of_isl (islFree h ht) h12
  · rw [exec_retrainStart, State.run_live hl]
    rfl
  · rw [training, Dev.retrainEnd]
    exact congrArg (fun u => Host.Outcome.next (State.mk u s.pending)) (if_neg fun hh => Bool.false_ne_true (h.symm.trans hh))
  · intro ended h
    rw [exec_retrainEnd, State.run_live hl, Dev.retrainEnd]
    exact congrArg (fun u => Host.Outcome.next (State.mk u s.pending)) (if_pos h)
  · exact if_pos h
  · intro e
    rw [Dev.untrained_of_new h, Dev.linkFlags_of_isl h12, untrainedFault_of_isl h12]
    rfl
  · rw [exec_retrainEnd, State.run_live hl, Dev.retrainEnd]
    exact congrArg (fun u => Host.Outcome.next (State.mk u s.pending)) (if_pos h)
  · intro up g
    refine ⟨fun h12 => ?_, fun h12 => ?_⟩
    · intro e
      exact Dev.laneBack_of_isl h12 d
    · intro e1 e2 e3 e4
      have back : d.giBack lane = e4 := rfl
      rw [Dev.laneBack_of_gi h12, back]
      exact ⟨fun h => by rw [if_neg h], fun h => by rw [if_pos h], fun u a => Dev.sendChoices_received hlane u a⟩

end Sys2Proof.Machine

/-! ## Island safety, supplies and diagnostics -/

namespace Sys2Proof.Machine

set_option Elab.async false

/-! ### Views that gates, registers and engines do not touch -/

section
variable {β : Type} {g : Dev → β}

/-- A view of the device that sees neither registers, reports and events nor the engines, gates and switches. -/
def Calm (g : Dev → β) : Prop :=
  ∀ (d : Dev) (regs : List (Nat × Word)) (hwSet : List (Nat × Nat)) (written events : List Nat) (flt : Flt) (ce : Ce) (pwm : Vector Pwm 4) (sw : Vector Switch 28)
    (safe : Safe) (axCause : Vector (List Nat) 4),
    g { d with regs, hwSet, written, events, flt, ce, pwm, sw, safe, axCause } = g d

theorem Calm.wf (h : Calm g) (d : Dev) (a lo w x : Nat) : g (d.wf a lo w x) = g d := h d _ _ _ _ _ _ _ _ _ _
theorem Calm.wb (h : Calm g) (d : Dev) (a i : Nat) (b : Bool) : g (d.wb a i b) = g d := h d _ _ _ _ _ _ _ _ _ _
theorem Calm.rset (h : Calm g) (d : Dev) (a : Nat) (v : Word) : g (d.rset a v) = g d := h d _ _ _ _ _ _ _ _ _ _
theorem Calm.ev (h : Calm g) (d : Dev) (n : Nat) : g (d.ev n) = g d := h d _ _ _ _ _ _ _ _ _ _
theorem Calm.occ (h : Calm g) (d : Dev) (c n : Nat) : g (d.occ c n) = g d := h d _ _ _ _ _ _ _ _ _ _
theorem Calm.pwMod (h : Calm g) (d : Dev) (a : Nat) (f : Pwm → Pwm) : g (d.pwMod a f) = g d := h d _ _ _ _ _ _ _ _ _ _
theorem Calm.swMod (h : Calm g) (d : Dev) (a : Nat) (f : Switch → Switch) : g (d.swMod a f) = g d := h d _ _ _ _ _ _ _ _ _ _
theorem Calm.ceMod (h : Calm g) (d : Dev) (f : Ce → Ce) : g (d.ceMod f) = g d := h d _ _ _ _ _ _ _ _ _ _

theorem Calm.ite (c : Prop) [Decidable c] {x y : Dev} {v : β} (hx : g x = v) (hy : g y = v) : g (if c then x else y) = v := by
  split <;> assumption

theorem Calm.evIf (h : Calm g) (d : Dev) (c : Bool) (n : Nat) : g (d.evIf c n) = g d := Calm.ite _ (h.ev d n) rfl
theorem Calm.occIf (h : Calm g) (d : Dev) (b : Bool) (c n : Nat) : g (d.occIf b c n) = g d := Calm.ite _ (h.occ d c n) rfl
theorem Calm.lvlOn (h : Calm g) (d : Dev) (c n : Nat) : g (d.lvlOn c n) = g d := Calm.ite _ rfl (h d _ _ _ _ _ _ _ _ _ _)
theorem Calm.lvlOff (h : Calm g) (d : Dev) (c n : Nat) : g (d.lvlOff c n) = g d := Calm.ite _ (h d _ _ _ _ _ _ _ _ _ _) rfl
theorem Calm.lvlSet (h : Calm g) (d : Dev) (b : Bool) (c n : Nat) : g (d.lvlSet b c n) = g d :=
  Calm.ite _ (h.lvlOn d c n) (h.lvlOff d c n)

theorem Calm.hlt (h : Calm g) (d : Dev) (src idx : Nat) (x : Int) : g (d.hlt src idx x) = g d :=
  foldl_view g _ (fun e m => Calm.ite _ ((h.rset _ _ _).trans ((h.rset _ _ _).trans ((h.rset _ _ _).trans ((h.rset _ _ _).trans
    (h.rset _ _ _))))) rfl) _ d

theorem Calm.ilkExt (h : Calm g) (d : Dev) (sw t : Nat) : g (d.ilkExt sw t) = g d :=
  Calm.ite _ ((h.wf _ _ _ _ _).trans (h.hlt _ _ _ _)) ((h.wf _ _ _ _ _).trans (h.hlt _ _ _ _))

theorem Calm.ilkOff (h : Calm g) (d : Dev) (sw : Nat) : g (d.ilkOff sw) = g d := h.swMod d sw _

theorem Calm.ilkOn (h : Calm g) (d : Dev) (sw : Nat) : g (d.ilkOn sw) = g d := by
  have hold : g (d.ilkHold sw) = g d := h.swMod d sw _
  have send : g (d.ilkSend sw) = g d := h.swMod d sw _
  have called (e : Dev) (q : Nat) : g (e.ilkRecall q) = g e := Calm.ite _ (h.swMod e q _) rfl
  have refuse (e : Dev) (n : Nat) : g (e.shootReq n) = g e := (h.occ _ _ _).trans ((h.ev _ _).trans (h.wb _ _ _ _))
  unfold Dev.ilkOn
  refine Calm.ite _ rfl ?_
  cases partner sw with
  | none => exact Calm.ite _ send hold
  | some q =>
    exact Calm.ite _ ((refuse _ _).trans ((called _ _).trans hold)) (Calm.ite _ ((h.ilkExt _ _ _).trans send) hold)

theorem Calm.startBlank (h : Calm g) (d : Dev) (a : Nat) : g (d.startBlank a) = g d :=
  Calm.ite _ rfl (foldl_view g _ (fun e _ => h.wb e _ _ _) _ d)

theorem Calm.syncSw (h : Calm g) (d : Dev) (a p : Nat) (high on : Bool) : g (d.syncSw a p high on) = g d :=
  Calm.ite _ ((h.startBlank _ _).trans (Calm.ite _ (h.ilkOn d _) (h.ilkOff d _))) rfl

theorem Calm.syncGates (h : Calm g) (d : Dev) (a : Nat) : g (d.syncGates a) = g d :=
  have both (on : Bool) (e : Dev) (p : Nat) : g ((e.syncSw a p true on).syncSw a p false on) = g e :=
    (h.syncSw _ _ _ _ _).trans (h.syncSw _ _ _ _ _)
  (foldl_view g _ (both true) _ _).trans (foldl_view g _ (both false) _ d)

theorem Calm.tmRest (h : Calm g) (d : Dev) (a : Nat) : g (d.tmRest a) = g d :=
  (h { (d.wf _ _ _ _).lvlOff (0x0C14 + a) 0 with } _ _ _ _ _ _ _ _ _ _).trans ((h.lvlOff _ _ _).trans (h.wf _ _ _ _ _))

theorem Calm.injEnd (h : Calm g) (d : Dev) (n cause : Nat) : g (d.injEnd n cause) = g d :=
  Calm.ite _ ((h.occIf _ _ _ _).trans ((h.ceMod _ _).trans ((h.ev _ _).trans ((h.wf _ _ _ _ _).trans (h.wb _ _ _ _))))) rfl

theorem Calm.injAxisLeft (h : Calm g) (d : Dev) (x : Nat) : g (d.injAxisLeft x) = g d :=
  foldl_view g _ (fun e n => Calm.ite _ (h.injEnd e n 3) rfl) _ d

theorem Calm.lanesUnsupervised (h : Calm g) (d : Dev) (x : Nat) : g (d.lanesUnsupervised x) = g d :=
  foldl_view g _ (fun e _ => Calm.ite _ (h.ceMod e _) rfl) _ d

theorem Calm.selDecideAt (h : Calm g) (d : Dev) (a : Nat) (w : Int) : g (d.selDecideAt a w) = g d :=
  (h.evIf _ _ _).trans (h.wf _ _ _ _ _)

theorem Calm.selDecide (h : Calm g) (d : Dev) (a : Nat) : g (d.selDecide a) = g d := h.selDecideAt d a _

/-- An axis takes a state: the device with that state, as far as a calm view sees. -/
theorem Calm.setAx (h : Calm g) (d : Dev) (a : Nat) (st : AState) (hn : d.axOf a ≠ st) :
    g (d.setAx a st) = g { d with ax := tset d.ax a st } := by
  rw [Dev.setAx, if_neg hn, h.syncGates]
  exact h { d with ax := tset d.ax a st } _ _ _ _ _ _ _ _ _ _

theorem Calm.axMove (h : Calm g) (d : Dev) (a : Nat) (st : AState) : g (d.axMove a st) = g (d.setAx a st) := by
  unfold Dev.axMove
  extract_lets d1 d2 d3
  have h2 : g d2 = g d1 := Calm.ite _ (h.tmRest _ _) rfl
  have h3 : g d3 = g d2 := Calm.ite _ ((h.lanesUnsupervised _ _).trans (h.injAxisLeft _ _)) rfl
  exact Calm.ite _ (h3.trans h2) ((h d3 _ _ _ _ _ _ _ _ _ _).trans (h3.trans h2))

theorem Calm.axGo (h : Calm g) (d : Dev) (a : Nat) (st : AState) : g (d.axGo a st) = g (d.setAx a st) :=
  (h.selDecide _ _).trans (h.axMove d a st)

end

theorem tset_tget {α : Type} [Inhabited α] {n : Nat} (v : Vector α n) (i : Nat) : tset v i (tget v i) = v := by
  unfold tset tmod tget
  split <;> simp

/-- An axis that goes to a state stands in it. -/
theorem Dev.axGo_ax (d : Dev) (a : Nat) (st : AState) : (d.axGo a st).ax = tset d.ax a st := by
  have calm : Calm Dev.ax := fun _ _ _ _ _ _ _ _ _ _ _ => rfl
  rw [calm.axGo]
  by_cases h : d.axOf a = st
  · rw [Dev.setAx, if_pos h, ← h, Dev.axOf, tset_tget]
  · exact calm.setAx d a st h

/-- What an axis does not change when it goes to a state. -/
theorem Calm.axGo_of_ax {β : Type} {g : Dev → β} (h : Calm g) (hax : ∀ (d : Dev) (ax : Vector AState 4), g { d with ax := ax } = g d)
    (d : Dev) (a : Nat) (st : AState) : g (d.axGo a st) = g d := by
  rw [h.axGo]
  by_cases hs : d.axOf a = st
  · rw [Dev.setAx, if_pos hs]
  · rw [h.setAx d a st hs, hax]

/-! ### Safe state, status and supplies of an island -/

section
variable {d : Dev} {lane n mon : Nat}

theorem laneSwitches_of_isl (h : lane < 12) : laneSwitches lane = [lane] := by
  have all : ∀ l < 12, laneSwitches l = [l] := by decide
  exact all lane h

theorem Dev.statusOf_of_isl (h : lane < 12) (d : Dev) : d.statusOf lane =
    ((((d.wb (Reg.ISL_H_STAT lane) 7 (tget d.sw lane).islOn).wb (Reg.ISL_H_STAT lane) 9 (tget d.sw lane).islOnConf).wb
      (Reg.ISL_H_STAT lane) 8 (tget d.sw lane).islOff).wb (Reg.ISL_H_STAT lane) 11 (tget d.sw lane).sc).swMod lane
      (fun x => { x with cdOff := if x.islOff then some (x.cdOff.getD d.now) else none }) := by
  have r : statReg lane = Reg.ISL_H_STAT lane := if_pos h
  unfold Dev.statusOf
  extract_lets x q e
  have hn : e.now = d.now := by simp [e]
  refine congrArg₂ (fun q f => Dev.swMod ((((d.wb q 7 x.islOn).wb q 9 x.islOnConf).wb q 8 x.islOff).wb q 11 x.sc) lane f) r
    (funext fun y => ?_)
  rw [hn]
  cases y.cdOff <;> rfl

theorem Dev.statusWord_of_isl (h : lane < 12) (hg : (!(d.lnk lane).trained || (d.lnk lane).cdLost) = false)
    (hl : (tget d.link lane).islLost = false) :
    d.statusWord lane true false = ((d.statusOf lane).supSeen lane).scFollow (lane / 3) := by
  have hm : min lane 12 = lane := by omega
  have hi : (d.lnk lane).islLost = false := hl
  rw [Dev.statusWord, if_neg (by rw [Bool.not_true, Bool.false_or, hg]; decide), if_neg (by rw [hi]; decide), if_pos h,
    laneSwitches_of_isl h, hm, List.foldl_cons, List.foldl_nil]

/-- A supply flag that agrees with its register brings nothing. -/
theorem Dev.supFlag_of_known (h : n < 12) (hk : tget (tget d.sup n) mon = d.rb (Reg.ISL_H_STAT n) (supBit mon)) :
    d.supFlag n mon = d := by
  have r : supReg n = Reg.ISL_H_STAT n := if_pos h
  rw [Dev.supFlag, r, if_pos hk]

theorem Dev.refreshDue_pwm (d : Dev) (n : Nat) : ∃ pwm, d.refreshDue n = { d with pwm := pwm } := by
  unfold Dev.refreshDue
  split
  · exact ⟨_, rfl⟩
  · exact ⟨d.pwm, rfl⟩

theorem Dev.lvlSet_flt {e d : Dev} (hf : e.flt = d.flt) (hn : e.now = d.now) (b : Bool) (c i : Nat) :
    (e.lvlSet b c i).flt = (d.lvlSet b c i).flt := by
  have hl : e.lvl c i = d.lvl c i := congrArg (fun f : Flt => f.levels.contains (c, i)) hf
  cases b <;> unfold Dev.lvlSet Dev.lvlOn Dev.lvlOff <;> rw [hl, hf] <;> cases d.lvl c i
  · exact hf
  · rw [hn]
    rfl
  · rfl
  · exact hf

/-- A supply flag that is new shows in its register and has its fault. -/
theorem Dev.supFlag_of_new (h : n < 12) (hk : tget (tget d.sup n) mon ≠ d.rb (Reg.ISL_H_STAT n) (supBit mon)) :
    (d.supFlag n mon).regs = (d.wb (Reg.ISL_H_STAT n) (supBit mon) (tget (tget d.sup n) mon)).regs ∧
    (d.supFlag n mon).flt = (d.lvlSet (tget (tget d.sup n) mon) (supFault n mon) 0).flt ∧ (d.supFlag n mon).sw = d.sw := by
  have r : supReg n = Reg.ISL_H_STAT n := if_pos h
  unfold Dev.supFlag
  rw [r]
  extract_lets now d1 d2 d3
  rw [if_neg hk]
  have h1 : d1.regs = (d.wb (Reg.ISL_H_STAT n) (supBit mon) now).regs ∧ d1.flt = (d.lvlSet now (supFault n mon) 0).flt ∧
      d1.sw = d.sw := by
    exact ⟨by simp [d1], Dev.lvlSet_flt (by simp) (by simp) _ _ _, by simp [d1]⟩
  have h3 : d3.regs = d1.regs ∧ d3.flt = d1.flt ∧ d3.sw = d1.sw := by simp [d3, d2]
  obtain ⟨pwm, hp⟩ := d3.refreshDue_pwm n
  have h4 : (if (now && mon == 4) = true then d3.refreshDue n else d3).regs = d3.regs ∧
      (if (now && mon == 4) = true then d3.refreshDue n else d3).flt = d3.flt ∧
      (if (now && mon == 4) = true then d3.refreshDue n else d3).sw = d3.sw := by
    split
    · rw [hp]
      exact ⟨rfl, rfl, rfl⟩
    · exact ⟨rfl, rfl, rfl⟩
  exact ⟨h4.1.trans (h3.1.trans h1.1), h4.2.1.trans (h3.2.1.trans h1.2.1), h4.2.2.trans (h3.2.2.trans h1.2.2)⟩

theorem Dev.supSeen_of_isl (h : n < 12) (e : Dev) : e.supSeen n = [0, 1, 2, 3, 4, 5].foldl (fun d m => d.supFlag n m) e := by
  rw [Dev.supSeen, if_pos h, if_pos h]

/-- The islands with the flags of VPOS crossing (R191). -/
theorem Dev.supplyCross_vpos (h : n < 12) (d : Dev) (beyond : Bool) :
    let e := d.supplyCross n 1 beyond
    e.sram = d.sram ∧ e.ax = d.ax ∧
    tget e.sw n = (if beyond then { (tget d.sw n).islTurnOff with vposRef := true } else { tget d.sw n with vposRef := false }) ∧
    tget (tget e.sup n) 1 = beyond ∧ ∀ m, m ≠ n → tget e.sw m = tget d.sw m := by
  intro e
  have calm {β : Type} {g : Dev → β} (hg : Calm g) (u : Dev) (m : Nat) : g (u.supFlag n m) = g u :=
    Calm.ite _ rfl (Calm.ite _ ((Calm.ite _ (hg.pwMod _ _ _) rfl).trans ((hg.evIf _ _ _).trans ((hg.evIf _ _ _).trans
      ((hg.lvlSet _ _ _ _).trans (hg.wb _ _ _ _))))) ((hg.evIf _ _ _).trans ((hg.evIf _ _ _).trans
      ((hg.lvlSet _ _ _ _).trans (hg.wb _ _ _ _)))))
  have sws (u : Dev) (m : Nat) : (u.supFlag n m).sw = u.sw := by
    by_cases hk : tget (tget u.sup n) m = u.rb (Reg.ISL_H_STAT n) (supBit m)
    · rw [Dev.supFlag_of_known h hk]
    · exact (Dev.supFlag_of_new h hk).2.2
  let x : Dev := d.swMod n (fun x => if beyond then { x.islTurnOff with vposRef := true } else { x with vposRef := false })
  let y : Dev := { x with sup := tmod x.sup n (fun f => tset f 1 beyond) }
  have he : e = if y.laneUp n then y.supSeen n else y := by
    have react : d.supReact n 1 beyond = x := by
      unfold Dev.supReact
      rw [if_pos h]
      rfl
    unfold e Dev.supplyCross
    rw [if_neg (by simp), react]
    exact congrArg (fun b : Bool => if b = true then y.supSeen n else y) (if_pos h : (if n < 12 then y.laneUp n else y.giHeard) = _)
  have view {β : Type} {g : Dev → β} (hg : ∀ u m, g (u.supFlag n m) = g u) : g e = g y := by
    rw [he, Dev.supSeen_of_isl h]
    exact Calm.ite _ (foldl_view g _ hg _ y) rfl
  have hs : e.sw = tmod d.sw n (fun x => if beyond then { x.islTurnOff with vposRef := true } else { x with vposRef := false }) :=
    view (g := Dev.sw) sws
  refine ⟨view (g := Dev.sram) (calm fun _ _ _ _ _ _ _ _ _ _ _ => rfl), view (g := Dev.ax) (calm fun _ _ _ _ _ _ _ _ _ _ _ => rfl),
    ?_, ?_, fun m hm => ?_⟩
  · rw [hs, tget_tmod, if_pos ⟨rfl, by omega⟩]
  · have hsup : e.sup = tmod d.sup n (fun f => tset f 1 beyond) :=
      view (g := Dev.sup) (calm fun _ _ _ _ _ _ _ _ _ _ _ => rfl)
    rw [hsup, tget_tmod, if_pos ⟨rfl, by omega⟩, tset, tget_tmod, if_pos ⟨rfl, by omega⟩]
  · rw [hs, tget_tmod, if_neg fun hh => hm hh.1.symm]

end

/-! ### Off-state diagnostics -/

/-- The device after the class of a half-bridge (R194). -/
def Dev.diagJudged (d : Dev) (a q r : Nat) : Dev :=
  let e := d.wf (Reg.ISL_GI_DIAG a) (4 * q) 4 r
  if r = 0 ∨ r = 6 then e else e.occ (0x054D + 0x10 * (3 * a + q)) 0

theorem Dev.occIf_diagPass (e : Dev) (r c : Nat) : e.occIf (!diagPass r) c 0 = if r = 0 ∨ r = 6 then e else e.occ c 0 := by
  unfold Dev.occIf diagPass
  by_cases h : r = 0 ∨ r = 6
  · rw [if_pos h, if_neg (by rcases h with h | h <;> simp [h])]
  · rw [if_neg h, if_pos (by simpa using h)]

section
variable {d : Dev} {a : Nat}

/-- The class of the half-bridge under test. -/
def Dev.diagNow (d : Dev) (a : Nat) (vk : Int) (ir var : Nat) : Nat :=
  diagClass (!d.laneUp (3 * a + (d.diagOf a).phase) || !d.laneUp (if a < 2 then 12 else 13) || (d.vdcStale 0 && d.vdcStale 1)) vk ir var
    d.dcl.vm

theorem Dev.diagJudged_vm (d : Dev) (a q r : Nat) : (d.diagJudged a q r).dcl = d.dcl := by
  unfold Dev.diagJudged
  split <;> simp

theorem Dev.diagPhase_of_more (vk : Int) (ir var : Nat) (hq : (tget d.diag a).phase < 2) : d.diagPhase a vk ir var =
    (d.diagJudged a (tget d.diag a).phase (d.diagNow a vk ir var)).diagMod a (fun x =>
      { x with phase := (tget d.diag a).phase + 1, vdc := (rdiv 195 d.dcl.vm 131072).toNat }) := by
  have hq' : (d.diagOf a).phase < 2 := hq
  unfold Dev.diagPhase
  extract_lets g n noLink r d1 d2 volts
  have h2 : d2 = d.diagJudged a (tget d.diag a).phase (d.diagNow a vk ir var) := Dev.occIf_diagPass _ _ _
  rw [if_pos hq']
  have hv : volts = (rdiv 195 d.dcl.vm 131072).toNat := by
    unfold volts
    rw [h2, Dev.diagJudged_vm]
  rw [hv, h2]
  rfl

/-- The registers and the mark of a test whose last half-bridge has been judged (R194). -/
def Dev.diagShown (e : Dev) (a volts : Nat) : Dev :=
  let pass (p : Nat) : Bool := e.rf (Reg.ISL_GI_DIAG a) (4 * p) 4 == 0 || e.rf (Reg.ISL_GI_DIAG a) (4 * p) 4 == 6
  let ok := pass 0 && pass 1 && pass 2
  ((e.wb (Reg.ISL_GI_DIAG a) 31 true).wb (Reg.ISL_GI_DIAG a) 30 ok).diagMod a (fun _ => ⟨false, 0, volts, ok⟩)

theorem Dev.diagPhase_of_last (vk : Int) (ir var : Nat) (hq : 2 ≤ (tget d.diag a).phase) : d.diagPhase a vk ir var =
    (((d.diagJudged a (tget d.diag a).phase (d.diagNow a vk ir var)).diagShown a (rdiv 195 d.dcl.vm 131072).toNat).ev (0x87 + a)).axGo a
      .idle := by
  have hq' : ¬(d.diagOf a).phase < 2 := Nat.not_lt.2 hq
  unfold Dev.diagPhase
  extract_lets g n noLink r d1 d2 volts ok u v
  have h2 : d2 = d.diagJudged a (tget d.diag a).phase (d.diagNow a vk ir var) := Dev.occIf_diagPass _ _ _
  rw [if_neg hq']
  have hv : volts = (rdiv 195 d.dcl.vm 131072).toNat := by
    unfold volts
    rw [h2, Dev.diagJudged_vm]
  have huv : u.diagMod a (fun _ => ⟨false, 0, volts, ok⟩) = d2.diagShown a volts := by
    unfold u ok Dev.diagShown
    simp only [List.all_cons, List.all_nil, Bool.and_true, diagPass, Bool.and_assoc]
  have hvv : v = (d2.diagShown a volts).ev (0x87 + a) := congrArg (fun w : Dev => w.ev (0x87 + a)) huv
  rw [hvv, hv, h2]

theorem Dev.diagShown_over (ha : a < 4) (e : Dev) (volts : Nat) : (tget (e.diagShown a volts).diag a).running = false := by
  unfold Dev.diagShown Dev.diagMod
  rw [tget_tmod, if_pos ⟨rfl, ha⟩]

/-- After the last half-bridge the axis is idle and its test over. -/
theorem Dev.diagPhase_over (ha : a < 4) (vk : Int) (ir var : Nat) (hq : 2 ≤ (tget d.diag a).phase) :
    tget (d.diagPhase a vk ir var).ax a = .idle ∧ (tget (d.diagPhase a vk ir var).diag a).running = false ∧
    (d.diagPhase a vk ir var).sram = d.sram := by
  rw [Dev.diagPhase_of_last vk ir var hq]
  have sram : Calm Dev.sram := fun _ _ _ _ _ _ _ _ _ _ _ => rfl
  have diag : Calm Dev.diag := fun _ _ _ _ _ _ _ _ _ _ _ => rfl
  have judged (r : Nat) : (d.diagJudged a (tget d.diag a).phase r).sram = d.sram := by
    unfold Dev.diagJudged
    exact Calm.ite _ (sram.wf _ _ _ _ _) ((sram.occ _ _ _).trans (sram.wf _ _ _ _ _))
  have marked (e : Dev) (f : Diag → Diag) : (e.diagMod a f).sram = e.sram := rfl
  have shown (e : Dev) (v : Nat) : (e.diagShown a v).sram = e.sram := by
    rw [Dev.diagShown, marked, sram.wb, sram.wb]
  refine ⟨?_, ?_, ?_⟩
  · rw [Dev.axGo_ax, tset, tget_tmod, if_pos ⟨rfl, ha⟩]
  · rw [diag.axGo_of_ax (fun _ _ => rfl), diag.ev]
    exact Dev.diagShown_over ha _ _
  · rw [sram.axGo_of_ax (fun _ _ => rfl), sram.ev, shown, judged]

theorem Dev.diagPhase_running (ha : a < 4) (vk : Int) (ir var : Nat) (hq : (tget d.diag a).phase < 2) :
    ((d.diagPhase a vk ir var).diagOf a).running = (tget d.diag a).running := by
  have judged (r : Nat) : (d.diagJudged a (tget d.diag a).phase r).diag = d.diag := by
    unfold Dev.diagJudged
    split <;> simp
  rw [Dev.diagPhase_of_more vk ir var hq, Dev.diagOf, Dev.diagMod, tget_tmod, if_pos ⟨rfl, ha⟩, judged]

end

theorem diagClass_cases (vk : Int) (ir var : Nat) (v : Int) : let c := diagClass false vk ir var v
    let high := 60 * 131072 ≤ v ∧ (v - 10 * 131072) * 1000 ≤ vk * 131072
    diagClass true vk ir var v = 5 ∧ (2000 < var → c = 4) ∧ (var ≤ 2000 → high → c = 1) ∧
    (var ≤ 2000 → ¬high → vk ≤ 1000 → c = 2) ∧ (var ≤ 2000 → ¬high → 1000 < vk → ir < 500 → c = 3) ∧
    (var ≤ 2000 → ¬high → 1000 < vk → 500 ≤ ir → v < 60 * 131072 → c = 6) ∧
    (var ≤ 2000 → ¬high → 1000 < vk → 500 ≤ ir → 60 * 131072 ≤ v → c = 0) := by
  intro c high
  have calm (h : var ≤ 2000) : c = if high then 1 else if vk ≤ 1000 then 2 else if ir < 500 then 3 else if v < 60 * 131072 then 6
      else 0 := (if_neg (by decide)).trans (if_neg (Nat.not_lt.2 h))
  refine ⟨if_pos rfl, fun h => (if_neg (by decide)).trans (if_pos h), fun h hh => (calm h).trans (if_pos hh), fun h hh h1 => ?_,
    fun h hh h1 h2 => ?_, fun h hh h1 h2 h3 => ?_, fun h hh h1 h2 h3 => ?_⟩
  · rw [calm h, if_neg hh, if_pos h1]
  · rw [calm h, if_neg hh, if_neg (Int.not_le.2 h1), if_pos h2]
  · rw [calm h, if_neg hh, if_neg (Int.not_le.2 h1), if_neg (Nat.not_lt.2 h2), if_pos h3]
  · rw [calm h, if_neg hh, if_neg (Int.not_le.2 h1), if_neg (Nat.not_lt.2 h2), if_neg (Int.not_lt.2 h3)]

theorem Dev.diagPhaseEnd_of_running {d : Dev} {a : Nat} (h : (tget d.diag a).running = true) (vk : Int) (ir var : Nat) :
    d.diagPhaseEnd a vk ir var = if ((d.diagPhase a vk ir var).diagOf a).running then d.diagPhase a vk ir var
      else (d.diagPhase a vk ir var).idled.completeRun (fun c => c.op == 0x26 && c.target == a) stOk
        ((d.diagPhase a vk ir var).diagBytes a) := by
  have h' : (d.diagOf a).running = true := h
  rw [Dev.diagPhaseEnd, if_neg (by rw [h']; decide)]

/-- Settles O35: each operation by what it needs, the rails through the frame of a supply flag. -/
theorem islandSafetyStatusSuppliesAndDiagnostics : Obligations.IslandSafetyStatusSuppliesAndDiagnostics := by
  intro s g lane n a mon beyond flag vk ir var hl hg hlane hn ha hmon d l apply boot asked gone
  have safe : exec (.giSafeStateApply g) s = .next ⟨d.giApply g, s.pending⟩ := by rw [exec_giSafeStateApply, State.run_live hl]
  have word (c f : Bool) : exec (.statusWordReceived lane c f) s = .next ⟨d.statusWord lane c f, s.pending⟩ := by
    rw [exec_statusWordReceived, State.run_live hl]
  have hon : exec (.honLimit n) s = .next ⟨d.refreshDue n, s.pending⟩ := by rw [exec_honLimit, State.run_live hl]
  have cross (i m : Nat) : exec (.islandSupplyCrossing i m beyond) s = .next ⟨d.supplyCross i m beyond, s.pending⟩ := by
    rw [exec_islandSupplyCrossing, State.run_live hl]
  have phase : exec (.diagPhaseEnd a vk ir var) s = .next ⟨d.diagPhaseEnd a vk ir var, s.pending⟩ := by
    rw [exec_diagPhaseEnd, State.run_live hl]
  have silent (h : gone) : (!(d.lnk lane).trained || (d.lnk lane).cdLost) = true := (Dev.not_heard_iff d lane).2 h
  have heard (h : ¬gone) : (!(d.lnk lane).trained || (d.lnk lane).cdLost) = false :=
    Bool.eq_false_iff.2 fun hh => h ((Dev.not_heard_iff d lane).1 hh)
  refine ⟨fun h => ?_, fun h => ?_, ?_, fun h => ?_, fun h h2 => ?_, ?_, Dev.supSeen_of_isl hn, ?_, fun h => ?_, fun h => ?_,
    fun h4 hb => ?_, fun h4 => ?_, ?_, fun h => ?_, fun h hq => ?_, fun h hq hax => ?_, ?_, fun v => diagClass_cases vk ir var v⟩
  · rw [safe, Dev.giApply]
    exact congrArg (fun u => Host.Outcome.next (State.mk u s.pending)) (if_neg (by rw [show (d.lnk (12 + g)).islLost = _ from h]; decide))
  · rw [safe, Dev.giApply]
    exact congrArg (fun u => Host.Outcome.next (State.mk u s.pending)) (if_pos h)
  · rw [word, Dev.statusWord, if_pos (by rw [Bool.not_false, Bool.true_or, Bool.true_or])]
  · rw [word, Dev.statusWord, if_pos (by rw [Bool.not_true, Bool.false_or, silent h])]
  · have told : (flag || (d.lnk lane).islLost) = true := by
      rcases h2 with h2 | h2
      · rw [h2, Bool.true_or]
      · rw [show (d.lnk lane).islLost = _ from h2, Bool.or_true]
    rw [word, Dev.statusWord, if_neg (by rw [Bool.not_true, Bool.false_or, heard h]; decide), if_pos told]
  · intro h hi h12 x r e
    rw [word, Dev.statusWord_of_isl h12 (heard h) hi, Dev.statusOf_of_isl h12]
  · intro now
    exact ⟨Dev.supFlag_of_known hn, Dev.supFlag_of_new hn⟩
  · rw [hon]
    exact congrArg (fun u => Host.Outcome.next (State.mk u s.pending)) (if_pos h)
  · rw [hon]
    exact congrArg (fun u => Host.Outcome.next (State.mk u s.pending)) (if_neg (by rw [show d.rb (Reg.ISL_H_SUP n) 31 = _ from h]; decide))
  · rw [cross, Dev.supplyCross, if_pos (by rw [show d.rb (Reg.ISL_H_SUP n) 31 = _ from hb]; simpa using h4)]
  · rw [cross, Dev.supplyCross, if_pos (by simpa using h4)]
  · exact ⟨d.supplyCross n 1 beyond, cross n 1, Dev.supplyCross_vpos hn d beyond⟩
  · rw [phase, Dev.diagPhaseEnd, if_pos (by rw [show (d.diagOf a).running = _ from h]; rfl)]
  · rw [phase, Dev.diagPhaseEnd_of_running h, if_pos ((Dev.diagPhase_running ha vk ir var hq).trans h)]
  · intro e
    have hover := Dev.diagPhase_over ha vk ir var (Nat.le_of_eq hq.symm)
    have hr : ¬((e.diagOf a).running = true) := fun hh => Bool.false_ne_true (hover.2.1.symm.trans hh)
    refine ⟨fun hi => ?_, fun hi => ?_, hover⟩
    · rw [phase, Dev.diagPhaseEnd_of_running h, if_neg hr, Dev.idled, if_pos hi]
    · rw [phase, Dev.diagPhaseEnd_of_running h, if_neg hr, Dev.idled, if_neg hi]
  · have class_eq : d.diagNow a vk ir var = diagClass (decide (d.laneUp (3 * a + (tget d.diag a).phase) = false ∨
        d.laneUp (if a < 2 then 12 else 13) = false ∨ (d.vdcStale 0 = true ∧ d.vdcStale 1 = true))) vk ir var d.dcl.vm := by
      refine congrArg (fun b => diagClass b vk ir var d.dcl.vm) (Bool.eq_iff_iff.2 ?_)
      rw [decide_eq_true_iff, Bool.or_eq_true, Bool.or_eq_true, Bool.and_eq_true, Bool.not_eq_true', Bool.not_eq_true', or_assoc]
      rfl
    intro q blind r e e' volts pass ok f
    have he : e' = d.diagJudged a q (d.diagNow a vk ir var) := by
      rw [class_eq]
      rfl
    refine ⟨fun hq => ?_, fun hq => ?_⟩
    · rw [Dev.diagPhase_of_more vk ir var hq, ← he]
      rfl
    · rw [Dev.diagPhase_of_last vk ir var hq, ← he]
      rfl

end Sys2Proof.Machine

/-! ## Conversions -/

namespace Sys2Proof.Machine

set_option Elab.async false

section
variable {d : Dev} {k c : Nat}

/-! ### The sequencer -/

theorem Dev.seqDelayEnd_of_delay (h : (tget d.conv k).phase = .delay) : d.seqDelayEnd k = d.cvMod k (fun c =>
    { c with phase := .convert,
             left := if fget (tget d.conv k).ent 16 8 = 0 then 256 else fget (tget d.conv k).ent 16 8 }) := by
  have h' : (d.cv k).phase = .delay := h
  unfold Dev.seqDelayEnd
  rw [h']
  rfl

theorem Dev.seqDelayEnd_of_spin (h : (tget d.conv k).phase = .spin) : d.seqDelayEnd k = d.seqNext k (d.rf (Reg.ADC_STAT k) 8 6) := by
  have h' : (d.cv k).phase = .spin := h
  unfold Dev.seqDelayEnd
  rw [h']

theorem Dev.seqDelayEnd_of_other (h1 : (tget d.conv k).phase ≠ .delay) (h2 : (tget d.conv k).phase ≠ .spin) : d.seqDelayEnd k = d := by
  unfold Dev.seqDelayEnd
  split
  case h_1 h => exact absurd h h1
  case h_2 h => exact absurd h h2
  case h_3 => rfl

theorem Dev.seqWaitExpiry_of_wait {p : Nat} (h : (tget d.conv k).phase = .waitWin p) :
    d.seqWaitExpiry k = (d.wsat (Reg.ADC_STAT k) 16 8).seqNext k (d.rf (Reg.ADC_STAT k) 8 6) := by
  have h' : (d.cv k).phase = .waitWin p := h
  unfold Dev.seqWaitExpiry
  rw [h']

theorem Dev.seqWaitExpiry_of_other (h : ∀ p, (tget d.conv k).phase ≠ .waitWin p) : d.seqWaitExpiry k = d := by
  unfold Dev.seqWaitExpiry
  split
  case h_1 p hp => exact absurd hp (h p)
  case h_2 => rfl

theorem Dev.seqResult_of_convert (h : (tget d.conv k).phase = .convert) (code : Nat) :
    let e := (d.entryResult k code).cvMod k (fun x => { x with left := x.left - 1, rot := (x.rot + 1) % 3 })
    d.seqResult k code = if (e.cv k).left = 0 then e.seqNext k (d.rf (Reg.ADC_STAT k) 8 6) else e := by
  have h' : (d.cv k).phase = .convert := h
  unfold Dev.seqResult
  rw [h']

theorem Dev.seqResult_of_last (h : (tget d.conv k).phase = .last) (code : Nat) :
    d.seqResult k code = (d.entryResult k code).seqStop k := by
  have h' : (d.cv k).phase = .last := h
  unfold Dev.seqResult
  rw [h']

theorem Dev.seqResult_of_other (h1 : (tget d.conv k).phase ≠ .convert) (h2 : (tget d.conv k).phase ≠ .last) (code : Nat) :
    d.seqResult k code = d := by
  unfold Dev.seqResult
  split
  case h_1 h => exact absurd h h1
  case h_2 h => exact absurd h h2
  case h_3 => rfl

theorem Dev.conversion_runs (h : d.rf (Reg.ADC_STAT k) 30 2 < 2 ∧ d.laneUp (adcLane k) = true) (code : Nat) (urgent res : Bool)
    (diff : Option Nat) : d.conversion k code urgent diff res =
      (if urgent then d.urgResult k code else d.seqResult k code).adcCheck k diff res := by
  have hc : (decide (d.adcMode k < 2) && d.laneUp (adcLane k)) = true := by
    rw [h.2, Bool.and_true]
    exact decide_eq_true h.1
  rw [Dev.conversion, if_pos hc]

theorem Dev.conversion_stands (h : 2 ≤ d.rf (Reg.ADC_STAT k) 30 2 ∨ d.laneUp (adcLane k) = false) (code : Nat) (urgent res : Bool)
    (diff : Option Nat) : d.conversion k code urgent diff res = d := by
  have hc : (decide (d.adcMode k < 2) && d.laneUp (adcLane k)) = false := by
    rcases h with h | h
    · rw [decide_eq_false (show ¬d.adcMode k < 2 from Nat.not_lt.2 h), Bool.false_and]
    · rw [h, Bool.and_false]
  rw [Dev.conversion, if_neg (by rw [hc]; decide)]

/-! ### Urgent requests and latest values -/

theorem Dev.urgResult_of_none (h : (tget d.conv k).urgHere = none) (code : Nat) : d.urgResult k code = d := by
  have h' : (d.cv k).urgHere = none := h
  unfold Dev.urgResult
  rw [h']

/-- The converter with its request taken (R211). -/
def Dev.urgTaken (d : Dev) (k : Nat) : Dev := (d.cvMod k (fun x => { x with urgHere := none })).wb (Reg.ADC_STAT k) 6 false

theorem Dev.urgResult_of_some {ch dest : Nat} (h : (tget d.conv k).urgHere = some (ch, dest)) (code : Nat) :
    let c := if ch = 3 then 0 else ch
    let x := d.resCode k code
    let slice := d.rf (Reg.ADC_STAT k) 30 2 == 1
    let u := (d.urgTaken k).toExtractor k c x (atEnd c x slice) slice
    let b := if dest / 64 % 2 = 1 then u.bufQueue k (dest % 16) (sampleWord x slice (atEnd c x slice)) else u
    d.urgResult k code = (if dest / 128 % 2 = 1 then (b.latWrite k c (sampleWord x slice (atEnd c x slice))).ntcEval k c else b).ev
      (0x94 + k) := by
  have h' : (d.cv k).urgHere = some (ch, dest) := h
  unfold Dev.urgResult
  rw [h']
  rfl

theorem Dev.ntcEval_eq (f : Dev) (k c : Nat) : f.ntcEval k c =
    if 2 ≤ k ∧ 5 ≤ c ∧ c ≤ 8 ∧ f.rb (Reg.THERM_S_CFG (30 + 4 * (k - 2) + (c - 5))) 31 = true then
      f.tempResult (30 + 4 * (k - 2) + (c - 5)) (ntcTemp (f.rf (Reg.ADC_LAT k c) 2 14)
        (f.rf (Reg.THERM_S_NTC (30 + 4 * (k - 2) + (c - 5))) 16 16) (f.rf (Reg.THERM_S_NTC (30 + 4 * (k - 2) + (c - 5))) 0 16)) else f := by
  by_cases h : 2 ≤ k ∧ 5 ≤ c ∧ c ≤ 8 ∧ f.rb (Reg.THERM_S_CFG (30 + 4 * (k - 2) + (c - 5))) 31 = true
  · have hs : f.ntcSource k c = some (30 + 4 * (k - 2) + (c - 5)) := if_pos (by simpa [and_assoc] using h)
    rw [if_pos h, Dev.ntcEval, hs]
  · have hs : f.ntcSource k c = none := if_neg (by simpa [and_assoc] using h)
    rw [if_neg h, Dev.ntcEval, hs]

/-! ### Where a result goes -/

theorem Dev.entryResult_of_shunt (hc : c < 3) (he : d.entryChan k = c) (hd : fget (tget d.conv k).ent 0 8 < 64) (code : Nat) :
    let slice := d.rf (Reg.ADC_STAT k) 30 2 == 1
    d.entryResult k code = d.toExtractor k c (d.resCode k code) (atEnd c (d.resCode k code) slice) slice := by
  intro slice
  have hd' : fget (d.cv k).ent 0 8 < 64 := hd
  rw [Dev.entryResult, he, if_neg (by omega), Dev.sampleOut, if_neg (by omega), if_neg (by omega)]
  rfl

theorem atEnd_whole (x : Nat) : atEnd 0 x false = decide (x = 8192 ∨ x = 8191) ∧ atEnd 4 x false = decide (x = 0 ∨ x = 16383) :=
  ⟨by rw [Bool.eq_iff_iff]; simp [atEnd], by rw [Bool.eq_iff_iff]; simp [atEnd]⟩

theorem Dev.urgArrive_of_some (hk : k < 4) {r : Nat × Nat} {rs : List (Nat × Nat)} (h : (tget d.conv k).urgSent = r :: rs) :
    let e := d.cvMod k (fun x => { x with urgSent := rs })
    d.urgArrive k = if !d.laneUp (adcLane k) then e
      else if (tget d.conv k).urgHere.isSome || decide (2 ≤ d.rf (Reg.ADC_STAT k) 30 2) then (e.wb (Reg.ADC_FLAGS k) 0 true).occ (0x0608 + 0x10 * k) 0
      else (e.cvMod k (fun x => { x with urgHere := some r })).wb (Reg.ADC_STAT k) 6 true := by
  have h' : (d.cv k).urgSent = r :: rs := h
  intro e
  have here : (e.cv k).urgHere = (tget d.conv k).urgHere :=
    (congrArg Conv.urgHere (tget_tmod_same d.conv hk (fun x => { x with urgSent := rs })) :)
  unfold Dev.urgArrive
  rw [h', ← here]
  rfl

theorem Dev.urgArrive_of_nil (h : (tget d.conv k).urgSent = []) : d.urgArrive k = d := by
  have h' : (d.cv k).urgSent = [] := h
  unfold Dev.urgArrive
  rw [h']

theorem adcLane_sub (hk : k < 4) : adcLane k - 12 = k / 2 := by
  unfold adcLane
  split <;> omega

theorem Dev.oldestLat_mem {g k' c' w : Nat} (h : d.oldestLat g = some (k', c', w)) : (tget d.conv k').lat ≠ [] := by
  unfold Dev.oldestLat at h
  split at h
  case h_1 => cases h
  case h_2 x l hx _ =>
    cases h
    exact fun hn => List.cons_ne_nil _ _ (hx.symm.trans hn)
  case h_3 y l _ hy =>
    cases h
    exact fun hn => List.cons_ne_nil _ _ (hy.symm.trans hn)
  case h_4 x l y l' hx hy =>
    split at h
    · cases h
      exact fun hn => List.cons_ne_nil _ _ (hy.symm.trans hn)
    · cases h
      exact fun hn => List.cons_ne_nil _ _ (hx.symm.trans hn)

/-- The latest value that may leave now (R212). -/
theorem Dev.latDue_iff (hk : k < 4) (w : Nat) : d.latDue k c = some w ↔
    d.oldestLat (k / 2) = some (k, c, w) ∧ d.laneUp (adcLane k) = true ∧ (tget d.link (adcLane k)).used < 2 := by
  unfold Dev.latDue
  rw [adcLane_sub hk]
  cases ho : d.oldestLat (k / 2) with
  | none => simp
  | some x =>
    obtain ⟨k', c', w'⟩ := x
    show (if k' = k ∧ c' = c ∧ d.laneUp (adcLane k) ∧ (tget d.link (adcLane k)).used < 2 then some w' else none) = some w ↔ _
    by_cases hc : k' = k ∧ c' = c ∧ d.laneUp (adcLane k) = true ∧ (tget d.link (adcLane k)).used < 2
    · rw [if_pos hc]
      obtain ⟨rfl, rfl, hu, hl⟩ := hc
      simp [hu, hl]
    · rw [if_neg hc]
      refine ⟨fun h => (Option.some_ne_none _ h.symm).elim, fun ⟨h, hu, hl⟩ => (hc ?_).elim⟩
      cases h
      exact ⟨rfl, rfl, hu, hl⟩

theorem Dev.latUpdate_of_none (h : d.latDue k c = none) : d.latUpdate k c = d := by
  unfold Dev.latUpdate
  rw [h]

theorem Dev.latUpdate_of_due {w : Nat} (h : d.latDue k c = some w) : d.latUpdate k c = (d.latArrive k c w).ntcEval k c := by
  unfold Dev.latUpdate
  rw [h]

end

/-- Settles O36: each operation by the phase of its sequencer, the request it finds, or the oldest value of its lane. -/
theorem sequencerConversionsAndUrgentRequests : Obligations.SequencerConversionsAndUrgentRequests := by
  intro s k c code urgent res diff hl hk hc d v i rep mode runs skipped ntc gave
  have delay : exec (.seqDelayEnd k) s = .next ⟨d.seqDelayEnd k, s.pending⟩ := by rw [exec_seqDelayEnd, State.run_live hl]
  have wait : exec (.seqWindowWaitExpiry k) s = .next ⟨d.seqWaitExpiry k, s.pending⟩ := by
    rw [exec_seqWindowWaitExpiry, State.run_live hl]
  have conv (u : Bool) : exec (.conversionResult k code u diff res) s = .next ⟨d.conversion k code u diff res, s.pending⟩ := by
    rw [exec_conversionResult, State.run_live hl]
  have urg : exec (.urgentArrival k) s = .next ⟨d.urgArrive k, s.pending⟩ := by rw [exec_urgentArrival, State.run_live hl]
  have lat : exec (.latestValueUpdate k c) s = .next ⟨d.latUpdate k c, s.pending⟩ := by
    rw [exec_latestValueUpdate, State.run_live hl]
  refine ⟨fun h => ?_, fun h => ?_, fun h1 h2 => ?_, fun p h => ?_, fun h => ?_, fun h => ?_, fun h h1 h2 => ?_, fun h hn => ?_,
    fun h hp => ?_, fun h hp => ?_, fun h => if_pos h, fun h3 he hd => ?_, atEnd_whole, fun ch dest h hu hd => ?_, fun h => ?_,
    fun r rs h => ?_, ?_, fun ch dest h hu h1 h2 hcc => ?_⟩
  · rw [delay, Dev.seqDelayEnd_of_delay h]
    rfl
  · rw [delay, Dev.seqDelayEnd_of_spin h]
  · rw [delay, Dev.seqDelayEnd_of_other h1 h2]
  · rw [wait, Dev.seqWaitExpiry_of_wait h]
  · rw [wait, Dev.seqWaitExpiry_of_other h]
  · rw [conv, Dev.conversion_stands h]
  · rw [conv, Dev.conversion_runs h, if_neg (by decide), Dev.seqResult_of_other h1 h2]
  · rw [conv, Dev.conversion_runs h, if_pos rfl, Dev.urgResult_of_none hn]
  · rw [conv, Dev.conversion_runs h, if_neg (by decide), Dev.seqResult_of_convert hp]
  · rw [conv, Dev.conversion_runs h, if_neg (by decide), Dev.seqResult_of_last hp]
  · exact Dev.entryResult_of_shunt h3 he hd code
  · rw [conv, Dev.conversion_runs h, if_pos rfl, Dev.urgResult_of_some hu, if_neg (show ¬dest / 64 % 2 = 1 by omega),
      if_neg (show ¬dest / 128 % 2 = 1 by omega)]
    rfl
  · rw [urg, Dev.urgArrive_of_nil h]
  · intro e taken
    have urg' := Dev.urgArrive_of_some hk h
    refine ⟨fun hu => ?_, fun hu hh => ?_, fun hh hr => ?_⟩
    · rw [urg, urg', if_pos (by rw [hu]; rfl)]
      rfl
    · have lost : ((tget d.conv k).urgHere.isSome || decide (2 ≤ d.rf (Reg.ADC_STAT k) 30 2)) = true := by
        rw [Bool.or_eq_true, decide_eq_true_iff]
        exact hh
      rw [urg, urg', if_neg (by rw [hu]; decide), if_pos lost]
      rfl
    · have free : ((tget d.conv k).urgHere.isSome || decide (2 ≤ d.rf (Reg.ADC_STAT k) 30 2)) = false := by
        rw [show (tget d.conv k).urgHere = none from hh, decide_eq_false (Nat.not_le.2 hr.1)]
        rfl
      rw [urg, urg', if_neg (by rw [hr.2]; decide), if_neg (by rw [free]; decide)]
      rfl
  · intro due
    have due_iff (w : Nat) : d.latDue k c = some w ↔ due w := Dev.latDue_iff hk w
    refine ⟨fun h w hw => Dev.oldestLat_mem hw.1 h, fun h => ?_, fun w hw => ?_⟩
    · have none' : d.latDue k c = none := Option.eq_none_iff_forall_ne_some.2 fun w hw => h w ((due_iff w).1 hw)
      rw [lat, Dev.latUpdate_of_none none']
    · intro l e f
      rw [lat, Dev.latUpdate_of_due ((due_iff w).2 hw)]
      exact congrArg (fun u => Host.Outcome.next (State.mk u s.pending)) (Dev.ntcEval_eq f k c)
  · rw [conv, Dev.conversion_runs h, if_pos rfl, Dev.urgResult_of_some hu, if_neg (show ¬dest / 64 % 2 = 1 by omega),
      if_pos (show dest / 128 % 2 = 1 by omega), hcc, Dev.ntcEval_eq]
    rfl

end Sys2Proof.Machine

/-! ## Windows, sets, calibration -/

namespace Sys2Proof.Machine

set_option Elab.async false

section
variable {d e : Dev} {k p : Nat}

theorem tmod_tmod {α : Type} {n : Nat} (v : Vector α n) (i : Nat) (f g : α → α) : tmod (tmod v i f) i g = tmod v i (fun x => g (f x)) := by
  unfold tmod
  split
  · simp
  · rfl

theorem tmod_congr {α : Type} [Inhabited α] {n : Nat} {v : Vector α n} {i : Nat} {f g : α → α} (h : f (tget v i) = g (tget v i)) :
    tmod v i f = tmod v i g := by
  unfold tget at h
  unfold tmod
  split
  · next hi =>
    rw [dif_pos hi] at h
    rw [h]
  · rfl

theorem Dev.cvMod_cvMod (d : Dev) (k : Nat) (f g : Conv → Conv) : (d.cvMod k f).cvMod k g = d.cvMod k (fun x => g (f x)) :=
  congrArg (fun v => { d with conv := v }) (tmod_tmod d.conv k f g)

theorem Dev.cv_cvMod (hk : k < 4) (d : Dev) (f : Conv → Conv) : (d.cvMod k f).cv k = f (d.cv k) := tget_tmod_same d.conv hk f

/-! ### Windows -/

theorem Dev.windowOpen_of_wait (hk : k < 4) (h : (tget d.conv k).phase = .waitWin p) : d.windowOpen k p =
    (d.cvMod k (fun c => { c with win := tset c.win p ⟨true, 0, 0, 0, false, false, 0, false, false, false, false, d.now, none, false⟩ })).cvMod
      k (fun c => { c with phase := .delay }) :=
  if_pos (show Conv.phase _ = _ by rw [Dev.cv_cvMod hk]; exact h)

theorem Dev.windowOpen_of_other (hk : k < 4) (h : (tget d.conv k).phase ≠ .waitWin p) : d.windowOpen k p =
    d.cvMod k (fun c => { c with win := tset c.win p ⟨true, 0, 0, 0, false, false, 0, false, false, false, false, d.now, none, false⟩ }) :=
  if_neg (show ¬Conv.phase _ = _ by rw [Dev.cv_cvMod hk]; exact h)

theorem Dev.windowClose_of_gone (h : (tget (tget d.conv k).win p).gone = true) : d.windowClose k p =
    d.cvMod k (fun c => { c with win := tset c.win p default }) := if_pos h

theorem Dev.windowClose_of_shut (h : (tget (tget d.conv k).win p).gone = false) (ho : (tget (tget d.conv k).win p).isOpen = false) :
    d.windowClose k p =
      if tget (tget d.conv k).out p = none ∧ tget (tget d.conv k).set p = none ∧ d.laneUp (adcLane k) = true then
        d.cvMod k (fun c => { c with peakT := d.peakNow k, winT := d.now, out := tset c.out p (some default) })
      else d := by
  have hg : ¬(tget (d.cv k).win p).gone = true := fun hh => Bool.false_ne_true (h.symm.trans hh)
  have hi : ¬(tget (d.cv k).win p).isOpen = true := fun hh => Bool.false_ne_true (ho.symm.trans hh)
  unfold Dev.windowClose
  extract_lets w
  rw [if_neg hg, if_neg hi, Dev.markPeak, Dev.cvMod_cvMod]
  simp only [Option.isNone_iff_eq_none]
  rfl

theorem Dev.windowClose_of_open (h : (tget (tget d.conv k).win p).gone = false) (ho : (tget (tget d.conv k).win p).isOpen = true) :
    d.windowClose k p = d.cvMod k (fun x => { x with
      peakT := d.peakNow k, winT := d.now, win := tset x.win p default,
      out := tset x.out p (some { tget (tget d.conv k).win p with isOpen := false, closeT := some d.now }) }) := by
  have hg : ¬(tget (d.cv k).win p).gone = true := fun hh => Bool.false_ne_true (h.symm.trans hh)
  have hi : (tget (d.cv k).win p).isOpen = true := ho
  unfold Dev.windowClose
  extract_lets w
  rw [if_neg hg, if_pos hi, Dev.markPeak, Dev.cvMod_cvMod]
  rfl

theorem Win.take_of_held (w : Win) (now : Nat) (x : Int) (slice sat : Bool) (hh : w.holds now slice = true) (hn : 0 < w.n) :
    w.take now x sat slice = { w with
      n := w.n + 1, sum := w.sum + x, min := Min.min w.min x, max := Max.max w.max x,
      minSat := if x < w.min then sat else w.minSat, minSlice := if x < w.min then slice else w.minSlice,
      maxSat := if w.max < x then sat else w.maxSat, maxSlice := if w.max < x then slice else w.maxSlice,
      sat := w.sat || sat, slice := w.slice || slice } := by
  have h0 : (w.n == 0) = false := by simpa using (by omega : w.n ≠ 0)
  have hlo : Min.min w.min x = if x < w.min then x else w.min := by split <;> omega
  have hhi : Max.max w.max x = if w.max < x then x else w.max := by split <;> omega
  rw [Win.take, if_pos hh, h0, hlo, hhi]
  simp only [Bool.false_or, decide_eq_true_eq]

theorem Dev.windowReceived_of_none (h : tget (tget d.conv k).out p = none) : d.windowReceived k p = d := by
  have h' : tget (d.cv k).out p = none := h
  unfold Dev.windowReceived
  rw [h']

theorem Dev.windowReceived_of_some {w : Win} (h : tget (tget d.conv k).out p = some w) : d.windowReceived k p =
    ((d.cvMod k (fun c => { c with out := tset c.out p none })).winStore k p w.result).setPhase k p w.result := by
  have h' : tget (d.cv k).out p = some w := h
  unfold Dev.windowReceived
  rw [h']

/-! ### Sets -/

theorem reconstruct_empty (r : Vector WinRes 3) (q : Fin 3) (he : r[q].empty = true) (hm : r[q].mean = 0) :
    (reconstruct r)[q].mean = -((r[0].mean + r[1].mean) + r[2].mean) ∧ (reconstruct r)[q].recon = true := by
  have hq : (reconstruct r)[q] = { emptyRes with empty := false, mean := r[q].mean - (r[0].mean + r[1].mean + r[2].mean), recon := true } := by
    unfold reconstruct
    rw [Fin.getElem_fin, Vector.getElem_ofFn]
    exact if_pos he
  rw [hq]
  exact ⟨by rw [hm, Int.zero_sub], rfl⟩

/-- The device before the assembler judges a set (R218). -/
def Dev.setCome (e : Dev) (k : Nat) : Dev := (e.ev (0x98 + k)).hlt 0x05 k (e.now - (tget e.conv k).winT : Nat)

theorem Dev.setCome_now (e : Dev) (k : Nat) : (e.setCome k).now = e.now := by simp [Dev.setCome]
theorem Dev.setCome_conv (e : Dev) (k : Nat) : (e.setCome k).conv = e.conv := by simp [Dev.setCome]

/-- The set's moment and the count of invalid sets in a row. -/
def Dev.setMark (u : Dev) (k t n : Nat) : Dev := u.cvMod k (fun c => { c with setT := t, inv := n })

theorem Dev.judgeSet_of_three {r : Vector WinRes 3} (h : (r.toList.filter (fun x => !x.empty)).length = 3) :
    let u := (e.setCome k).setMark k e.now 0
    e.judgeSet k r =
      (if 0 < (e.setCome k).rf Reg.ADC_RECON 16 8 ∧
          64 * (e.setCome k).rf Reg.ADC_RECON 16 8 < (r[0].mean + r[1].mean + r[2].mean).natAbs then
        if (e.setCome k).rf (Reg.ADC_STAT k) 0 2 = 2 then
          ((u.wsat (Reg.ADC_STAT k) 0 2).wb (Reg.ADC_FLAGS k) 3 true).occ (0x0606 + 0x10 * k) 0
        else u.wsat (Reg.ADC_STAT k) 0 2
      else u.wf (Reg.ADC_STAT k) 0 2 0).deliver k true r := by
  intro u
  have hu : (((e.setCome k).cvMod k (fun c => { c with setT := (e.setCome k).now })).cvMod k (fun c => { c with inv := 0 })) = u := by
    rw [Dev.cvMod_cvMod, Dev.setCome_now]
    rfl
  unfold Dev.judgeSet
  extract_lets m c1 c2 tol sum c3 n c4 c5 c6 c7
  have h3 : c3 = u := hu
  rw [if_pos h]
  simp only [c5, c4, n, tol, h3]
  rfl

theorem Dev.judgeSet_of_two {r : Vector WinRes 3} (h : (r.toList.filter (fun x => !x.empty)).length = 2)
    (hr : (e.setCome k).rb Reg.ADC_RECON k = true) :
    e.judgeSet k r = ((e.setCome k).setMark k e.now 0).deliver k true (reconstruct r) := by
  unfold Dev.judgeSet
  extract_lets m c1 c2 tol sum c3 n c4 c5 c6 c7
  have hm : m = 2 := h
  have hu : c2.cvMod k (fun c => { c with inv := 0 }) = (e.setCome k).setMark k e.now 0 := by
    rw [Dev.cvMod_cvMod, show c1.now = e.now from Dev.setCome_now e k]
    rfl
  rw [if_neg (by omega), if_pos ⟨hm, hr⟩, hu]

theorem Dev.judgeSet_of_fewer (hk : k < 4) {r : Vector WinRes 3} (h : (r.toList.filter (fun x => !x.empty)).length < 2 ∨
    ((r.toList.filter (fun x => !x.empty)).length = 2 ∧ (e.setCome k).rb Reg.ADC_RECON k = false)) :
    let bad := ((e.setCome k).wb (Reg.ADC_FLAGS k) 4 true).setMark k e.now ((tget e.conv k).inv + 1)
    e.judgeSet k r = (if (tget e.conv k).inv + 1 = bad.rf Reg.ADC_RECON 8 8 then bad.occ (0x0605 + 0x10 * k) 0 else bad).deliver
      k false r := by
  intro bad
  unfold Dev.judgeSet
  extract_lets m c1 c2 tol sum c3 n c4 c5 c6 c7
  have hm : m < 2 ∨ (m = 2 ∧ c2.rb Reg.ADC_RECON k = false) := h
  have hr : ¬(m = 2 ∧ c2.rb Reg.ADC_RECON k = true) := by
    rintro ⟨h2, hb⟩
    rcases hm with hm | ⟨-, hm⟩
    · omega
    · exact Bool.false_ne_true (hm.symm.trans hb)
  have h6 : c6 = bad := by
    have hv : c6 = (c1.wb (Reg.ADC_FLAGS k) 4 true).cvMod k (fun c => { c with setT := c1.now, inv := c.inv + 1 }) :=
      (show c6 = ((c1.wb (Reg.ADC_FLAGS k) 4 true).cvMod k (fun c => { c with setT := c1.now })).cvMod k
        (fun c => { c with inv := c.inv + 1 }) from rfl).trans (Dev.cvMod_cvMod _ k _ _)
    rw [hv, show c1.now = e.now from Dev.setCome_now e k]
    refine congrArg (fun v => { c1.wb (Reg.ADC_FLAGS k) 4 true with conv := v }) (tmod_congr ?_)
    have hc : (c1.wb (Reg.ADC_FLAGS k) 4 true).conv = e.conv := (by simp : _ = c1.conv).trans (Dev.setCome_conv e k)
    rw [hc]
  have hi : (bad.cv k).inv = (tget e.conv k).inv + 1 := congrArg Conv.inv (Dev.cv_cvMod hk _ _)
  rw [if_neg (by omega), if_neg hr]
  simp only [c7, h6, hi]

theorem Dev.setPhase_of_missing (r : WinRes)
    (h : ∃ q < 3, tget (tget (d.cvMod k (fun c => { c with set := tset c.set p (some r) })).conv k).set q = none) :
    d.setPhase k p r = d.cvMod k (fun c => { c with set := tset c.set p (some r) }) := by
  unfold Dev.setPhase
  extract_lets f
  obtain ⟨q, hq, hn⟩ := h
  have hn' : tget (f.cv k).set q = none := hn
  split
  · next x y z hx hy hz =>
    obtain rfl | rfl | rfl : q = 0 ∨ q = 1 ∨ q = 2 := by omega
    · exact absurd (hn'.symm.trans hx) (by simp)
    · exact absurd (hn'.symm.trans hy) (by simp)
    · exact absurd (hn'.symm.trans hz) (by simp)
  · rfl

theorem Dev.setPhase_of_all (r : WinRes) {x y z : WinRes}
    (hx : tget (tget (d.cvMod k (fun c => { c with set := tset c.set p (some r) })).conv k).set 0 = some x)
    (hy : tget (tget (d.cvMod k (fun c => { c with set := tset c.set p (some r) })).conv k).set 1 = some y)
    (hz : tget (tget (d.cvMod k (fun c => { c with set := tset c.set p (some r) })).conv k).set 2 = some z) :
    d.setPhase k p r = (d.cvMod k (fun c => { c with set := tset c.set p (some r) })).judgeSet k #v[x, y, z] := by
  have hx' : tget ((d.cvMod k (fun c => { c with set := tset c.set p (some r) })).cv k).set 0 = some x := hx
  have hy' : tget ((d.cvMod k (fun c => { c with set := tset c.set p (some r) })).cv k).set 1 = some y := hy
  have hz' : tget ((d.cvMod k (fun c => { c with set := tset c.set p (some r) })).cv k).set 2 = some z := hz
  unfold Dev.setPhase
  extract_lets f
  rw [hx', hy', hz']

/-- The set that is delivered holds the scaled means and the verdict. -/
theorem Dev.deliver_ready (hk : k < 4) (e : Dev) (ok : Bool) (r : Vector WinRes 3) : ∃ cs : CurSet,
    (tget (e.deliver k ok r).conv k).ready = some cs ∧ cs.valid = ok ∧
    ∀ q : Fin 3, cs.i[q] = rdiv 217 (r[q].mean * sword (e.rget (Reg.ADC_ISCALE k))) 4 := by
  unfold Dev.deliver
  extract_lets cs f
  exact ⟨cs, congrArg Conv.ready (Dev.cv_cvMod hk _ _), rfl, fun q => by simp [cs, Dev.scaleCur]⟩

/-! ### Calibration -/

theorem Dev.occIf_flt (h : e.flt = d.flt) (c : Bool) (code src : Nat) : (e.occIf c code src).flt = (d.occIf c code src).flt := by
  cases c
  · exact h
  · simp only [Dev.occIf, Dev.occ, if_true, h]

/-- From `d` to `e` the status of the sequencer of converter `k` may change, and nothing of its mode, of another register or of the
faults. -/
structure SeqOnly (k : Nat) (d e : Dev) : Prop where
  canon : canon resetOf e.regs = true
  reg : ∀ b, b ≠ Reg.ADC_STAT k → e.rget b = d.rget b
  mode : e.rf (Reg.ADC_STAT k) 30 2 = d.rf (Reg.ADC_STAT k) 30 2
  flt : e.flt = d.flt

namespace SeqOnly

theorem rfl (h : Sys2Proof.Machine.canon resetOf d.regs = true) : SeqOnly k d d := ⟨h, fun _ _ => .refl _, .refl _, .refl _⟩

/-- A change of a status field below the mode. -/
theorem wf (h : SeqOnly k d e) {lo w : Nat} (hw : lo + w ≤ 30) (x : Nat) : SeqOnly k d (e.wf (Reg.ADC_STAT k) lo w x) :=
  ⟨wf_canon h.canon _ _ _ _, fun b hb => (e.rget_rset_other _ hb).trans (h.reg b hb),
    (rf_wf_disjoint h.canon _ _ (by omega) (Or.inr hw)).trans h.mode, h.flt⟩

/-- A change that the registers and faults do not see. -/
theorem other (h : SeqOnly k d e) {f : Dev} (hr : f.regs = e.regs) (hf : f.flt = e.flt) : SeqOnly k d f := by
  have hg (b : Nat) : f.rget b = e.rget b := Dev.rget_of_regs hr b
  refine ⟨hr ▸ h.canon, fun b hb => (hg b).trans (h.reg b hb), ?_, hf.trans h.flt⟩
  rw [← h.mode, Dev.rf, hg]
  exact .refl _

theorem seqEntry : ∀ (fuel i : Nat) {e : Dev}, SeqOnly k d e → SeqOnly k d (e.seqEntry k fuel i)
  | 0, _, _, h => (h.wf (by decide) _).other (.refl _) (.refl _)
  | fuel + 1, i, e, h => by
    unfold Dev.seqEntry
    extract_lets v len f
    have hf : SeqOnly k d f := (h.wf (by decide) _).other (.refl _) (.refl _)
    split_ifs
    · exact hf.other (.refl _) (.refl _)
    · exact hf.other (.refl _) (.refl _)
    · exact seqEntry fuel (i + 1) hf
    · exact seqEntry fuel 0 (hf.other (.refl _) (.refl _))

theorem seqStart (h : SeqOnly k d e) : SeqOnly k d (e.seqStart k) := by
  unfold Dev.seqStart
  split_ifs
  · exact ((h.wf (by decide) _).other (f := e.wb (Reg.ADC_STAT k) 7 true) (.refl _) (.refl _)).seqEntry 64 0
  · exact h

end SeqOnly

/-- The words of a calibration are written one after another (R205). -/
theorem Dev.rget_calWords (h : canon resetOf d.regs = true) (k : Nat) (ws : List Word) (m : Nat) :
    let f := (List.range m).foldl (fun d w => d.rset (Reg.ADC_CAL k w) (ws.getD w 0 &&& calMask w)) d
    canon resetOf f.regs = true ∧ f.flt = d.flt ∧
    (∀ n < m, f.rget (Reg.ADC_CAL k n) = ws.getD n 0 &&& calMask n) := by
  induction m with
  | zero => exact ⟨h, rfl, fun n hn => absurd hn (by omega)⟩
  | succ m ih =>
    intro f
    obtain ⟨hc, hf, hg⟩ := ih
    have he : f = ((List.range m).foldl (fun d w => d.rset (Reg.ADC_CAL k w) (ws.getD w 0 &&& calMask w)) d).rset (Reg.ADC_CAL k m)
        (ws.getD m 0 &&& calMask m) := by
      unfold f
      rw [List.range_succ, List.foldl_append, List.foldl_cons, List.foldl_nil]
    rw [he]
    refine ⟨rset_canon hc _ _, hf, fun n hn => ?_⟩
    rw [rget_rset hc]
    by_cases hnm : n = m
    · rw [if_pos (by rw [hnm]), hnm]
    · rw [if_neg (by unfold Reg.ADC_CAL; omega), hg n (by omega)]

/-- The converter after a calibration: factors, result, mode, and the fault of a failed one (R205, R206). -/
theorem Dev.calEnd_shows (h : canon resetOf d.regs = true) (k : Nat) (st1 : Bool) (diff : Nat) (ws : List Word) {res : Nat}
    (hr : d.calCode k st1 diff = res) : let t := d.calEnd k st1 diff ws
    (∀ n < 13, t.rget (Reg.ADC_CAL k n) = ws.getD n 0 &&& calMask n) ∧
    t.rget (Reg.ADC_CAL k 13) = BitVec.ofNat 32 (res * 0x10000 + diff) ∧
    t.rf (Reg.ADC_STAT k) 30 2 = (if res = 0 then 0 else if res = 1 then 1 else 3) ∧
    t.flt = (d.occIf (res != 0) (0x0603 + 0x10 * k) 0).flt := by
  unfold Dev.calEnd
  rw [hr]
  extract_lets r w0 w1 w2 w3 w4 w5 w6
  obtain ⟨hc0, hf0, hg0⟩ : canon resetOf w0.regs = true ∧ w0.flt = d.flt ∧
    ∀ n < 13, w0.rget (Reg.ADC_CAL k n) = ws.getD n 0 &&& calMask n := Dev.rget_calWords h k ws 13
  clear_value w0
  have hc1 : canon resetOf w1.regs = true := rset_canon hc0 _ _
  have hc2 : canon resetOf w3.regs = true := rset_canon hc1 _ _
  have hn (n : Nat) : Reg.ADC_CAL k n ≠ Reg.ADC_STAT k := by
    unfold Reg.ADC_CAL Reg.ADC_STAT
    omega
  have at3 (n : Nat) : w3.rget (Reg.ADC_CAL k n) = w2.rget (Reg.ADC_CAL k n) := Dev.rget_of_regs rfl _
  have at4 (n : Nat) : w4.rget (Reg.ADC_CAL k n) = w2.rget (Reg.ADC_CAL k n) := (w3.rget_rset_other _ (hn n)).trans (at3 n)
  have at6 (n : Nat) : w6.rget (Reg.ADC_CAL k n) = w2.rget (Reg.ADC_CAL k n) :=
    (Dev.rget_of_regs (by simp [w6, w5]) _).trans (at4 n)
  have at2 (n : Nat) (hn : n ≠ 14) : w2.rget (Reg.ADC_CAL k n) = w1.rget (Reg.ADC_CAL k n) :=
    w1.rget_rset_other _ (by unfold Reg.ADC_CAL; omega)
  have hc4 : canon resetOf w4.regs = true := wf_canon hc2 _ _ _ _
  have hc6 : canon resetOf w6.regs = true := by
    have : w6.regs = w4.regs := by simp [w6, w5]
    rw [this]
    exact hc4
  have hs := (SeqOnly.rfl (k := k) hc6).seqStart
  have hm : w6.rf (Reg.ADC_STAT k) 30 2 = w4.rf (Reg.ADC_STAT k) 30 2 := by
    rw [Dev.rf, Dev.rf, Dev.rget_of_regs (d := w4) (by simp [w6, w5])]
  have hm4 : w4.rf (Reg.ADC_STAT k) 30 2 = (if r = 0 then 0 else if r = 1 then 1 else 3) % 2 ^ 2 := rf_wf_same hc2 _ _ (by decide)
  refine ⟨fun n hn13 => ?_, ?_, ?_, ?_⟩
  · rw [hs.reg _ (hn n), at6, at2 n (by omega), w0.rget_rset_other _ (by unfold Reg.ADC_CAL; omega), hg0 n hn13]
  · rw [hs.reg _ (hn 13), at6, at2 13 (by decide), show w1 = w0.rset _ _ from rfl, rget_rset hc0, if_pos rfl]
  · rw [hs.mode, hm, hm4]
    split_ifs <;> rfl
  · have h5 : w5.flt = d.flt := (by simp [w5] : w5.flt = w4.flt).trans ((by simp [w4, w3, w2, w1, Dev.setAdcMode, Dev.cvMod] : w4.flt = w0.flt).trans
      hf0)
    rw [hs.flt]
    exact Dev.occIf_flt h5 _ _ _

theorem Dev.calibrated_of_other (h : d.rf (Reg.ADC_STAT k) 30 2 ≠ 2) (st1 : Bool) (diff : Nat) (ws : List Word) :
    d.calibrated k st1 diff ws = d := if_pos h

theorem Dev.calibrated_of_cal (h : d.rf (Reg.ADC_STAT k) 30 2 = 2) (st1 : Bool) (diff : Nat) (ws : List Word) :
    d.calibrated k st1 diff ws = (d.calEnd k st1 diff ws).completeRun (fun c => c.op == 0x35 && beAt c.payload 0 1 == k) stOk
      ([BitVec.ofNat 8 k, BitVec.ofNat 8 (d.calCode k st1 diff)] ++ beBytes 2 diff ++
        beBytes 2 (min 65535 ((d.now - (tget d.conv k).calAt) / 400))) := if_neg (fun hh => hh h)

/-! ### SAR results -/

variable {sar i v : Nat}

theorem Dev.sarSlot_of_idle (hs : (tget d.sar sar).sync = []) (hd : ∀ j < 16, d.rb Reg.ADC_SARSCAN (16 * sar + j) = false) :
    d.sarSlot sar = none := by
  have none' (n : Nat) : d.sarFrom sar n = none := by
    refine List.find?_eq_none.2 fun x hx => ?_
    obtain ⟨j, -, rfl⟩ := List.mem_map.1 hx
    exact fun h => Bool.false_ne_true ((hd _ (Nat.mod_lt _ (by decide))).symm.trans h)
  unfold Dev.sarSlot
  rw [hs, none']
  rfl

theorem Dev.sarResult_of_none (h : d.sarSlot sar = none) (v : Nat) : d.sarResult sar v = d := by
  unfold Dev.sarResult
  rw [h]

theorem Dev.sarResult_of_some {pair : Bool} (h : d.sarSlot sar = some (i, pair)) (v : Nat) : d.sarResult sar v = d.sarTake sar i v pair := by
  unfold Dev.sarResult
  rw [h]

/-- A result of an input that neither a decoder nor the brake reads. -/
theorem Dev.sarTake_plain (h4 : i ≠ 4) (h5 : i ≠ 5) (h10 : i ≠ 10) (v : Nat) (pair : Bool) :
    d.sarTake sar i v pair = d.sarStore sar i v pair := by
  rw [Dev.sarTake, if_neg (by omega), if_neg (by omega)]

/-- The result of a single conversion of the scan, of an input that no reference is read at the end of (R222). -/
theorem Dev.sarStore_single (h13 : i ≠ 13) (v : Nat) : d.sarStore sar i v false =
    { (d.wmod (Reg.ADC_SAR_D sar i) 16 16).wf (Reg.ADC_SAR_D sar i) 0 12 v with
      sar := tmod ((d.wmod (Reg.ADC_SAR_D sar i) 16 16).wf (Reg.ADC_SAR_D sar i) 0 12 v).sar sar (fun x =>
        { x with scanBad := x.scanBad || i == 11 && (decide (v < 2028) || decide (2068 < v)), next := i + 1 }) } := by
  have hb : (i == 13) = false := by simpa using h13
  unfold Dev.sarStore
  extract_lets f _ bad g n w
  rw [if_neg Bool.false_ne_true, if_neg h13]
  simp only [g, bad, hb, Bool.false_and, Bool.or_false]
  rfl

/-- The result of a synchronous pair (R222). -/
theorem Dev.sarStore_pair (v : Nat) : d.sarStore sar i v true =
    let f := (d.wmod (Reg.ADC_SAR_D sar i) 16 16).wf (Reg.ADC_SAR_D sar i) 0 12 v
    { f with sar := tmod f.sar sar (fun x => { x with sync := x.sync.drop 1 }),
             safe := { f.safe with pairAt := tset f.safe.pairAt i (d.now - 80) } } := by
  unfold Dev.sarStore
  extract_lets f _ bad g n w
  rw [if_pos rfl, show f.now = d.now by simp [f]]

/-- The result of input 13 ends the scan, and the references are judged (R223). -/
theorem Dev.sarStore_last (hs : sar < 2) (v : Nat) :
    let n := if (tget d.sar sar).scanBad || decide (8 < v) then (tget d.sar sar).bad + 1 else 0
    ∃ f : Dev, d.sarStore sar 13 v false = f.lvlSet (decide (2 ≤ n)) (0x0641 + sar) 0 ∧
      f.regs = ((d.wmod (Reg.ADC_SAR_D sar 13) 16 16).wf (Reg.ADC_SAR_D sar 13) 0 12 v).regs ∧
      f.flt = d.flt ∧ f.sram = d.sram ∧ tget f.sar sar = ⟨n, false, 14, (tget d.sar sar).sync⟩ := by
  intro n
  unfold Dev.sarStore
  extract_lets f _ bad g n' w
  have hbad : bad = decide (8 < v) := by simp [bad]
  have hf : f.sar = d.sar := by simp [f]
  have hg : tget g.sar sar = { tget d.sar sar with scanBad := (tget d.sar sar).scanBad || bad, next := 13 + 1 } := by
    rw [← hf]
    exact tget_tmod_same f.sar hs _
  have hn : n' = n := by
    unfold n' n
    rw [hg, hbad]
  rw [if_neg Bool.false_ne_true, if_pos rfl, hn]
  have hw : tget w.sar sar = { tget g.sar sar with bad := n', scanBad := false } := tget_tmod_same g.sar hs _
  refine ⟨w, rfl, rfl, (by simp [f] : f.flt = d.flt), (by simp [f] : f.sram = d.sram), ?_⟩
  rw [hw, hg, hn]

/-- A window result shows in the registers of its phase (R217). -/
theorem Dev.windowReceived_shows {w : Win} (h : tget (tget d.conv k).out p = some w) : ∃ e : Dev,
    d.windowReceived k p = e.setPhase k p w.result ∧ e.sram = d.sram ∧ e.flt = d.flt ∧
    e.regs = (((((d.wf (Reg.ADC_WIN k p) 16 16 (fromSigned 16 w.result.mean)).wf (Reg.ADC_WIN k p) 8 8 (min w.result.n 255)).wf
      (Reg.ADC_WIN k p) 0 8 (winFlags p w.result)).wf (Reg.ADC_WMM k p) 16 16 w.result.min).wf (Reg.ADC_WMM k p) 0 16 w.result.max).regs :=
  ⟨(d.cvMod k (fun c => { c with out := tset c.out p none })).winStore k p w.result, Dev.windowReceived_of_some h,
    by simp [Dev.winStore, Dev.cvMod], by simp [Dev.winStore, Dev.cvMod], rfl⟩

/-- The outcome of a calibration by what passed (R205, R206). -/
theorem Dev.calCode_eq (d : Dev) (k : Nat) (st1 : Bool) (diff : Nat) : d.calCode k st1 diff =
    if st1 = false then 2 else if diff ≤ d.rf (Reg.ADC_CFG k) 24 8 then 0 else 1 := by
  cases st1 <;> rfl

theorem Dev.calCode_byte (d : Dev) (k : Nat) (st1 : Bool) (diff : Nat) : BitVec.ofNat 8 (d.calCode k st1 diff) =
    if st1 = false then 2 else if diff ≤ d.rf (Reg.ADC_CFG k) 24 8 then 0 else 1 := by
  rw [Dev.calCode_eq]
  split_ifs <;> rfl

/-- The converter as its calibration leaves it, by what passed (R205, R206). -/
theorem Dev.calEnd_outcomes (h : canon resetOf d.regs = true) (k : Nat) (st1 : Bool) (diff : Nat) (ws : List Word) :
    let t := d.calEnd k st1 diff ws
    let tol := d.rf (Reg.ADC_CFG k) 24 8
    (∀ n < 13, t.rget (Reg.ADC_CAL k n) = ws.getD n 0 &&& calMask n) ∧
    (st1 = true → diff ≤ tol → t.rf (Reg.ADC_STAT k) 30 2 = 0 ∧ t.flt = d.flt ∧ t.rget (Reg.ADC_CAL k 13) = BitVec.ofNat 32 diff) ∧
    (st1 = true → tol < diff → t.rf (Reg.ADC_STAT k) 30 2 = 1 ∧ t.flt = (d.occ (0x0603 + 0x10 * k) 0).flt ∧
      t.rget (Reg.ADC_CAL k 13) = BitVec.ofNat 32 (0x10000 + diff)) ∧
    (st1 = false → t.rf (Reg.ADC_STAT k) 30 2 = 3 ∧ t.flt = (d.occ (0x0603 + 0x10 * k) 0).flt ∧
      t.rget (Reg.ADC_CAL k 13) = BitVec.ofNat 32 (0x20000 + diff)) := by
  intro t tol
  have shows {res : Nat} (hr : d.calCode k st1 diff = res) : t.rget (Reg.ADC_CAL k 13) = BitVec.ofNat 32 (res * 0x10000 + diff) ∧
      t.rf (Reg.ADC_STAT k) 30 2 = (if res = 0 then 0 else if res = 1 then 1 else 3) ∧
      t.flt = (d.occIf (res != 0) (0x0603 + 0x10 * k) 0).flt := (Dev.calEnd_shows h k st1 diff ws hr).2
  refine ⟨(Dev.calEnd_shows h k st1 diff ws rfl).1, fun hs hd => ?_, fun hs hd => ?_, fun hs => ?_⟩
  · obtain ⟨hw, hm, hf⟩ := shows (res := 0) (by rw [Dev.calCode_eq, if_neg (by rw [hs]; decide), if_pos hd])
    rw [Nat.zero_mul, Nat.zero_add] at hw
    exact ⟨hm, hf, hw⟩
  · obtain ⟨hw, hm, hf⟩ := shows (res := 1) (by rw [Dev.calCode_eq, if_neg (by rw [hs]; decide), if_neg (Nat.not_le.2 hd)])
    rw [Nat.one_mul] at hw
    exact ⟨hm, hf, hw⟩
  · obtain ⟨hw, hm, hf⟩ := shows (res := 2) (by rw [Dev.calCode_eq, if_pos hs])
    exact ⟨hm, hf, hw⟩

end

/-- Settles O37: windows by their state, sets by how many phases have samples, the calibration by its outcome, and the SARs by their
slot. -/
theorem windowsSetsCalibrationAndSar : Obligations.WindowsSetsCalibrationAndSar := by
  intro s k p sar i v st1 diff ws hl hk hp hsar hi hdiff d c fresh opened stored
  have opn : exec (.windowOpen k p) s = .next ⟨d.windowOpen k p, s.pending⟩ := by rw [exec_windowOpen, State.run_live hl]
  have cls : exec (.windowClose k p) s = .next ⟨d.windowClose k p, s.pending⟩ := by rw [exec_windowClose, State.run_live hl]
  have recv : exec (.windowResultReceived k p) s = .next ⟨d.windowReceived k p, s.pending⟩ := by
    rw [exec_windowResultReceived, State.run_live hl]
  have cal : exec (.calibrationEnd k st1 diff ws) s = .next ⟨d.calibrated k st1 diff ws, s.pending⟩ := by
    rw [exec_calibrationEnd, State.run_live hl]
  have sarR : exec (.sarResult sar v) s = .next ⟨d.sarResult sar v, s.pending⟩ := by rw [exec_sarResult, State.run_live hl]
  refine ⟨fun h => ?_, fun h => ?_, ?_⟩
  · rw [opn, Dev.windowOpen_of_other hk h]
    rfl
  · rw [opn, Dev.windowOpen_of_wait hk h]
    rfl
  intro w peak tol missed
  refine ⟨fun h => ?_, fun h ho hm => ?_, fun h ho hm => ?_, fun h ho => ?_, fun w now x slice sat => Win.take_of_held w now x slice sat,
    fun w now x slice sat h => if_neg (by rw [h]; decide), fun h => ?_, fun w h => ?_, fun r q he _ hm => reconstruct_empty r q he hm,
    fun h => ?_, fun h => ?_, fun ht => ?_, fun e r => ?_, fun e r => ?_, Dev.deliver_ready hk, fun h => ?_, Dev.sarSlot_of_idle,
    fun h h4 h5 h10 h13 => ?_, fun h h4 => ?_, fun h => ?_⟩
  · rw [cls, Dev.windowClose_of_gone h]
    rfl
  · rw [cls, Dev.windowClose_of_shut h ho, if_neg hm]
  · rw [cls, Dev.windowClose_of_shut h ho, if_pos hm]
    rfl
  · rw [cls, Dev.windowClose_of_open h ho]
    rfl
  · rw [recv, Dev.windowReceived_of_none h]
  · obtain ⟨e, he, hrest⟩ := Dev.windowReceived_shows h
    exact ⟨e, recv.trans (congrArg (fun u => Host.Outcome.next (State.mk u s.pending)) he), hrest⟩
  · rw [cal, Dev.calibrated_of_other h]
  · rw [cal, Dev.calibrated_of_cal h, Dev.calCode_byte]
  · exact Dev.calEnd_outcomes (Dev.regs_canon ht) k st1 diff ws
  · intro f
    exact ⟨Dev.setPhase_of_missing r, fun x y z hx hy hz => Dev.setPhase_of_all r hx hy hz⟩
  · intro m e1 put sum off bad
    refine ⟨fun h ho => ?_, fun h ho hn => ?_, fun h ho hn => ?_, fun h hr => Dev.judgeSet_of_two h hr, fun h => ⟨fun hn => ?_,
      fun hn => ?_⟩⟩
    · exact (Dev.judgeSet_of_three h).trans (congrArg (fun u : Dev => u.deliver k true r) (if_neg ho))
    · exact (Dev.judgeSet_of_three h).trans (congrArg (fun u : Dev => u.deliver k true r) ((if_pos ho).trans (if_neg hn)))
    · exact (Dev.judgeSet_of_three h).trans (congrArg (fun u : Dev => u.deliver k true r) ((if_pos ho).trans (if_pos hn)))
    · exact (Dev.judgeSet_of_fewer hk h).trans (congrArg (fun u : Dev => u.deliver k false r) (if_pos hn))
    · exact (Dev.judgeSet_of_fewer hk h).trans (congrArg (fun u : Dev => u.deliver k false r) (if_neg hn))
  · rw [sarR, Dev.sarResult_of_none h]
  · intro bad
    rw [sarR, Dev.sarResult_of_some h, Dev.sarTake_plain h4 h5 h10, Dev.sarStore_single h13]
  · rw [sarR, Dev.sarResult_of_some h, Dev.sarTake_plain (by omega) (by omega) (by omega), Dev.sarStore_pair]
  · intro n e
    rw [sarR, Dev.sarResult_of_some h, Dev.sarTake_plain (by decide) (by decide) (by decide)]
    obtain ⟨f, hf, hrest⟩ := Dev.sarStore_last (d := d) hsar v
    exact ⟨f, congrArg (fun u => Host.Outcome.next (State.mk u s.pending)) hf, hrest⟩

end Sys2Proof.Machine

/-! ## Hall interface -/

namespace Sys2Proof.Machine

set_option Elab.async false

section
variable {d e : Dev} {a code : Nat}

/-- The commutation that falls on an edge of the hall code (R237). -/
def Dev.hallFin (u : Dev) (a : Nat) : Dev :=
  if u.rb (Reg.POS_CFG a) 0 && u.leader a == a && u.src a == 1 then (u.group a).foldl Dev.sectorChange u else u

/-- The code and its moment (R241). -/
def Dev.hallCode (d : Dev) (a code : Nat) : Dev := (d.wf (Reg.POS_STAT a) 0 3 code).hallMod a (fun h => { h with lastT := d.now })

/-- The sector after a step, its masks and the commutation (R162, R237). -/
def Dev.hallMasks (u : Dev) (a idx : Nat) : Dev :=
  (((u.hallMod a (fun h => { h with sector := idx })).wf (Reg.POS_STAT a) 4 3 idx).commutate a 1 idx).hallFin a

theorem Dev.hallEdgeAt_of_off (h : d.rb (Reg.POS_CFG a) 0 = false) : d.hallEdgeAt a code = d := by
  have he : d.hallEdge a code = d := by rw [Dev.hallEdge, if_pos (by rw [h]; rfl)]
  rw [Dev.hallEdgeAt, he, if_neg (by rw [h]; exact Bool.false_ne_true)]

theorem Dev.hallEdge_of_on (h : d.rb (Reg.POS_CFG a) 0 = true) : d.hallEdge a code =
    (if codeValid (d.rf (Reg.POS_STAT a) 0 3) && codeValid code then
      (((d.hallCode a code).sectorStep a ((d.hallIndex a code + 6 - (d.hall a).sector) % 6)).hallMod a
        (fun h => { h with sector := d.hallIndex a code })).wf (Reg.POS_STAT a) 4 3 (d.hallIndex a code)
    else if codeValid code then (d.hallCode a code).wf (Reg.POS_STAT a) 4 3 (d.hall a).sector
    else (d.hallCode a code).wf (Reg.POS_STAT a) 4 3 (d.hallIndex a code)).commutate a 1 (d.hallIndex a code) := by
  rw [Dev.hallEdge, if_neg (by rw [h]; decide)]
  rfl

/-- A code that is no sector's shows and does not count. -/
theorem Dev.hallEdgeAt_invalid (h : d.rb (Reg.POS_CFG a) 0 = true) (hc : codeValid code = false) : d.hallEdgeAt a code =
    (((d.hallCode a code).wf (Reg.POS_STAT a) 4 3 (d.hallIndex a code)).commutate a 1 (d.hallIndex a code)).hallFin a := by
  rw [Dev.hallEdgeAt, Dev.hallEdge_of_on h, hc, Bool.and_false, if_neg Bool.false_ne_true, if_neg Bool.false_ne_true]
  rfl

/-- The first valid code after an invalid one does not count. -/
theorem Dev.hallEdgeAt_back (h : d.rb (Reg.POS_CFG a) 0 = true) (hc : codeValid code = true)
    (ho : codeValid (d.rf (Reg.POS_STAT a) 0 3) = false) : d.hallEdgeAt a code =
    (((d.hallCode a code).wf (Reg.POS_STAT a) 4 3 (d.hall a).sector).commutate a 1 (d.hallIndex a code)).hallFin a := by
  rw [Dev.hallEdgeAt, Dev.hallEdge_of_on h, hc, ho, Bool.false_and, if_neg Bool.false_ne_true, if_pos rfl]
  rfl

/-- Between two valid codes the sector difference acts (R242). -/
theorem Dev.hallEdgeAt_counts (h : d.rb (Reg.POS_CFG a) 0 = true) (ho : codeValid (d.rf (Reg.POS_STAT a) 0 3) = true)
    (hc : codeValid code = true) : d.hallEdgeAt a code =
    ((d.hallCode a code).sectorStep a ((d.hallIndex a code + 6 - (d.hall a).sector) % 6)).hallMasks a (d.hallIndex a code) := by
  rw [Dev.hallEdgeAt, Dev.hallEdge_of_on h, hc, ho, Bool.and_true, if_pos rfl]
  rfl

/-- A single step ends with its latch and the output (R242, R244, R246). -/
def Dev.stepDone (u : Dev) (a now : Nat) : Dev := ((u.hallMod a (fun h => { h with single := some now })).latchEdge a).posOut a 1

theorem Dev.singleStep_first (h : (e.hall a).single = none) (rev : Bool) : e.singleStep a rev =
    (((e.posCount a (if rev then -1 else 1)).wb (Reg.POS_STAT a) 7 rev).wb (Reg.POS_STAT a) 8 false).stepDone a e.now := by
  unfold Dev.singleStep
  rw [h]
  rfl

theorem Dev.singleStep_later {t : Nat} (h : (e.hall a).single = some t) (rev : Bool) : e.singleStep a rev =
    (((((e.posCount a (if rev then -1 else 1)).wb (Reg.POS_STAT a) 7 rev).hlt 0x0F a (e.now - t : Nat)).rset (Reg.POS_INT a)
      (BitVec.ofNat 32 (e.now - t))).wb (Reg.POS_STAT a) 8 (e.rb (Reg.POS_STAT a) 7 == rev)).stepDone a e.now := by
  unfold Dev.singleStep
  rw [h]
  rfl

theorem Dev.sectorStep_none (c : Dev) (a : Nat) : c.sectorStep a 0 = c := rfl
theorem Dev.sectorStep_forward (c : Dev) (a : Nat) : c.sectorStep a 1 = c.singleStep a false := rfl
theorem Dev.sectorStep_reverse (c : Dev) (a : Nat) : c.sectorStep a 5 = c.singleStep a true := rfl
theorem Dev.sectorStep_opposite (c : Dev) (a : Nat) : c.sectorStep a 3 = c.wb (Reg.POS_STAT a) 8 false := rfl

theorem Dev.sectorStep_forward_two (c : Dev) (a : Nat) : c.sectorStep a 2 =
    ((((c.posCount a 2).wb (Reg.POS_STAT a) 7 false).wb (Reg.POS_STAT a) 8 false).latchEdge a).posOut a 2 := rfl

theorem Dev.sectorStep_reverse_two (c : Dev) (a : Nat) : c.sectorStep a 4 =
    ((((c.posCount a (-2)).wb (Reg.POS_STAT a) 7 true).wb (Reg.POS_STAT a) 8 false).latchEdge a).posOut a 2 := rfl

/-- A hall unit changed. -/
theorem Dev.hallMod_others (d : Dev) (a : Nat) (h : Pos → Pos) :
    (d.hallMod a h).sram = d.sram ∧ (d.hallMod a h).flt = d.flt ∧ (d.hallMod a h).regs = d.regs := ⟨rfl, rfl, rfl⟩

theorem Dev.latchEdge_shows (ha : a < 4) (e : Dev) : ∃ u : Dev, e.latchEdge a = u.ev (0xB0 + 6 * a) ∧ (u.hall a).edgeT = e.now ∧
    u.sram = e.sram ∧ u.flt = e.flt ∧
    u.regs = (((e.wmod (Reg.POS_LPOS a) 16 16).wf (Reg.POS_LPOS a) 0 16 (e.rf (Reg.POS_STAT a) 16 16)).rset (Reg.POS_LTS a)
      (BitVec.ofNat 32 e.now)).regs := by
  unfold Dev.latchEdge
  extract_lets f g
  have hn : f.now = e.now := by simp [f]
  have hg : g.now = e.now := by simp [g, hn]
  obtain ⟨hs, hf, hr⟩ := g.hallMod_others a (fun h => { h with edgeT := g.now })
  refine ⟨g.hallMod a (fun h => { h with edgeT := g.now }), rfl, ?_, hs.trans (by simp [g, f]),
    hf.trans (by simp [g, f]), hr.trans (by rw [← hn])⟩
  rw [Dev.hall, Dev.hallMod, tget_tmod_same _ ha, hg]

theorem Dev.hallTimeout_early (h : d.now < (d.hall a).lastT + d.rf (Reg.POS_TMO a) 0 14 * msTicks) : d.hallTimeout a = d := by
  rw [Dev.hallTimeout, decide_eq_false (Nat.not_le.2 h), Bool.and_false, if_neg Bool.false_ne_true]

theorem Dev.hallTimeout_off (h : d.rb (Reg.POS_CFG a) 0 = false) : d.hallTimeout a = d := by
  rw [Dev.hallTimeout, h, Bool.false_and, if_neg Bool.false_ne_true]

theorem Dev.hallTimeout_due (h : d.rb (Reg.POS_CFG a) 0 = true)
    (ht : (d.hall a).lastT + d.rf (Reg.POS_TMO a) 0 14 * msTicks ≤ d.now) :
    d.hallTimeout a = (d.hallMod a (fun h => { h with single := none })).wb (Reg.POS_STAT a) 8 false := by
  rw [Dev.hallTimeout, h, decide_eq_true ht, Bool.and_true, if_pos rfl]
  rfl

end

/-- Settles O38: an edge by the old and the new code and the sector difference between them. -/
theorem hallEdgesCountAndLatch : Obligations.HallEdgesCountAndLatch := by
  intro s a code hl ha hcode d old idx c k fin toMasks counts
  have edge : exec (.hallEdge a code) s = .next ⟨d.hallEdgeAt a code, s.pending⟩ := by rw [exec_hallEdge, State.run_live hl]
  have tmo : exec (.hallTimeout a) s = .next ⟨d.hallTimeout a, s.pending⟩ := by rw [exec_hallTimeout, State.run_live hl]
  have stepped (h : counts) {n : Nat} (hn : k = n) {u : Dev} (hu : c.sectorStep a n = u) :
      exec (.hallEdge a code) s = .next ⟨toMasks u, s.pending⟩ := by
    obtain ⟨hon, ho, hc⟩ := h
    rw [edge, Dev.hallEdgeAt_counts hon ho hc, ← hu, ← hn]
    rfl
  refine ⟨fun h => ⟨?_, ?_⟩, fun h hc => ?_, fun h hc ho => ?_, fun h hk => stepped h hk (c.sectorStep_none a),
    fun h hk => stepped h hk (c.sectorStep_forward a), fun h hk => stepped h hk (c.sectorStep_reverse a),
    fun h hk => stepped h hk (c.sectorStep_forward_two a), fun h hk => stepped h hk (c.sectorStep_reverse_two a),
    fun h hk => stepped h hk (c.sectorStep_opposite a),
    fun e rev => ⟨fun h => Dev.singleStep_first h rev, fun t h => Dev.singleStep_later h rev⟩, Dev.latchEdge_shows ha, fun h => ?_,
    fun h ht => ?_, ?_⟩
  · rw [edge, Dev.hallEdgeAt_of_off h]
  · rw [tmo, Dev.hallTimeout_off h]
  · rw [edge, Dev.hallEdgeAt_invalid h hc]
    rfl
  · rw [edge, Dev.hallEdgeAt_back h hc ho]
    rfl
  · rw [tmo, Dev.hallTimeout_early h]
  · rw [tmo, Dev.hallTimeout_due h ht]
  · rw [exec_lposRead, State.run_live hl]
    rfl

end Sys2Proof.Machine

/-! ## Field unit -/

namespace Sys2Proof.Machine

set_option Elab.async false

section
variable {d e : Dev} {a : Nat}

/-! ### The parts of a step -/

/-- What a step does once it has its angle: currents, applied voltage, sector, selector, and the injection of an attempt (R227–R240). -/
def Dev.stepRest (e : Dev) (a : Nat) (cs : CurSet) (v : Int × Int) : Dev :=
  let f := (e.currents a cs).appliedV a v
  let g := ((f.fuMod a (fun x => { x with angT := f.sampleTick a })).sectorChange a).select a
  if g.acqPath (g.leader a) = 3 ∧ g.axOf a = .freewheel then g.stageVolts a 0 0 else g

/-- The current set of an axis is used up. -/
def Dev.setUsed (d : Dev) (a : Nat) : Dev := d.cvMod a (fun c => { c with ready := none })

theorem Dev.unitStep_of_none (h : (d.cv a).ready = none) : d.unitStep a = d := by
  unfold Dev.unitStep
  rw [h]

theorem Dev.unitStep_of_some {cs : CurSet} (h : (d.cv a).ready = some cs) : d.unitStep a =
    (if (d.setUsed a).leader a ≠ a then (d.setUsed a).followAngle a
      else (d.setUsed a).leaderStep a ((d.setUsed a).sampleTick a - ((d.setUsed a).fu a).angT) cs).stepRest a cs ((d.setUsed a).appliedAB a) := by
  unfold Dev.unitStep
  rw [h]
  rfl

/-- The observer writes the field unit only. -/
theorem Dev.observe_fld (d : Dev) (a dt : Nat) (cs : CurSet) (v : Int × Int) : ∃ f, d.observe a dt cs v = { d with fld := f } := by
  unfold Dev.observe
  split
  · exact ⟨_, rfl⟩
  · exact ⟨_, rfl⟩

/-- With an invalid set the angle follows the speed of the observer alone (log entry 122). -/
theorem Dev.observe_of_invalid (ha : a < 4) {cs : CurSet} (h : cs.valid = false) (dt : Nat) (v : Int × Int) :
    ((d.observe a dt cs v).fu a).obs = (d.fu a).obs.go dt ∧ ((d.observe a dt cs v).fu a).resid = (d.fu a).resid := by
  have hv : (!cs.valid) = true := by rw [h]; rfl
  unfold Dev.observe
  extract_lets f t
  rw [if_pos hv, Dev.fu, Dev.fuMod, tget_tmod_same _ ha]
  exact ⟨rfl, rfl⟩

/-- The order of a leader's step (R227–R254). -/
theorem Dev.leaderStep_eq (u : Dev) (a dt : Nat) (cs : CurSet) :
    let r := (u.observe a dt cs (u.appliedAB a)).hfiStep a dt cs
    let q := u.rget (Reg.FLD_REACQ a)
    let asc := r.1.acqPath a == 1
    let w := if cs.valid then
      r.1.recordPhi a (u.sampleTick a) (clarke cs.i) (if asc then fget q 0 4 else 0) (if asc then fget q 4 6 - 1 else 15) else r.1
    u.leaderStep a dt cs = (w.fieldSource a cs.valid r.2).showAngle a := by
  intro r q asc w
  obtain ⟨f, hf⟩ := u.observe_fld a dt cs (u.appliedAB a)
  have ht : (u.observe a dt cs (u.appliedAB a)).sampleTick a = u.sampleTick a := by
    rw [hf]
    rfl
  have hq : (u.observe a dt cs (u.appliedAB a)).rget (Reg.FLD_REACQ a) = q := by
    rw [hf]
    rfl
  simp only [Dev.leaderStep, ht, hq]
  rfl

/-! ### The decisions of a step -/

/-- The choice of the source when HFI may have failed (R240). -/
theorem Dev.sourceStep_eq (u : Dev) (a : Nat) (ok : Bool) : u.sourceStep a ok =
    if u.src a = 3 ∧ ok = false then (u.occ (0x0703 + 0x10 * a) 0).setSrc a 0 else u.chooseSrc a := by
  simp only [Dev.sourceStep, Bool.not_eq_true']

theorem Dev.fieldSource_of_idle (h : e.acqPath a = 0 ∧ (e.fu a).acqNext = false) (valid ok : Bool) : e.fieldSource a valid ok =
    match if valid then e.lossChecks a else (e, none) with
    | (e, some (cause, held)) => e.observerLost a cause held
    | (e, none) => e.sourceStep a ok :=
  if_neg (by rw [h.1, h.2]; decide)

theorem Dev.fieldSource_of_invalid (h : e.acqPath a = 0 ∧ (e.fu a).acqNext = false) (ok : Bool) :
    e.fieldSource a false ok = e.sourceStep a ok := Dev.fieldSource_of_idle h false ok

theorem Dev.fieldSource_of_kept (h : e.acqPath a = 0 ∧ (e.fu a).acqNext = false) (hn : (e.lossChecks a).2 = none) (ok : Bool) :
    e.fieldSource a true ok = (e.lossChecks a).1.sourceStep a ok := by
  have hp : e.lossChecks a = ((e.lossChecks a).1, none) := Prod.ext rfl hn
  refine (Dev.fieldSource_of_idle h true ok).trans ?_
  rw [if_pos rfl, hp]

theorem Dev.fieldSource_of_loss (h : e.acqPath a = 0 ∧ (e.fu a).acqNext = false) {cause : Nat} {held : Int}
    (hn : (e.lossChecks a).2 = some (cause, held)) (ok : Bool) :
    e.fieldSource a true ok = (e.lossChecks a).1.observerLost a cause held := by
  have hp : e.lossChecks a = ((e.lossChecks a).1, some (cause, held)) := Prod.ext rfl hn
  refine (Dev.fieldSource_of_idle h true ok).trans ?_
  rw [if_pos rfl, hp]

theorem Dev.fieldSource_of_due (h : e.acqPath a = 0) (hn : (e.fu a).acqNext = true) (valid ok : Bool) :
    e.fieldSource a valid ok = e.attempt a := by
  rw [Dev.fieldSource, if_pos (Or.inr hn)]
  unfold Dev.attemptStep
  rw [h, hn, if_pos rfl] <;> rfl

theorem Dev.fieldSource_of_hfi (h : e.acqPath a = 3) (valid ok : Bool) : e.fieldSource a valid ok = e.acqHfi a ok := by
  rw [Dev.fieldSource, if_pos (Or.inl (by rw [h]; decide))]
  unfold Dev.attemptStep
  rw [h] <;> rfl

theorem Dev.fieldSource_of_asc (h : e.acqPath a = 1) (valid ok : Bool) :
    e.fieldSource a valid ok = if valid then e.acqAsc a else e := by
  rw [Dev.fieldSource, if_pos (Or.inl (by rw [h]; decide))]
  unfold Dev.attemptStep
  rw [h] <;> rfl

theorem Dev.fieldSource_of_probe (h : e.acqPath a = 2) (valid ok : Bool) :
    e.fieldSource a valid ok = if valid then e.acqProbe a else e := by
  rw [Dev.fieldSource, if_pos (Or.inl (by rw [h]; decide))]
  unfold Dev.attemptStep
  rw [h] <;> rfl

/-- A field unit changed. -/
theorem Dev.fuMod_others (d : Dev) (a : Nat) (f : Fld → Fld) :
    (d.fuMod a f).regs = d.regs ∧ (d.fuMod a f).sram = d.sram ∧ (d.fuMod a f).ax = d.ax ∧ (d.fuMod a f).flt = d.flt :=
  ⟨rfl, rfl, rfl, rfl⟩

/-- The residual has been above its limit for the count of the image (R248). -/
theorem Dev.lossChecks_residual (hs : e.src a = 0) (hl : e.lossStands a = false)
    (hr : fget (e.rget (Reg.FLD_OBS a)) 0 16 < (e.fu a).resid) (hn : fget (e.rget (Reg.FLD_OBS a)) 16 8 ≤ (e.fu a).resRun + 1) :
    (e.lossChecks a).2 = some (0, if (e.fu a).resRun = 0 then sword (e.rget (Reg.FLD_SPEED a)) else (e.fu a).wPre) ∧
    (e.lossChecks a).1.regs = e.regs ∧ (e.lossChecks a).1.sram = e.sram ∧ (e.lossChecks a).1.ax = e.ax ∧
    (e.lossChecks a).1.flt = e.flt := by
  have hstay : ¬(e.src a ≠ 0 ∨ e.lossStands a = true) := by
    rw [hs, hl]
    decide
  unfold Dev.lossChecks
  extract_lets f w obs res hall rr hr' now rw' hw v
  rw [if_neg hstay]
  have hres : res = true := decide_eq_true hr
  have hrr : rr = (e.fu a).resRun + 1 := if_pos hres
  refine ⟨?_, e.fuMod_others a _⟩
  have hlost : 0 < rr ∧ fget obs 16 8 ≤ rr := by
    rw [hrr]
    exact ⟨Nat.succ_pos _, hn⟩
  have hheld : rw' = if (e.fu a).resRun = 0 then sword (e.rget (Reg.FLD_SPEED a)) else (e.fu a).wPre := by
    unfold rw'
    rw [hrr]
    by_cases h0 : (e.fu a).resRun = 0
    · rw [if_pos (by omega), if_pos h0]
    · rw [if_neg (by omega), if_neg h0]
  exact (if_pos hlost).trans (by rw [hheld])

/-! ### Transforms and sectors -/

theorem cosQ_sinQ_zero : cosQ (0 : Word).toNat = 1073741824 ∧ sinQ (0 : Word).toNat = 0 := by decide

/-- The Park transform at angle 0 gives its arguments (R227). -/
theorem park_zero (x : Int × Int) : park x 0 = x := by
  obtain ⟨hc, hs⟩ := cosQ_sinQ_zero
  have whole (site : Nat) (y : Int) : rdiv site (y * 1073741824) 1073741824 = y := by
    rw [rdiv, if_neg (by decide), if_pos (by omega)]
    omega
  unfold park rotD rotQ
  rw [hc, hs, Int.mul_zero, Int.add_zero, Int.mul_zero, Int.sub_zero, whole, whole]

/-- The middle, the end and the start of sector `s`, in sectors. -/
theorem sector_of_angle {b s : Int} (hb : 0 < b) (he : b % 2 = 0) :
    (2 * s + 1) * (b / 2) / b = s ∧ ((s + 1) * b - 1) / b = s ∧ s * b / b = s := by
  obtain ⟨c, rfl⟩ : ∃ c, b = 2 * c := ⟨b / 2, by omega⟩
  have hc : 2 * c / 2 = c := by omega
  refine ⟨?_, ?_, Int.mul_ediv_cancel _ (by omega)⟩
  · rw [hc, show (2 * s + 1) * c = c + s * (2 * c) by ring, Int.add_mul_ediv_right _ _ (by omega), Int.ediv_eq_zero_of_lt (by omega) (by omega),
      Int.zero_add]
  · rw [show (s + 1) * (2 * c) - 1 = (2 * c - 1) + s * (2 * c) by ring, Int.add_mul_ediv_right _ _ (by omega),
      Int.ediv_eq_zero_of_lt (by omega) (by omega), Int.zero_add]

theorem Dev.hallSector_at_edge (hl : e.leader a = a) (ht : (e.hall a).edgeT = e.now) (ho : e.rf (Reg.POS_OFS a) 0 16 = 0)
    (hb : e.rf (Reg.FLD_BADV a) 0 16 = 0) : e.hallSector a = (e.hall a).sector % 6 := by
  have hq : (0 : Int) < max 1 (e.rget (Reg.POS_INT a)).toNat := by omega
  have hs : e.rfs (Reg.FLD_BADV a) 0 16 = 0 := by
    rw [Dev.rfs, hb]
    rfl
  unfold Dev.hallSector
  rw [hl]
  extract_lets _ s q b ofs run x
  have hofs : ofs = 0 := by
    unfold ofs
    rw [ho, hs, if_pos rfl]
    simp
  have hrun : run = 0 := by
    unfold run
    rw [ht, Int.sub_self, Int.mul_zero]
    exact min_eq_left (by omega)
  have hx : x / b = s := by
    obtain ⟨hm, he, hst⟩ := sector_of_angle (b := b) (s := s) (by unfold b; omega) (by unfold b; omega)
    unfold x
    rw [hofs, hrun]
    split_ifs
    · rw [Int.add_zero, hm]
    · rw [Int.sub_zero, Int.add_zero, he]
    · rw [Int.add_zero, Int.add_zero, hst]
  rw [hx, show s = (((e.hall a).sector : Nat) : Int) from rfl]
  omega

end

/-- Settles O39: a step by its set and its leader, its decisions by the attempt, an attempt's end and a sector by what they find. -/
theorem fieldStepsLossAndReacquisition : Obligations.FieldStepsLossAndReacquisition := by
  intro s a hl ha d u v dt rest l failed sector
  have row : exec (.fieldStep a) s = .next ⟨d.fieldStep a, s.pending⟩ := by rw [exec_fieldStep, State.run_live hl]
  have tmo : exec (.reacqTimeout a) s = .next ⟨d.acqTimeout a, s.pending⟩ := by rw [exec_reacqTimeout, State.run_live hl]
  have sec : exec (.sectorChange a) s = .next ⟨d.sectorChange a, s.pending⟩ := by rw [exec_sectorChange, State.run_live hl]
  have lead (h : d.paired a = true) : d.leader a = l := if_pos h
  have pairOf (h : d.paired a = true) : d.fieldStep a =
      if (d.cv l).ready.isSome && (d.cv (l + 1)).ready.isSome then (d.unitStep l).unitStep (l + 1) else d := by
    rw [Dev.fieldStep, if_pos h, lead h]
  have fails (h : d.acqPath a ≠ 0) : d.acqTimeout a =
      if 3 ≤ failed.rf (Reg.FLD_STAT a) 16 2 then failed.occ (0x0702 + 0x10 * a) 0 else failed.fuMod a (fun f => { f with acqNext := true }) := by
    rw [Dev.acqTimeout, if_neg h]
    rfl
  refine ⟨fun h => ?_, fun h h1 h2 => ?_, fun h hn => ?_, Dev.unitStep_of_none, fun e => Dev.hallSector_at_edge, fun cs h => ⟨fun hne => ?_,
    fun he => ?_, fun hv => Dev.observe_of_invalid ha hv dt v⟩, fun e valid ok => ?_, fun e => Dev.lossChecks_residual, park_zero,
    fun h => ?_, fun h hc => ?_, fun h hc => ?_, fun h => ?_, fun h => ?_⟩
  · rw [row, Dev.fieldStep, if_neg (by rw [h]; decide)]
  · rw [row, pairOf h, if_pos (by rw [Bool.and_eq_true, Option.isSome_iff_ne_none, Option.isSome_iff_ne_none]; exact ⟨h1, h2⟩)]
  · have hm : ¬((d.cv l).ready.isSome && (d.cv (l + 1)).ready.isSome) = true := by
      rw [Bool.and_eq_true]
      rintro ⟨h1, h2⟩
      rcases hn with hn | hn
      · rw [hn] at h1
        exact Bool.false_ne_true h1
      · rw [hn] at h2
        exact Bool.false_ne_true h2
    rw [row, pairOf h, if_neg hm]
  · intro ang e
    exact (Dev.unitStep_of_some h).trans (congrArg (fun w : Dev => w.stepRest a cs v) (if_pos hne))
  · intro r q asc w
    refine (Dev.unitStep_of_some h).trans (congrArg (fun w : Dev => w.stepRest a cs v) ((if_neg (not_not.2 he)).trans ?_))
    exact u.leaderStep_eq a dt cs
  · intro idle source
    have src (u : Dev) : u.sourceStep a ok = source u := u.sourceStep_eq a ok
    refine ⟨fun h hv => ?_, fun h hv hn => ?_, fun cause held h hv hn => ?_, fun h hn => Dev.fieldSource_of_due h hn valid ok,
      fun h => Dev.fieldSource_of_hfi h valid ok, fun h hv => ?_, fun h hv => ?_, fun h hv => ?_⟩
    · rw [hv, Dev.fieldSource_of_invalid h, src]
    · rw [hv, Dev.fieldSource_of_kept h hn, src]
    · rw [hv, Dev.fieldSource_of_loss h hn]
    · rw [Dev.fieldSource_of_asc h, if_pos hv]
    · rw [Dev.fieldSource_of_probe h, if_pos hv]
    · rcases h with h | h
      · rw [Dev.fieldSource_of_asc h, if_neg (by rw [hv]; decide)]
      · rw [Dev.fieldSource_of_probe h, if_neg (by rw [hv]; decide)]
  · rw [tmo, Dev.acqTimeout, if_pos h]
  · rw [tmo, fails h, if_pos hc]
  · rw [tmo, fails h, if_neg (Nat.not_le.2 hc)]
  · rw [sec]
    exact congrArg (fun u => Host.Outcome.next (State.mk u s.pending)) (if_pos h)
  · rw [sec]
    exact congrArg (fun u => Host.Outcome.next (State.mk u s.pending)) (if_neg h)

end Sys2Proof.Machine

/-! ## Engines -/

namespace Sys2Proof.Machine

set_option Elab.async false

section
variable {d e : Dev} {a k : Nat}

/-! ### Registers below the health monitors -/

theorem Dev.rget_hltTake (d : Dev) (m : Nat) (x : Int) {b : Nat} (h : b < 0x0D8000) : (d.hltTake m x).rget b = d.rget b := by
  unfold Dev.hltTake Dev.count32 Dev.rmod
  extract_lets _ d1 d2 d3
  rw [Dev.rget_rset_other _ _ (by unfold Reg.HLT_BIN; omega), Dev.rget_rset_other _ _ (by unfold Reg.HLT_MAX; omega),
    Dev.rget_rset_other _ _ (by unfold Reg.HLT_MIN; omega), Dev.rget_rset_other _ _ (by unfold Reg.HLT_LAST; omega),
    Dev.rget_rset_other _ _ (by unfold Reg.HLT_COUNT; omega)]

/-- A sample reaches the registers of the monitors only. -/
theorem Dev.rget_hlt (d : Dev) (src idx : Nat) (x : Int) {b : Nat} (h : b < 0x0D8000) : (d.hlt src idx x).rget b = d.rget b :=
  foldl_view (·.rget b) _ (fun e m => Calm.ite (g := (·.rget b)) _ (e.rget_hltTake m x h) rfl) _ d

theorem Dev.rget_wf_other (d : Dev) {a b : Nat} (lo w x : Nat) (h : b ≠ a) : (d.wf a lo w x).rget b = d.rget b := d.rget_rset_other _ h

/-! ### Steps -/

/-- The engines that step, by mode (R264, R282, R283). -/
theorem Dev.stepping_eq (h : d.ceMode < 5) (e : Nat) : d.stepping e =
    if d.ceMode = 1 then [e] else if d.ceMode = 3 then (if e = 0 then [0] else []) else if d.ceMode = 0 ∨ d.ceMode = 2 then
      (if e = 0 then [0, 1] else []) else if e = 1 then [1] else [] := by
  unfold Dev.stepping
  obtain h | h | h | h | h : d.ceMode = 0 ∨ d.ceMode = 1 ∨ d.ceMode = 2 ∨ d.ceMode = 3 ∨ d.ceMode = 4 := by omega
  all_goals rw [h] <;> rfl

theorem Dev.ceStepStart_of_none {e : Nat} (h : d.stepping e = []) (skew : List (Nat × Int)) : d.ceStepStart e skew = d := by
  rw [Dev.ceStepStart, if_pos h]

theorem Dev.ceStepEnd_of_none {e : Nat} (h : d.stepping e = []) (upset : Bool) (ua ub : Nat) : d.ceStepEnd e upset ua ub = d := by
  rw [Dev.ceStepEnd, if_pos h]

/-- The device in which the sections of a step run (R264, R265). -/
def Dev.stepBegun (d : Dev) (e : Nat) (skew : List (Nat × Int)) (es : List Nat) : Dev :=
  let begun := es.foldl (fun d k => d.ev (0xC8 + k)) d
  let counted := if es.contains 0 then begun.wmod Reg.CE_STATUS 0 16 else begun
  es.foldl (fun d k => d.engMod k (fun g => { g with seen := [] }))
    ((es.foldl Dev.cmdStep (counted.takeWords.stepFresh e es)).sampleAsync e skew)

theorem Dev.ceStepStart_of_some {e : Nat} {es : List Nat} (h : d.stepping e = es) (hn : es ≠ []) (skew : List (Nat × Int)) :
    let lanes := (List.range 32).foldl (fun d l => if d.stepsAxis e (some (d.laneAxis l)) then d.laneStep l else d) (d.stepBegun e skew es)
    let injs := [0, 1].foldl (fun d g => if d.stepsAxis e (d.injAxis g) then d.injStep g else d) lanes
    d.ceStepStart e skew = es.foldl (fun d k => d.runSection k none) injs := by
  intro lanes injs
  unfold Dev.ceStepStart
  rw [h]
  exact if_neg hn

/-! ### The current section -/

theorem Dev.ceHeld_iff (d : Dev) (x : Option Nat) : d.ceHeld x = true ↔
    (d.engine (d.ceDriver x)).withhold = true ∨ d.ceMode = 0 ∧ ((d.engine 0).withhold = true ∨ (d.engine 1).withhold = true) := by
  rw [Dev.ceHeld, Bool.or_eq_true, Bool.and_eq_true, Bool.or_eq_true, beq_iff_eq]

/-- The current section of an axis runs in the engines that serve it. -/
def Dev.ceRan (d : Dev) (a : Nat) : Dev :=
  let r := if d.ceRuns 0 (some a) then d.runSection 0 (some a) else d
  if r.ceRuns 1 (some a) then r.runSection 1 (some a) else r

/-- The engines' voltages for the axis differ. -/
def Dev.ceDiffers (r : Dev) (a : Nat) (upset : Bool) : Bool := r.ceCompares && (upset || r.ceVref 0 a != r.ceVref 1 a)

theorem Dev.ceCurrent_of_agreed (d : Dev) (a : Nat) (upset : Bool) (h : (d.ceRan a).ceDiffers a upset = false) :
    d.ceCurrent a upset = if (d.ceRan a).ceHeld (some a) || !(d.ceRan a).hasVref a then (d.ceRan a, none)
      else ((d.ceRan a).ceMod (fun c => { c with vref := tset c.vref a ((d.ceRan a).ceVref ((d.ceRan a).ceDriver (some a)) a) }),
        some ((d.ceRan a).ceVref ((d.ceRan a).ceDriver (some a)) a)) := by
  unfold Dev.ceCurrent
  extract_lets r0 r1 v differ r2
  have hr : r1 = d.ceRan a := rfl
  have hd : differ = false := h
  have h2 : r2 = d.ceRan a := (if_neg (by rw [hd]; decide)).trans hr
  rw [hd, h2, Bool.false_and, Bool.or_false]
  rfl

theorem Dev.ceMode_of_rget (h : e.rget Reg.CE_STATUS = d.rget Reg.CE_STATUS) : e.ceMode = d.ceMode := by
  rw [Dev.ceMode, Dev.ceMode, Dev.rf, Dev.rf, h]

/-- A checkpoint shows (R276). -/
def Dev.ceFlagged (d : Dev) (bit lo : Nat) : Dev := (d.wsat Reg.CE_CNT lo 8).wb Reg.CE_FLAGS bit true

theorem Dev.ceFlagged_status (d : Dev) (bit lo : Nat) : (d.ceFlagged bit lo).rget Reg.CE_STATUS = d.rget Reg.CE_STATUS :=
  (Dev.rget_wb_other _ _ _ (by decide)).trans (Dev.rget_wf_other _ _ _ _ (by decide))

/-- A checkpoint fails in paired mode (R276). -/
theorem Dev.ceMismatch_paired (h : d.ceMode = 0) (bit lo code : Nat) : d.ceMismatch bit lo code =
    ((d.ceFlagged bit lo).ev 0xCA).occ code ((Config.freeFun 0x288 [(code : Int)]).natAbs % 2) := by
  have hm : (d.ceFlagged bit lo).ceMode = 0 := (Dev.ceMode_of_rget (d.ceFlagged_status bit lo)).trans h
  unfold Dev.ceMismatch
  rw [← Dev.ceFlagged, if_neg (by rw [hm]; decide), Dev.ceNames, if_pos hm]

theorem Dev.occ_rget (d : Dev) (c n b : Nat) : (d.occ c n).rget b = d.rget b := rfl
theorem Dev.ev_rget (d : Dev) (n b : Nat) : (d.ev n).rget b = d.rget b := rfl

theorem Dev.ceMismatch_status (h : d.ceMode = 0) (bit lo code : Nat) :
    (d.ceMismatch bit lo code).rget Reg.CE_STATUS = d.rget Reg.CE_STATUS := by
  rw [Dev.ceMismatch_paired h, Dev.occ_rget, Dev.ev_rget, Dev.ceFlagged_status]

theorem Dev.ceCurrent_of_mismatch (d : Dev) (a : Nat) (upset : Bool) (h : (d.ceRan a).ceDiffers a upset = true)
    (hm : (d.ceRan a).ceMode = 0) : d.ceCurrent a upset = ((d.ceRan a).ceMismatch 0 24 0x0901, none) := by
  unfold Dev.ceCurrent
  extract_lets r0 r1 v differ r2
  have hr : r1 = d.ceRan a := rfl
  have hd : differ = true := h
  have h2 : r2 = (d.ceRan a).ceMismatch 0 24 0x0901 := (if_pos hd).trans (congrArg (fun u : Dev => u.ceMismatch 0 24 0x0901) hr)
  have hz : r2.ceMode = 0 := by
    rw [h2, Dev.ceMode_of_rget (Dev.ceMismatch_status hm _ _ _), hm]
  rw [hd, hz, if_pos (by simp), h2]

theorem Dev.currentSection_none {u : Dev} {upset : Bool} (h : d.ceCurrent a upset = (u, none)) : d.currentSection a upset = u := by
  unfold Dev.currentSection
  rw [h]

theorem Dev.currentSection_some {u : Dev} {upset : Bool} {v : Int × Int} (h : d.ceCurrent a upset = (u, some v)) :
    d.currentSection a upset = u.modulate a v.1 v.2 := by
  unfold Dev.currentSection
  rw [h]

/-! ### The end of a step -/

theorem Dev.tick1_rget (d : Dev) (b : Nat) : d.tick1.rget b = d.rget b := rfl

theorem Dev.ceMod_rget (d : Dev) (f : Ce → Ce) (b : Nat) : (d.ceMod f).rget b = d.rget b := rfl

theorem Dev.setCap_status (d : Dev) (st : Nat) : (d.setCap st).rget Reg.CE_STATUS = d.rget Reg.CE_STATUS :=
  Dev.rget_wf_other _ _ _ _ (by decide)

theorem Dev.capAct_status (d : Dev) : d.capAct.rget Reg.CE_STATUS = d.rget Reg.CE_STATUS := by
  unfold Dev.capAct
  split
  · split
    · rw [Dev.ev_rget, Dev.setCap_status, Dev.ceMod_rget]
    · rfl
  · rfl

/-- The capture unit leaves the mode of the engines. -/
theorem Dev.capStep_status (d : Dev) (e : Nat) : (d.capStep e).rget Reg.CE_STATUS = d.rget Reg.CE_STATUS := by
  unfold Dev.capStep
  split
  · rfl
  · next c hc =>
    extract_lets size at' d1 idx w d2 d3 left
    have h3 : d3.rget Reg.CE_STATUS = d1.rget Reg.CE_STATUS :=
      (Dev.rget_rset_other _ _ (by decide)).trans (Dev.rget_wf_other _ _ _ _ (by decide))
    have h1 : d1.rget Reg.CE_STATUS = d.rget Reg.CE_STATUS := Dev.rget_of_regs (by simp [d1]) _
    clear_value d3 d1
    split_ifs
    · rfl
    · rfl
    · rfl
    · rw [Dev.ev_rget, Dev.setCap_status, Dev.ceMod_rget, h3, h1]
    · rw [Dev.capAct_status, Dev.ceMod_rget, h3, h1]

/-- What the end of a step leaves of the device before the capture. -/
def Dev.stepView (d : Dev) : List Host.Cell × Flt × List Nat × Vector AState 4 × Word :=
  (d.sram, d.flt, d.events, d.ax, d.rget Reg.CE_STATUS)

theorem Dev.ceUse_view (d : Dev) (k use : Nat) : (d.ceUse k use).stepView = d.stepView := by
  have hr : (d.ceUse k use).rget Reg.CE_STATUS = d.rget Reg.CE_STATUS :=
    (Dev.rget_wf_other _ _ _ _ (by decide)).trans (d.rget_hlt _ _ _ (by decide))
  unfold Dev.stepView
  rw [hr]
  simp [Dev.ceUse]

theorem Dev.auxDeliver_view (d : Dev) (x : Nat) : (d.auxDeliver x).stepView = d.stepView := rfl

/-- The use of the engines and the aux outputs after a step of both (R276, R376). -/
def Dev.stepServed (d : Dev) (ua ub : Nat) : Dev :=
  [0, 1].foldl (fun d x => if [0, 1].contains (d.ceDriver (some (4 + x))) then d.auxDeliver x else d)
    ([0, 1].foldl (fun d k => d.ceUse k (if k = 0 then ua else ub)) d)

theorem Dev.stepServed_view (d : Dev) (ua ub : Nat) : (d.stepServed ua ub).stepView = d.stepView :=
  (foldl_view Dev.stepView _ (fun e x => Calm.ite (g := Dev.stepView) _ (e.auxDeliver_view x) rfl) _ _).trans
    (foldl_view Dev.stepView _ (fun e k => e.ceUse_view k _) _ d)

/-- A paired step ends (R276, R287). -/
theorem Dev.ceStepEnd_paired (h : d.ceMode = 0) (upset : Bool) (ua ub : Nat) : d.ceStepEnd 0 upset ua ub =
    ((if upset || (d.engine 0).crc != (d.engine 1).crc then d.ceMismatch 1 16 0x0902 else d).stepServed ua ub).capStep 0 := by
  have hs : d.stepping 0 = [0, 1] := by
    rw [Dev.stepping_eq (by omega), h]
    rfl
  have hc : d.ceCompares = true := by rw [Dev.ceCompares, h]; rfl
  unfold Dev.ceStepEnd
  rw [hs, hc, Bool.true_and]
  extract_lets _ d1 d2 d3 d4
  have hd1 : d1.rget Reg.CE_STATUS = d.rget Reg.CE_STATUS :=
    Calm.ite (g := (·.rget Reg.CE_STATUS)) _ (Dev.ceMismatch_status h _ _ _) rfl
  have hd3 : d3.rget Reg.CE_STATUS = d1.rget Reg.CE_STATUS := congrArg (fun v => v.2.2.2.2) (d1.stepServed_view ua ub)
  have hd4 : d4.ceMode = 0 := by
    rw [← h, Dev.ceMode_of_rget ((d3.capStep_status 0).trans (hd3.trans hd1))]
  rw [if_neg (by decide), if_neg (by rw [hd4]; decide)]
  rfl

theorem Dev.stepServed_others (d : Dev) (ua ub : Nat) : (d.stepServed ua ub).sram = d.sram ∧ (d.stepServed ua ub).flt = d.flt ∧
    (d.stepServed ua ub).events = d.events ∧ (d.stepServed ua ub).ax = d.ax := by
  have h := d.stepServed_view ua ub
  generalize d.stepServed ua ub = u at h ⊢
  simp only [Dev.stepView, Prod.mk.injEq] at h
  obtain ⟨hs, hf, he, hx, -⟩ := h
  exact ⟨hs, hf, he, hx⟩

/-- A failed checkpoint in paired mode reports, and no memory changes (R276). -/
theorem Dev.ceMismatch_others (h : d.ceMode = 0) (bit lo code : Nat) :
    (d.ceMismatch bit lo code).sram = d.sram ∧ (d.ceMismatch bit lo code).ax = d.ax ∧
    (d.ceMismatch bit lo code).events = d.events ++ [0xCA] ∧
    (d.ceMismatch bit lo code).flt = (d.occ code ((Config.freeFun 0x288 [(code : Int)]).natAbs % 2)).flt := by
  have hs : (d.ceFlagged bit lo).sram = d.sram ∧ (d.ceFlagged bit lo).ax = d.ax ∧ (d.ceFlagged bit lo).events = d.events ∧
      (d.ceFlagged bit lo).flt = d.flt := by simp [Dev.ceFlagged]
  obtain ⟨h1, h2, h3, h4⟩ := hs
  rw [Dev.ceMismatch_paired h]
  generalize d.ceFlagged bit lo = u at h1 h2 h3 h4 ⊢
  generalize (Config.freeFun 0x288 [(code : Int)]).natAbs % 2 = n
  exact ⟨h1, h2, by simp only [Dev.occ, Dev.ev, h3], by simp only [Dev.occ, Dev.ev, h4]⟩

end

/-- Settles O40: a step by the engines that make it, a current section by whether the engines agree. -/
theorem engineStepsAndCheckpoints : Obligations.EngineStepsAndCheckpoints := by
  intro s a e upset ua ub skew hl ha he d mode es ran0 ran drv differ out held named
  have start : exec (.ceStepStart e skew) s = .next ⟨d.ceStepStart e skew, s.pending⟩ := by
    rw [exec_ceStepStart, State.run_live hl]
  have stop (k : Nat) : exec (.ceStepEnd k upset ua ub) s = .next ⟨d.ceStepEnd k upset ua ub, s.pending⟩ := by
    rw [exec_ceStepEnd, State.run_live hl]
  have cur : exec (.ceCurrentSection a upset) s = .next ⟨d.currentSection a upset, s.pending⟩ := by
    rw [exec_ceCurrentSection, State.run_live hl]
  have stepping (h : mode < 5) : d.stepping e = es := Dev.stepping_eq h e
  have hran : d.ceRan a = ran := rfl
  have agreed (h : differ = false) : d.ceCurrent a upset =
      if ran.ceHeld (some a) || !ran.hasVref a then (ran, none) else (out, some (ran.ceVref drv a)) :=
    d.ceCurrent_of_agreed a upset h
  have held_iff : ran.ceHeld (some a) = true ↔ held := ran.ceHeld_iff (some a)
  refine ⟨fun h hn => ⟨?_, ?_⟩, fun h hn => ?_, fun hd hh hv => ?_, fun hd hm => ?_, fun hd hh => ?_, ?_, fun hm hu hc => ?_,
    fun hm hu => ?_⟩
  · rw [start, Dev.ceStepStart_of_none ((stepping h).trans hn)]
  · rw [stop, Dev.ceStepEnd_of_none ((stepping h).trans hn)]
  · intro begun counted u lanes injs
    rw [start, Dev.ceStepStart_of_some (stepping h) hn]
    rfl
  · rw [cur, Dev.currentSection_some ((agreed hd).trans (if_neg ?_))]
    rw [hv, Bool.not_true, Bool.or_false, held_iff]
    exact hh
  · rw [cur, Dev.currentSection_none (Dev.ceCurrent_of_mismatch d a upset hd hm), Dev.ceMismatch_paired (d := d.ceRan a) hm]
    rfl
  · rw [cur, Dev.currentSection_none ((agreed hd).trans (if_pos ?_))]
    rw [Bool.or_eq_true, held_iff, Bool.not_eq_true']
    exact hh
  · rw [exec_stepOverrun, State.run_live hl]
    rfl
  · have hs : (upset || (d.engine 0).crc != (d.engine 1).crc) = false := by
      rw [hu, hc, bne_self_eq_false]
      rfl
    obtain ⟨h1, h2, h3, h4⟩ := d.stepServed_others ua ub
    refine ⟨d.stepServed ua ub, ?_, h1, h2, h3, h4⟩
    rw [stop, Dev.ceStepEnd_paired hm, if_neg (by rw [hs]; decide)]
  · have hs : (upset || (d.engine 0).crc != (d.engine 1).crc) = true := by
      rw [Bool.or_eq_true, bne_iff_ne]
      exact hu
    obtain ⟨h1, h2, h3, h4⟩ := (d.ceMismatch 1 16 0x0902).stepServed_others ua ub
    obtain ⟨k1, k2, k3, k4⟩ := Dev.ceMismatch_others hm 1 16 0x0902
    refine ⟨(d.ceMismatch 1 16 0x0902).stepServed ua ub, ?_, h1.trans k1, h4.trans k2, h3.trans k3, h2.trans k4⟩
    rw [stop, Dev.ceStepEnd_paired hm, if_pos hs]

end Sys2Proof.Machine

/-! ## Lanes, command inputs and parameter blocks -/

namespace Sys2Proof.Machine

set_option Elab.async false

section
variable {d e : Dev} {c : Nat}

theorem Dev.laneTimeout_eq (d : Dev) (l : Nat) : d.laneTimeout l =
    if bget (d.rget (Reg.CE_LANE_CFG l)) 31 = true ∧ fget (d.rget (Reg.CE_LANE_CFG l)) 24 4 = 0 ∧
      fget (d.rget (Reg.CE_LANE_CFG l)) 0 10 ≠ 0 ∧ d.axisSupervised (d.laneAxis l) = true then d.laneLose l else d := by
  unfold Dev.laneTimeout
  simp only [Bool.and_eq_true, beq_iff_eq, bne_iff_ne, and_assoc]

/-- A decoder takes the value that an edge gives, if it gives one (R271). -/
def Dev.cmdGive (d : Dev) (e c : Nat) (x : Option Int) : Dev := match x with | some x => d.cmdTake e c x | none => d

theorem Dev.cmdEdge_eq (d : Dev) (c pa ha pb hb : Nat) : d.cmdEdge c pa ha pb hb =
    (d.cmdGive 0 c (d.cmdRaw c pa ha)).cmdGive 1 c ((d.cmdGive 0 c (d.cmdRaw c pa ha)).cmdRaw c pb hb) := rfl

theorem Dev.cmdTake_cfg (d : Dev) (e c : Nat) (x : Int) : (d.cmdTake e c x).rget (Reg.CE_CMD_CFG c) = d.rget (Reg.CE_CMD_CFG c) := by
  have hn : Reg.CE_CMD_CFG c ≠ Reg.CE_CMD_VAL c := by
    unfold Reg.CE_CMD_CFG Reg.CE_CMD_VAL
    omega
  unfold Dev.cmdTake
  extract_lets old n vals avg lim range d1
  split
  · rw [Dev.rget_wf_other _ _ _ _ hn, Dev.rget_wb_other _ _ _ hn, Dev.rget_wb_other _ _ _ hn, Dev.ceMod_rget]
  · exact d.ceMod_rget _ _

/-- The kind of a command input stays when a decoder takes a value. -/
theorem Dev.cmdRaw_cmdGive (d : Dev) (e c : Nat) (x : Option Int) (per high : Nat) :
    (d.cmdGive e c x).cmdRaw c per high = d.cmdRaw c per high := by
  have h : (d.cmdGive e c x).rget (Reg.CE_CMD_CFG c) = d.rget (Reg.CE_CMD_CFG c) := by
    cases x with
    | none => rfl
    | some x => exact d.cmdTake_cfg e c x
  unfold Dev.cmdRaw Dev.rf
  rw [h]

theorem Dev.cmdRaw_duty (h : d.rf (Reg.CE_CMD_CFG c) 30 2 = 2) (per high : Nat) : d.cmdRaw c per high =
    if 40000 ≤ per ∧ per ≤ 40000000 then some (rdiv 0x272 (high * 10000) per) else none := by
  unfold Dev.cmdRaw
  rw [h] <;> rfl

theorem Dev.cmdRaw_freq (h : d.rf (Reg.CE_CMD_CFG c) 30 2 = 3) (per high : Nat) : d.cmdRaw c per high =
    if 20000 ≤ per ∧ per ≤ 400000000 then some (rdiv 0x273 800000000 per) else none := by
  unfold Dev.cmdRaw
  rw [h] <;> rfl

theorem Dev.cmdRaw_other (h : d.rf (Reg.CE_CMD_CFG c) 30 2 < 2) (per high : Nat) : d.cmdRaw c per high = none := by
  unfold Dev.cmdRaw
  obtain h | h : d.rf (Reg.CE_CMD_CFG c) 30 2 = 0 ∨ d.rf (Reg.CE_CMD_CFG c) 30 2 = 1 := by omega
  all_goals rw [h] <;> rfl

/-- Each engine takes its own edge (R271). -/
theorem Dev.cmdEdge_of_raw {pa ha pb hb : Nat} {x y : Option Int} (hx : d.cmdRaw c pa ha = x) (hy : d.cmdRaw c pb hb = y) :
    d.cmdEdge c pa ha pb hb = (d.cmdGive 0 c x).cmdGive 1 c y := by
  rw [Dev.cmdEdge_eq, Dev.cmdRaw_cmdGive, hx, hy]

/-- A decoder after a value: its average, and whether it is in range (R271). -/
theorem Dev.cmdTake_decoder {k : Nat} (hk : k < 2) (hc : c < 4) (d : Dev) (x : Int) :
    let dec := tget (tget d.ce.dec k) c
    let z := tget (tget (d.cmdTake k c x).ce.dec k) c
    z.vals = (x :: dec.vals).take (2 ^ d.rf (Reg.CE_CMD_CFG c) 27 3) ∧ z.avg = rdiv 0x271 (z.vals.foldl (· + ·) 0) z.vals.length ∧
    z.loss = false ∧ (z.range = true ↔ z.avg < (d.rf (Reg.CE_CMD_LIM c) 0 16 : Nat) ∨ (d.rf (Reg.CE_CMD_LIM c) 16 16 : Nat) < z.avg) := by
  intro dec z
  unfold z Dev.cmdTake
  extract_lets n vals avg lim range u
  have hce : (if k = 0 then ((u.wb (Reg.CE_CMD_VAL c) 31 false).wb (Reg.CE_CMD_VAL c) 30 range).wf (Reg.CE_CMD_VAL c) 0 16
      (fromSigned 16 avg) else u).ce = u.ce := by split <;> simp
  have hz : tget (tget u.ce.dec k) c = ⟨vals, avg, false, range, none⟩ := by
    unfold u Dev.ceMod tset
    rw [tget_tmod_same _ hk, tget_tmod_same _ hc]
  rw [hce, hz]
  exact ⟨rfl, rfl, rfl, by rw [Bool.or_eq_true, decide_eq_true_iff, decide_eq_true_iff]; rfl⟩

theorem Dev.decoderLoss_of_lost {k : Nat} (h : (tget (tget d.ce.dec k) c).loss = true) : d.decoderLoss k c = d := if_pos h

theorem Dev.decoderLoss_of_new {k : Nat} (h : (tget (tget d.ce.dec k) c).loss = false) :
    let lost := d.ceMod (fun z => { z with dec := tmod z.dec k (fun v => tmod v c (fun x => { x with loss := true })) })
    d.decoderLoss k c = (if k = 0 then lost.wb (Reg.CE_CMD_VAL c) 31 true else lost).ev (0xD4 + c) :=
  if_neg (fun hh => Bool.false_ne_true (h.symm.trans hh))

/-! ### Parameter blocks -/

theorem Dev.takeEnd_of_none (h : d.ce.take = []) : d.takeEnd = d := by
  unfold Dev.takeEnd
  rw [h]

theorem Dev.takeEnd_alone {x : CeTake} {xs : List CeTake} (h : d.ce.take = x :: xs) (hp : x.pair = none) :
    d.takeEnd = { d.blockEnd x with wstat := takeStatus (d.blockEnd x).blockResult } := by
  unfold Dev.takeEnd
  simp only [h, hp]

theorem Dev.takeEnd_pair {x : CeTake} {xs : List CeTake} (h : d.ce.take = x :: xs) {label k : Nat} (hp : x.pair = some (label, k)) :
    d.takeEnd = ((d.blockEnd x).pairEnd ⟨x.host, label⟩ k (takeStatus (d.blockEnd x).blockResult)).writeDone ⟨x.host, label⟩ := by
  unfold Dev.takeEnd
  simp only [h, hp]

/-- The device as it judges the block at the front: a poisoned word has raised its sensing fault (R14, R275). -/
def Dev.blockJudged (d : Dev) (x : CeTake) : Dev :=
  let u := d.ceMod (fun c => { c with take := c.take.drop 1 })
  if ∃ k < x.count, u.blockPoison x k = true then u.senseFault else u

theorem Dev.blockJudged_eq (d : Dev) (x : CeTake) :
    (if (List.range x.count).any ((d.ceMod (fun c => { c with take := c.take.drop 1 })).blockPoison x) then
      (d.ceMod (fun c => { c with take := c.take.drop 1 })).senseFault else d.ceMod (fun c => { c with take := c.take.drop 1 })) =
    d.blockJudged x := by
  simp only [Dev.blockJudged, List.any_eq_true, List.mem_range]

theorem Dev.blockEnd_applied {x : CeTake} (h : (d.blockJudged x).blockFail x x.count 0 = none) : d.blockEnd x =
    ((d.blockJudged x).ceMod (fun c =>
      { c with words := c.words ++ (List.range x.count).map (fun k => (x.first + k, (d.blockJudged x).blockWord x.base k)) })).rset
        Reg.CE_PBLK_STAT (BitVec.ofNat 32 (0x40000000 + x.count)) := by
  unfold Dev.blockEnd
  extract_lets u v ws
  have hv : v = d.blockJudged x := d.blockJudged_eq x
  simp only [ws, hv, h]

theorem Dev.blockEnd_refused {x : CeTake} {i v : Nat} (h : (d.blockJudged x).blockFail x x.count 0 = some (i, v)) : d.blockEnd x =
    ((d.blockJudged x).rset Reg.CE_PBLK_STAT (BitVec.ofNat 32 (v * 0x40000000 + i * 65536 + x.count))).wb Reg.CE_FLAGS 7 true := by
  unfold Dev.blockEnd
  extract_lets u w ws
  have hw : w = d.blockJudged x := d.blockJudged_eq x
  simp only [ws, hw, h]

end

/-- Settles O41: a lane by what supervises it, an edge by the kind of its input, a block by its first failing word. -/
theorem lanesInputsAndParameterBlocks : Obligations.LanesInputsAndParameterBlocks := by
  intro s l c e pa ha pb hb hl hl' hc he d cfg watched kind duty freq dutyOf freqOf dec lost
  have lane : exec (.laneTimeout l) s = .next ⟨d.laneTimeout l, s.pending⟩ := by rw [exec_laneTimeout, State.run_live hl]
  have loss : exec (.decoderLoss e c) s = .next ⟨d.decoderLoss e c, s.pending⟩ := by rw [exec_decoderLoss, State.run_live hl]
  have take : exec .paramBlockTakeEnd s = .next ⟨d.takeEnd, s.pending⟩ := by rw [exec_paramBlockTakeEnd, State.run_live hl]
  have edge {x y : Option Int} (hx : d.cmdRaw c pa ha = x) (hy : d.cmdRaw c pb hb = y) :
      exec (.cmdinEdge c pa ha pb hb) s = .next ⟨(d.cmdGive 0 c x).cmdGive 1 c y, s.pending⟩ := by
    rw [exec_cmdinEdge, State.run_live hl, Dev.cmdEdge_of_raw hx hy]
  have dutyIn (h : kind d = 2) {p : Nat} (hp : duty p) (hi : Nat) : d.cmdRaw c p hi = some (dutyOf hi p) :=
    (Dev.cmdRaw_duty h p hi).trans (if_pos hp)
  have dutyOut (h : kind d = 2) {p : Nat} (hp : ¬duty p) (hi : Nat) : d.cmdRaw c p hi = none :=
    (Dev.cmdRaw_duty h p hi).trans (if_neg hp)
  have freqIn (h : kind d = 3) {p : Nat} (hp : freq p) (hi : Nat) : d.cmdRaw c p hi = some (freqOf p) :=
    (Dev.cmdRaw_freq h p hi).trans (if_pos hp)
  have freqOut (h : kind d = 3) {p : Nat} (hp : ¬freq p) (hi : Nat) : d.cmdRaw c p hi = none :=
    (Dev.cmdRaw_freq h p hi).trans (if_neg hp)
  refine ⟨fun h => ?_, fun h => ?_, fun h ha' hb' _ => edge (dutyIn h ha' ha) (dutyIn h hb' hb),
    fun h ha' hb' _ => edge (dutyIn h ha' ha) (dutyOut h hb' hb), fun h ha' hb' => edge (dutyOut h ha' ha) (dutyIn h hb' hb),
    fun h ha' hb' => edge (dutyOut h ha' ha) (dutyOut h hb' hb), fun h ha' hb' _ => edge (freqIn h ha' ha) (freqIn h hb' hb),
    fun h ha' hb' _ => edge (freqIn h ha' ha) (freqOut h hb' hb), fun h ha' hb' => edge (freqOut h ha' ha) (freqIn h hb' hb),
    fun h ha' hb' => edge (freqOut h ha' ha) (freqOut h hb' hb), Dev.cmdTake_decoder he hc d,
    fun h => edge (Dev.cmdRaw_other h pa ha) (Dev.cmdRaw_other h pb hb), fun h => ?_, fun h => ?_, fun h => ?_, fun x xs h => ?_⟩
  · rw [lane, Dev.laneTimeout_eq, if_pos h]
  · rw [lane, Dev.laneTimeout_eq, if_neg h]
  · rw [loss, Dev.decoderLoss_of_lost h]
  · rw [loss, Dev.decoderLoss_of_new h]
  · rw [take, Dev.takeEnd_of_none h]
  · intro u
    refine ⟨fun hp => ?_, fun label k hp => ?_, ?_⟩
    · rw [take, Dev.takeEnd_alone h hp]
    · rw [take, Dev.takeEnd_pair h hp]
    · exact ⟨fun hn => Dev.blockEnd_applied hn, fun i v hs => Dev.blockEnd_refused hs⟩

end Sys2Proof.Machine

/-! ## Auxiliary axes: protection of the driver, switches and hold -/

namespace Sys2Proof.Machine

set_option Elab.async false

/-! ### Aux axes -/

theorem Dev.auxOf_auxMod (d : Dev) {x : Nat} (hx : x < 2) (f : Aux → Aux) : (d.auxMod x f).auxOf x = f (d.auxOf x) :=
  tget_tmod_same _ hx f

/-- A change of the model's own part of an aux axis leaves the registers alone. -/
theorem Dev.auxMod_rf (d : Dev) (x : Nat) (f : Aux → Aux) (a lo w : Nat) : (d.auxMod x f).rf a lo w = d.rf a lo w := rfl

section
variable {d : Dev} {x b : Nat}

theorem Dev.auxUnblanked_iff : d.auxUnblanked x = true ↔
    ¬ d.now < (tget d.chan (4 + x)).lastB + 80 * (d.rf (Reg.AUX_CHOP x) 0 4 + 1) := by
  rw [Nat.not_lt]
  exact decide_eq_true_iff

theorem Dev.currentTrip_of_drive (peak : Nat) (hd : tget (d.auxOf x).driving b = true) (hu : d.auxUnblanked x = true) :
    d.currentTrip x b peak = d.driveEnd x b peak := by
  unfold Dev.currentTrip
  rw [if_pos (by rw [hd, hu]; rfl)]

theorem Dev.currentTrip_of_not (peak : Nat) (h : ¬ tget (d.auxOf x).driving b = true ∨ ¬ d.auxUnblanked x = true) :
    d.currentTrip x b peak = d := by
  unfold Dev.currentTrip
  rw [if_neg]
  rw [Bool.and_eq_true]
  exact fun ⟨h1, h2⟩ => h.elim (· h1) (· h2)

/-- SLOW decay: by the mode, in a refresh period, or with next to no reference (R293, R295). -/
theorem Dev.auxDecay_slow (hx : x < 2)
    (h : d.rf (Reg.AUX_CFG x) 22 2 = 0 ∨ (d.auxOf x).slow = true ∨ (tget (d.auxOf x).ref b).natAbs < 2) :
    d.auxDecay x b = (d.auxMod x (fun a => { a with driving := tset a.driving b false })).bridgeGive x b .low .low none := by
  unfold Dev.auxDecay
  extract_lets u a ref mode
  have ha : a = { d.auxOf x with driving := tset (d.auxOf x).driving b false } := d.auxOf_auxMod hx _
  have hc : mode = 0 ∨ a.slow = true ∨ ref.natAbs < 2 := by
    unfold ref
    rw [ha]
    exact h
  rw [if_pos hc]
  rfl

theorem Dev.auxOvercurrent_of_open (h : d.auxUnblanked x = true) :
    d.auxOvercurrent x b = ((d.wb (Reg.AUX_FLAGS x) 5 true).occ (auxFault x 1) b).auxTrip x := if_pos h

theorem Dev.auxOvercurrent_of_blanked (h : ¬ d.auxUnblanked x = true) : d.auxOvercurrent x b = d := if_neg h

end

/-! ### Legs -/

/-- A leg takes the side that it is given. -/
theorem AuxLeg.turn_side (l : AuxLeg) (dt t : Nat) (s : LegSide) : (l.turn dt t s).side = s := by
  unfold AuxLeg.turn
  split
  · next h => exact h
  · rfl

/-- A leg that turns over takes its new side only after the dead time (R291). -/
theorem AuxLeg.turn_over {l : AuxLeg} {t : Nat} (dt : Nat) (h : l.since ≤ t) :
    (l.side = .low → (l.turn dt t .high).since = t + dt) ∧ (l.side = .high → (l.turn dt t .low).since = t + dt) := by
  have hm : max t (t + dt) = t + dt := by omega
  constructor
  all_goals
    intro hs
    unfold AuxLeg.turn
    simp [hs, h, hm]

/-- The sides of a bridge's legs, which the BIST unit of the AX holds off (R290, R419). -/
theorem Dev.bridgeGive_side (d : Dev) {x b : Nat} (hx : x < 2) (hb : b < 2) (s1 s2 : LegSide) (next : Option Nat) :
    (tget ((d.bridgeGive x b s1 s2 next).auxOf x).legs (2 * b)).side = (if d.bistUnit = some 0xD then .off else s1) ∧
    (tget ((d.bridgeGive x b s1 s2 next).auxOf x).legs (2 * b + 1)).side = (if d.bistUnit = some 0xD then .off else s2) := by
  unfold Dev.bridgeGive
  rw [Dev.auxOf_auxMod _ hx]
  dsimp only
  rw [tget_tmod, tget_tmod, tget_tmod]
  have h0 : 2 * b < 4 := by omega
  have h1 : 2 * b + 1 < 4 := by omega
  simp [h0, h1, AuxLeg.turn_side]

/-- Settles O42: blanking, the slow decay, and the sides and dead time of a leg. -/
theorem auxDriverProtection : Obligations.AuxDriverProtection := by
  intro s x b leg peak v severe hl hx hb hleg d lat seen blanked drives oc deep low off mark
  have trip : exec (.auxCurrentTrip x b peak) s = .next ⟨d.currentTrip x b peak, s.pending⟩ := by
    rw [exec_auxCurrentTrip, State.run_live hl]
  have fast : exec (.auxOvercurrent x b) s = .next ⟨d.auxOvercurrent x b, s.pending⟩ := by
    rw [exec_auxOvercurrent, State.run_live hl]
  have bst (z : Bool) : exec (.auxBootstrapLow x leg z) s = .next ⟨d.auxBstLow x leg z, s.pending⟩ := by
    rw [exec_auxBootstrapLow, State.run_live hl]
  have blank : blanked ↔ ¬ d.auxUnblanked x = true := by rw [Dev.auxUnblanked_iff, not_not]
  have unblank (h : ¬ blanked) : d.auxUnblanked x = true := not_not.1 (fun hn => h (blank.2 hn))
  refine ⟨fun hd hn => ?_, fun h => ?_, fun e h => Dev.auxDecay_slow hx h, fun h => ?_, fun h => ?_, fun e => rfl, ?_, ?_, ?_, ?_,
    ?_, ?_, fun pos => ?_, fun l dt t h => ⟨fun hs => ?_, fun hs => ?_⟩⟩
  · rw [trip, Dev.currentTrip_of_drive peak hd (unblank hn)]
    rfl
  · rw [trip, Dev.currentTrip_of_not peak (h.imp_right blank.1)]
  · rw [fast, Dev.auxOvercurrent_of_open (unblank h)]
    rfl
  · rw [fast, Dev.auxOvercurrent_of_blanked (blank.1 h)]
  · rw [exec_auxHonLimit, State.run_live hl]
    rfl
  · rw [bst]
    rfl
  · rw [bst]
    rfl
  · rw [exec_auxBootstrapRelease, State.run_live hl]
    rfl
  · rw [exec_vauxUndervoltage, State.run_live hl]
    rfl
  · rw [exec_vauxReturn, State.run_live hl]
    rfl
  · intro e
    cases pos with
    | true => exact d.bridgeGive_side hx hb .high .low none
    | false => exact d.bridgeGive_side hx hb .low .high none
  · exact ⟨l.turn_side dt t .high, (l.turn_over dt h).1 hs⟩
  · exact ⟨l.turn_side dt t .low, (l.turn_over dt h).2 hs⟩

end Sys2Proof.Machine

/-! ## Auxiliary axes: switches and hold -/

namespace Sys2Proof.Machine

set_option Elab.async false

/-- A register takes a value that is not its Reset value, whatever the table. -/
theorem Dev.rget_rset_of_ne (d : Dev) {a : Nat} {v : Word} (h : v ≠ resetOf a) : (d.rset a v).rget a = v := by
  unfold Dev.rget Dev.rset
  dsimp only
  rw [if_neg h, aget_aput, if_pos rfl]
  rfl

/-- A bit whose Reset value is 0 reads as set once it is, whatever the table. -/
theorem Dev.rb_wb_true (d : Dev) {a i : Nat} (hi : i < 32) (hr : fget (resetOf a) i 1 = 0) : (d.wb a i true).rb a i = true := by
  have hf : fget (fset (d.rget a) i 1 1) i 1 = 1 := fget_fset_same _ _ (by omega)
  have hne : fset (d.rget a) i 1 1 ≠ resetOf a := fun h => by
    rw [h, hr] at hf
    exact absurd hf (by decide)
  have hg : (d.wb a i true).rget a = fset (d.rget a) i 1 1 := d.rget_rset_of_ne hne
  unfold Dev.rb Dev.rf
  rw [hg, hf]
  rfl

section
variable {d : Dev} {x sw : Nat} {active : Bool}

/-- A switch that is confirmed active reads so (R306). -/
theorem Dev.auxSw_wb (hx : x < 2) (hs : sw < 3) : (d.wb (Reg.AUX_STAT x) (19 + sw) true).auxSw x sw = true := by
  refine d.rb_wb_true (by omega) ?_
  interval_cases x <;> interval_cases sw <;> decide

theorem Dev.swRaw_of_same {level : Bool} (h : (tget (tget d.swIn x) sw).1 = level) : d.swRaw x sw level = d := if_pos h

/-! ### Outside homing -/

theorem Dev.swTake_of_rest (h4 : (d.wb (Reg.AUX_STAT x) (19 + sw) active).auxState x ≠ 4)
    (h : ¬ (active = true ∧ sw < 2 ∧ ((d.wb (Reg.AUX_STAT x) (19 + sw) active).auxState x = 2 ∨
      (d.wb (Reg.AUX_STAT x) (19 + sw) active).auxState x = 3))) :
    d.swTake x sw active = d.wb (Reg.AUX_STAT x) (19 + sw) active := by
  unfold Dev.swTake
  extract_lets e st
  rw [if_neg h4, if_neg h]

/-- A limit switch on a stepper axis that moves (R305). -/
theorem Dev.swTake_of_limit {e : Dev} (he : d.wb (Reg.AUX_STAT x) (19 + sw) active = e) (ha : active = true) (hs : sw < 2)
    (hm : e.auxState x = 2 ∨ e.auxState x = 3) (hdc : e.auxDc x = false) : d.swTake x sw active =
      if (sw = 0 ∧ (e.auxOf x).vel < 0) ∨ (sw = 1 ∧ 0 < (e.auxOf x).vel) then e.hardLimit x else e := by
  have h4 : e.auxState x ≠ 4 := by omega
  unfold Dev.swTake
  extract_lets e' st v
  obtain rfl : e' = e := he
  rw [if_neg h4, if_pos ⟨ha, hs, hm⟩]
  simp only [v, hdc, Bool.false_eq_true, if_false]

theorem Dev.hardLimit_of_stepper
    (h : (((d.wb (Reg.AUX_FLAGS x) 1 true).occ (auxFault x 5) 0).ev (0xE3 + 4 * x)).auxDc x = false) :
    d.hardLimit x = (((d.wb (Reg.AUX_FLAGS x) 1 true).occ (auxFault x 5) 0).ev (0xE3 + 4 * x)).rampStop x :=
  if_neg (fun hh => Bool.false_ne_true (h.symm.trans hh))

/-! ### Homing (R307, R308) -/

theorem Dev.swTake_of_homing (h4 : (d.wb (Reg.AUX_STAT x) (19 + sw) active).auxState x = 4) :
    d.swTake x sw active = (d.wb (Reg.AUX_STAT x) (19 + sw) active).homeSwitch x sw active := if_pos h4

theorem Dev.limFar_eq (d : Dev) (x : Nat) : d.limFar x = if d.homeDir x = 1 then 1 else 0 := by
  unfold Dev.limFar Dev.limNear
  split <;> rfl

theorem Dev.limFar_ne_limNear (d : Dev) (x : Nat) : d.limFar x ≠ d.limNear x := by
  unfold Dev.limFar Dev.limNear
  split <;> decide

theorem Dev.homeLimits_of_near (h : d.auxSw x (d.limNear x) = true) : d.homeLimits x = (d.homeFail x 1).rampStop x := if_pos h

theorem Dev.homeLimits_of_far (hn : d.auxSw x (d.limNear x) = false) (hf : d.auxSw x (d.limFar x) = true)
    (hh : d.limFar x ≠ d.homeSw x) : d.homeLimits x = (d.homeFail x 2).rampStop x := by
  unfold Dev.homeLimits
  rw [hn, hf, if_neg Bool.false_ne_true, if_pos]
  rw [Bool.true_and, bne_iff_ne]
  exact hh

theorem Dev.homeSwitch_of_limit (h : sw = d.limNear x ∨ (sw = d.limFar x ∧ sw ≠ d.homeSw x)) :
    d.homeSwitch x sw true = d.homeLimits x := by
  refine if_pos ?_
  rw [Bool.true_and, Bool.or_eq_true, Bool.and_eq_true, beq_iff_eq, beq_iff_eq, bne_iff_ne]
  exact h

/-- The home switch confirms in the search: the axis brakes, and keeps the latched position (R307). -/
theorem Dev.homeSwitch_of_found (hn : sw ≠ d.limNear x) (hh : sw = d.homeSw x) (hp : d.auxPhase x = 2) :
    d.homeSwitch x sw true = (((d.setPhaseH x 3).rset (Reg.AUX_HLAT x) (wordOfInt (tget (d.auxOf x).raw sw))).auxMod x
      (fun z => { z with hlat := tget (d.auxOf x).raw sw, tgt := d.stopPoint x })) := by
  have hlim : ¬ (true && (sw == d.limNear x || (sw == d.limFar x && sw != d.homeSw x))) = true := by
    rw [Bool.true_and, Bool.or_eq_true, Bool.and_eq_true, beq_iff_eq, bne_iff_ne]
    exact fun h => h.elim hn (fun h => h.2 hh)
  unfold Dev.homeSwitch
  rw [if_neg hlim, if_pos hh, hp]
  rfl

theorem Dev.homeSwitch_of_left (hh : sw = d.homeSw x) (hp : d.auxPhase x = 1) :
    d.homeSwitch x sw false = d.auxMod x (fun z => { z with tgt := d.stopPoint x }) := by
  unfold Dev.homeSwitch
  rw [if_neg (by simp), if_pos hh, hp]
  rfl

theorem Dev.homeSwitch_of_other (hh : sw ≠ d.homeSw x) : d.homeSwitch x sw false = d := by
  unfold Dev.homeSwitch
  rw [if_neg (by simp), if_neg hh]

end

/-- Settles O43: raw transitions, limit switches outside homing and in it, the home switch, and the hold delay. -/
theorem auxSwitchesAndHold : Obligations.AuxSwitchesAndHold := by
  intro s x sw level hl hx hsw d pin young active e a answer near far hard ahead moves
  have raw : exec (.switchRawTransition x sw level) s = .next ⟨d.swRaw x sw level, s.pending⟩ := by
    rw [exec_switchRawTransition, State.run_live hl]
  have conf : exec (.auxSwitchConfirmed x sw) s = .next ⟨d.swConfirmed x sw, s.pending⟩ := by
    rw [exec_auxSwitchConfirmed, State.run_live hl]
  have hold : exec (.holdDelayEnd x) s = .next ⟨d.holdDelay x, s.pending⟩ := by rw [exec_holdDelayEnd, State.run_live hl]
  have old (hy : ¬ young) {u : Dev} (hu : d.swTake x sw active = u) : answer u := by
    have hc : d.swConfirmed x sw = d.swTake x sw active := if_neg hy
    exact conf.trans (by rw [hc, hu])
  have homing (h4 : e.auxState x = 4) (ha : active = true) : d.swTake x sw active = e.homeSwitch x sw true := by
    rw [Dev.swTake_of_homing h4]
    exact congrArg (e.homeSwitch x sw) ha
  have leaving (h4 : e.auxState x = 4) (ha : active = false) : d.swTake x sw active = e.homeSwitch x sw false := by
    rw [Dev.swTake_of_homing h4]
    exact congrArg (e.homeSwitch x sw) ha
  have shown (ha : active = true) : e.auxSw x sw = true := by
    unfold e
    rw [ha]
    exact Dev.auxSw_wb hx hsw
  have hnear : e.limNear x = near := rfl
  have hfar : e.limFar x = far := e.limFar_eq x
  refine ⟨fun h => ?_, fun h => ?_, fun h => ?_, fun hy => ⟨fun h4 ha => ?_, fun h4 hm => ?_, fun hm ha hdc hah hh => ?_,
    fun hm ha hdc hah => ?_, fun h4 ha hn => ?_, fun h4 ha hf hn hh => ?_, fun h4 ha hn hh hp => ?_, fun h4 ha hh hp => ?_,
    fun h4 ha hh => ?_⟩, fun h => ?_, fun h => ?_⟩
  · rw [raw, Dev.swRaw_of_same h]
  · intro per into at' u
    rw [raw]
    exact congrArg (fun u => Host.Outcome.next (State.mk u s.pending)) (if_neg h)
  · rw [conf]
    exact congrArg (fun u => Host.Outcome.next (State.mk u s.pending)) (if_pos h)
  · exact old hy (Dev.swTake_of_rest h4 (fun h => Bool.false_ne_true (ha.symm.trans h.1)))
  · exact old hy (Dev.swTake_of_rest h4 (fun h => hm h.2.2))
  · have hs : sw < 2 := by omega
    refine old hy ?_
    rw [Dev.swTake_of_limit (e := e) rfl ha hs hm hdc, if_pos hah]
    exact Dev.hardLimit_of_stepper hh
  · have h4 : e.auxState x ≠ 4 := fun h => by omega
    refine old hy ?_
    by_cases hs : sw < 2
    · rw [Dev.swTake_of_limit (e := e) rfl ha hs hm hdc, if_neg hah]
    · exact Dev.swTake_of_rest h4 (fun h => hs h.2.1)
  · refine old hy ?_
    rw [homing h4 ha, Dev.homeSwitch_of_limit (.inl (hn.trans hnear.symm)), Dev.homeLimits_of_near]
    rw [hnear, ← hn, shown ha]
  · refine old hy ?_
    rw [homing h4 ha, Dev.homeSwitch_of_limit (.inr ⟨hf.trans hfar.symm, hh⟩), Dev.homeLimits_of_far hn]
    · rw [hfar, ← hf, shown ha]
    · rw [hfar, ← hf]
      exact hh
  · intro h f
    refine old hy ?_
    rw [homing h4 ha, Dev.homeSwitch_of_found hn hh hp]
  · refine old hy ?_
    rw [leaving h4 ha, Dev.homeSwitch_of_left hh hp]
  · refine old hy ?_
    rw [leaving h4 ha, Dev.homeSwitch_of_other hh]
  · rw [hold]
    exact congrArg (fun u => Host.Outcome.next (State.mk u s.pending)) (if_pos h)
  · rw [hold]
    exact congrArg (fun u => Host.Outcome.next (State.mk u s.pending)) (if_neg h)

end Sys2Proof.Machine

/-! ## The DC link: voltages, ladder and comparator -/

namespace Sys2Proof.Machine

set_option Elab.async false

theorem Dev.lvlSet_rget (d : Dev) (b : Bool) (c n a : Nat) : (d.lvlSet b c n).rget a = d.rget a :=
  Dev.rget_of_regs (by simp) a

theorem Dev.dclMod_rget (d : Dev) (f : Dcl → Dcl) (a : Nat) : (d.dclMod f).rget a = d.rget a := rfl

/-! ### Measuring (R313) -/

/-- Evaluations in a row whose fresh inputs disagree. -/
def Dev.linkDis (d : Dev) : Nat :=
  if !d.vdcStale 0 && !d.vdcStale 1 && d.vdcDisagree then d.dcl.dis + 1 else 0

/-- The inputs have disagreed for `PLAUS_CNT` evaluations. -/
def Dev.linkImpl (d : Dev) : Bool := !d.vdcStale 0 && !d.vdcStale 1 && decide (d.rf Reg.DCL_PLAUS 8 8 ≤ d.linkDis)

/-- V_L and V_M of an evaluation. -/
def Dev.linkPair (d : Dev) : Int × Int :=
  if d.vdcStale 0 && d.vdcStale 1 then (d.dcl.vl, d.dcl.vm)
  else if d.vdcStale 0 then (d.dcl.b, d.dcl.b) else if d.vdcStale 1 then (d.dcl.a, d.dcl.a)
  else (max d.dcl.a d.dcl.b, if d.linkImpl then (if d.rb Reg.DCL_CFG 8 then d.dcl.b else d.dcl.a) else (d.dcl.a + d.dcl.b) / 2)

/-- What an evaluation leaves of the link's own part: both voltages and the count of disagreements. -/
theorem Dev.linkVolts_dcl (d : Dev) :
    d.linkVolts.dcl = { d.dcl with dis := d.linkDis, vl := d.linkPair.1, vm := d.linkPair.2 } := by
  have hs : Reg.DCL_CFG ≠ Reg.DCL_STAT := by decide
  have hf : Reg.DCL_CFG ≠ Reg.DCL_FLAGS := by decide
  unfold Dev.linkVolts
  extract_lets sa sb dis impl d1 d2 d3 d4 d5 a b v d6
  have h1 : d1.dcl = d.dcl ∧ d1.rget Reg.DCL_CFG = d.rget Reg.DCL_CFG := by
    refine ⟨by simp [d1], ?_⟩
    unfold d1
    rw [Dev.rget_wb_other _ _ _ hs, Dev.rget_wb_other _ _ _ hs, Dev.rget_wb_other _ _ _ hs]
  clear_value d1
  have h2 : d2.dcl = d.dcl ∧ d2.rget Reg.DCL_CFG = d.rget Reg.DCL_CFG := by
    unfold d2
    split
    · exact ⟨by rw [← h1.1]; simp, by rw [Dev.rget_wb_other _ _ _ hf, h1.2]⟩
    · exact h1
  clear_value d2
  have h3 : d3.dcl = { d.dcl with dis := dis } := congrArg (fun x : Dcl => { x with dis := dis }) h2.1
  have h3r : d3.rget Reg.DCL_CFG = d.rget Reg.DCL_CFG := h2.2
  clear_value d3
  have h5 : d5.dcl = { d.dcl with dis := dis } := by
    rw [← h3]
    simp [d5, d4]
  have h5r : d5.rb Reg.DCL_CFG 8 = d.rb Reg.DCL_CFG 8 := by
    refine Dev.rb_of_rget ?_ 8
    unfold d5 d4
    rw [Dev.lvlSet_rget, Dev.lvlSet_rget, Dev.lvlSet_rget, Dev.lvlSet_rget, h3r]
  clear_value d5
  have hv : v = d.linkPair := by
    unfold v a b
    rw [h5, h5r]
    rfl
  have h6 : d6.dcl = { d.dcl with dis := dis, vl := v.1, vm := v.2 } := congrArg (fun x : Dcl => { x with vl := v.1, vm := v.2 }) h5
  clear_value d6
  have h7 : ((d6.wf Reg.DCL_VDC 16 16 (decivolt v.2)).wf Reg.DCL_VDC 0 16 (decivolt v.1)).dcl = d6.dcl := by simp
  rw [h7, h6, hv]
  rfl

section
variable {d : Dev}

theorem Dev.linkPair_of_stale (ha : d.vdcStale 0 = true) (hb : d.vdcStale 1 = true) : d.linkPair = (d.dcl.vl, d.dcl.vm) := by
  unfold Dev.linkPair
  rw [ha, hb]
  rfl

theorem Dev.linkDis_of_stale (ha : d.vdcStale 0 = true) : d.linkDis = 0 := by
  unfold Dev.linkDis
  rw [ha]
  rfl

theorem Dev.linkPair_of_stale_a (ha : d.vdcStale 0 = true) (hb : d.vdcStale 1 = false) : d.linkPair = (d.dcl.b, d.dcl.b) := by
  unfold Dev.linkPair
  rw [ha, hb]
  rfl

theorem Dev.linkPair_of_stale_b (ha : d.vdcStale 0 = false) (hb : d.vdcStale 1 = true) : d.linkPair = (d.dcl.a, d.dcl.a) := by
  unfold Dev.linkPair
  rw [ha, hb]
  rfl

theorem Dev.linkPair_of_fresh (ha : d.vdcStale 0 = false) (hb : d.vdcStale 1 = false) : d.linkPair =
    (max d.dcl.a d.dcl.b, if d.rf Reg.DCL_PLAUS 8 8 ≤ d.linkDis then (if d.rb Reg.DCL_CFG 8 then d.dcl.b else d.dcl.a)
      else (d.dcl.a + d.dcl.b) / 2) := by
  have hi : d.linkImpl = decide (d.rf Reg.DCL_PLAUS 8 8 ≤ d.linkDis) := by
    unfold Dev.linkImpl
    rw [ha, hb]
    rfl
  unfold Dev.linkPair
  rw [ha, hb, hi]
  simp

theorem Dev.linkDis_of_fresh (ha : d.vdcStale 0 = false) (hb : d.vdcStale 1 = false) : d.linkDis =
    if max ((d.rf Reg.DCL_PLAUS 0 8 : Int) * max d.dcl.a d.dcl.b) ((d.rf Reg.DCL_PLAUS 16 8 : Int) * 131072000) <
      ((d.dcl.a - d.dcl.b).natAbs : Int) * 1000 then d.dcl.dis + 1 else 0 := by
  unfold Dev.linkDis Dev.vdcDisagree
  rw [ha, hb]
  simp

end

theorem Dev.dclUpdate_a (d : Dev) : d.dclUpdate 0 =
    (((d.dclMod (fun x => { x with a := (d.rf (Reg.ADC_LAT 0 4) 2 14 : Int) * d.rf Reg.DCL_SCALE_A 0 24 * 2 })).wf Reg.DCL_VAB 0 16
      (decivolt ((d.rf (Reg.ADC_LAT 0 4) 2 14 : Int) * d.rf Reg.DCL_SCALE_A 0 24 * 2))).wb Reg.DCL_STAT 31 false).dclEval := by
  unfold Dev.dclUpdate
  rw [if_pos rfl]

theorem Dev.dclUpdate_b (d : Dev) : d.dclUpdate 1 =
    (((d.dclMod (fun x => { x with b := (d.rf (Reg.ADC_LAT 1 4) 2 14 : Int) * d.rf Reg.DCL_SCALE_B 0 24 * 2 })).wf Reg.DCL_VAB 16 16
      (decivolt ((d.rf (Reg.ADC_LAT 1 4) 2 14 : Int) * d.rf Reg.DCL_SCALE_B 0 24 * 2))).wb Reg.DCL_STAT 30 false).dclEval := by
  unfold Dev.dclUpdate
  rw [if_neg Nat.one_ne_zero]

/-! ### The demand (R317) -/

theorem Dev.heed_eq (d : Dev) (a : Nat) : d.heed a =
    if d.rb Reg.DCL_STAT 23 = true ∧ (tget d.link (if a < 2 then 12 else 13)).cdLost = false then
      (d.toSafe a).blame (if d.rb Reg.DCL_STAT 26 then 0x0B06 else 0x0B07) a
    else d := by
  unfold Dev.heed Dev.axisLaneUp
  simp only [Bool.and_eq_true, Bool.not_eq_true']

theorem Dev.demand_off {d : Dev} (h : (d.rb Reg.DCL_STAT 26 || d.rb Reg.DCL_STAT 25) = false) :
    d.demand = (d.wb Reg.DCL_STAT 23 (d.rb Reg.DCL_STAT 26 || d.rb Reg.DCL_STAT 25)).lvlOff 0x0B06 0 :=
  if_neg (fun hh => Bool.false_ne_true (h.symm.trans hh))

theorem Dev.demand_on {d u : Dev} (h : (d.rb Reg.DCL_STAT 26 || d.rb Reg.DCL_STAT 25) = true)
    (hu : d.wb Reg.DCL_STAT 23 (d.rb Reg.DCL_STAT 26 || d.rb Reg.DCL_STAT 25) = u) :
    d.demand = (((u.heed 0).heed 1).heed 2).heed 3 := by
  unfold Dev.demand
  rw [if_pos h, hu]
  simp only [List.foldl_cons, List.foldl_nil]

theorem Dev.toSafe_of_rest {d : Dev} {a : Nat} (h : (tget d.ax a).active = false) : d.toSafe a = d :=
  if_neg (fun hh => Bool.false_ne_true (h.symm.trans hh))

/-- An active axis whose GI lane is up goes to its choice (R28). -/
theorem Dev.toSafe_of_active {d : Dev} {a : Nat} (h : (tget d.ax a).active = true)
    (hu : (tget (d.selDecide a).link (if a < 2 then 12 else 13)).cdLost = false) :
    d.toSafe a = (d.selDecide a).axGo a (if (d.selDecide a).rb Reg.DCL_SELSTAT (4 * a) then .asc else .freewheel) := by
  have hap : (d.selDecide a).applies a = (d.selDecide a).rb Reg.DCL_SELSTAT (4 * a) := by
    refine if_pos ?_
    unfold Dev.axisLaneUp
    rw [hu]
    rfl
  unfold Dev.toSafe
  extract_lets u
  rw [if_pos (show (d.axOf a).active = true from h), show u.applies a = _ from hap]
  rfl

/-! ### The ladder and the comparator (R315, R319) -/

theorem persist_eq (n filt : Nat) :
    persist n filt true = (if filt ≤ n + 1 then (0, true) else (n + 1, false)) ∧ persist n filt false = (0, false) := ⟨rfl, rfl⟩

/-- With both inputs stale an evaluation leaves the ladder as it is (R313). -/
theorem Dev.dclEval_of_frozen {d : Dev} (ha : d.linkVolts.rb Reg.DCL_STAT 31 = true) (hb : d.linkVolts.rb Reg.DCL_STAT 30 = true) :
    d.dclEval = ((d.linkVolts.dclOutputs.dischBelow).selectAll).hlt 0x0A 0 (decivolt d.linkVolts.dcl.vl) := by
  unfold Dev.dclEval
  extract_lets v frozen u
  have hu : u = d.linkVolts := if_pos (by unfold frozen v; rw [ha, hb]; rfl)
  rw [hu]

/-- The comparator trips at the GI: every chopper that may chop there is held on (R319). -/
def Dev.ov3Held (d : Dev) : Dev :=
  [0, 1].foldl (fun d i => if d.giMayChop i then d.swMod (24 + i) Switch.islTurnOn else d)
    (d.dclMod (fun x => { x with tripped := true }))

/-- The comparator releases at the GI: the choppers follow again, in the fallback the side of their level (R319, R323). -/
def Dev.ov3Freed (d : Dev) : Dev :=
  [0, 1].foldl (fun d i => d.swMod (24 + i)
    (if (if (d.chopper i).fbk then (d.chopper i).fbkOn && d.giMayChop i else (d.swi (24 + i)).cdSent) then Switch.islTurnOn
      else Switch.islTurnOff)) (d.dclMod (fun x => { x with tripped := false }))

theorem Dev.ov3Held_tripped (d : Dev) : d.ov3Held.dcl.tripped = true :=
  congrArg Dcl.tripped (foldl_view Dev.dcl (fun (e : Dev) (i : Nat) => if e.giMayChop i then e.swMod (24 + i) Switch.islTurnOn else e)
    (fun e i => by split <;> rfl) [0, 1] (d.dclMod (fun x => { x with tripped := true })))

theorem Dev.ov3Freed_tripped (d : Dev) : d.ov3Freed.dcl.tripped = false := rfl

theorem Dev.ov3Trip_eq (d : Dev) : d.ov3Trip = if d.ov3Held.giHeard then d.ov3Held.ov3Seen else d.ov3Held := rfl

theorem Dev.ov3Release_eq (d : Dev) : d.ov3Release = if d.ov3Freed.giHeard then d.ov3Freed.ov3Seen else d.ov3Freed := by
  have hf (e : Dev) (i : Nat) : (if (e.chopper i).fbk then e.fbkHolds i else (e.swi (24 + i)).cdSent) =
      if (e.chopper i).fbk then (e.chopper i).fbkOn && e.giMayChop i else (e.swi (24 + i)).cdSent := by
    unfold Dev.fbkHolds
    cases (e.chopper i).fbk <;> rfl
  unfold Dev.ov3Release Dev.ov3Freed
  simp only [hf]

section
variable {d : Dev}

theorem Dev.ov3Seen_of_same (h : d.rb Reg.DCL_STAT 25 = d.dcl.tripped) : d.ov3Seen = d := if_pos h

theorem Dev.ov3Seen_of_trip (h : d.rb Reg.DCL_STAT 25 = false) (ht : d.dcl.tripped = true) : d.ov3Seen =
    (((((d.wb Reg.DCL_STAT 25 true).wb Reg.DCL_FLAGS 2 true).ev 0xEB).lvlOn 0x0B07 0).demand).selectAll := by
  unfold Dev.ov3Seen
  rw [h, ht]
  rfl

theorem Dev.ov3Seen_of_release (h : d.rb Reg.DCL_STAT 25 = true) (ht : d.dcl.tripped = false) : d.ov3Seen =
    (((d.wb Reg.DCL_STAT 25 false).lvlOff 0x0B07 0).demand).selectAll := by
  unfold Dev.ov3Seen
  rw [h, ht]
  rfl

end

/-- Settles O44: the voltages of an evaluation by which inputs are stale, the demand axis by axis, and the comparator as the CD sees it. -/
theorem linkVoltageLadderAndComparator : Obligations.LinkVoltageLadderAndComparator := by
  intro s c hl hc d code v took held freed lvl apart
  have trip : exec .ov3Trip s = .next ⟨if held.giHeard then held.ov3Seen else held, s.pending⟩ := by
    rw [exec_ov3Trip, State.run_live hl]
    exact congrArg (fun u => Host.Outcome.next (State.mk u s.pending)) d.ov3Trip_eq
  have free : exec .ov3Release s = .next ⟨if freed.giHeard then freed.ov3Seen else freed, s.pending⟩ := by
    rw [exec_ov3Release, State.run_live hl]
    exact congrArg (fun u => Host.Outcome.next (State.mk u s.pending)) d.ov3Release_eq
  have plaus : exec .ov3PlausibilityTimer s =
      .next ⟨d.occIf (!d.vdcStale 0 && !d.vdcStale 1 && apart) 0x0B08 0, s.pending⟩ := by
    rw [exec_ov3PlausibilityTimer, State.run_live hl]
    rfl
  have ht : held.dcl.tripped = true := d.ov3Held_tripped
  have hf : freed.dcl.tripped = false := d.ov3Freed_tripped
  clear_value held freed
  refine ⟨?_, ?_, fun e ha hb => ⟨_, rfl, ?_, ?_, ?_⟩, fun e ha hb => ?_, fun e ha hb => ?_, fun e ha hb => ?_, fun e _ ha hb => ?_,
    fun e => ?_, fun e ha hb => Dev.dclEval_of_frozen ha hb, persist_eq, fun h => ?_, fun h hs => ?_, fun h hs => ?_, fun h => ?_,
    fun h hs => ?_, fun h hs => ?_, fun h => ?_, fun ha hb hp => ?_⟩
  · rw [exec_dclEvaluation, State.run_live hl]
    unfold took v code
    obtain rfl | rfl : c = 0 ∨ c = 1 := by omega
    · rw [Dev.dclUpdate_a, if_pos rfl, if_pos rfl]
    · rw [Dev.dclUpdate_b, if_neg Nat.one_ne_zero, if_neg Nat.one_ne_zero]
  · rw [exec_vdcStale, State.run_live hl]
    rfl
  · rw [e.linkVolts_dcl, Dev.linkPair_of_stale ha hb]
  · rw [e.linkVolts_dcl, Dev.linkPair_of_stale ha hb]
  · rw [e.linkVolts_dcl, Dev.linkDis_of_stale ha]
  · rw [e.linkVolts_dcl, Dev.linkPair_of_stale_a ha hb]
    exact ⟨rfl, rfl⟩
  · rw [e.linkVolts_dcl, Dev.linkPair_of_stale_b ha hb]
    exact ⟨rfl, rfl⟩
  · rw [e.linkVolts_dcl, Dev.linkPair_of_fresh ha hb]
  · intro a b ap n lasting
    have hn : e.linkDis = n := Dev.linkDis_of_fresh ha hb
    rw [e.linkVolts_dcl, Dev.linkPair_of_fresh ha hb, hn]
    refine ⟨rfl, fun h => if_neg h, fun h hp => ?_, fun h hp => ?_⟩
    · rw [hp]
      exact if_pos h
    · rw [hp]
      exact if_pos h
  · intro now u move
    have hm : Dev.heed = move := by
      funext x a
      exact x.heed_eq a
    clear_value move
    refine ⟨fun h => Dev.demand_off h, fun h => ?_, fun w a _ => ⟨Dev.toSafe_of_rest, Dev.toSafe_of_active⟩⟩
    rw [Dev.demand_on (u := u) h rfl, hm]
  · rw [trip, h]
    rfl
  · rw [trip, if_pos h, Dev.ov3Seen_of_trip hs ht]
  · rw [trip, if_pos h, Dev.ov3Seen_of_same (hs.trans ht.symm)]
  · rw [free, h]
    rfl
  · rw [free, if_pos h, Dev.ov3Seen_of_same (hs.trans hf.symm)]
  · rw [free, if_pos h, Dev.ov3Seen_of_release hs hf]
  · rw [plaus]
    obtain h | h | h := h <;> rw [h] <;> simp [Dev.occIf, d]
  · rw [plaus, ha, hb, hp]
    rfl

end Sys2Proof.Machine

/-! ## Chopper health, fallback and discharge -/

namespace Sys2Proof.Machine

set_option Elab.async false

section
variable {d : Dev} {i : Nat}

/-! ### Chopper health (R321) -/

theorem Dev.bcsResult_of_none (h : d.bcsTag i = none) : d.bcsResult i = d := by
  unfold Dev.bcsResult
  rw [h]

theorem Dev.bcsResult_of_some {on : Bool} (h : d.bcsTag i = some on) :
    d.bcsResult i = d.bcsJudge i (d.rf (Reg.ADC_LAT (2 + i) 9) 2 14) on := by
  unfold Dev.bcsResult
  rw [h]

/-- A tag waits for the settling time of a confirmed switch. -/
theorem Dev.bcsTag_eq (d : Dev) (i : Nat) : d.bcsTag i =
    if d.now < (tget d.sw (24 + i)).confAt + 20 * d.rf (Reg.DCL_CH_CHK i) 16 8 then none
    else if (tget d.sw (24 + i)).islOnConf then some true else if (tget d.sw (24 + i)).islOff then some false else none := rfl

/-- The current of a result as the chopper's status shows it. -/
def Dev.bcsShown (d : Dev) (i code : Nat) : Dev :=
  d.wf (Reg.DCL_CH_STAT i) 0 16 (min 65535 (rdiv 321 (code * d.rf (Reg.DCL_CH_BCS i) 0 24 : Nat) 65536).toNat)

theorem Dev.bcsShown_dcl (d : Dev) (i code : Nat) : (d.bcsShown i code).dcl = d.dcl := by simp [Dev.bcsShown]

/-- The chopper is one whose results are judged: mode not OFF, and its checks do not wait. -/
def Dev.bcsUsed (d : Dev) (i : Nat) : Bool := d.chopMode i != 0 && !(d.chopper i).wait

theorem Dev.bcsUsed_iff : d.bcsUsed i = true ↔ d.rf (Reg.DCL_CH_CFG i) 30 2 ≠ 0 ∧ (d.chopper i).wait = false := by
  unfold Dev.bcsUsed Dev.chopMode
  rw [Bool.and_eq_true, bne_iff_ne, Bool.not_eq_true']

/-- The status that a result shows changes neither the mode of the chopper nor its marks. -/
theorem Dev.bcsUsed_bcsShown (d : Dev) (i code : Nat) : (d.bcsShown i code).bcsUsed i = d.bcsUsed i := by
  have hn : Reg.DCL_CH_CFG i ≠ Reg.DCL_CH_STAT i := by
    unfold Reg.DCL_CH_CFG Reg.DCL_CH_STAT
    omega
  have hr : (d.bcsShown i code).rget (Reg.DCL_CH_CFG i) = d.rget (Reg.DCL_CH_CFG i) := d.rget_wf_other _ _ _ hn
  unfold Dev.bcsUsed Dev.chopMode Dev.chopper Dev.rf
  rw [hr, d.bcsShown_dcl]

/-- The STUCK_ON check: a current of an off phase beyond its threshold. -/
def Dev.bcsStuck (d : Dev) (i code : Nat) : Bool :=
  decide (d.dcl.vl * 1000 * (fget (d.rget (Reg.DCL_CH_CHK i)) 0 6 : Int) <
    (code * d.rf (Reg.DCL_CH_BCS i) 0 24 * 2 * d.rf (Reg.DCL_CH_CFG i) 0 16 * 100 : Nat))

/-- The checks of a result after what each of them finds: the counts go on or end, and the first full one marks the chopper. -/
def Dev.bcsCount (d : Dev) (i n : Nat) (bad : List Bool) : Dev :=
  let cnt := Vector.ofFn (fun j : Fin 3 => if bad.getD j.val false then (d.chopper i).cnt[j] + 1 else 0)
  let u := d.chopMod i (fun c => { c with cnt := cnt })
  match [0, 1, 2].find? (fun j => decide (n ≤ tget cnt j) && bad.getD j false) with
  | some j => if (u.chopper i).faulty then u else u.chopMark i (j + 1)
  | none => u

/-- What the checks leave when they find nothing: the status, and all counts at 0. -/
def Dev.bcsGood (d : Dev) (i code : Nat) : Dev := (d.bcsShown i code).chopMod i (fun c => { c with cnt := Vector.replicate 3 0 })

theorem Dev.bcsCount_none (d : Dev) (i n : Nat) :
    d.bcsCount i n [false, false, false] = d.chopMod i (fun c => { c with cnt := Vector.replicate 3 0 }) := by
  unfold Dev.bcsCount
  simp
  rfl

theorem Dev.bcsCount_stuck {n : Nat} (hi : i < 2) (hn : n ≤ (d.chopper i).cnt[2] + 1) (hf : (d.chopper i).faulty = false) :
    d.bcsCount i n [false, false, true] =
      (d.chopMod i (fun c => { c with cnt := #v[0, 0, (d.chopper i).cnt[2] + 1] })).chopMark i 3 := by
  have hc : Vector.ofFn (fun j : Fin 3 => if [false, false, true].getD j.val false then (d.chopper i).cnt[j] + 1 else 0) =
      #v[0, 0, (d.chopper i).cnt[2] + 1] := rfl
  have hfind : [0, 1, 2].find? (fun j => decide (n ≤ tget #v[0, 0, (d.chopper i).cnt[2] + 1] j) && [false, false, true].getD j false) =
      some 2 := by
    have h2 : decide (n ≤ tget #v[0, 0, (d.chopper i).cnt[2] + 1] 2) = true := decide_eq_true hn
    simp [List.find?, h2]
  have hu : ((d.chopMod i (fun c => { c with cnt := #v[0, 0, (d.chopper i).cnt[2] + 1] })).chopper i).faulty = false := by
    unfold Dev.chopper Dev.chopMod Dev.dclMod
    rw [tget_tmod_same _ hi]
    exact hf
  unfold Dev.bcsCount
  rw [hc]
  extract_lets cnt u
  have hfu : (u.chopper i).faulty = false := hu
  rw [hfind]
  simp only [hfu, Bool.false_eq_true, if_false]
  rfl

/-- A result of an off phase is judged by the STUCK_ON check alone. -/
theorem Dev.bcsJudge_off (d : Dev) (i code : Nat) : d.bcsJudge i code false =
    (d.bcsShown i code).bcsCount i (fget (d.rget (Reg.DCL_CH_CHK i)) 12 4) [false, false, d.bcsUsed i && d.bcsStuck i code] := by
  have hu : (d.bcsShown i code).bcsUsed i = d.bcsUsed i := d.bcsUsed_bcsShown i code
  have hb : d.bcsJudge i code false = (d.bcsShown i code).bcsCount i (fget (d.rget (Reg.DCL_CH_CHK i)) 12 4)
      [(d.bcsShown i code).bcsUsed i && false && _, (d.bcsShown i code).bcsUsed i && false && _,
        (d.bcsShown i code).bcsUsed i && !false && d.bcsStuck i code] := rfl
  rw [hb, hu]
  simp

/-- A result of a chopper whose results are not judged. -/
theorem Dev.bcsJudge_of_unused (h : d.bcsUsed i = false) (code : Nat) (on : Bool) : d.bcsJudge i code on = d.bcsGood i code := by
  have hu : (d.bcsShown i code).bcsUsed i = false := (d.bcsUsed_bcsShown i code).trans h
  have hb : d.bcsJudge i code on = (d.bcsShown i code).bcsCount i (fget (d.rget (Reg.DCL_CH_CHK i)) 12 4)
      [(d.bcsShown i code).bcsUsed i && on && _, (d.bcsShown i code).bcsUsed i && on && _,
        (d.bcsShown i code).bcsUsed i && !on && d.bcsStuck i code] := rfl
  rw [hb, hu]
  simp only [Bool.false_and]
  exact Dev.bcsCount_none _ i _

/-- A mark of causes 1 to 3: its fault holds as a level, and the chopper is off (R321). -/
theorem Dev.chopMark_hard (d : Dev) (i : Nat) {cause : Nat} (h : cause < 4) : d.chopMark i cause =
    ((((((((d.wb Reg.DCL_FLAGS i true).wf (Reg.DCL_CH_STAT i) 27 3 cause).ev 0xEC).lvlOn (0x0B10 + cause + 8 * i) 0).chopMod i
      (fun c => { c with faulty := true })).rset (Reg.PWM_C_CMP0 i) 0).ilkOff (24 + i)).dclOutputs) := by
  unfold Dev.chopMark
  extract_lets a b v w
  have hb : b = a.lvlOn (0x0B10 + cause + 8 * i) 0 := if_pos (by omega)
  have hw : w = (v.rset (Reg.PWM_C_CMP0 i) 0).ilkOff (24 + i) := if_neg (by omega)
  rw [hw]
  unfold v
  rw [hb]

theorem Dev.noFallEnd_of_none (h : (d.chopper i).fallFrom = none) : d.noFallEnd i = d := by
  unfold Dev.noFallEnd
  rw [h]

theorem Dev.noFallEnd_of_some {v : Int} (h : (d.chopper i).fallFrom = some v) : d.noFallEnd i =
    if v ≤ d.dcl.vl ∧ (d.chopper i).noFall = false ∧ (d.chopper i).faulty = false then
      (d.chopMod i (fun c => { c with fallFrom := some d.dcl.vl })).chopMark i 4
    else d.chopMod i (fun c => { c with fallFrom := some d.dcl.vl }) := by
  unfold Dev.noFallEnd
  simp only [h, Bool.and_eq_true, decide_eq_true_iff, Bool.not_eq_true', and_assoc]

/-! ### Fallback (R323) -/

/-- The GI acts on a crossing when the chopper is in fallback and may chop. -/
theorem Dev.fallbackCross_eq (hi : i < 2) (above : Bool) : d.fallbackCross i above =
    if (d.chopper i).fbk = true ∧ d.giMayChop i = true then
      if above then (d.chopMod i (fun c => { c with fbkOn := above })).swMod (24 + i) Switch.islTurnOn
      else if d.dcl.tripped then d.chopMod i (fun c => { c with fbkOn := above })
      else (d.chopMod i (fun c => { c with fbkOn := above })).swMod (24 + i) Switch.islTurnOff
    else d.chopMod i (fun c => { c with fbkOn := above }) := by
  have hc : (d.chopMod i (fun c => { c with fbkOn := above })).chopper i = { d.chopper i with fbkOn := above } :=
    tget_tmod_same _ hi _
  have hg : (d.chopMod i (fun c => { c with fbkOn := above })).giMayChop i = d.giMayChop i := by
    unfold Dev.giMayChop
    rw [show tget (d.chopMod i (fun c => { c with fbkOn := above })).dcl.chop i = { d.chopper i with fbkOn := above } from hc]
    rfl
  unfold Dev.fallbackCross
  extract_lets u
  rw [show u.chopper i = _ from hc, show u.giMayChop i = _ from hg]
  simp only [Bool.and_eq_true]
  rfl

/-! ### Discharge (R326) -/

theorem Dev.probeEnd_of_not (h : d.rb Reg.DCL_DSTAT 31 = false ∨ d.rb Reg.DCL_DSTAT 30 = true ∨ d.dcl.probe = none) :
    d.probeEnd = d := by
  unfold Dev.probeEnd
  obtain h | h | h := h
  · rw [h]
    rfl
  · rw [h, Bool.not_true, Bool.and_false]
  · rw [h]
    split
    · next he => cases he
    · rfl

/-- The fall that a probe judges is too small, from a start at V_SAFE or above. -/
def Dev.probeLow (d : Dev) : Bool :=
  reaches d.dcl.vmStart (d.rf Reg.DCL_DLIM 0 16) &&
    decide ((d.dcl.vmStart - d.dcl.vm) * 100 < (d.rf Reg.DCL_DCFG 0 8 : Int) * d.dcl.vmStart)

theorem Dev.probeEnd_of_some {j : Nat} (h : d.rb Reg.DCL_DSTAT 31 = true) (hb : d.rb Reg.DCL_DSTAT 30 = false)
    (hp : d.dcl.probe = some j) : d.probeEnd = if d.probeLow then d.adFail j else d.nextProbe j := by
  unfold Dev.probeEnd
  rw [h, hb, hp]
  rfl

theorem Dev.adFail_of_probe {j : Nat} (h : d.rb Reg.DCL_DSTAT 31 = true) (hf : d.adFailed j = false) (hp : d.dcl.probe = some j) :
    d.adFail j = ((d.wb Reg.DCL_DSTAT (26 + j) true).occ (0x0B21 + j) 0).nextProbe j := by
  unfold Dev.adFail
  rw [if_pos (by rw [h, hf]; rfl), hp]
  simp only [if_true]

end

/-- Settles O45: which results a check judges, the mark of a chopper, the fallback by its side, and a probe by its fall. -/
theorem chopperHealthAndDischarge : Obligations.ChopperHealthAndDischarge := by
  intro s i above hl hi d sw settled used code e chk x shown fb acts
  have bcs : exec (.bcsResult i) s = .next ⟨d.bcsResult i, s.pending⟩ := by rw [exec_bcsResult, State.run_live hl]
  have timer : exec (.noFallTimer i) s = .next ⟨d.noFallEnd i, s.pending⟩ := by rw [exec_noFallTimer, State.run_live hl]
  have cross : exec (.fallbackLevelCross i above) s = .next ⟨d.fallbackCross i above, s.pending⟩ := by
    rw [exec_fallbackLevelCross, State.run_live hl]
  have probe : exec .dischargeProbeEnd s = .next ⟨d.probeEnd, s.pending⟩ := by rw [exec_dischargeProbeEnd, State.run_live hl]
  have late : exec .dischargeTargetTimeout s = .next ⟨d.targetTimeout, s.pending⟩ := by
    rw [exec_dischargeTargetTimeout, State.run_live hl]
  have hset : settled ↔ ¬ d.now < (tget d.sw (24 + i)).confAt + 20 * d.rf (Reg.DCL_CH_CHK i) 16 8 := Nat.not_lt.symm
  have hused : used ↔ d.bcsUsed i = true := Dev.bcsUsed_iff.symm
  have hstuck : e * (fget chk 0 6 : Int) < x ↔ d.bcsStuck i code = true := decide_eq_true_iff.symm
  have hgood : d.bcsGood i code = shown.chopMod i (fun c => { c with cnt := Vector.replicate 3 0 }) := rfl
  refine ⟨fun h => ?_, fun h hon => ?_, fun h hon hoff => ?_, fun h => ?_, fun h => ?_, fun h hx hn hf => ?_, fun u cause h => ?_,
    fun h => ?_, fun v h hv => ?_, fun v h hv hn hf => ?_, fun h => ?_, fun h ha => ?_, fun h ha ht => ?_, fun h ha ht => ?_,
    fun h => ?_, fun j h hb hp => ?_, fun h hr => ?_, fun h => ?_⟩
  · have ht : d.bcsTag i = none := by
      rw [Dev.bcsTag_eq]
      by_cases hs : settled
      · obtain ⟨hon, hoff⟩ := h.resolve_left (not_not.2 hs)
        rw [if_neg (hset.1 hs), if_neg (Bool.eq_false_iff.1 hon), if_neg (Bool.eq_false_iff.1 hoff)]
      · rw [if_pos (not_not.1 (fun hn => hs (hset.2 hn)))]
    rw [bcs, Dev.bcsResult_of_none ht]
  · rw [bcs, Dev.bcsResult_of_some (on := true)]
    rw [Dev.bcsTag_eq, if_neg (hset.1 h), if_pos hon]
  · rw [bcs, Dev.bcsResult_of_some (on := false)]
    rw [Dev.bcsTag_eq, if_neg (hset.1 h), if_neg (Bool.eq_false_iff.1 hon), if_pos hoff]
  · rw [← hgood]
    by_cases hu : used
    · have hns : d.bcsStuck i code = false := by
        rw [Bool.eq_false_iff]
        exact fun hs => absurd (hstuck.2 hs) (not_lt.2 (h.resolve_right (not_not.2 hu)))
      rw [Dev.bcsJudge_off, hns, Bool.and_false]
      exact Dev.bcsCount_none _ i _
    · exact Dev.bcsJudge_of_unused (Bool.eq_false_iff.2 (fun hh => hu (hused.2 hh))) code false
  · rw [← hgood]
    exact Dev.bcsJudge_of_unused (Bool.eq_false_iff.2 (fun hh => h (hused.2 hh))) code true
  · have hd : (d.bcsShown i code).chopper i = d.chopper i := by
      unfold Dev.chopper
      rw [d.bcsShown_dcl]
    refine ⟨#v[0, 0, (d.chopper i).cnt[2] + 1], rfl, rfl, rfl, ?_⟩
    rw [Dev.bcsJudge_off, hused.1 h, hstuck.1 hx, Bool.true_and, Dev.bcsCount_stuck hi (by rw [hd]; exact hn) (by rw [hd]; exact hf), hd]
    rfl
  · intro m
    exact u.chopMark_hard i (by omega)
  · rw [timer, Dev.noFallEnd_of_none h]
  · rw [timer, Dev.noFallEnd_of_some h, if_neg (fun hh => absurd hv (not_lt.2 hh.1))]
  · rw [timer, Dev.noFallEnd_of_some h, if_pos ⟨hv, hn, hf⟩]
  · rw [cross, Dev.fallbackCross_eq hi, if_neg h]
  · rw [cross, Dev.fallbackCross_eq hi, if_pos h, ha]
    rfl
  · have ht' : d.dcl.tripped = true := ht
    rw [cross, Dev.fallbackCross_eq hi, if_pos h, ha, ht']
    rfl
  · have ht' : d.dcl.tripped = false := ht
    rw [cross, Dev.fallbackCross_eq hi, if_pos h, ha, ht']
    rfl
  · rw [probe, Dev.probeEnd_of_not h]
  · intro low
    refine ⟨fun hlow => ?_, fun hlow hf => ⟨_, ?_, rfl⟩⟩
    · have hq : d.probeLow = false := hlow
      rw [probe, Dev.probeEnd_of_some h hb hp, hq]
      rfl
    · have hq : d.probeLow = true := hlow
      rw [probe, Dev.probeEnd_of_some h hb hp, hq, if_pos rfl, Dev.adFail_of_probe h hf hp]
  · rw [late]
    unfold Dev.targetTimeout
    rw [h, hr]
    rfl
  · have hq : (d.rb Reg.DCL_DSTAT 31 && reaches d.dcl.vm (d.rf Reg.DCL_DLIM 0 16)) = false := by
      obtain h | h := h <;> rw [h] <;> simp
    rw [late]
    unfold Dev.targetTimeout
    rw [hq]
    rfl

end Sys2Proof.Machine

/-! ## Safe pulse inhibit and its path test -/

namespace Sys2Proof.Machine

set_option Elab.async false

/-- A fold whose steps leave a view alone, for the elements of the list. -/
theorem foldl_view_of_mem {α β : Type} (g : Dev → β) (f : Dev → α → Dev) :
    ∀ (l : List α) (d : Dev), (∀ x ∈ l, ∀ e, g (f e x) = g e) → g (l.foldl f d) = g d
  | [], _, _ => rfl
  | x :: l, d, h =>
    (foldl_view_of_mem g f l (f d x) (fun y hy => h y (List.mem_cons_of_mem x hy))).trans (h x List.mem_cons_self d)

/-! ### Registers that gates do not touch -/

section
variable {b : Nat}

/-- A register between the islands' and the health monitors'. -/
def pastIslands (b : Nat) : Prop := 0x060000 ≤ b ∧ b < 0x0D8000

theorem Dev.swMod_rget (d : Dev) (n : Nat) (f : Switch → Switch) (b : Nat) : (d.swMod n f).rget b = d.rget b := rfl

theorem Dev.pwMod_rget (d : Dev) (a : Nat) (f : Pwm → Pwm) (b : Nat) : (d.pwMod a f).rget b = d.rget b := rfl

theorem Dev.ilkExt_rget (hb : pastIslands b) (d : Dev) {sw : Nat} (hs : sw < 24) (t : Nat) : (d.ilkExt sw t).rget b = d.rget b := by
  obtain ⟨hlo, hhi⟩ := hb
  unfold Dev.ilkExt
  extract_lets u
  have hu : u.rget b = d.rget b := d.rget_hlt _ _ _ hhi
  split
  · rw [Dev.rget_wf_other _ _ _ _ (by unfold Reg.ISL_H_ILK; omega), hu]
  · rw [Dev.rget_wf_other _ _ _ _ (by unfold Reg.ISL_H_ILK; omega), hu]

theorem Dev.ilkOn_rget (hb : pastIslands b) (d : Dev) {sw : Nat} (hs : sw < 24) : (d.ilkOn sw).rget b = d.rget b := by
  have called (e : Dev) (q : Nat) : (e.ilkRecall q).rget b = e.rget b := by
    unfold Dev.ilkRecall
    split <;> rfl
  have refuse (e : Dev) : (e.shootReq (sw % 12)).rget b = e.rget b := by
    have hn : b ≠ Reg.ISL_H_FLAGS (sw % 12) := by
      unfold Reg.ISL_H_FLAGS
      have := hb.1
      omega
    unfold Dev.shootReq
    rw [Dev.occ_rget, Dev.ev_rget, Dev.rget_wb_other _ _ _ hn]
  have send : (d.ilkSend sw).rget b = d.rget b := rfl
  have hold : (d.ilkHold sw).rget b = d.rget b := rfl
  unfold Dev.ilkOn
  split
  · rfl
  · split
    · split <;> assumption
    · split
      · rw [refuse, called, hold]
      · split
        · rw [Dev.ilkExt_rget hb _ hs, send]
        · exact hold

theorem Dev.ilkOff_rget (d : Dev) (sw b : Nat) : (d.ilkOff sw).rget b = d.rget b := rfl

theorem Dev.mem_group {d : Dev} {a x : Nat} (ha : a < 4) (h : x ∈ d.group a) : x < 4 := by
  unfold Dev.group at h
  split at h
  · simp only [List.mem_cons, List.not_mem_nil, or_false] at h
    omega
  · rw [List.mem_singleton.1 h]
    exact ha

theorem Dev.startBlank_rget (hb : pastIslands b) (d : Dev) {a : Nat} (ha : a < 4) : (d.startBlank a).rget b = d.rget b := by
  unfold Dev.startBlank
  split
  · rfl
  · refine foldl_view_of_mem (·.rget b) _ _ d (fun x hx e => Dev.rget_wb_other _ _ _ ?_)
    have := Dev.mem_group ha hx
    have := hb.1
    unfold Reg.PWM_STAT
    omega

theorem Dev.syncSw_rget (hb : pastIslands b) (d : Dev) {a p : Nat} (ha : a < 4) (hp : p < 3) (high on : Bool) :
    (d.syncSw a p high on).rget b = d.rget b := by
  have hs : swOf a p high < 24 := by
    unfold swOf
    split <;> omega
  unfold Dev.syncSw
  extract_lets sw
  split
  · rw [Dev.startBlank_rget hb _ ha]
    split
    · exact Dev.ilkOn_rget hb d hs
    · rfl
  · rfl

/-- Switches that follow their gate commands touch no register past the islands'. -/
theorem Dev.syncGates_rget (hb : pastIslands b) (d : Dev) {a : Nat} (ha : a < 4) : (d.syncGates a).rget b = d.rget b := by
  have both (on : Bool) : ∀ p ∈ [0, 1, 2], ∀ e : Dev, ((e.syncSw a p true on).syncSw a p false on).rget b = e.rget b := by
    intro p hp e
    have hp : p < 3 := by
      simp only [List.mem_cons, List.not_mem_nil, or_false] at hp
      omega
    rw [Dev.syncSw_rget hb _ ha hp, Dev.syncSw_rget hb _ ha hp]
  have all (on : Bool) (e : Dev) :
      ([0, 1, 2].foldl (fun d p => (d.syncSw a p true on).syncSw a p false on) e).rget b = e.rget b :=
    foldl_view_of_mem (·.rget b) _ _ e (both on)
  unfold Dev.syncGates
  extract_lets offs
  rw [all true offs, all false d]

end

/-! ### The end of an attempt -/

theorem Dev.acqEnd_fld (d : Dev) {a : Nat} (ha : a < 4) :
    (tget (d.acqEnd a).fld a).resume = false ∧ (tget (d.acqEnd a).fld a).acqNext = false := by
  unfold Dev.acqEnd
  extract_lets u
  rw [tget_tmod_same _ ha]
  exact ⟨rfl, rfl⟩

theorem Dev.setAcq_none (d : Dev) {a : Nat} (ha : a < 4) (h : canon resetOf d.regs = true) :
    (d.setAcq a .none).rf (Reg.FLD_STAT a) 10 2 = 0 := by
  have hb : pastIslands (Reg.FLD_STAT a) := by
    unfold pastIslands Reg.FLD_STAT
    omega
  have hg : (d.setAcq a .none).rget (Reg.FLD_STAT a) = (d.wf (Reg.FLD_STAT a) 10 2 0).rget (Reg.FLD_STAT a) := by
    unfold Dev.setAcq
    extract_lets u
    rw [if_neg (by decide)]
    refine foldl_view_of_mem (·.rget (Reg.FLD_STAT a)) _ _ u (fun x hx e => ?_)
    rw [Dev.syncGates_rget hb _ (Dev.mem_group ha hx), Dev.pwMod_rget]
  have hf : (d.wf (Reg.FLD_STAT a) 10 2 0).rf (Reg.FLD_STAT a) 10 2 = 0 := rf_wf_same h _ _ (by omega)
  unfold Dev.rf
  rw [hg]
  exact hf

/-- No attempt at re-acquisition goes on (R335). -/
theorem Dev.acqEnd_path (d : Dev) {a : Nat} (ha : a < 4) (h : canon resetOf d.regs = true) :
    (d.acqEnd a).rf (Reg.FLD_STAT a) 10 2 = 0 := by
  have hu : (if d.rf (Reg.FLD_STAT a) 10 2 = 0 then d else d.setAcq a .none).rf (Reg.FLD_STAT a) 10 2 = 0 := by
    split
    · assumption
    · exact d.setAcq_none ha h
  exact hu

/-! ### The inputs (R332, R336) -/

section
variable {d : Dev} {i : Nat}

theorem Dev.stoInput_of_same {high : Bool} (h : tget d.safe.raw i = high) : d.stoInput i high = d := if_pos h

/-- An input that changes: its new level, and since when. -/
def Dev.stoSeen (d : Dev) (i : Nat) (high : Bool) : Dev :=
  d.safeMod (fun x => { x with raw := tset x.raw i high, since := tset x.since i d.now })

theorem Dev.stoInput_of_change {high : Bool} (h : tget d.safe.raw i ≠ high) : d.stoInput i high =
    if (d.stoSeen i high).committed = false then d.stoSeen i high
    else if high then ((d.stoSeen i high).safeMod (fun x => { x with low := tset x.low i false })).stoFollow
    else if (d.stoSeen i high).rf Reg.SAFE_CFG 16 10 = 0 then
      ((d.stoSeen i high).safeMod (fun x => { x with low := tset x.low i true })).stoFollow
    else d.stoSeen i high := by
  unfold Dev.stoInput
  rw [if_neg h]
  simp only [Bool.not_eq_true']
  rfl

theorem Dev.stoFilter_eq (d : Dev) (i : Nat) : d.stoFilter i =
    if d.committed = true ∧ tget d.safe.raw i = false ∧ tget d.safe.since i + d.rf Reg.SAFE_CFG 16 10 * usTicks ≤ d.now then
      (d.safeMod (fun x => { x with low := tset x.low i true })).stoFollow
    else d := by
  unfold Dev.stoFilter
  simp only [Bool.and_eq_true, Bool.not_eq_true', decide_eq_true_iff, and_assoc]

/-- Since when the inputs have been filtered unequal. -/
def Dev.discFrom (d : Dev) : Nat :=
  if d.stoLow 0 then max (tget d.safe.since 0 + d.rf Reg.SAFE_CFG 16 10 * usTicks) (tget d.safe.since 1)
  else max (tget d.safe.since 1 + d.rf Reg.SAFE_CFG 16 10 * usTicks) (tget d.safe.since 0)

theorem Dev.stoDisc_eq (d : Dev) : d.stoDisc =
    if d.rb Reg.SAFE_STO 28 = true ∧ d.discFrom + d.rf Reg.SAFE_CFG 0 10 * msTicks ≤ d.now then d.lvlOn 0x0C02 0 else d := by
  have h : d.discLasted = (d.rb Reg.SAFE_STO 28 && decide (d.discFrom + d.rf Reg.SAFE_CFG 0 10 * msTicks ≤ d.now)) := rfl
  unfold Dev.stoDisc
  rw [h]
  simp only [Bool.and_eq_true, decide_eq_true_iff]

/-- A discrepancy began no earlier than one of the inputs changed last. -/
theorem Dev.since_le_discFrom (d : Dev) : ∃ j < 2, tget d.safe.since j ≤ d.discFrom := by
  unfold Dev.discFrom
  split
  · exact ⟨0, by omega, by omega⟩
  · exact ⟨1, by omega, by omega⟩

/-- No input low and no STO: the levels show, and the cause of a discrepancy ends. -/
theorem Dev.stoFollow_of_rest (hc : canon resetOf d.regs = true) (h0 : d.stoLow 0 = false) (h1 : d.stoLow 1 = false)
    (hs : d.stoNow = false) : d.stoFollow = (((d.wb Reg.SAFE_STO 30 (!tget d.safe.low 0)).wb Reg.SAFE_STO 29 (!tget d.safe.low 1)).wb
      Reg.SAFE_STO 28 false).lvlOff 0x0C02 0 := by
  unfold Dev.stoFollow
  rw [h0, h1]
  extract_lets low disc u v
  have hd : disc = false := Bool.and_false _
  have hu : u = ((d.wb Reg.SAFE_STO 30 (!tget d.safe.low 0)).wb Reg.SAFE_STO 29 (!tget d.safe.low 1)).wb Reg.SAFE_STO 28 false := by
    unfold u
    rw [hd]
  have hv : v = u.lvlOff 0x0C02 0 := if_neg (by rw [hd]; decide)
  have hn : v.stoNow = false := by
    have hr : v.rget Reg.SAFE_STO = u.rget Reg.SAFE_STO := by
      rw [hv]
      exact Dev.rget_of_regs (by simp) _
    have hb : u.rb Reg.SAFE_STO 31 = false := by
      have hc1 := wb_canon hc Reg.SAFE_STO 30 (!tget d.safe.low 0)
      rw [hu, rb_wb (wb_canon hc1 _ _ _) _ _ (by omega), rb_wb hc1 _ _ (by omega), rb_wb hc _ _ (by omega)]
      exact hs
    exact (Dev.rb_of_rget hr 31).trans hb
  rw [if_neg, if_neg, hv, hu]
  · rw [hn, Bool.and_false]
    exact Bool.false_ne_true
  · exact Bool.false_ne_true

/-! ### The path test (R337) -/

theorem Dev.ptStart_eq (d : Dev) : d.ptStart =
    if d.safe.ptPend = true ∧ d.dstate = .armed ∧ d.allIdle = true then
      d.safeMod (fun x => { x with ptPend := false, ptChan := some 0, ptAt := d.now, ptBad := false })
    else d := by
  unfold Dev.ptStart
  simp only [Bool.and_eq_true, beq_iff_eq, and_assoc]

theorem Dev.ptPhase_of_not {ok : Bool} (h : d.safe.ptChan = none ∨ d.now < d.safe.ptAt + 2 * usTicks) : d.ptPhase ok = d := by
  unfold Dev.ptPhase
  by_cases ht : d.now < d.safe.ptAt + 2 * usTicks
  · rw [if_pos ht]
  · rw [if_neg ht, h.resolve_right ht]

theorem Dev.ptPhase_of_first (ok : Bool) (h : d.safe.ptChan = some 0) (ht : d.safe.ptAt + 2 * usTicks ≤ d.now) :
    d.ptPhase ok = d.safeMod (fun x => { x with ptChan := some 1, ptAt := d.now, ptBad := x.ptBad || !ok }) := by
  unfold Dev.ptPhase
  rw [if_neg (Nat.not_lt.2 ht), h]
  rfl

/-- The result of a path test after its second channel. -/
def Dev.ptShown (d : Dev) (bad : Bool) : Dev :=
  (d.safeMod (fun x => { x with ptChan := none, ptBad := bad })).wf Reg.SAFE_STO 26 2 (if bad then 2 else 1)

theorem Dev.ptPhase_of_second {n : Nat} (ok : Bool) (h : d.safe.ptChan = some (n + 1)) (ht : d.safe.ptAt + 2 * usTicks ≤ d.now) :
    d.ptPhase ok = if (d.safe.ptBad || !ok) = true then (d.ptShown (d.safe.ptBad || !ok)).occ 0x0C03 0
      else ((d.ptShown (d.safe.ptBad || !ok)).safeMod (fun x => { x with stoT := 0 })).lvlOff 0x0C04 0 := by
  unfold Dev.ptPhase
  rw [if_neg (Nat.not_lt.2 ht), h]
  rfl

end

/-- Settles O46: an input by its filter, the discrepancy by its beginning, the path test by its channel, and the end of every attempt. -/
theorem pulseInhibitAndItsTest : Obligations.PulseInhibitAndItsTest := by
  intro s i high ok hi d seen filtered filtAt disc apart
  have inp : exec (.stoInputChange i high) s = .next
      ⟨if d.live then d.stoInput i high else d.safeMod (fun x => { x with raw := tset x.raw i high }), s.pending⟩ := rfl
  refine ⟨fun hl => ?_, fun hl => ?_, fun e he h0 h1 hs => ⟨_, Dev.stoFollow_of_rest (Dev.regs_canon he) h0 h1 hs, ?_⟩, fun e => rfl,
    fun e => rfl, fun e a ha => ⟨(e.acqEnd_fld ha).1, (e.acqEnd_fld ha).2, fun he => e.acqEnd_path ha (Dev.regs_canon he)⟩⟩
  · rw [inp, hl]
    rfl
  · have run : exec (.stoInputChange i high) s = .next ⟨d.stoInput i high, s.pending⟩ := by
      rw [inp, if_pos hl]
    have filt : exec (.stoFilterExpiry i) s = .next ⟨d.stoFilter i, s.pending⟩ := by rw [exec_stoFilterExpiry, State.run_live hl]
    have odd : exec .stoDiscrepancy s = .next ⟨d.stoDisc, s.pending⟩ := by rw [exec_stoDiscrepancy, State.run_live hl]
    have start : exec .stoPathTestStart s = .next ⟨d.ptStart, s.pending⟩ := by rw [exec_stoPathTestStart, State.run_live hl]
    have phase : exec (.stoPathTestPhaseEnd ok) s = .next ⟨d.ptPhase ok, s.pending⟩ := by
      rw [exec_stoPathTestPhaseEnd, State.run_live hl]
    have late : exec .stoTestOverdue s = .next ⟨d.stoOverdue, s.pending⟩ := by rw [exec_stoTestOverdue, State.run_live hl]
    have hseen : d.stoSeen i high = seen := rfl
    have changed {z : Bool} (hr : tget d.safe.raw i = !z) (hz : high = z) : tget d.safe.raw i ≠ high := by
      rw [hr, hz]
      cases z <;> decide
    refine ⟨fun h => ?_, fun h hc => ?_, fun hr hh hc => ?_, fun hr hh hc hf => ?_, fun hr hh hc hf => ?_, fun hc hr hf => ?_,
      fun h => ?_, fun h hp hd => ?_, fun h hp hd => ?_, fun h => ?_, fun hp hd hi => ?_, fun h => ?_, fun h => ?_, fun h ht => ?_,
      fun n h ht => ?_, fun h => ?_, fun h => ?_⟩
    · rw [run, Dev.stoInput_of_same h]
    · rw [run, Dev.stoInput_of_change h, hseen, if_pos hc]
    · have hc' : ¬ seen.committed = false := fun hh => Bool.false_ne_true (hh.symm.trans hc)
      rw [run, Dev.stoInput_of_change (changed (z := true) hr hh), hseen, if_neg hc', if_pos hh]
    · have hc' : ¬ seen.committed = false := fun hh => Bool.false_ne_true (hh.symm.trans hc)
      rw [run, Dev.stoInput_of_change (changed (z := false) hr hh), hseen, if_neg hc', if_neg (by rw [hh]; decide), if_pos hf]
    · have hc' : ¬ seen.committed = false := fun hh => Bool.false_ne_true (hh.symm.trans hc)
      rw [run, Dev.stoInput_of_change (changed (z := false) hr hh), hseen, if_neg hc', if_neg (by rw [hh]; decide), if_neg hf]
    · rw [filt, Dev.stoFilter_eq, if_pos ⟨hc, hr, hf⟩]
    · rw [filt, Dev.stoFilter_eq, if_neg]
      rintro ⟨hc, hr, hf⟩
      obtain h | h | h := h
      · exact Bool.false_ne_true (h.symm.trans hc)
      · exact Bool.false_ne_true (hr.symm.trans h)
      · exact absurd hf (Nat.not_le.2 h)
    · have hfrom : d.discFrom = max (filtAt 0) (tget d.safe.since 1) := if_pos h
      rw [odd, Dev.stoDisc_eq, if_pos ⟨hp, by rw [hfrom]; exact hd⟩]
    · have hfrom : d.discFrom = max (filtAt 1) (tget d.safe.since 0) := if_neg (Bool.eq_false_iff.1 h)
      rw [odd, Dev.stoDisc_eq, if_pos ⟨hp, by rw [hfrom]; exact hd⟩]
    · rw [odd, Dev.stoDisc_eq, if_neg]
      rintro ⟨hp, hd⟩
      obtain ⟨j, hj, hle⟩ := d.since_le_discFrom
      have hlt := h.resolve_left (not_not.2 hp) j hj
      exact absurd (Nat.le_trans (Nat.add_le_add_right hle _) hd) (Nat.not_le.2 hlt)
    · rw [start, Dev.ptStart_eq, if_pos ⟨hp, hd, hi⟩]
    · rw [start, Dev.ptStart_eq, if_neg]
      rintro ⟨hp, hd, hi⟩
      obtain h | h | h := h
      · exact Bool.false_ne_true (h.symm.trans hp)
      · exact h hd
      · exact Bool.false_ne_true (h.symm.trans hi)
    · rw [phase, Dev.ptPhase_of_not h]
    · rw [phase, Dev.ptPhase_of_first ok h ht]
    · intro bad e
      refine ⟨fun hb => ?_, fun hb => ?_⟩
      · rw [phase, Dev.ptPhase_of_second ok h ht, if_pos hb]
        rfl
      · rw [phase, Dev.ptPhase_of_second ok h ht, if_neg (Bool.eq_false_iff.1 hb)]
        rfl
    · rw [late]
      exact congrArg (fun u => Host.Outcome.next (State.mk u s.pending)) (if_pos h)
    · rw [late]
      exact congrArg (fun u => Host.Outcome.next (State.mk u s.pending)) (if_neg (Nat.not_le.2 h))
  · simp

end Sys2Proof.Machine

/-! ## The torque monitor, degraded time and the safety watchdogs -/

namespace Sys2Proof.Machine

set_option Elab.async false

section
variable {d : Dev} {a c : Nat}

/-! ### Axes that begin or end driving (R339) -/

theorem Dev.tmRest_eq (d : Dev) (a : Nat) : d.tmRest a =
    { (d.wf (Reg.SAFE_TM_STAT a) 0 16 0).lvlOff (0x0C14 + a) 0 with safe := { d.safe with
      tf := tset d.safe.tf a (sword (d.rget (Reg.CE_LANE_OUT (d.rf (Reg.SAFE_TM_CFG a) 16 5)))) } } := by
  have hs : ((d.wf (Reg.SAFE_TM_STAT a) 0 16 0).lvlOff (0x0C14 + a) 0).safe = d.safe := by simp
  unfold Dev.tmRest
  exact congrArg (fun z : Safe => { (d.wf (Reg.SAFE_TM_STAT a) 0 16 0).lvlOff (0x0C14 + a) 0 with safe := { z with
    tf := tset z.tf a (sword (d.rget (Reg.CE_LANE_OUT (d.rf (Reg.SAFE_TM_CFG a) 16 5)))) } }) hs

theorem Dev.axMove_eq (d : Dev) (a : Nat) (x : AState) :
    let v := d.setAx a x
    let v := if (tget d.ax a).active = x.active then v else v.tmRest a
    let v := if (tget d.ax a).active = true ∧ x.active = false then (v.injAxisLeft a).lanesUnsupervised a else v
    d.axMove a x = if x.safe = true then v else { v with axCause := tset v.axCause a [] } := by
  intro v0 v1 v2
  have h1 : (if (d.axOf a).active != x.active then v0.tmRest a else v0) = v1 := by
    unfold v1
    simp only [bne_iff_ne, ne_eq, ite_not]
    rfl
  have h2 : (if (d.axOf a).active && !x.active then (v1.injAxisLeft a).lanesUnsupervised a else v1) = v2 := by
    unfold v2
    simp only [Bool.and_eq_true, Bool.not_eq_true']
    rfl
  unfold Dev.axMove
  extract_lets e1 e2
  have he1 : e1 = v1 := h1
  have he2 : e2 = v2 := by
    unfold e2
    rw [he1, h2]
  rw [he2]

/-! ### One evaluation (R338–R340) -/

theorem Dev.torqueEval_of_off (h : d.rb (Reg.SAFE_TM_CFG a) 31 = false) : d.torqueEval a = d := if_pos (by rw [h]; rfl)

/-- The estimate as `SAFE_TMa_STAT` shows it. -/
def Dev.torqueShown (d : Dev) (a : Nat) : Dev :=
  d.wf (Reg.SAFE_TM_STAT a) 16 16 (fromSigned 16 (clampInt (-32768) 32767 (d.torqueEst a / 65536)))

/-- The checks of an estimate `est` on a driven axis. -/
def Dev.torqueCheck (d : Dev) (a : Nat) (est : Int) : Dev :=
  let st := Reg.SAFE_TM_STAT a
  let tf := d.torqueLag a
  let d := (d.safeMod (fun x => { x with tf := tset x.tf a tf })).hlt 0x10 a (((est - tf).natAbs : Int) / 65536)
  let lim : Int := d.rf (Reg.SAFE_TM_LIM a) 0 16 * 65536
  let slim : Int := d.rf (Reg.SAFE_TM_LIM a) 16 16 * 65536
  let cnt := d.rf (Reg.SAFE_TM_CFG a) 8 8
  let badD := if d.rb (Reg.SAFE_TM_CFG a) 30 then decide (d.lMot a + lim < est) || decide (est < -(d.lReg a) - lim)
              else decide (lim < ((est - tf).natAbs : Int))
  let nD := tmCount (d.rf st 8 8) cnt badD
  let f := tget d.fld a
  let nS := if f.valid then tmCount (d.rf st 0 8) cnt (decide (slim < ((est - d.torque a f.id f.iq).natAbs : Int)))
            else d.rf st 0 8
  let trip := decide (cnt ≤ nD) && decide (0 < nD) && decide (d.rf st 8 8 < cnt)
  let d := ((d.wf st 8 8 nD).wf st 0 8 nS).lvlSet (decide (cnt ≤ nS) && decide (0 < nS)) (0x0C14 + a) 0
  if trip then
    (((((d.toSafe a).blame (0x0C10 + a) a).wb Reg.SAFE_FLAGS 1 true).ev 0xF2).occ (0x0C10 + a) 0).sbcUpdate
  else d

theorem Dev.torqueEval_of_on (h : d.rb (Reg.SAFE_TM_CFG a) 31 = true) : d.torqueEval a =
    if (!(((d.torqueShown a).axOf a).active && !(d.torqueShown a).stoNow)) = true then (d.torqueShown a).tmRest a
    else (d.torqueShown a).torqueCheck a (d.torqueEst a) :=
  if_neg (by rw [h]; decide)

theorem Dev.torqueEval_of_rest (h : d.rb (Reg.SAFE_TM_CFG a) 31 = true)
    (hr : ((d.torqueShown a).axOf a).active = false ∨ (d.torqueShown a).stoNow = true) : d.torqueEval a = (d.torqueShown a).tmRest a := by
  rw [Dev.torqueEval_of_on h, if_pos]
  obtain hr | hr := hr <;> rw [hr] <;> simp

theorem Dev.torqueEval_of_driven (h : d.rb (Reg.SAFE_TM_CFG a) 31 = true) (ha : ((d.torqueShown a).axOf a).active = true)
    (hs : (d.torqueShown a).stoNow = false) : d.torqueEval a = (d.torqueShown a).torqueCheck a (d.torqueEst a) := by
  rw [Dev.torqueEval_of_on h, if_neg]
  rw [ha, hs]
  decide

/-- The demand check trips once, as its count arrives (R340). -/
theorem Dev.torqueCheck_eq (d : Dev) (a : Nat) (est : Int) :
    let st := Reg.SAFE_TM_STAT a
    let tf := d.torqueLag a
    let e := (d.safeMod (fun x => { x with tf := tset x.tf a tf })).hlt 0x10 a (((est - tf).natAbs : Int) / 65536)
    let lim : Int := e.rf (Reg.SAFE_TM_LIM a) 0 16 * 65536
    let slim : Int := e.rf (Reg.SAFE_TM_LIM a) 16 16 * 65536
    let cnt := e.rf (Reg.SAFE_TM_CFG a) 8 8
    let bad := if e.rb (Reg.SAFE_TM_CFG a) 30 then decide (e.lMot a + lim < est) || decide (est < -(e.lReg a) - lim)
      else decide (lim < ((est - tf).natAbs : Int))
    let nD := tmCount (e.rf st 8 8) cnt bad
    let f := tget e.fld a
    let nS := if f.valid then tmCount (e.rf st 0 8) cnt (decide (slim < ((est - e.torque a f.id f.iq).natAbs : Int)))
      else e.rf st 0 8
    let set := ((e.wf st 8 8 nD).wf st 0 8 nS).lvlSet (decide (cnt ≤ nS) && decide (0 < nS)) (0x0C14 + a) 0
    d.torqueCheck a est = if cnt ≤ nD ∧ 0 < nD ∧ e.rf st 8 8 < cnt then
      (((((set.toSafe a).blame (0x0C10 + a) a).wb Reg.SAFE_FLAGS 1 true).ev 0xF2).occ (0x0C10 + a) 0).sbcUpdate else set := by
  intro st tf e lim slim cnt bad nD f nS set
  have trip : (decide (cnt ≤ nD) && decide (0 < nD) && decide (e.rf st 8 8 < cnt)) = true ↔
      cnt ≤ nD ∧ 0 < nD ∧ e.rf st 8 8 < cnt := by
    simp only [Bool.and_eq_true, decide_eq_true_iff, and_assoc]
  by_cases h : cnt ≤ nD ∧ 0 < nD ∧ e.rf st 8 8 < cnt
  · rw [if_pos h]
    exact if_pos (trip.2 h)
  · rw [if_neg h]
    exact if_neg (fun hh => h (trip.1 hh))

theorem tmCount_eq (n cnt : Nat) : tmCount n cnt false = 0 ∧ tmCount n cnt true = min (n + 1) cnt := ⟨rfl, rfl⟩

/-! ### Degraded time and watchdogs (R347, R354) -/

theorem Dev.degExpired_eq (d : Dev) : d.degExpired =
    if d.dstate = .degraded ∧ d.safe.degAt + d.rf Reg.SAFE_DEG 0 10 * 1000 * msTicks ≤ d.now then
      (d.raise 0x0C31 0).causeOver 0x0C31 else d := by
  unfold Dev.degExpired Dev.degOver
  simp only [Bool.and_eq_true, beq_iff_eq, decide_eq_true_iff]

theorem Dev.connTimeout_eq (d : Dev) (c : Nat) : d.connTimeout c =
    if d.rb (Reg.SAFE_CONN_CFG c) 31 = true ∧ d.hosts.readySeen = true ∧
      tget d.safe.connAt c + d.rf (Reg.SAFE_CONN_CFG c) 0 10 * msTicks ≤ d.now then
      (((d.wb (Reg.SAFE_CONN_STAT c) 31 false).wb (Reg.SAFE_CONN_STAT c) 30 true).ev 0xF7).lvlOn (0x0C40 + c) 0
    else d := by
  unfold Dev.connTimeout Dev.connEn
  simp only [Bool.and_eq_true, decide_eq_true_iff, and_assoc]

end

/-- Settles O47: an evaluation by whether the axis is driven, and the two times by their limits. -/
theorem torqueMonitorDegradedTimeAndWatchdogs : Obligations.TorqueMonitorDegradedTimeAndWatchdogs := by
  intro s a c hl ha hc d st isc u v ang dq est shown lane off degEnd wdEnd
  have eval : exec (.torqueMonitorEval a) s = .next ⟨d.torqueEval a, s.pending⟩ := by
    rw [exec_torqueMonitorEval, State.run_live hl]
  have deg : exec .degTimeExpired s = .next ⟨d.degExpired, s.pending⟩ := by rw [exec_degTimeExpired, State.run_live hl]
  have watch : exec (.safetyWatchdogExpiry c) s = .next ⟨d.connTimeout c, s.pending⟩ := by
    rw [exec_safetyWatchdogExpiry, State.run_live hl]
  have hshown : d.torqueShown a = shown := rfl
  have hest : d.torqueEst a = est := rfl
  clear_value shown est
  refine ⟨fun h => ?_, fun h hr => ?_, fun e => e.tmRest_eq a, fun e x => e.axMove_eq a x, fun h hact hs => ?_, tmCount_eq, fun h => ?_,
    fun h ht => ?_, fun h hr ht => ?_, fun h => ?_⟩
  · rw [eval, Dev.torqueEval_of_off h]
  · rw [eval, Dev.torqueEval_of_rest h (by rw [hshown]; exact hr), hshown, Dev.tmRest_eq]
  · intro tf e lim slim cnt bad nD f nS set trips
    have hcheck : d.torqueEval a = if trips then
        (((((set.toSafe a).blame (0x0C10 + a) a).wb Reg.SAFE_FLAGS 1 true).ev 0xF2).occ (0x0C10 + a) 0).sbcUpdate else set := by
      rw [Dev.torqueEval_of_driven h (by rw [hshown]; exact hact) (by rw [hshown]; exact hs), hshown, hest]
      exact shown.torqueCheck_eq a est
    refine ⟨fun ht => ?_, fun ht => ?_⟩
    · rw [eval, hcheck, if_pos ht]
    · rw [eval, hcheck, if_neg ht]
  · rw [deg, Dev.degExpired_eq, if_neg]
    exact fun hh => h.elim (· hh.1) (fun ht => absurd hh.2 (Nat.not_le.2 ht))
  · rw [deg, Dev.degExpired_eq, if_pos ⟨h, ht⟩]
    rfl
  · rw [watch, Dev.connTimeout_eq, if_pos ⟨h, hr, ht⟩]
  · rw [watch, Dev.connTimeout_eq, if_neg]
    rintro ⟨he, hr, ht⟩
    obtain h | h | h := h
    · exact Bool.false_ne_true (h.symm.trans he)
    · exact Bool.false_ne_true (h.symm.trans hr)
    · exact absurd ht (Nat.not_le.2 h)

end Sys2Proof.Machine

/-! ## Safe brake control and the brake switch test -/

namespace Sys2Proof.Machine

set_option Elab.async false

section
variable {d : Dev} {t : SbcTest}

/-- The brake counts as released: during a test it is in the state that the test began with (R342). -/
def Dev.sbcIsRel (d : Dev) : Bool := match d.safe.test with | some t => t.released | none => d.sbcHs && d.sbcLs

theorem Dev.sbcSlow_iff : d.sbcSlow = true ↔ d.rf Reg.SAFE_SBC_APPLY 0 16 = 0 ∨
    ∀ a < 4, d.inTopo a = true → (d.selSpeed a).natAbs < 10 * d.rf Reg.SAFE_SBC_APPLY 0 16 := by
  unfold Dev.sbcSlow
  simp only [Bool.or_eq_true, beq_iff_eq, List.all_eq_true, List.mem_range, Bool.not_eq_true', decide_eq_true_iff]
  refine or_congr_right (forall₂_congr fun a _ => ?_)
  cases d.inTopo a <;> simp

theorem Dev.brakeSlow_eq (d : Dev) : d.brakeSlow =
    if d.sbcIsRel = true ∧ d.sbcWant = false ∧ d.sbcSlow = true then ((d.sbcAbort).sbcPins false false).ev 0xF4 else d := by
  have h : d.brakeSlow = if d.sbcIsRel && !d.sbcWant && d.sbcSlow then ((d.sbcAbort).sbcPins false false).ev 0xF4 else d := rfl
  rw [h]
  simp only [Bool.and_eq_true, Bool.not_eq_true', and_assoc]

/-- The brake settles in one state (R343). -/
theorem Dev.sbcSettle_of_done (h : d.safe.sbcSince + d.rf Reg.SAFE_SBC_APPLY 16 8 * msTicks ≤ d.now) : d.sbcSettle =
    (d.wb Reg.SAFE_SBC_STAT 29 (d.sbcHs && d.sbcLs)).safeMod (fun x => { x with settled := true }) := if_neg (Nat.not_lt.2 h)

/-! ### The brake switch test (R344–R346) -/

/-- A test may start by itself: brake control and `AUTO` on, the switches settled, the period over. -/
theorem Dev.sbcAuto_eq (d : Dev) : d.sbcAuto =
    if d.rb Reg.SAFE_SBC_CFG 31 = true ∧ d.rb Reg.SAFE_SBC_CFG 30 = true ∧ d.safe.settled = true ∧
      d.rf Reg.SAFE_SBC_CFG 16 8 * 144000000000 ≤ d.safe.sbcT then d.sbcStart.1 else d := by
  unfold Dev.sbcAuto
  simp only [Bool.and_eq_true, decide_eq_true_iff, and_assoc]

theorem Dev.sbcStart_of_busy (h : d.safe.test.isSome = true) : d.sbcStart.1 = d := by
  unfold Dev.sbcStart
  rw [h]
  rfl

theorem Dev.sbcStart_of_free {rel : Bool} {u : Dev} (h : d.safe.test = none) (he : d.rb Reg.SAFE_SBC_CFG 31 = true)
    (hr : (d.sbcHs && d.sbcLs) = rel) (hu : (d.wb Reg.SAFE_SBC_STAT 28 true).sbcPins (!rel) rel = u) :
    d.sbcStart.1 = u.sbcNext ⟨rel, false, false, u.now, false, false, Vector.replicate 2 0⟩ := by
  subst hr hu
  unfold Dev.sbcStart
  rw [if_neg (by rw [h, he]; decide)]

theorem Dev.sbcWaitEnd_of_none (h : d.safe.test = none) : d.sbcWaitEnd = d := by
  unfold Dev.sbcWaitEnd
  rw [h]

/-- What the end of a wait of test `t` does. -/
def Dev.sbcWaited (d : Dev) (t : SbcTest) : Dev :=
  let k := if t.low then 1 else 0
  let u := { t with times := tset t.times k (d.sbcUs t) }
  let judged := (d.sbcPins false false).sbcRes k (if !t.low && !t.vOk then 2 else if t.iBad then 3 else 0)
  if t.released then (if t.recover then (((d.sbcRes k 4).sbcPins false false).ev 0xF4).sbcEnd else d.sbcReclose t 1)
  else if t.recover then (d.sbcPins false true).sbcNext { t with low := true, recover := false, iBad := false }
  else if t.low then ((judged.safeMod (fun x => { x with test := some u })).sbcEnd).sbcUpdate
  else judged.sbcNext { u with recover := true }

theorem Dev.sbcWaitEnd_of_some (h : d.safe.test = some t) :
    d.sbcWaitEnd = if d.now < t.since + d.sbcWait t then d else d.sbcWaited t := by
  unfold Dev.sbcWaitEnd
  rw [h]
  rfl

theorem Dev.sbcWaited_lost (hr : t.released = true) (hv : t.recover = true) :
    d.sbcWaited t = (((d.sbcRes (if t.low then 1 else 0) 4).sbcPins false false).ev 0xF4).sbcEnd := by
  unfold Dev.sbcWaited
  rw [hr, hv]
  rfl

theorem Dev.sbcWaited_stuck (hr : t.released = true) (hv : t.recover = false) : d.sbcWaited t = d.sbcReclose t 1 := by
  unfold Dev.sbcWaited
  rw [hr, hv]
  rfl

theorem Dev.sbcWaited_low (hr : t.released = false) (hv : t.recover = true) :
    d.sbcWaited t = (d.sbcPins false true).sbcNext { t with low := true, recover := false, iBad := false } := by
  unfold Dev.sbcWaited
  rw [hr, hv]
  rfl

theorem Dev.sbcWaited_judge (hr : t.released = false) (hv : t.recover = false) : d.sbcWaited t =
    let k := if t.low then 1 else 0
    let u := { t with times := tset t.times k (d.sbcUs t) }
    let judged := (d.sbcPins false false).sbcRes k (if !t.low && !t.vOk then 2 else if t.iBad then 3 else 0)
    if t.low then ((judged.safeMod (fun x => { x with test := some u })).sbcEnd).sbcUpdate
    else judged.sbcNext { u with recover := true } := by
  unfold Dev.sbcWaited
  rw [hr, hv]
  rfl

end

/-- Settles O48: the brake by what it waits for, and a test by its step. -/
theorem safeBrakeControlAndTest : Obligations.SafeBrakeControlAndTest := by
  intro s hl d released rel slow opened testAt
  have brake : exec .brakeApplySpeedReached s = .next ⟨d.brakeSlow, s.pending⟩ := by
    rw [exec_brakeApplySpeedReached, State.run_live hl]
  have settle : exec .sbcSettleEnd s = .next ⟨d.sbcSettle, s.pending⟩ := by rw [exec_sbcSettleEnd, State.run_live hl]
  have auto : exec .sbcAutoTestStart s = .next ⟨d.sbcAuto, s.pending⟩ := by rw [exec_sbcAutoTestStart, State.run_live hl]
  have wait : exec .sbcTestWaitExpiry s = .next ⟨d.sbcWaitEnd, s.pending⟩ := by rw [exec_sbcTestWaitExpiry, State.run_live hl]
  have late : exec .sbcTestOverdue s = .next ⟨d.sbcOverdue, s.pending⟩ := by rw [exec_sbcTestOverdue, State.run_live hl]
  have hrel : d.sbcIsRel = released := rfl
  have hslow : slow ↔ d.sbcSlow = true := Dev.sbcSlow_iff.symm
  refine ⟨fun hr hw hs => ?_, fun h => ?_, fun h => ?_, fun h => ?_, fun he ha hs ht hp => ?_, fun h => ?_, fun h => ?_,
    fun t h hw => ?_, fun t h hw => ?_, fun h => ?_, fun h => ?_⟩
  · rw [brake, Dev.brakeSlow_eq, if_pos ⟨hrel.trans hr, hw, hslow.1 hs⟩]
  · rw [brake, Dev.brakeSlow_eq, if_neg]
    rintro ⟨hr, hw, hs⟩
    obtain h | h | h := h
    · exact Bool.false_ne_true (h.symm.trans (hrel.symm.trans hr))
    · exact Bool.false_ne_true (hw.symm.trans h)
    · exact h (hslow.2 hs)
  · rw [settle, Dev.sbcSettle_of_done h]
  · rw [settle]
    exact congrArg (fun u => Host.Outcome.next (State.mk u s.pending)) (if_pos h)
  · rw [auto, Dev.sbcAuto_eq, if_pos ⟨he, ha, hs, hp⟩, Dev.sbcStart_of_free (rel := rel) (u := opened) ht he rfl rfl]
  · rw [auto, Dev.sbcAuto_eq]
    by_cases hc : d.rb Reg.SAFE_SBC_CFG 31 = true ∧ d.rb Reg.SAFE_SBC_CFG 30 = true ∧ d.safe.settled = true ∧
      d.rf Reg.SAFE_SBC_CFG 16 8 * 144000000000 ≤ d.safe.sbcT
    · obtain ⟨he, ha, hs, hp⟩ := hc
      have hb : d.safe.test.isSome = true := by
        obtain h | h | h | h | h := h
        · exact absurd (h.symm.trans he) Bool.false_ne_true
        · exact absurd (h.symm.trans ha) Bool.false_ne_true
        · exact absurd (h.symm.trans hs) Bool.false_ne_true
        · exact h
        · exact absurd hp (Nat.not_le.2 h)
      rw [if_pos ⟨he, ha, hs, hp⟩, Dev.sbcStart_of_busy hb]
    · rw [if_neg hc]
  · rw [wait, Dev.sbcWaitEnd_of_none h]
  · rw [wait, Dev.sbcWaitEnd_of_some h, if_pos (show d.now < t.since + d.sbcWait t from hw)]
  · intro k u judged closed
    have done : exec .sbcTestWaitExpiry s = .next ⟨d.sbcWaited t, s.pending⟩ := by
      rw [wait, Dev.sbcWaitEnd_of_some h, if_neg (Nat.not_lt.2 (show t.since + d.sbcWait t ≤ d.now from hw))]
    refine ⟨fun hr hv => ?_, fun hr hv => ?_, fun hr hv => ?_, fun hr hv hlow => ?_, fun hr hv hlow => ?_⟩
    · rw [done, Dev.sbcWaited_stuck hr hv]
      rfl
    · rw [done, Dev.sbcWaited_lost hr hv]
    · rw [done, Dev.sbcWaited_low hr hv]
    · rw [done, Dev.sbcWaited_judge hr hv]
      exact congrArg (fun u => Host.Outcome.next (State.mk u s.pending)) (if_neg (Bool.eq_false_iff.1 hlow))
    · rw [done, Dev.sbcWaited_judge hr hv]
      exact congrArg (fun u => Host.Outcome.next (State.mk u s.pending)) (if_pos hlow)
  · rw [late]
    exact congrArg (fun u => Host.Outcome.next (State.mk u s.pending)) (if_pos h)
  · rw [late]
    exact congrArg (fun u => Host.Outcome.next (State.mk u s.pending)) (if_neg (Nat.not_le.2 h))

end Sys2Proof.Machine

/-! ## Fault reports, records and reactions -/

namespace Sys2Proof.Machine

set_option Elab.async false

section
variable {d : Dev} {r : Report} {x : FltRec}

theorem Dev.setRec_mapWord (d : Dev) (x : FltRec) (n code : Nat) : ((d.setRec x).ev n).mapWord code = d.mapWord code := by
  have h (s : Nat) : ((d.setRec x).ev n).rget (Reg.FLT_MAP s) = d.rget (Reg.FLT_MAP s) := ((d.setRec x).ev_rget _ _).trans rfl
  unfold Dev.mapWord
  simp only [h]

/-! ### One report (R360, R362) -/

theorem Dev.injNote_of_none (h : d.rgr.inj = none) : d.injNote r = d := by
  unfold Dev.injNote
  rw [h]

theorem Dev.report_of_open (hs : slotOf r.code ≠ none) (hi : d.rgr.inj = none) (hr : d.recOf r.code = some x) (ho : x.isOpen = true) :
    d.report r = d.updateRec r x := by
  unfold Dev.report
  rw [if_neg (by rw [Option.isNone_iff_eq_none]; exact hs), Dev.injNote_of_none hi]
  dsimp only
  rw [hr]
  exact if_pos ho

theorem Dev.report_of_closed (hs : slotOf r.code ≠ none) (hi : d.rgr.inj = none)
    (hr : ∀ x, d.recOf r.code = some x → x.isOpen = false) : d.report r = d.openRec r := by
  unfold Dev.report
  rw [if_neg (by rw [Option.isNone_iff_eq_none]; exact hs), Dev.injNote_of_none hi]
  dsimp only
  cases h : d.recOf r.code with
  | none => rfl
  | some x => exact if_neg (Bool.eq_false_iff.1 (hr x h))

/-- The record that an occurrence opens (R360). -/
def Dev.opened (d : Dev) (r : Report) : FltRec :=
  { code := r.code, isOpen := decide (d.mapClass r.code ≠ 0), cause := true, eclass := d.mapClass r.code,
    inj := false, esc := false, auto := ((d.recOf r.code).map (·.auto)).getD false, src := r.src, occ := 1, first := d.stamp,
    last := d.stamp, dst := d.dstate.code, axs := d.axStates, opened := d.now, quiet := d.now }

theorem Dev.openRec_of_occ (hi : d.rgr.inj = none) (hl : r.level = false) : d.openRec r =
    if 2 ≤ d.mapClass r.code ∨ bget (d.mapWord r.code) 31 = true then ((d.setRec (d.opened r)).ev 0xF8).logQueue (d.opened r) false
    else (d.setRec (d.opened r)).ev 0xF8 := by
  have hin : d.injected' r = false := by
    unfold Dev.injected'
    rw [hi]
  unfold Dev.openRec
  extract_lets c here y u
  have hh : here = true := if_neg (by rw [hl]; decide)
  have hy : y = d.opened r := by
    unfold y Dev.opened
    rw [hh, hin, Bool.true_or, Bool.and_true]
  have hu : u = (d.setRec (d.opened r)).ev 0xF8 := by
    unfold u
    rw [hy]
  rw [hy, hu, Dev.setRec_mapWord]

theorem Dev.updateRec_of_occ (hl : r.level = false) : d.updateRec r x =
    d.setRec { x with occ := satInc x.occ 65535, last := d.stamp, src := r.src, cause := true, quiet := d.now } := by
  unfold Dev.updateRec
  rw [hl]
  simp

/-! ### The reports of a cycle (R27, R363) -/

/-- The reports of a cycle have reached the Registrar. -/
def Dev.reported (d : Dev) (l : List Report) : Dev := (sortReports l).foldl Dev.report d

/-- The records that they have opened. -/
def Dev.freshRecs (d : Dev) (l : List Report) : List FltRec :=
  (d.reported l).flt.recs.filter (fun r => r.isOpen &&
    !(d.flt.recs.filterMap (fun r => if r.isOpen then some r.code else none)).contains r.code)

theorem Dev.reports_eq (d : Dev) (l : List Report) : d.reports l =
    if (d.freshRecs l).any (fun r => r.eclass == 4) then
      (if (d.reported l).dstate = .lockout ∨ (d.reported l).dstate = .dormant then d.reported l else (d.reported l).enterLockout)
    else if (d.freshRecs l).any (fun r => r.eclass == 3) && (d.reported l).dstate.toSafeOk then (d.reported l).enterSafe
    else d.reported l := rfl

theorem Dev.reports_lockout {l : List Report} (h : (d.freshRecs l).any (fun r => r.eclass == 4) = true)
    (hl : (d.reported l).dstate ≠ .lockout) (hd : (d.reported l).dstate ≠ .dormant) : d.reports l = (d.reported l).enterLockout := by
  rw [Dev.reports_eq, if_pos h, if_neg (fun hh => hh.elim hl hd)]

theorem Dev.reports_safe {l : List Report} (h4 : (d.freshRecs l).any (fun r => r.eclass == 4) = false)
    (h3 : (d.freshRecs l).any (fun r => r.eclass == 3) = true) (hs : (d.reported l).dstate.toSafeOk = true) :
    d.reports l = (d.reported l).enterSafe := by
  rw [Dev.reports_eq, if_neg (Bool.eq_false_iff.1 h4), h3, hs]
  rfl

theorem Dev.reports_none {l : List Report} (h4 : (d.freshRecs l).any (fun r => r.eclass == 4) = false)
    (h3 : (d.freshRecs l).any (fun r => r.eclass == 3) = false) : d.reports l = d.reported l := by
  rw [Dev.reports_eq, if_neg (Bool.eq_false_iff.1 h4), h3, Bool.false_and, if_neg Bool.false_ne_true]

/-! ### Causes and windows (R359, R363) -/

theorem Dev.causeExpiry_of_not {code : Nat} (h : d.lvlAny code = true ∨ d.recOf code = none ∨
    (∃ r, d.recOf code = some r ∧ d.now < r.quiet + usTicks)) : d.causeExpiry code = d := by
  unfold Dev.causeExpiry
  cases hr : d.recOf code with
  | none => rfl
  | some r =>
    refine ite_eq_right_iff.2 (fun hq => ?_)
    obtain h | h | ⟨r', h, hlt⟩ := h
    · exact if_pos h
    · rw [hr] at h
      cases h
    · rw [hr] at h
      cases h
      omega

theorem Dev.causeExpiry_of_quiet {code : Nat} {y : FltRec} (h : d.recOf code = some y) (hq : y.quiet + usTicks ≤ d.now)
    (hl : d.lvlAny code = false) : d.causeExpiry code =
    d.fltMod (fun f => { f with recs := f.recs.map (fun r => if r.code == code && r.cause then r.causeGone d.now else r) }) := by
  unfold Dev.causeExpiry
  rw [h]
  exact (if_pos hq).trans (if_neg (Bool.eq_false_iff.1 hl))

theorem Dev.opens_iff {c : Nat} : d.opens c = true ↔ d.bistUnit ≠ some 6 ∧ ∃ r ∈ d.flt.inbox, slotOf r.code ≠ none ∧ d.mapClass r.code = c ∧
    ∀ x, d.recOf r.code = some x → x.isOpen = false := by
  have hrec (code : Nat) : (!((d.recOf code).map (·.isOpen)).getD false) = true ↔ ∀ x, d.recOf code = some x → x.isOpen = false := by
    cases d.recOf code with
    | none => simp
    | some x => simp
  unfold Dev.opens
  simp only [Bool.and_eq_true, bne_iff_ne, List.any_eq_true, beq_iff_eq, hrec, Option.isSome_iff_ne_none, and_assoc]

/-- The windows that are over have ended, without the transition that follows. -/
def Dev.escalated (d : Dev) : Dev := (d.flt.recs.filter d.windowOver).foldl Dev.escalateRec d

theorem Dev.windowsEnd_of_turn {y : FltRec} (hy : y ∈ d.flt.recs.filter d.windowOver) (hs : d.dstate.toSafeOk = true)
    (h4 : ¬ d.opens 4 = true) (h3 : ¬ d.opens 3 = true) :
    d.windowsEnd = if (d.flt.recs.filter d.windowOver).all d.degrades then d.escalated.enterDegraded else d.escalated.enterSafe := by
  have hne : (d.flt.recs.filter d.windowOver).isEmpty = false := by
    rw [List.isEmpty_eq_false_iff]
    exact List.ne_nil_of_mem hy
  refine if_neg ?_
  rw [hne, hs, Bool.eq_false_iff.2 h4, Bool.eq_false_iff.2 h3]
  decide

theorem Dev.windowsEnd_of_not_turn (h : ¬ (d.dstate.toSafeOk = true ∧ ¬ d.opens 4 = true ∧ ¬ d.opens 3 = true)) :
    d.windowsEnd = d.escalated := by
  refine if_pos ?_
  by_contra hc
  simp only [Bool.or_eq_true, not_or, Bool.not_eq_true', Bool.not_eq_false] at hc
  exact h ⟨hc.1.1.2, hc.1.2, hc.2⟩

end

/-- Settles O49: a report by its record, the reports of a cycle by the worst class they open, and a window by what else turns. -/
theorem faultReportsAndReactions : Obligations.FaultReportsAndReactions := by
  intro s ext poison code hl d levels taken
  have rep : exec (.faultReport ext [] poison) s = .next ⟨d.faultReport ext [] poison, s.pending⟩ := by
    rw [exec_faultReport, State.run_live hl]
  have over' : exec (.causeExpiry code) s = .next ⟨d.causeExpiry code, s.pending⟩ := by rw [exec_causeExpiry, State.run_live hl]
  have win : exec (.reactionWindowEnd code) s = .next ⟨d.windowEnd code, s.pending⟩ := by
    rw [exec_reactionWindowEnd, State.run_live hl]
  refine ⟨fun h => ?_, fun e r slot hs hi hr hlv => ⟨e.opened r, rfl, rfl, rfl, rfl, rfl, rfl, rfl, rfl, rfl, ?_⟩,
    fun e r x hs hi hr ho hlv => ?_, fun e l => ?_, fun h => ?_, fun r hr hq hn => ?_, fun h => ?_, fun r hr => ?_⟩
  · rw [rep]
    exact congrArg (fun u => Host.Outcome.next (State.mk u s.pending)) (if_neg h)
  · rw [Dev.report_of_closed (by rw [hs]; exact Option.some_ne_none _) hi hr, Dev.openRec_of_occ hi hlv]
  · rw [Dev.report_of_open hs hi hr ho, Dev.updateRec_of_occ hlv]
  · intro after fresh
    exact ⟨Dev.reports_lockout, Dev.reports_safe, Dev.reports_none⟩
  · rw [over', Dev.causeExpiry_of_not h]
  · rw [over', Dev.causeExpiry_of_quiet hr hq hn]
  · rw [win]
    unfold Dev.windowEnd
    rw [h]
    rfl
  · intro ended deg rs e opens turns
    have hw : d.windowEnd code = if ended r then d.windowsEnd else d := by
      unfold Dev.windowEnd
      rw [hr]
      rfl
    have mem (h : ended r = true) : r ∈ d.flt.recs.filter d.windowOver := List.mem_filter.2 ⟨List.mem_of_find?_eq_some hr, h⟩
    have hopens (c : Nat) : opens c ↔ d.opens c = true := Dev.opens_iff.symm
    have turned (h : ended r = true) (ht : turns) :
        d.windowEnd code = if rs.all d.degrades then e.enterDegraded else e.enterSafe := by
      obtain ⟨hs, h4, h3⟩ := ht
      rw [hw, if_pos h]
      exact Dev.windowsEnd_of_turn (mem h) hs (fun hh => h4 ((hopens 4).2 hh)) (fun hh => h3 ((hopens 3).2 hh))
    refine ⟨fun h => ?_, fun h ht ha => ?_, fun h ht hx => ?_, fun h ht => ?_⟩
    · rw [win, hw, if_neg (Bool.eq_false_iff.1 h)]
    · rw [win, turned h ht, if_pos (show rs.all d.degrades = true from List.all_eq_true.2 ha)]
    · obtain ⟨y, hy, hdeg⟩ := hx
      have hall : ¬ rs.all d.degrades = true := fun hh => Bool.false_ne_true (hdeg.symm.trans (List.all_eq_true.1 hh y hy))
      rw [win, turned h ht, if_neg hall]
    · have hn : ¬ (d.dstate.toSafeOk = true ∧ ¬ d.opens 4 = true ∧ ¬ d.opens 3 = true) := fun ⟨hs, h4, h3⟩ =>
        ht ⟨hs, fun hh => h4 ((hopens 4).1 hh), fun hh => h3 ((hopens 3).1 hh)⟩
      rw [win, hw, if_pos h, Dev.windowsEnd_of_not_turn hn]
      rfl

end Sys2Proof.Machine

/-! ## Compatibility recovery, the accession log and injection -/

namespace Sys2Proof.Machine

set_option Elab.async false

section
variable {d e : Dev}

/-! ### Recovery (R365–R367) -/

theorem Dev.compatScan_eq (d : Dev) : d.compatScan =
    if d.rb Reg.FLT_CFG 31 = true ∧ d.rgr.scanAt + msTicks ≤ d.now then
      ((sortReports ((d.windowsEnd.rgrMod (fun g => { g with scanAt := d.now })).flt.recs.map (fun r => ⟨r.code, 0, false⟩))).foldl
        (fun d x => d.compatOne x.code) (d.windowsEnd.rgrMod (fun g => { g with scanAt := d.now }))).safeExit d
    else d := by
  unfold Dev.compatScan
  simp only [Bool.and_eq_true, decide_eq_true_iff]

theorem Dev.safeExit_eq (e d : Dev) : e.safeExit d =
    if d.dstate = .safe ∧ d.openF3 = true ∧ e.openF3 = false ∧ d.opens 4 = false ∧ d.opens 3 = false then e.enterReady else e := by
  unfold Dev.safeExit
  simp only [Bool.not_eq_true']

theorem Dev.hourEnd_of_over (h : d.rgr.hourAt + (60 * 60000 * msTicks : Nat) ≤ d.now) :
    d.hourEnd = d.rgrMod (fun g => { g with recov := 0, hourAt := d.now, limitHit := false }) := if_pos h

theorem Dev.hourEnd_of_not (h : ¬ d.rgr.hourAt + (60 * 60000 * msTicks : Nat) ≤ d.now) : d.hourEnd = d := if_neg h

/-! ### The log (R373, R374, R436) -/

theorem Dev.logWritten_of_not {ok : Bool}
    (h : d.prs.log = [] ∨ d.prs.logRun = none ∨ (∃ r, d.prs.logRun = some r ∧ r.busy = false)) : d.logWritten ok = d := by
  unfold Dev.logWritten
  split
  · next y rest r hlog hrun =>
    obtain h | h | ⟨z, h, hb⟩ := h
    · rw [hlog] at h
      cases h
    · rw [hrun] at h
      cases h
    · rw [hrun] at h
      cases h
      exact if_pos (by rw [hb]; rfl)
  · rfl

/-- The words that an entry under way still has to write. -/
def logLeft (x : List Word) (r : LogRun) : List (Nat × Word) := (logAt x).drop r.done

theorem logLeft_length {x : List Word} {r : LogRun} (h : r.done < 4) : 0 < (logLeft x r).length := by
  unfold logLeft logAt
  rw [List.length_drop, List.length_map]
  exact Nat.sub_pos_of_lt h

theorem Dev.logWritten_of_run {x : List Word} {rest : List (List Word)} {r : LogRun} (ok : Bool) (hlog : d.prs.log = x :: rest)
    (hrun : d.prs.logRun = some r) (hb : r.busy = true) : d.logWritten ok =
    if ok then ((logLeft x r).foldl (fun d x => d.program x.1 x.2) d).logDone x else d.logFailed (logLeft x r) := by
  unfold Dev.logWritten
  rw [hlog, hrun]
  exact if_neg (by rw [hb]; decide)

theorem Dev.logDone_eq (d : Dev) (x : List Word) : d.logDone x =
    if ((x.getD 0 0).toNat + 2 ^ 32 - (d.pword 0x3F2).toNat) % 2 ^ 32 < 2 ^ 31 then
      (d.rgrMod (fun g => { g with logNew := some ((x.getD 0 0).toNat % 256) })).logNext
    else d.logNext := by
  unfold Dev.logDone
  dsimp only
  split <;> rfl

/-- The entry at the front has left the port. -/
def Dev.logPopped (d : Dev) : Dev := d.prsMod (fun p => { p with log := p.log.tail, logRun := none })

theorem Dev.logNext_of_low (h : d.power.vddIoLow = true) : d.logNext = d.logPopped := if_pos h

theorem Dev.logNext_of_supplied (h : d.power.vddIoLow = false) : d.logNext = d.logPopped.logStart d.prs.log.tail :=
  if_neg (Bool.eq_false_iff.1 h)

/-! ### Injection (R372) -/

theorem Dev.injectionEnd_of_not (h : d.rgr.inj = none ∨ (∃ i, d.rgr.inj = some i ∧ d.now < i.start + i.len * 100 * usTicks)) :
    d.injectionEnd = d := by
  unfold Dev.injectionEnd
  obtain h | ⟨i, h, hlt⟩ := h
  · rw [h]
  · rw [h]
    exact if_pos hlt

/-- An injection has stopped. -/
def Dev.injStopped (d : Dev) : Dev := (d.wb Reg.FLT_INJSTAT 31 false).rgrMod (fun g => { g with inj := none })

theorem Dev.injectionEnd_missed {i : Inject} (h : d.rgr.inj = some i) (ht : i.start + i.len * 100 * usTicks ≤ d.now) (hn : i.hit = none) :
    d.injectionEnd = (d.injStopped.occ 0x0D04 0).completeRun (fun c => c.op == 0x31) stOk
      (beBytes 2 i.code ++ [BitVec.ofNat 8 i.src, 1] ++ beBytes 4 0xFFFFFFFF) := by
  unfold Dev.injectionEnd
  rw [h]
  dsimp only
  rw [if_neg (Nat.not_lt.2 ht), hn]
  rfl

theorem Dev.injectionEnd_seen {i : Inject} {t : Nat} (h : d.rgr.inj = some i) (ht : i.start + i.len * 100 * usTicks ≤ d.now)
    (hs : i.hit = some t) : d.injectionEnd = d.injStopped.completeRun (fun c => c.op == 0x31) stOk
      (beBytes 2 i.code ++ [BitVec.ofNat 8 i.src, 0] ++ beBytes 4 (min 0xFFFFFFFF ((t - i.start) * 5 / 2))) := by
  unfold Dev.injectionEnd
  rw [h]
  dsimp only
  rw [if_neg (Nat.not_lt.2 ht), hs]
  rfl

end

/-- Settles O50: the scan and the hour by their times, an entry by its verification, and an injection by whether it was reported. -/
theorem recoveryLogAndInjection : Obligations.RecoveryLogAndInjection := by
  intro s ok hl d ended
  have scan : exec .compatRecoveryScan s = .next ⟨d.compatScan, s.pending⟩ := by rw [exec_compatRecoveryScan, State.run_live hl]
  have hour : exec .recoveryHourEnd s = .next ⟨d.hourEnd, s.pending⟩ := by rw [exec_recoveryHourEnd, State.run_live hl]
  have log : exec (.logEntryWritten ok) s = .next ⟨d.logWritten ok, s.pending⟩ := by rw [exec_logEntryWritten, State.run_live hl]
  have inj : exec .injectionEnd s = .next ⟨d.injectionEnd, s.pending⟩ := by rw [exec_injectionEnd, State.run_live hl]
  refine ⟨fun h => ?_, fun h ht => ?_, fun e h => ?_, fun e hs hd he h4 h3 => ?_, fun h => ?_, fun h => ?_, fun h => ?_,
    fun e rest r hlog hrun hb hr => ?_, fun e => ?_, fun e => rfl, fun e x rest => ?_, fun h => ?_, fun i h ht => ?_⟩
  · rw [scan, Dev.compatScan_eq, if_neg]
    rintro ⟨hc, ht⟩
    exact h.elim (fun h => Bool.false_ne_true (h.symm.trans hc)) (fun h => absurd ht (Nat.not_le.2 h))
  · rw [scan, Dev.compatScan_eq, if_pos ⟨h, ht⟩]
  · rw [Dev.safeExit_eq, if_neg h]
  · rw [Dev.safeExit_eq, if_pos ⟨hs, hd, he, h4, h3⟩]
  · rw [hour, Dev.hourEnd_of_over h]
  · rw [hour, Dev.hourEnd_of_not (not_le.2 h)]
  · rw [log, Dev.logWritten_of_not h]
  · intro i ws w above
    refine ⟨fun hk ha => ?_, fun hk ha => ?_, fun hk => ⟨d.free 0x380 % ws.length, Nat.mod_lt _ (logLeft_length hr), ?_⟩⟩
    · rw [log, Dev.logWritten_of_run ok hlog hrun hb, if_pos hk, Dev.logDone_eq]
      exact congrArg (fun u => Host.Outcome.next (State.mk u s.pending)) (if_pos ha)
    · rw [log, Dev.logWritten_of_run ok hlog hrun hb, if_pos hk, Dev.logDone_eq]
      exact congrArg (fun u => Host.Outcome.next (State.mk u s.pending)) (if_neg ha)
    · rw [log, Dev.logWritten_of_run ok hlog hrun hb, if_neg (Bool.eq_false_iff.1 hk)]
      rfl
  · exact ⟨Dev.logNext_of_low, Dev.logNext_of_supplied⟩
  · intro worn
    exact ⟨fun h => if_pos h, fun h => if_neg (Bool.eq_false_iff.1 h)⟩
  · rw [inj, Dev.injectionEnd_of_not h]
  · intro u
    refine ⟨fun hn => ?_, fun t hs => ?_⟩
    · rw [inj, Dev.injectionEnd_missed h ht hn]
      rfl
    · rw [inj, Dev.injectionEnd_seen h ht hs]
      rfl

end Sys2Proof.Machine

/-! ## Liveness, events and sinks -/

namespace Sys2Proof.Machine

set_option Elab.async false

section
variable {d : Dev}

/-! ### Liveness (R370) -/

/-- What a half-period must find for `ALIVE` to toggle. -/
def Dev.aliveOk (d : Dev) (selfOk : Bool) : Bool :=
  d.dstate.aliveRuns && decide (d.now ≤ d.rgr.checkIn + 200 * usTicks) && d.rf Reg.CE_STATUS 0 16 != d.rgr.steps0 && selfOk &&
    d.bistUnit != some 6

theorem Dev.aliveOk_iff {selfOk : Bool} : d.aliveOk selfOk = true ↔ d.dstate.aliveRuns = true ∧ d.now ≤ d.rgr.checkIn + 200 * usTicks ∧
    d.rf Reg.CE_STATUS 0 16 ≠ d.rgr.steps0 ∧ selfOk = true ∧ d.bistUnit ≠ some 6 := by
  unfold Dev.aliveOk
  simp only [Bool.and_eq_true, decide_eq_true_iff, bne_iff_ne, and_assoc]

/-- A half-period ends: its time, the steps, and whether the pin runs are kept. -/
def Dev.aliveKept (d : Dev) (run : Bool) : Dev :=
  d.rgrMod (fun g => { g with halfAt := d.now, steps0 := d.rf Reg.CE_STATUS 0 16, aliveRun := run })

theorem Dev.aliveHalf_early {selfOk : Bool} (h : d.now < d.rgr.halfAt + 500 * usTicks) : d.aliveHalf selfOk = d := if_pos h

theorem Dev.aliveHalf_over {selfOk : Bool} (h : d.rgr.halfAt + 500 * usTicks ≤ d.now) : d.aliveHalf selfOk =
    if d.aliveOk selfOk then { d.aliveKept (d.aliveOk selfOk) with
      pins := { (d.aliveKept (d.aliveOk selfOk)).pins with alive := !(d.aliveKept (d.aliveOk selfOk)).pins.alive } }
    else d.aliveKept (d.aliveOk selfOk) := if_neg (Nat.not_lt.2 h)

theorem Dev.docentStall_early (h : d.now < d.rgr.checkIn + 2 * msTicks) : d.docentStall = d := if_pos h

theorem Dev.docentStall_over (h : d.rgr.checkIn + 2 * msTicks ≤ d.now) : d.docentStall =
    if (d.reports [⟨0x0D05, 0, false⟩]).dstate = .lockout ∨ (d.reports [⟨0x0D05, 0, false⟩]).dstate = .dormant then
      d.reports [⟨0x0D05, 0, false⟩] else (d.reports [⟨0x0D05, 0, false⟩]).enterLockout := if_neg (Nat.not_lt.2 h)

theorem DState.aliveRuns_iff (st : DState) :
    st.aliveRuns = true ↔ st = .ready ∨ st = .armed ∨ st = .run ∨ st = .degraded ∨ st = .safe ∨ st = .service := by
  cases st <;> decide

/-! ### Vectors (R378) -/

theorem Dev.eventDelivery_of_none (h : d.events = []) : d.eventDelivery = d := by
  unfold Dev.eventDelivery
  rw [h]

/-- The oldest event has reached its vectors. -/
def Dev.eventVectors (d : Dev) (n : Nat) (rest : List Nat) : Dev :=
  (List.range 64).foldl (fun d v => if d.routed v n then d.vecHit v else d) { d with events := rest }

/-- The sinks that an event newly marks. -/
def Dev.eventMarks (d : Dev) (n : Nat) : List Nat :=
  (List.range 10).filter (fun x => d.sinkRouted x n && !d.rgr.sinks.contains (x, n))

theorem Dev.eventDelivery_of_some {n : Nat} {rest : List Nat} (h : d.events = n :: rest) :
    d.eventDelivery = (d.eventVectors n rest).rgrMod (fun g =>
      { g with sinks := g.sinks ++ ((d.eventVectors n rest).eventMarks n).map (fun x => (x, n)) }) := by
  unfold Dev.eventDelivery
  rw [h]
  rfl

theorem Dev.vecHit_of_pending {v : Nat} (h : d.rb (Reg.EVT_PEND (v / 32)) (v % 32) = true) :
    d.vecHit v = (d.wb (Reg.EVT_OVR (v / 32)) (v % 32) true).rmod (Reg.EVT_VCNT v) (fun c => c + 1) := by
  unfold Dev.vecHit
  rw [h]
  rfl

/-- A vector that becomes pending, and its count. -/
def Dev.vecPends (d : Dev) (v : Nat) : Dev := (d.wb (Reg.EVT_PEND (v / 32)) (v % 32) true).rmod (Reg.EVT_VCNT v) (fun c => c + 1)

theorem Dev.vecHit_of_new {v : Nat} (h : d.rb (Reg.EVT_PEND (v / 32)) (v % 32) = false) : d.vecHit v =
    if (d.vecPends v).rb (Reg.EVT_EN (v / 32)) (v % 32) = true ∧ 2 ≤ (d.vecPends v).vecOwner v then
      (d.vecPends v).notice ((d.vecPends v).vecOwner v - 2) ([0x5C, BitVec.ofNat 8 ((d.vecPends v).vecOwner v + 1), BitVec.ofNat 8 v, 0] ++
        beBytes 4 ((d.vecPends v).rget (Reg.EVT_VCNT v)).toNat)
    else d.vecPends v := by
  have hb (e : Dev) (n : Nat) : (!false && e.rb (Reg.EVT_EN (v / 32)) (v % 32) && decide (2 ≤ n)) = true ↔
      e.rb (Reg.EVT_EN (v / 32)) (v % 32) = true ∧ 2 ≤ n := by simp
  unfold Dev.vecHit
  simp only [h, hb]
  rfl

/-! ### Sinks (R379) -/

theorem Dev.mem_sinkEvents {x n : Nat} : n ∈ d.sinkEvents x ↔ (x, n) ∈ d.rgr.sinks := by
  unfold Dev.sinkEvents
  simp only [List.mem_map, List.mem_filter, beq_iff_eq]
  constructor
  · rintro ⟨⟨a, b⟩, ⟨hm, rfl⟩, rfl⟩
    exact hm
  · exact fun h => ⟨(x, n), ⟨h, rfl⟩, rfl⟩

theorem Dev.sinkAction_of_none {x : Nat} (h : ∀ n, (x, n) ∉ d.rgr.sinks) : d.sinkAction x = d :=
  if_pos (List.eq_nil_iff_forall_not_mem.2 (fun n hn => h n (Dev.mem_sinkEvents.1 hn)))

theorem Dev.sinkAction_of_some {x n : Nat} (h : (x, n) ∈ d.rgr.sinks) : d.sinkAction x = (d.sinkClear x).sinkAct x (d.sinkEvents x) :=
  if_neg (List.ne_nil_of_mem (Dev.mem_sinkEvents.2 h))

theorem Dev.sinkAct_mask {k : Nat} (hk : k < 4) (ns : List Nat) : d.sinkAct k ns = d.maskAdvance k := if_pos hk

theorem Dev.sinkAct_urgent {k : Nat} (hk : k < 4) (ns : List Nat) : d.sinkAct (4 + k) ns =
    d.urgSend k (d.rf (Reg.ADC_URG k) 24 4) (d.rf (Reg.ADC_URG k) 0 8) := by
  unfold Dev.sinkAct
  rw [if_neg (by omega), if_pos (by omega), Nat.add_sub_cancel_left]

theorem Dev.capTrigger_of_none (h : d.ce.cap = none) (ns : List Nat) : d.capTrigger ns = d := by
  unfold Dev.capTrigger
  rw [h]

theorem Dev.capTrigger_of_own {c : CeCap} {ns : List Nat} (h : d.ce.cap = some c) (hn : c.event ∈ ns) :
    d.capTrigger ns = (d.ceMod (fun s => { s with cap := some { c with trig := true } })).capAct := by
  unfold Dev.capTrigger
  rw [h]
  exact if_pos (List.contains_iff_mem.2 hn)

theorem Dev.capTrigger_of_other {c : CeCap} {ns : List Nat} (h : d.ce.cap = some c) (hn : c.event ∉ ns) : d.capTrigger ns = d := by
  unfold Dev.capTrigger
  rw [h]
  exact if_neg (fun hh => hn (List.contains_iff_mem.1 hh))

end

/-- Settles O51: a half-period by what it must find, a stall by its time. -/
theorem livenessAndDocentStall : Obligations.LivenessAndDocentStall := by
  intro s selfOk hl d steps ok kept told
  have half : exec (.aliveHalfPeriod selfOk) s = .next ⟨d.aliveHalf selfOk, s.pending⟩ := by
    rw [exec_aliveHalfPeriod, State.run_live hl]
  have stall : exec .docentStall s = .next ⟨d.docentStall, s.pending⟩ := by rw [exec_docentStall, State.run_live hl]
  have hok : ok ↔ d.aliveOk selfOk = true := Dev.aliveOk_iff.symm
  refine ⟨?_, fun h => ?_, fun h hk => ?_, fun h hk => ?_, fun h => ?_, fun h hlo hd => ?_, fun h ht => ?_, DState.aliveRuns_iff⟩
  · rw [exec_docentCheckIn, State.run_live hl]
    rfl
  · rw [half, Dev.aliveHalf_early h]
  · rw [half, Dev.aliveHalf_over h, hok.1 hk]
    rfl
  · have hn : d.aliveOk selfOk = false := Bool.eq_false_iff.2 (fun hh => hk (hok.2 hh))
    rw [half, Dev.aliveHalf_over h, hn]
    rfl
  · rw [stall, Dev.docentStall_early h]
  · rw [stall, Dev.docentStall_over h]
    exact congrArg (fun u => Host.Outcome.next (State.mk u s.pending)) (if_neg (fun hh => hh.elim hlo hd))
  · rw [stall, Dev.docentStall_over h]
    exact congrArg (fun u => Host.Outcome.next (State.mk u s.pending)) (if_pos ht)

/-- Settles O52: an event by its vectors and marks, a vector by whether it is pending, a sink by its events. -/
theorem eventsReachVectorsAndSinks : Obligations.EventsReachVectorsAndSinks := by
  intro s k hl hk d clear got
  have deliver : exec .eventDelivery s = .next ⟨d.eventDelivery, s.pending⟩ := by rw [exec_eventDelivery, State.run_live hl]
  have sink (x : Nat) : exec (.sinkAction x) s = .next ⟨d.sinkAction x, s.pending⟩ := by rw [exec_sinkAction, State.run_live hl]
  have hclear (x : Nat) : d.sinkClear x = clear x := rfl
  have trigger {n : Nat} (h : got 8 n) : exec (.sinkAction 8) s = .next ⟨(clear 8).capTrigger (d.sinkEvents 8), s.pending⟩ := by
    rw [sink, Dev.sinkAction_of_some h]
    rfl
  have hcap : (clear 8).ce.cap = d.ce.cap := rfl
  refine ⟨fun h => ?_, fun n rest h => ?_, fun e v h => Dev.vecHit_of_pending h, fun e v h => ?_, fun x h => ?_, fun n h => ?_, fun n h => ?_,
    fun cap hc h hn => ?_, fun cap hc h => ?_, fun hc h => ?_, fun n h => ?_⟩
  · rw [deliver, Dev.eventDelivery_of_none h]
  · rw [deliver, Dev.eventDelivery_of_some h]
    rfl
  · intro u
    have hv : e.vecHit v = if u.rb (Reg.EVT_EN (v / 32)) (v % 32) = true ∧ 2 ≤ u.vecOwner v then
        u.notice (u.vecOwner v - 2) ([0x5C, BitVec.ofNat 8 (u.vecOwner v + 1), BitVec.ofNat 8 v, 0] ++
          beBytes 4 (u.rget (Reg.EVT_VCNT v)).toNat) else u := Dev.vecHit_of_new h
    refine ⟨fun hn => ?_, fun he ho => ?_⟩
    · rw [hv, if_neg]
      rintro ⟨he, ho⟩
      exact hn.elim (fun hn => Bool.false_ne_true (hn.symm.trans he)) (fun hn => absurd ho (Nat.not_le.2 hn))
    · rw [hv, if_pos ⟨he, ho⟩]
  · rw [sink, Dev.sinkAction_of_none h]
  · rw [sink, Dev.sinkAction_of_some h, hclear, Dev.sinkAct_mask hk]
  · rw [sink, Dev.sinkAction_of_some h, hclear, Dev.sinkAct_urgent hk]
  · obtain ⟨n, h⟩ := h
    rw [trigger h, Dev.capTrigger_of_other (hcap.trans hc) (fun hm => hn (Dev.mem_sinkEvents.1 hm))]
  · rw [trigger h, Dev.capTrigger_of_own (hcap.trans hc) (Dev.mem_sinkEvents.2 h)]
  · obtain ⟨n, h⟩ := h
    rw [trigger h, Dev.capTrigger_of_none (hcap.trans hc)]
  · rw [sink, Dev.sinkAction_of_some h]
    rfl

end Sys2Proof.Machine

/-! ## States of a CAN controller -/

namespace Sys2Proof.Machine

set_option Elab.async false

section
variable {d : Dev} {c : Nat}

/-! ### The entry to a state (R384) -/

/-- ACTIVE and PASSIVE: the states in which a controller takes part in traffic. -/
def canRuns (n : Nat) : Bool := n == 3 || n == 4

/-- The time of entry, which goes on between ACTIVE and PASSIVE. -/
def Dev.canEntered (d : Dev) (c n : Nat) : Dev :=
  if canRuns (d.canState c) && canRuns n then d else d.ccMod c (fun x => { x with stAt := d.now })

/-- The controller shows its state. -/
def Dev.canShown (d : Dev) (c n : Nat) : Dev := ((d.wf (Reg.CAN_STAT c) 29 3 n).canEvt c 2).lvlSet (n == 4) (0x0E02 + 0x10 * c) 0

/-- What follows from a state that is taken. -/
def Dev.canTaken (d : Dev) (c n : Nat) : Dev :=
  let u := if n = 3 then (d.lvlOff (0x0E01 + 0x10 * c) 0).ccMod c (fun x => { x with activeAt := some (x.activeAt.getD d.now) }) else d
  if n = 5 ∨ n = 7 then u.canDiscard c else u

theorem Dev.canGo_of_same {n : Nat} (h : d.canState c = n) : d.canGo c n = d := if_pos h

theorem Dev.canGo_of_ne {n : Nat} (h : d.canState c ≠ n) : d.canGo c n = ((d.canEntered c n).canShown c n).canTaken c n := if_neg h

theorem Dev.canTaken_plain {n : Nat} (h3 : n ≠ 3) (h5 : n ≠ 5) (h7 : n ≠ 7) : d.canTaken c n = d := by
  unfold Dev.canTaken
  rw [if_neg h3, if_neg (fun h => h.elim h5 h7)]

theorem Dev.canTaken_active : d.canTaken c 3 =
    (d.lvlOff (0x0E01 + 0x10 * c) 0).ccMod c (fun x => { x with activeAt := some (x.activeAt.getD d.now) }) := by
  unfold Dev.canTaken
  rw [if_pos rfl, if_neg (by decide)]

theorem Dev.canTaken_off {n : Nat} (h : n = 5 ∨ n = 7) : d.canTaken c n = d.canDiscard c := by
  have h3 : n ≠ 3 := by omega
  unfold Dev.canTaken
  rw [if_neg h3, if_pos h]

theorem Dev.canEntered_anew {n : Nat} (h : ¬ ((d.canState c = 3 ∨ d.canState c = 4) ∧ (n = 3 ∨ n = 4))) :
    d.canEntered c n = d.ccMod c (fun x => { x with stAt := d.now }) := by
  refine if_neg ?_
  unfold canRuns
  simp only [Bool.and_eq_true, Bool.or_eq_true, beq_iff_eq]
  exact h

theorem Dev.canEntered_on {n : Nat} (h : d.canState c = 3 ∨ d.canState c = 4) (hn : n = 3 ∨ n = 4) : d.canEntered c n = d := by
  refine if_pos ?_
  unfold canRuns
  simp only [Bool.and_eq_true, Bool.or_eq_true, beq_iff_eq]
  exact ⟨h, hn⟩

/-- Every state but PASSIVE ends the cause of error passive. -/
theorem Dev.canShown_plain {n : Nat} (h : n ≠ 4) :
    d.canShown c n = ((d.wf (Reg.CAN_STAT c) 29 3 n).canEvt c 2).lvlOff (0x0E02 + 0x10 * c) 0 :=
  if_neg (fun hh => h (beq_iff_eq.1 hh))

theorem Dev.canGo_active {f g : Dev} (h : d.canState c ≠ 3) (hf : d.canEntered c 3 = f)
    (hg : ((f.wf (Reg.CAN_STAT c) 29 3 3).canEvt c 2).lvlOff (0x0E02 + 0x10 * c) 0 = g) : d.canGo c 3 =
    (g.lvlOff (0x0E01 + 0x10 * c) 0).ccMod c (fun x => { x with activeAt := some (x.activeAt.getD g.now) }) := by
  rw [Dev.canGo_of_ne h, hf, Dev.canShown_plain (by decide), hg, Dev.canTaken_active]

theorem Dev.canGo_off {n : Nat} {f g : Dev} (h : d.canState c ≠ n) (hn : n = 5 ∨ n = 7) (hf : d.canEntered c n = f)
    (hg : ((f.wf (Reg.CAN_STAT c) 29 3 n).canEvt c 2).lvlOff (0x0E02 + 0x10 * c) 0 = g) : d.canGo c n = g.canDiscard c := by
  have h4 : n ≠ 4 := by omega
  rw [Dev.canGo_of_ne h, hf, Dev.canShown_plain h4, hg, Dev.canTaken_off hn]

/-! ### Timers (R385–R387, R391) -/

theorem Dev.canTimer_eq (d : Dev) (c : Nat) : d.canTimer c =
    if d.canState c = 2 ∧ (d.cc c).restrAt + d.rf (Reg.CAN_RESTR c) 16 10 * msTicks ≤ d.now then
      (d.ccMod c (fun x => { x with timerDone := true })).canLeave c else d := rfl

theorem Dev.canLeave_of_met (h : d.canState c = 2) (ht : (d.cc c).timerDone = true) (hr : d.rf (Reg.CAN_RESTR c) 0 8 ≤ (d.cc c).rx) :
    d.canLeave c = d.canGo c 3 := if_pos ⟨h, ht, hr⟩

theorem Dev.canLeave_of_few (hr : (d.cc c).rx < d.rf (Reg.CAN_RESTR c) 0 8) : d.canLeave c = d :=
  if_neg (fun h => absurd h.2.2 (Nat.not_le.2 hr))

theorem Dev.canProlonged_eq (d : Dev) (c : Nat) : d.canProlonged c =
    if d.canState c = 2 ∧ (d.cc c).stAt + (if d.rf (Reg.CAN_RESTR c) 16 10 = 0 then 1000 else 10 * d.rf (Reg.CAN_RESTR c) 16 10) * msTicks ≤ d.now ∧
      (d.cc c).prolonged = false then
      (d.ccMod c (fun x => { x with prolonged := true })).occ (0x0E04 + 0x10 * c) 0
    else d := by
  unfold Dev.canProlonged Dev.restrLong
  simp only [Bool.and_eq_true, beq_iff_eq, decide_eq_true_iff, Bool.not_eq_true', and_assoc]

theorem Dev.objLate_iff {i : Nat} : d.objLate c i = true ↔ d.rb (Reg.CAN_OBJ_ID c i) 31 = true ∧ d.rf (Reg.CAN_OBJ_TMO c i) 0 16 ≠ 0 ∧
    d.lvl (0x0E05 + 0x10 * c) i = false ∧ ∃ t, (d.cc c).activeAt = some t ∧
      max t ((aget (d.cc c).objAt i).getD 0) + d.rf (Reg.CAN_OBJ_TMO c i) 0 16 * msTicks ≤ d.now := by
  unfold Dev.objLate
  cases (d.cc c).activeAt with
  | none => simp
  | some t => simp [and_assoc]

end

/-- Settles O53: the entry to a state by which it is, and each timer by its state and time. -/
theorem canControllerStates : Obligations.CanControllerStates := by
  intro s c i hl hc hi d st timed watched restr over' long waited second
  have joined : exec (.integrationComplete c) s = .next ⟨d.canIntegrated c, s.pending⟩ := by
    rw [exec_integrationComplete, State.run_live hl]
  have timer : exec (.restrictedTimer c) s = .next ⟨d.canTimer c, s.pending⟩ := by rw [exec_restrictedTimer, State.run_live hl]
  have slow : exec (.restrictionProlonged c) s = .next ⟨d.canProlonged c, s.pending⟩ := by
    rw [exec_restrictionProlonged, State.run_live hl]
  have wait : exec (.busOffWaitEnd c) s = .next ⟨d.canWaitEnd c, s.pending⟩ := by rw [exec_busOffWaitEnd, State.run_live hl]
  have back : exec (.recoveryComplete c) s = .next ⟨d.canRecovered c, s.pending⟩ := by rw [exec_recoveryComplete, State.run_live hl]
  have reset : exec (.bocntResetTimer c) s = .next ⟨d.canBoReset c, s.pending⟩ := by rw [exec_bocntResetTimer, State.run_live hl]
  have late : exec (.objectTimeout c i) s = .next ⟨d.objTimeout c i, s.pending⟩ := by rw [exec_objectTimeout, State.run_live hl]
  have next {u v : Dev} (h : u = v) : Host.Outcome.next (State.mk u s.pending) = (.next ⟨v, s.pending⟩ : Host.Outcome State Fault Refusal) := by
    rw [h]
  have hwatched : watched ↔ d.objLate c i = true := Dev.objLate_iff.symm
  have hslow : d.canProlonged c = if st = 2 ∧ long ∧ (d.cc c).prolonged = false then
      (d.ccMod c (fun x => { x with prolonged := true })).occ (0x0E04 + 0x10 * c) 0 else d := d.canProlonged_eq c
  refine ⟨fun e h => Dev.canGo_of_same h, fun e n h h3 h5 h7 => ?_, fun e h => ?_, fun e n h hn => ?_, fun e => rfl, fun e => rfl,
    fun h => ?_, fun h => ?_, fun h ho ht hd hr => ?_, fun h ho hr => ?_, fun h => ?_, fun h => ?_, fun h hlong hp => ?_, fun h ha hw => ?_,
    fun h => ?_, fun h => ?_, fun h => ?_, fun h ht => ?_, fun h => ?_, fun h => ?_, fun h => ?_⟩
  · intro f
    refine ⟨fun hn => ?_, fun hn he => ?_⟩
    · rw [Dev.canGo_of_ne h, Dev.canTaken_plain h3 h5 h7, Dev.canEntered_anew (by omega)]
      rfl
    · subst hn
      rw [Dev.canGo_of_ne h, Dev.canTaken_plain h3 h5 h7, Dev.canEntered_on (.inl he) (.inr rfl)]
      rfl
  · intro f g k
    have hf : e.canEntered c 3 = f := by
      by_cases h4 : e.canState c = 4
      · rw [Dev.canEntered_on (.inr h4) (.inl rfl)]
        exact (if_pos h4).symm
      · rw [Dev.canEntered_anew (by omega)]
        exact (if_neg h4).symm
    exact Dev.canGo_active h hf rfl
  · intro f g
    exact Dev.canGo_off h hn (Dev.canEntered_anew (by omega)) rfl
  · rw [joined]
    exact next (if_pos h)
  · rw [joined]
    exact next (if_neg h)
  · rw [timer, Dev.canTimer_eq, if_pos ⟨h, ho⟩]
    exact next (Dev.canLeave_of_met ht hd hr)
  · rw [timer, Dev.canTimer_eq, if_pos ⟨h, ho⟩]
    exact next (Dev.canLeave_of_few hr)
  · rw [timer, Dev.canTimer_eq]
    exact next (if_neg (fun hh => h.elim (· hh.1) (· hh.2)))
  · rw [slow, hslow, if_neg]
    rintro ⟨h2, hlong, hp⟩
    obtain h | h | h := h
    · exact h h2
    · exact h hlong
    · exact Bool.false_ne_true (hp.symm.trans h)
  · rw [slow, hslow, if_pos ⟨h, hlong, hp⟩]
  · rw [wait]
    exact next (if_pos ⟨h, ha, hw⟩)
  · rw [wait]
    refine next (if_neg ?_)
    rintro ⟨h5, ha, hw⟩
    obtain h | h | h := h
    · exact h h5
    · exact Bool.false_ne_true (h.symm.trans ha)
    · exact h hw
  · rw [back]
    exact next (if_pos h)
  · rw [back]
    exact next (if_neg h)
  · rw [reset]
    exact next (if_pos ⟨h, ht⟩)
  · rw [reset]
    refine next (if_neg ?_)
    rintro ⟨hs, ht⟩
    exact h.elim (fun h => hs.elim h.1 h.2) (fun h => h ht)
  · rw [late]
    exact next (if_pos (hwatched.1 h))
  · rw [late]
    exact next (if_neg (fun hh => h (hwatched.2 hh)))

end Sys2Proof.Machine

/-! ## CAN frames and errors -/

namespace Sys2Proof.Machine

set_option Elab.async false

section
variable {d : Dev} {c : Nat}

/-! ### Reception (R386, R389, R396) -/

section
variable {id dlc lec tec rc : Nat} {ide fdf brs esi remote : Bool} {data : List Byte} {tdc : Option Nat}

theorem Dev.canFrame_off (h2 : d.canState c ≠ 2) (hn : ¬ (d.canState c = 3 ∨ d.canState c = 4)) :
    d.canFrame c id ide fdf brs esi remote dlc data tec rc = d := (if_neg h2).trans (if_neg hn)

theorem Dev.canFrame_on (h : d.canState c = 3 ∨ d.canState c = 4) : d.canFrame c id ide fdf brs esi remote dlc data tec rc =
    (((d.canFailed c).canSort c id ide fdf brs esi remote dlc data).canCount c tec rc).canFrameEnd c :=
  (if_neg (by omega)).trans (if_pos h)

theorem Dev.canFrame_restricted (h : d.canState c = 2) : d.canFrame c id ide fdf brs esi remote dlc data tec rc =
    ((d.canSort c id ide fdf brs esi remote dlc data).ccMod c (fun x => { x with rx := x.rx + 1 })).canLeave c := if_pos h

theorem Dev.canSort_object {j : Nat} (h : d.canObj c id ide = some j) : d.canSort c id ide fdf brs esi remote dlc data =
    if remote then d else d.canStore c j fdf brs esi dlc data := by
  unfold Dev.canSort
  rw [h]

theorem Dev.canSort_port {p : Nat} (h : d.canObj c id ide = none) (hp : d.canCmdPort c id ide = some p) :
    d.canSort c id ide fdf brs esi remote dlc data = d.portCmd c p (fdf && !remote) (data.take (dlcBytes fdf dlc)) := by
  unfold Dev.canSort
  rw [h, hp]

theorem Dev.canSort_none (h : d.canObj c id ide = none) (hp : d.canCmdPort c id ide = none) :
    d.canSort c id ide fdf brs esi remote dlc data = if d.canOwnId c id ide then d else d.wsat (Reg.CAN_DROP c) 16 16 := by
  unfold Dev.canSort
  rw [h, hp]

theorem Dev.portCmd_eq (d : Dev) (c p : Nat) (fdf : Bool) (data : List Byte) : d.portCmd c p fdf data =
    if fdf = false ∨ d.portUp p = false ∨ 4 ≤ (tget d.cport p).cmdQ.length then
      ((d.wsat (Reg.CAN_DROP c) 0 16).wsat (Reg.CAN_PORT_STAT p) 16 16).occ (0x0E06 + 0x10 * c) 0
    else d.cpMod p (fun q => { q with cmdQ := q.cmdQ ++ [data] }) := by
  unfold Dev.portCmd Dev.portDrop
  simp only [Bool.or_eq_true, Bool.not_eq_true', decide_eq_true_iff, or_assoc]

/-! ### Errors (R383, R386, R387) -/

/-- An error in RESTRICTED: its code, one more, and the timer anew. -/
def Dev.canErred (d : Dev) (c lec : Nat) : Dev :=
  (d.wf (Reg.CAN_ERR c) 16 4 lec).ccMod c (fun x => { x with errs := (d.cc c).errs + 1, restrAt := d.now, timerDone := false })

theorem Dev.canError_off (h2 : d.canState c ≠ 2) (hn : ¬ (d.canState c = 3 ∨ d.canState c = 4)) :
    d.canError c lec tec rc tdc = d := (if_neg h2).trans (if_neg hn)

theorem Dev.canError_restricted (h : d.canState c = 2) : d.canError c lec tec rc tdc =
    if (d.canErred c lec).rf (Reg.CAN_RESTR c) 8 8 ≤ (d.cc c).errs + 1 then ((d.canErred c lec).canGo c 7).occ (0x0E03 + 0x10 * c) 0
    else d.canErred c lec := if_pos h

theorem Dev.canError_on (h : d.canState c = 3 ∨ d.canState c = 4) : d.canError c lec tec rc tdc =
    ((((d.wf (Reg.CAN_ERR c) 16 4 lec).canTdcErr c tdc).canFailed c).canCount c tec rc).canFrameEnd c :=
  (if_neg (by omega)).trans (if_pos h)

theorem Dev.canTdcErr_of_some {m : CanSend} {n : Nat} (h : (d.cc c).sending = some m) (hn : tdc = some n) :
    d.canTdcErr c tdc = d.canTdc c m n := by
  unfold Dev.canTdcErr
  rw [h, hn]

theorem Dev.canTdcErr_of_none (h : (d.cc c).sending = none ∨ tdc = none) : d.canTdcErr c tdc = d := by
  unfold Dev.canTdcErr
  split
  · next m n hs => exact absurd h (by rw [hs]; simp)
  · rfl

/-- The error counters as the controller shows them. -/
def Dev.canCounters (d : Dev) (c tec rc : Nat) : Dev :=
  (d.wf (Reg.CAN_STAT c) 8 8 (min tec 255)).wf (Reg.CAN_STAT c) 16 8 (min rc 255)

/-- A bus-off has been counted, and its cause holds. -/
def Dev.canBusOff (d : Dev) (c : Nat) : Dev :=
  ((d.wf (Reg.CAN_STAT c) 0 8 (min 255 (d.rf (Reg.CAN_STAT c) 0 8 + 1))).wsat (Reg.CAN_ERR c) 0 16).lvlOn (0x0E01 + 0x10 * c) 0

theorem Dev.canCount_low (h : d.canState c = 3 ∨ d.canState c = 4) (ht : tec ≤ 255) :
    d.canCount c tec rc = (d.canCounters c tec rc).canGo c (if 128 ≤ tec ∨ 128 ≤ rc then 4 else 3) :=
  (if_pos h).trans (if_neg (Nat.not_lt.2 ht))

theorem Dev.canCount_high (h : d.canState c = 3 ∨ d.canState c = 4) (ht : 255 < tec) : d.canCount c tec rc =
    if ((d.canCounters c tec rc).canBusOff c).rf (Reg.CAN_BO c) 0 8 ≤ min 255 ((d.canCounters c tec rc).rf (Reg.CAN_STAT c) 0 8 + 1) then
      (((d.canCounters c tec rc).canBusOff c).canGo c 7).occ (0x0E07 + 0x10 * c) 0
    else ((d.canCounters c tec rc).canBusOff c).canGo c 5 := (if_pos h).trans (if_pos ht)

end

/-! ### Transmission (R392, R393) -/

/-- The winner is one of the candidates, and none has a lower key. -/
theorem Dev.winner_least {m : CanSend} : ∀ {l : List CanSend}, d.winner c l = some m →
    m ∈ l ∧ ∀ x ∈ l, d.sendKey c m ≤ d.sendKey c x
  | [], h => by cases h
  | y :: l, h => by
    unfold Dev.winner at h
    cases hw : d.winner c l with
    | none =>
      have hl : l = [] := by
        cases l with
        | nil => rfl
        | cons z l =>
          unfold Dev.winner at hw
          split at hw
          · cases hw
          · split at hw <;> cases hw
      rw [hw] at h
      cases h
      subst hl
      simp
    | some x =>
      obtain ⟨hx, hmin⟩ := Dev.winner_least hw
      simp only [hw] at h
      split at h
      · next hlt =>
        cases h
        refine ⟨List.mem_cons_of_mem _ hx, fun z hz => ?_⟩
        obtain rfl | hz := List.mem_cons.1 hz
        · exact Nat.le_of_lt hlt
        · exact hmin z hz
      · next hge =>
        cases h
        refine ⟨List.mem_cons_self, fun z hz => ?_⟩
        obtain rfl | hz := List.mem_cons.1 hz
        · exact Nat.le_refl _
        · exact Nat.le_trans (Nat.not_lt.1 hge) (hmin z hz)

theorem Dev.canStart_of_not (h : ¬ (d.canState c = 3 ∨ d.canState c = 4) ∨ (d.cc c).sending ≠ none ∨ d.candidates c = []) :
    d.canStart c = d := by
  unfold Dev.canStart
  split
  · next ho =>
    have hc : d.candidates c = [] := (h.resolve_left (not_not.2 ho.1)).resolve_left (not_not.2 ho.2)
    rw [hc]
    rfl
  · rfl

theorem Dev.canStart_of_winner {m : CanSend} (h : d.canState c = 3 ∨ d.canState c = 4) (hs : (d.cc c).sending = none)
    (hw : d.winner c (d.candidates c) = some m) : d.canStart c = (d.takeMsg c m).ccMod c (fun x => { x with sending := some m }) := by
  unfold Dev.canStart
  rw [if_pos ⟨h, hs⟩, hw]

/-- The frame under way is over, and its transmitter delay shows. -/
def Dev.canOver (d : Dev) (c : Nat) (m : CanSend) (n : Nat) : Dev :=
  (d.ccMod c (fun x => { x with sending := none, cancel := false })).canTdc c m n

theorem Dev.canSent_none {tec rc n : Nat} (h : (d.cc c).sending = none) : d.canSent c tec rc n = d := by
  unfold Dev.canSent
  rw [h]

theorem Dev.canSent_buf {tec rc n j : Nat} (h : (d.cc c).sending = some (.buf j)) : d.canSent c tec rc n =
    (((((((d.canOver c (.buf j) n).wb (Reg.CAN_TXREQ c) j false).wb (Reg.CAN_TXDONE c) j true).rset (Reg.CAN_TX_TS c j)
      (BitVec.ofNat 32 (d.canOver c (.buf j) n).stamp)).canEvt c 1).canCount c tec rc).canFrameEnd c) := by
  unfold Dev.canSent
  rw [h]
  rfl

theorem Dev.canSent_message {m : CanSend} {tec rc n : Nat} (h : (d.cc c).sending = some m) (hm : ∀ j, m ≠ .buf j) :
    d.canSent c tec rc n = ((d.canOver c m n).canCount c tec rc).canFrameEnd c := by
  unfold Dev.canSent
  rw [h]
  cases m with
  | buf j => exact absurd rfl (hm j)
  | reply p bs => rfl
  | notice p bs => rfl

theorem Dev.canTdc_of_brs {m : CanSend} {n : Nat} (h : d.rb (Reg.CAN_DBT c) 31 = true) (hb : d.sendsBrs c m = true) :
    d.canTdc c m n = (d.wf (Reg.CAN_ERR c) 24 8 (min n 127)).occIf (decide (127 < n)) (0x0E08 + 0x10 * c) 0 :=
  if_pos (by rw [h, hb]; rfl)

theorem Dev.canTdc_of_not {m : CanSend} {n : Nat} (h : d.rb (Reg.CAN_DBT c) 31 = false ∨ d.sendsBrs c m = false) :
    d.canTdc c m n = d := by
  refine if_neg ?_
  obtain h | h := h <;> rw [h] <;> simp

/-! ### The read of a header (R390) -/

theorem Dev.hdrRead_of_old {h i : Nat} (ho : aget (d.cc c).objAt i ≠ some d.now) : d.hdrRead h c i =
    ((d.ccMod c (fun x => { x with shadow := tset x.shadow h (some (i, d.rget (Reg.CAN_OBJ_TS c i),
      (List.range 16).map (fun w => d.rget (Reg.CAN_OBJ_D c i w)))) })).wb (Reg.CAN_OBJ_HDR c i) 31 false).wb
        (Reg.CAN_RXNEW c (i / 32)) (i % 32) false := by
  have hf : d.objFresh c i = false := beq_eq_false_iff_ne.2 ho
  unfold Dev.hdrRead Dev.objShown
  simp only [hf, Bool.false_eq_true, if_false]

theorem Dev.hdrRead_of_fresh {h i : Nat} (ho : aget (d.cc c).objAt i = some d.now) : d.hdrRead h c i =
    ((d.ccMod c (fun x => { x with shadow := tset x.shadow h (some (i, d.before (Reg.CAN_OBJ_TS c i),
      (List.range 16).map (fun w => d.before (Reg.CAN_OBJ_D c i w)))) })).wb (Reg.CAN_OBJ_HDR c i) 30
        (bget (d.before (Reg.CAN_OBJ_HDR c i)) 30)).wb
        (Reg.CAN_RXLOST c (i / 32)) (i % 32) (bget (d.before (Reg.CAN_RXLOST c (i / 32))) (i % 32)) := by
  have hf : d.objFresh c i = true := beq_iff_eq.2 ho
  unfold Dev.hdrRead Dev.objShown
  simp only [hf, if_true]

end

theorem Dev.wb_stamp (d : Dev) (a i : Nat) (b : Bool) : (d.wb a i b).stamp = d.stamp := rfl

/-- Settles O54: a frame by the controller's state and what it matches, the frame to send by its key, errors by their counts. -/
theorem canFramesAndErrors : Obligations.CanFramesAndErrors := by
  intro s c i h id dlc lec tec rc ide fdf brs esi remote data tdc n hl hc hi hh d st frame on counted
  have frm : frame = .next ⟨d.canFrame c id ide fdf brs esi remote dlc data tec rc, s.pending⟩ := by
    unfold frame
    rw [exec_canFrameReceived, State.run_live hl]
  have err : exec (.canError c lec tec rc tdc) s = .next ⟨d.canError c lec tec rc tdc, s.pending⟩ := by
    rw [exec_canError, State.run_live hl]
  have start : exec (.canFrameStart c) s = .next ⟨d.canStart c, s.pending⟩ := by rw [exec_canFrameStart, State.run_live hl]
  have sent : exec (.transmitComplete c tec rc n) s = .next ⟨d.canSent c tec rc n, s.pending⟩ := by
    rw [exec_transmitComplete, State.run_live hl]
  have head : exec (.objectHeaderRead h c i) s = .next ⟨d.hdrRead h c i, s.pending⟩ := by rw [exec_objectHeaderRead, State.run_live hl]
  refine ⟨fun h2 hn => ⟨?_, ?_⟩, fun ho => ?_, fun h2 => ?_, fun e j hj => ?_, fun e p hj hp => ?_, fun e j hj => ?_,
    fun e p hj hp hf hu hq => ?_, fun e p hj hp hd => ?_, fun e hj hp ho => ?_, fun e hj hp ho => ?_, fun h => ?_, fun m ho hs hw => ?_,
    fun hs => ?_, fun j hs => ?_, fun h2 hr => ?_, fun h2 hr => ?_, fun ho => ?_, fun e ho => ?_, fun e m => ?_,
    fun e => ⟨fun m x hm hx => Dev.canTdcErr_of_some hm hx, fun h => Dev.canTdcErr_of_none h⟩, fun m hs hm => ?_, fun ho => ?_, fun ho => ?_⟩
  · rw [frm, Dev.canFrame_off h2 hn]
  · rw [err, Dev.canError_off h2 hn]
  · rw [frm, Dev.canFrame_on ho]
  · rw [frm, Dev.canFrame_restricted h2]
  · rw [Dev.canSort_object hj, if_pos rfl]
  · rw [Dev.canSort_port hj hp, Dev.portCmd_eq, if_pos (.inl (Bool.and_false _))]
  · rw [Dev.canSort_object hj, if_neg Bool.false_ne_true]
  · rw [Dev.canSort_port hj hp, Dev.portCmd_eq, if_neg]
    rw [hf, hu]
    simp [hq]
  · rw [Dev.canSort_port hj hp, Dev.portCmd_eq, if_pos]
    rw [Bool.not_false, Bool.and_true]
    exact hd
  · rw [Dev.canSort_none hj hp, if_neg (Bool.eq_false_iff.1 ho)]
  · rw [Dev.canSort_none hj hp, if_pos ho]
  · rw [start, Dev.canStart_of_not h]
  · obtain ⟨hm, hmin⟩ := Dev.winner_least hw
    refine ⟨hm, hmin, ?_⟩
    rw [start, Dev.canStart_of_winner ho hs hw]
  · rw [sent, Dev.canSent_none hs]
  · intro u v
    have hv : v.stamp = (d.canOver c (.buf j) n).stamp := by
      unfold v u
      rw [Dev.wb_stamp, Dev.wb_stamp]
      rfl
    rw [sent, Dev.canSent_buf hs, hv]
    rfl
  · rw [err, Dev.canError_restricted h2]
    exact congrArg (fun u => Host.Outcome.next (State.mk u s.pending)) (if_pos hr)
  · rw [err, Dev.canError_restricted h2]
    exact congrArg (fun u => Host.Outcome.next (State.mk u s.pending)) (if_neg (Nat.not_le.2 hr))
  · rw [err, Dev.canError_on ho]
  · intro f b g
    refine ⟨fun ht => Dev.canCount_low ho ht, fun ht hb => ?_, fun ht hb => ?_⟩
    · exact (Dev.canCount_high ho ht).trans (if_neg (Nat.not_le.2 hb))
    · exact (Dev.canCount_high ho ht).trans (if_pos hb)
  · intro brs
    have hb : e.sendsBrs c m = brs := by cases m <;> rfl
    exact ⟨fun hd h => Dev.canTdc_of_brs hd (hb.trans h), fun h => Dev.canTdc_of_not (h.imp_right hb.trans)⟩
  · rw [sent, Dev.canSent_message hs hm]
    rfl
  · rw [head, Dev.hdrRead_of_old ho]
  · rw [head, Dev.hdrRead_of_fresh ho]

end Sys2Proof.Machine

/-! ## Tamper, key and attestation -/

namespace Sys2Proof.Machine

set_option Elab.async false

/-! ### What a completion leaves alone -/

theorem Dev.notice_keeps (d : Dev) (p : Nat) (bs : List Byte) :
    (d.notice p bs).now = d.now ∧ (d.notice p bs).freeCtr = d.freeCtr ∧ (d.notice p bs).power = d.power ∧
    (d.notice p bs).pins = d.pins ∧ (d.notice p bs).dstate = d.dstate ∧ (d.notice p bs).ax = d.ax ∧
    (d.notice p bs).sram = d.sram ∧ (d.notice p bs).poison = d.poison ∧ (d.notice p bs).events = d.events ∧
    (d.notice p bs).topo = d.topo ∧ (d.notice p bs).clk = d.clk ∧ (d.notice p bs).pwm = d.pwm ∧ (d.notice p bs).sw = d.sw ∧
    (d.notice p bs).flt = d.flt ∧ (d.notice p bs).ce = d.ce ∧ (d.notice p bs).dcl = d.dcl ∧ (d.notice p bs).aux = d.aux ∧
    (d.notice p bs).safe = d.safe ∧ (d.notice p bs).therm = d.therm ∧ (d.notice p bs).img = d.img ∧
    (d.notice p bs).hosts = d.hosts ∧ (d.notice p bs).can = d.can ∧ (d.notice p bs).prs = d.prs ∧
    (d.notice p bs).sec = d.sec ∧ (d.notice p bs).tap = d.tap ∧ (d.notice p bs).boot = d.boot ∧ (d.notice p bs).rgr = d.rgr := by
  unfold Dev.notice
  split_ifs
  · simp
  · simp
  · refine ⟨?_, ?_, ?_, ?_, ?_, ?_, ?_, ?_, ?_, ?_, ?_, ?_, ?_, ?_, ?_, ?_, ?_, ?_, ?_, ?_, ?_, ?_, ?_, ?_, ?_, ?_, ?_⟩ <;> rfl

/-- A completion reaches the rings, the registers, the events and the notices only. -/
theorem Dev.complete_keeps (d : Dev) (c : Cmd) (st : Nat) (r : List Byte) :
    (d.complete c st r).now = d.now ∧ (d.complete c st r).power = d.power ∧ (d.complete c st r).dstate = d.dstate ∧
    (d.complete c st r).ax = d.ax ∧ (d.complete c st r).flt = d.flt ∧ (d.complete c st r).sec = d.sec ∧
    (d.complete c st r).therm = d.therm ∧ (d.complete c st r).img = d.img ∧ (d.complete c st r).prs = d.prs ∧
    (d.complete c st r).boot = d.boot ∧ (d.complete c st r).rgr = d.rgr := by
  unfold Dev.complete
  extract_lets h i n irq d1 d2 d3 d4 d5 d6
  have h4 : d4.now = d.now ∧ d4.power = d.power ∧ d4.dstate = d.dstate ∧ d4.ax = d.ax ∧ d4.flt = d.flt ∧ d4.sec = d.sec ∧
      d4.therm = d.therm ∧ d4.img = d.img ∧ d4.prs = d.prs ∧ d4.boot = d.boot ∧ d4.rgr = d.rgr := by
    simp [d4, d3, d2, d1, Dev.setCmds, Dev.hpMod]
  have h5 : d5.now = d.now ∧ d5.power = d.power ∧ d5.dstate = d.dstate ∧ d5.ax = d.ax ∧ d5.flt = d.flt ∧ d5.sec = d.sec ∧
      d5.therm = d.therm ∧ d5.img = d.img ∧ d5.prs = d.prs ∧ d5.boot = d.boot ∧ d5.rgr = d.rgr := by
    simp only [d5]
    split <;> simp [h4]
  have h6 : d6.now = d.now ∧ d6.power = d.power ∧ d6.dstate = d.dstate ∧ d6.ax = d.ax ∧ d6.flt = d.flt ∧ d6.sec = d.sec ∧
      d6.therm = d.therm ∧ d6.img = d.img ∧ d6.prs = d.prs ∧ d6.boot = d.boot ∧ d6.rgr = d.rgr := by
    simp only [d6]
    split <;> simp [Dev.notice_keeps, h5]
  simp [h6]

theorem Dev.completeRun_sec (d : Dev) (p : Cmd → Bool) (st : Nat) (r : List Byte) : (d.completeRun p st r).sec = d.sec :=
  foldl_view (·.sec) _ (fun e c => (e.complete_keeps c st r).2.2.2.2.2.1) _ d

section
variable {d : Dev} {k : Nat}

theorem Dev.lvlAgain_sec (d : Dev) (code src : Nat) : (d.lvlAgain code src).sec = d.sec := by
  unfold Dev.lvlAgain
  split
  · rfl
  · simp

theorem Dev.attEnd_sec (d : Dev) (code st : Nat) : (d.attEnd code st).sec = { d.sec with att := none } := by
  have hw : ((d.wb Reg.SEC_ATT 31 false).wf Reg.SEC_ATT 24 2 code).sec = d.sec := by simp
  unfold Dev.attEnd
  extract_lets u
  rw [Dev.completeRun_sec]
  exact congrArg (fun x : Sec => { x with att := none }) hw

theorem Dev.attZero_sec (d : Dev) : d.attZero.sec = d.sec := by simp [Dev.attZero]

/-! ### Alarms (R409, R410, R414) -/

/-- The key store is cleared, and by policy the seed erased. -/
def Dev.tamperErased (d : Dev) (k : Nat) : Dev :=
  d.secMod (fun x => { x with key := none, deriv := false, barred := true
                              seed := if bget (BitVec.ofNat 32 (d.sec.policy.getD 0)) k then none else x.seed })

/-- An attestation that runs has ended. -/
def Dev.tamperCut (d : Dev) (k : Nat) : Dev :=
  if d.sec.att.isSome then ((d.tamperErased k).attZero).attEnd 2 stState else d.tamperErased k

/-- The source is marked and counted. -/
def Dev.tamperMarked (d : Dev) (k : Nat) : Dev := ((d.wb Reg.SEC_TAMPER k true).wsat Reg.SEC_TCNT 0 16).ev 0x04

theorem Dev.tamperOne_eq (d : Dev) (k : Nat) : d.tamperOne k =
    if k = 5 then ((d.tamperCut k).tamperMarked k).occ 0x0210 k else ((d.tamperCut k).tamperMarked k).lvlAgain 0x0210 k := rfl

theorem Dev.tamperCut_of_none (h : d.sec.att = none) : d.tamperCut k = d.tamperErased k := if_neg (by rw [h]; decide)

theorem Dev.tamperCut_of_some (h : d.sec.att.isSome = true) : d.tamperCut k = ((d.tamperErased k).attZero).attEnd 2 stState := if_pos h

theorem Dev.tamperCut_sec (d : Dev) (k : Nat) : (d.tamperCut k).sec.resp = d.sec.resp ∧ (d.tamperCut k).sec.att = none := by
  unfold Dev.tamperCut
  split
  · rw [Dev.attEnd_sec, Dev.attZero_sec]
    exact ⟨rfl, rfl⟩
  · next h => exact ⟨rfl, Option.not_isSome_iff_eq_none.1 h⟩

/-- An alarm leaves an unlock in progress, and no attestation. -/
theorem Dev.tamperOne_sec (d : Dev) (k : Nat) : (d.tamperOne k).sec.resp = d.sec.resp ∧ (d.tamperOne k).sec.att = none := by
  have hm : ((d.tamperCut k).tamperMarked k).sec = (d.tamperCut k).sec := by simp [Dev.tamperMarked]
  have ho : (d.tamperOne k).sec = (d.tamperCut k).sec := by
    rw [Dev.tamperOne_eq]
    split
    · rw [← hm]
      simp
    · rw [Dev.lvlAgain_sec, hm]
  rw [ho]
  exact d.tamperCut_sec k

theorem Dev.tamper_of_none (h : d.sec.resp = none) : d.tamper k = d.tamperOne k := by
  refine if_neg ?_
  rw [(d.tamperOne_sec k).1, h]
  decide

/-- An alarm that an unlock in progress is refused with. -/
def Dev.tamperRefused (d : Dev) (k : Nat) : Dev := (d.tamperOne k).secMod (fun x => { x with resp := none })

theorem Dev.tamper_of_some {r : List Byte × List Byte} (h : d.sec.resp = some r) : d.tamper k =
    if (d.tamperRefused k).noEntropy then d.tamperRefused k else (d.tamperRefused k).tamperOne 5 := by
  refine if_pos ?_
  rw [(d.tamperOne_sec k).1, h]
  rfl

theorem allZero_iff {c : List Byte} : allZero c = true ↔ ∀ b ∈ c, b = 0 := by
  unfold allZero
  simp only [List.all_eq_true, beq_iff_eq]

theorem Dev.noEntropy_iff : d.noEntropy = true ↔ d.rb Reg.SEC_STAT 26 = false ∨ ∃ c, d.sec.chal = some c ∧ ∀ b ∈ c, b = 0 := by
  unfold Dev.noEntropy
  cases d.sec.chal with
  | none => simp
  | some c => simp [allZero_iff]

/-- The alarm of a refused response finds no attestation. -/
theorem Dev.tamperRefused_alarm (d : Dev) (k : Nat) : (d.tamperRefused k).tamperOne 5 =
    (((d.tamperRefused k).tamperErased 5).tamperMarked 5).occ 0x0210 5 := by
  have ha : (d.tamperRefused k).sec.att = none := (d.tamperOne_sec k).2
  rw [Dev.tamperOne_eq, Dev.tamperCut_of_none ha, if_pos rfl]

/-! ### Keys and signatures (R401–R406) -/

theorem Dev.keyDerived_of_not (h : d.sec.deriv = false ∨ d.sec.seed = none) : d.keyDerived = d := by
  unfold Dev.keyDerived
  split
  · next hd hs =>
    obtain h | h := h
    · rw [h] at hd
      cases hd
    · rw [h] at hs
      cases hs
  · rfl

theorem Dev.keyDerived_of_seed {seed : List Byte} {crc : Word} (hd : d.sec.deriv = true) (hs : d.sec.seed = some (seed, crc)) :
    d.keyDerived = (d.secMod (fun x => { x with deriv := false, key := some (keyOf seed) })).showKey (keyOf seed) := by
  unfold Dev.keyDerived
  rw [hd, hs]

theorem Dev.deriveStart_of_barred (h : d.sec.barred = true) : d.deriveStart = d := if_pos h

theorem Dev.deriveStart_of_none (h : d.sec.barred = false) (hs : d.sec.seed = none) : d.deriveStart = d.occ 0x0211 0 := by
  unfold Dev.deriveStart
  rw [if_neg (Bool.eq_false_iff.1 h), hs]

theorem Dev.deriveStart_of_some {x : List Byte × Word} (h : d.sec.barred = false) (hs : d.sec.seed = some x) : d.deriveStart =
    if crc32c x.1 = x.2 then d.secMod (fun s => { s with deriv := true }) else d.occ 0x0212 0 := by
  unfold Dev.deriveStart
  rw [if_neg (Bool.eq_false_iff.1 h), hs]
  simp only [seedSound, beq_iff_eq]

theorem Dev.attSigned_of_none (h : d.sec.att = none) : d.attSigned = d := by
  unfold Dev.attSigned
  rw [h]

theorem Dev.attSigned_of_some {key r : List Byte} (h : d.sec.att = some (key, r)) : d.attSigned =
    ((((d.mwrite attSig (attSignature key r)).unpoison attSig 17088).attEnd 0 stOk).ev 0x06) := by
  unfold Dev.attSigned
  rw [h]

end

/-- Settles O55: an alarm by what it cuts short, a derivation by its seed, a signature by its attestation. -/
theorem tamperKeyAndAttestation : Obligations.TamperKeyAndAttestation := by
  intro s k hl hk d erased marked
  have alarm : exec (.tamperAlarm k) s = .next ⟨d.tamper k, s.pending⟩ := by rw [exec_tamperAlarm, State.run_live hl]
  have derived : exec .keyDerived s = .next ⟨d.keyDerived, s.pending⟩ := by rw [exec_keyDerived, State.run_live hl]
  have signed : exec .attestSignatureComplete s = .next ⟨d.attSigned, s.pending⟩ := by
    rw [exec_attestSignatureComplete, State.run_live hl]
  refine ⟨fun hr ha h5 => ?_, fun hr ha h5 => ?_, fun hr ha h5 => ?_, fun r hr => ?_, fun h => ?_, fun seed crc hd hs => ?_,
    fun e => ⟨fun h => Dev.deriveStart_of_barred h, fun h hs => Dev.deriveStart_of_none h hs, fun seed crc h hs => ⟨fun hc => ?_, fun hc => ?_⟩⟩,
    fun h => ?_, fun key r h => ?_⟩
  · rw [alarm, Dev.tamper_of_none hr, Dev.tamperOne_eq, Dev.tamperCut_of_none ha, if_neg h5]
    rfl
  · rw [alarm, Dev.tamper_of_none hr, Dev.tamperOne_eq, Dev.tamperCut_of_none ha, if_pos h5]
    rfl
  · rw [alarm, Dev.tamper_of_none hr, Dev.tamperOne_eq, Dev.tamperCut_of_some ha, if_neg h5]
    rfl
  · intro cut0 cut one e dead again
    have he : d.tamperRefused k = e := rfl
    have hdead : dead ↔ e.noEntropy = true := Dev.noEntropy_iff.symm
    refine ⟨fun h => ?_, fun h => ?_⟩
    · rw [alarm, Dev.tamper_of_some hr, he, if_pos (hdead.1 h)]
    · rw [alarm, Dev.tamper_of_some hr, Dev.tamperRefused_alarm, he, if_neg (fun hh => h (hdead.2 hh))]
      rfl
  · rw [derived, Dev.keyDerived_of_not h]
  · rw [derived, Dev.keyDerived_of_seed hd hs]
    rfl
  · rw [Dev.deriveStart_of_some h hs, if_pos hc]
  · rw [Dev.deriveStart_of_some h hs, if_neg hc]
  · rw [signed, Dev.attSigned_of_none h]
  · rw [signed, Dev.attSigned_of_some h]
    rfl

end Sys2Proof.Machine

/-! ## Provisioning and the test port -/

namespace Sys2Proof.Machine

set_option Elab.async false

theorem State.runTap_up {s : State} (h : s.dev.power.ioUp = true) (f : Dev → Dev) : s.runTap f = .next ⟨f s.dev, s.pending⟩ := by
  unfold State.runTap
  rw [if_pos h]

theorem State.runTap_down {s : State} (h : s.dev.power.ioUp = false) (f : Dev → Dev) : s.runTap f = .next s := by
  unfold State.runTap
  rw [if_neg (Bool.eq_false_iff.1 h)]

section
variable {d : Dev}

/-! ### Provisioning (R404) -/

theorem Dev.provOk_iff : d.provOk = true ↔ d.dstate = .lockout ∧ d.sec.lock = false := by
  unfold Dev.provOk
  rw [Bool.and_eq_true, beq_iff_eq, Bool.not_eq_true']

theorem Dev.prov_refused (h : d.provOk = false) (hash seed : List Byte) (policy : Byte) (ok : Bool) :
    d.provHash hash = d.tapBypass ∧ d.provPolicy policy = d.tapBypass ∧ d.provIdent ok seed = d.tapBypass ∧ d.provLock = d.tapBypass := by
  have hn := Bool.eq_false_iff.1 h
  exact ⟨if_neg hn, if_neg hn, if_neg hn, if_neg hn⟩

theorem Dev.provHash_of_some {hash h : List Byte} (ho : d.provOk = true) (hk : d.sec.keyHash = some h) :
    d.provHash hash = d.tapGo 0x30 h := by
  have hs : some (d.sec.keyHash.getD (padTo 32 hash)) = d.sec.keyHash := by
    rw [hk]
    rfl
  unfold Dev.provHash Dev.secMod
  rw [if_pos ho]
  dsimp only
  rw [hs]
  show d.tapGo 0x30 (d.sec.keyHash.getD []) = d.tapGo 0x30 h
  rw [hk]
  rfl

theorem Dev.provHash_of_none {hash : List Byte} (ho : d.provOk = true) (hk : d.sec.keyHash = none) :
    d.provHash hash = (d.secMod (fun x => { x with keyHash := some (padTo 32 hash) })).tapGo 0x30 (padTo 32 hash) := by
  unfold Dev.provHash Dev.secMod
  rw [if_pos ho]
  dsimp only
  rw [hk]
  rfl

theorem Dev.provPolicy_of_some {policy : Byte} {p : Nat} (ho : d.provOk = true) (hk : d.sec.policy = some p) :
    d.provPolicy policy = d.tapGo 0x31 (beBytes 1 p) := by
  have hs : some (d.sec.policy.getD policy.toNat) = d.sec.policy := by
    rw [hk]
    rfl
  unfold Dev.provPolicy Dev.secMod
  rw [if_pos ho]
  dsimp only
  rw [hs]
  show d.tapGo 0x31 (beBytes 1 (d.sec.policy.getD 0)) = d.tapGo 0x31 (beBytes 1 p)
  rw [hk]
  rfl

theorem Dev.provPolicy_of_none {policy : Byte} (ho : d.provOk = true) (hk : d.sec.policy = none) :
    d.provPolicy policy = (d.secMod (fun x => { x with policy := some policy.toNat })).tapGo 0x31 (beBytes 1 policy.toNat) := by
  unfold Dev.provPolicy Dev.secMod
  rw [if_pos ho]
  dsimp only
  rw [hk]
  rfl

/-- A seed is stored with its CRC, and, unless derivations are barred, its key. -/
def Dev.identStored (d : Dev) (sd key : List Byte) : Dev :=
  d.secMod (fun x => { x with seed := some (sd, crc32c sd), key := if x.barred then none else some key })

theorem Dev.provIdent_good {seed sd key : List Byte} {ent : Dev} (ho : d.provOk = true) (hsd : padTo 48 seed = sd) (hkey : keyOf sd = key)
    (he : d.entropy true = ent) : d.provIdent true seed = ((ent.identStored sd key).showKey key).tapGo 0x32 (publicKey key) := by
  subst hsd hkey he
  unfold Dev.provIdent
  rw [if_pos ho, if_pos rfl]
  rfl

theorem Dev.provIdent_bad {seed : List Byte} {ent : Dev} (ho : d.provOk = true) (he : d.entropy false = ent) :
    ∃ out : List Byte, out.length = 32 ∧ d.provIdent false seed = (ent.tick1).tapGo 0x32 out := by
  subst he
  refine ⟨(List.range 32).map (fun i => BitVec.ofNat 8 (Config.freeNat (0x40400 + i) (d.entropy false).freeCtr)), ?_, ?_⟩
  · rw [List.length_map, List.length_range]
  · unfold Dev.provIdent
    rw [if_pos ho, if_neg Bool.false_ne_true]

theorem Dev.provLock_ok (ho : d.provOk = true) : d.provLock =
    (d.secMod (fun x => { x with lock := true })).tapGo 0x33 (beBytes 4 (d.secMod (fun x => { x with lock := true })).secStat.toNat) :=
  if_pos ho

/-! ### The chain (R412, R413) -/

/-- A bit of a number that is put together bit by bit. -/
theorem testBit_foldl_range (f : Nat → Bool) : ∀ n, (List.range n).foldl (fun x k => x + (f k).toNat * 2 ^ k) 0 < 2 ^ n ∧
    ∀ j < n, ((List.range n).foldl (fun x k => x + (f k).toNat * 2 ^ k) 0).testBit j = f j
  | 0 => ⟨by simp, fun j h => absurd h (Nat.not_lt_zero j)⟩
  | n + 1 => by
    obtain ⟨hlt, hbit⟩ := testBit_foldl_range f n
    rw [List.range_succ, List.foldl_append]
    simp only [List.foldl_cons, List.foldl_nil]
    generalize (List.range n).foldl (fun x k => x + (f k).toNat * 2 ^ k) 0 = x at hlt hbit ⊢
    have hb : (f n).toNat ≤ 1 := Bool.toNat_le (f n)
    refine ⟨?_, fun j hj => ?_⟩
    · have := Nat.mul_le_mul_right (2 ^ n) hb
      rw [Nat.pow_succ]
      omega
    · rw [Nat.add_comm, Nat.mul_comm, Nat.testBit_two_pow_mul_add _ hlt]
      by_cases h : j < n
      · rw [if_pos h, hbit j h]
      · obtain rfl : j = n := by omega
        rw [if_neg h, Nat.sub_self]
        cases f j <;> rfl

theorem Dev.captured_length (d : Dev) (levels : List Bool) (n : Nat) : (d.captured levels n).length = (n + 7) / 8 := by
  unfold Dev.captured
  rw [List.length_map, List.length_range]

/-- What a cell has captured shifts out at its place. -/
theorem Dev.captured_bit (d : Dev) (levels : List Bool) {n j : Nat} (hj : j < n) :
    ((d.captured levels n).getD (j / 8) 0).getLsbD (j % 8) = d.capturedBit levels j := by
  have hi : j / 8 < (n + 7) / 8 := by omega
  have hk : j % 8 < 8 := Nat.mod_lt _ (by omega)
  have hj8 : 8 * (j / 8) + j % 8 = j := Nat.div_add_mod j 8
  unfold Dev.captured
  rw [List.getD_eq_getElem?_getD, List.getElem?_map, List.getElem?_range hi, Option.map_some, Option.getD_some,
    BitVec.getLsbD_ofNat, (testBit_foldl_range _ 8).2 _ hk, hj8, decide_eq_true hk, decide_eq_true hj]
  rfl

/-- The pin instructions are accepted in LOCKOUT or with `TEST_MODE` high. -/
theorem Dev.scanOk_iff : d.scanOk = true ↔ d.dstate = .lockout ∨ d.power.testMode = true := by
  unfold Dev.scanOk
  rw [Bool.or_eq_true, beq_iff_eq]

/-! ### Debug access (R413, R414) -/

theorem Dev.dbgVerified_of_none (h : d.sec.resp = none) : d.dbgVerified = d := by
  unfold Dev.dbgVerified
  rw [h]

/-- A response has left the port. -/
def Dev.answered (d : Dev) : Dev := d.secMod (fun s => { s with resp := none })

theorem Dev.dbgVerified_of_some {key sig : List Byte} (h : d.sec.resp = some (key, sig)) : d.dbgVerified =
    if d.noEntropy then d.answered
    else if d.unlockOk key sig then (d.answered.secMod (fun s => { s with key := none, deriv := false, barred := true })).wb Reg.SEC_STAT 27 true
    else d.answered.tamper 5 := by
  unfold Dev.dbgVerified
  rw [h]
  rfl

theorem Dev.unlockOk_iff {key sig : List Byte} (hz : ¬ ∃ c, d.sec.chal = some c ∧ ∀ b ∈ c, b = 0) : d.unlockOk key sig = true ↔
    d.sec.keyHash = some (sha256 key) ∧ ∃ c, d.sec.chal = some c ∧
      slhVerify slh128s key ([0, 8, 0x59, 0x4C, 0x44, 0x45, 0x42, 0x55, 0x47, 0x31] ++ c) sig = true := by
  unfold Dev.unlockOk
  cases hc : d.sec.chal with
  | none => simp
  | some c =>
    have hn : allZero c = false := Bool.eq_false_iff.2 (fun h => hz ⟨c, hc, allZero_iff.1 h⟩)
    simp only [hn, Bool.not_false, Bool.true_and, Bool.and_eq_true, beq_iff_eq, Option.some.injEq, exists_eq_left']
    rfl

theorem ixOf_keyStore (a : Nat) : (ixOf a (Reg.SEC_KS 0) 4 16).isSome = true ↔ ∃ i < 16, a = Reg.SEC_KS i := by
  unfold ixOf Reg.SEC_KS
  constructor
  · intro h
    split at h
    · next hc => exact ⟨(a - (0x021100 + 0 * 0x4)) / 4, hc.2.2, by omega⟩
    · cases h
  · rintro ⟨i, hi, rfl⟩
    rw [if_pos ⟨by omega, by omega, by omega⟩]
    rfl

/-- What an unlocked debug port answers to a write. -/
def Dev.dbgWrite (d : Dev) (a : Nat) (v : Word) : Dev :=
  if !d.dstate.writeOk || d.rb Reg.BIST_STAT 31 then d.tapGo 0x22 []
  else if occupied a then ({ (d.writeReg 4 a v).1 with wstat := (d.writeReg 4 a v).2 } : Dev).tapGo 0x22 []
  else if stagingOk a 4 && !d.attOverlap a 4 && !d.poisonedPart a 4 then
    ((d.mwrite a (beBytes 4 v.toNat)).unpoison a 4).tapGo 0x22 []
  else d.tapGo 0x22 []

/-- What an unlocked debug port answers to a read. -/
def Dev.dbgRead (d : Dev) (a : Nat) : Dev :=
  if !d.dstate.readOk then d.tapGo 0x22 []
  else if occupied a then
    if (ixOf a (Reg.SEC_KS 0) 4 16).isSome || d.isolated a then d.tapGo 0x22 []
    else (d.readReg 4 a).1.tapGo 0x22 (beBytes 4 (d.readReg 4 a).2.toNat)
  else if memReadStatus 4 a 4 = stOk ∧ d.bistUnit ≠ some 5 ∧ !d.poisoned a 4 then d.tapGo 0x22 (d.mread a 4)
  else d.tapGo 0x22 []

theorem Dev.dbgAccess_locked (h : d.rb Reg.SEC_STAT 27 = false) (w : Bool) (a : Nat) (v : Word) :
    d.dbgAccess w a v = d.tapBypass.tamper 5 := if_pos (by rw [h]; rfl)

theorem Dev.dbgAccess_write (h : d.rb Reg.SEC_STAT 27 = true) (a : Nat) (v : Word) : d.dbgAccess true a v = d.dbgWrite a v :=
  (if_neg (by rw [h]; decide)).trans (if_pos rfl)

theorem Dev.dbgAccess_read (h : d.rb Reg.SEC_STAT 27 = true) (a : Nat) (v : Word) : d.dbgAccess false a v = d.dbgRead a :=
  (if_neg (by rw [h]; decide)).trans (if_neg Bool.false_ne_true)

end

/-- Settles O56: each instruction by whether provisioning is open and what stands already. -/
theorem provisioningOnceInLockout : Obligations.ProvisioningOnceInLockout := by
  intro s hash seed policy ok hio d refused allowed ent bypass sd key
  have hp : exec (.provKeyhash hash) s = .next ⟨d.provHash hash, s.pending⟩ := by rw [exec_provKeyhash, State.runTap_up hio]
  have pp : exec (.provPolicy policy) s = .next ⟨d.provPolicy policy, s.pending⟩ := by rw [exec_provPolicy, State.runTap_up hio]
  have ip : exec (.provIdent ok seed) s = .next ⟨d.provIdent ok seed, s.pending⟩ := by rw [exec_provIdent, State.runTap_up hio]
  have lp : exec .provLock s = .next ⟨d.provLock, s.pending⟩ := by rw [exec_provLock, State.runTap_up hio]
  have open' (h : allowed) : d.provOk = true := Dev.provOk_iff.2 h
  refine ⟨fun h => ?_, fun h k hk => ?_, fun h hk => ?_, fun h p hk => ?_, fun h hk => ?_, fun h hk => ?_, fun h hk => ?_, fun h => ?_⟩
  · have hn : d.provOk = false := Bool.eq_false_iff.2 (fun hh => by
      obtain ⟨hs, hlk⟩ := Dev.provOk_iff.1 hh
      exact h.elim (· hs) (fun h => Bool.false_ne_true (hlk.symm.trans h)))
    obtain ⟨h1, h2, h3, h4⟩ := Dev.prov_refused hn hash seed policy ok
    rw [hp, pp, ip, lp, h1, h2, h3, h4]
    exact ⟨rfl, rfl, rfl, rfl⟩
  · rw [hp, Dev.provHash_of_some (open' h) hk]
  · rw [hp, Dev.provHash_of_none (open' h) hk]
  · rw [pp, Dev.provPolicy_of_some (open' h) hk]
  · rw [pp, Dev.provPolicy_of_none (open' h) hk]
  · subst hk
    rw [ip, Dev.provIdent_good (sd := sd) (key := key) (ent := ent) (open' h) rfl rfl rfl]
    rfl
  · subst hk
    obtain ⟨out, hlen, he⟩ := Dev.provIdent_bad (seed := seed) (ent := ent) (open' h) rfl
    exact ⟨out, hlen, by rw [ip, he]⟩
  · intro u
    rw [lp, Dev.provLock_ok (open' h)]

end Sys2Proof.Machine

/-! ## The test port and the debug unlock -/

namespace Sys2Proof.Machine

set_option Elab.async false

section
variable {d : Dev} {a : Nat}

theorem Dev.dbgChal_good (rnd : List Byte) {ent : Dev} {c : List Byte} (he : d.entropy true = ent)
    (hc : beBytes 4 (tget ent.sec.uid 0).toNat ++ beBytes 4 (tget ent.sec.uid 1).toNat ++ beBytes 4 (fget (ent.pword 0x3F0) 16 16) ++
      [0, 0, 0, 0] ++ padTo 16 rnd = c) :
    d.dbgChal true rnd = (ent.tapGo 0x20 c).secMod (fun x => { x with chal := some c }) := by
  subst he hc
  unfold Dev.dbgChal
  simp only [if_true]

theorem Dev.dbgChal_bad (rnd : List Byte) {ent : Dev} (he : d.entropy false = ent) :
    d.dbgChal false rnd = (ent.tapGo 0x20 (List.replicate 32 0)).secMod (fun x => { x with chal := some (List.replicate 32 0) }) := by
  subst he
  unfold Dev.dbgChal
  simp only [Bool.false_eq_true, if_false]

/-- A write that the debug port is refused. -/
theorem Dev.dbgWrite_barred (v : Word) (h : d.dstate.writeOk = false ∨ d.rb Reg.BIST_STAT 31 = true) : d.dbgWrite a v = d.tapGo 0x22 [] := by
  refine if_pos ?_
  obtain h | h := h <;> rw [h] <;> simp

theorem Dev.dbgWrite_open (v : Word) (h : ¬ (d.dstate.writeOk = false ∨ d.rb Reg.BIST_STAT 31 = true)) : d.dbgWrite a v =
    if occupied a then ({ (d.writeReg 4 a v).1 with wstat := (d.writeReg 4 a v).2 } : Dev).tapGo 0x22 []
    else if stagingOk a 4 = true ∧ d.attOverlap a 4 = false ∧ d.poisonedPart a 4 = false then
      ((d.mwrite a (beBytes 4 v.toNat)).unpoison a 4).tapGo 0x22 []
    else d.tapGo 0x22 [] := by
  have hn : ¬ (!d.dstate.writeOk || d.rb Reg.BIST_STAT 31) = true := by
    rw [Bool.or_eq_true, Bool.not_eq_true']
    exact h
  unfold Dev.dbgWrite
  rw [if_neg hn]
  simp only [Bool.and_eq_true, Bool.not_eq_true', and_assoc]

theorem Dev.dbgRead_barred (h : d.dstate.readOk = false) : d.dbgRead a = d.tapGo 0x22 [] := if_pos (by rw [h]; rfl)

theorem Dev.dbgRead_open (h : d.dstate.readOk = true) : d.dbgRead a =
    if occupied a then
      if (ixOf a (Reg.SEC_KS 0) 4 16).isSome = true ∨ d.isolated a = true then d.tapGo 0x22 []
      else (d.readReg 4 a).1.tapGo 0x22 (beBytes 4 (d.readReg 4 a).2.toNat)
    else if memReadStatus 4 a 4 = stOk ∧ d.bistUnit ≠ some 5 ∧ d.poisoned a 4 = false then d.tapGo 0x22 (d.mread a 4)
    else d.tapGo 0x22 [] := by
  unfold Dev.dbgRead
  rw [if_neg (by rw [h]; decide)]
  simp only [Bool.or_eq_true, Bool.and_eq_true, bne_iff_ne, beq_iff_eq, Bool.not_eq_true', and_assoc]

end

/-- Settles O57: each instruction by its condition, the response by its verdict, an access by what it reaches. -/
theorem testPortAndDebugUnlock : Obligations.TestPortAndDebugUnlock := by
  intro s ok cells levels key sig rnd w addr v d go may ent mayUnlock shown chained chal
  have verdict (hl : d.live = true) : exec .dbgRespVerified s = .next ⟨d.dbgVerified, s.pending⟩ := by
    rw [exec_dbgRespVerified, State.run_live hl]
  refine ⟨fun h => ?_, fun h => ?_, fun h => ?_, fun h => ?_⟩
  · rw [exec_extest, exec_samplePreload, exec_idcode, exec_clamp, exec_highz, exec_bypass, exec_scan, exec_dbgChal, exec_dbgResp,
      exec_dbgAccess]
    simp only [State.runTap_down h, and_self]
  · rw [exec_dbgRespVerified, State.run_still h]
  · have chain (i : Instr) (code : Nat) (hi : exec i s = .next ⟨d.chain code cells levels, s.pending⟩) : chained i code :=
      ⟨d.captured levels cells.length, d.captured_length levels _, fun j hj => (d.captured_bit levels hj).trans rfl, hi⟩
    have extest : exec (.extest cells levels) s = .next ⟨d.extest cells levels, s.pending⟩ := by rw [exec_extest, State.runTap_up h]
    have clamp : exec .clamp s = .next ⟨d.pinHold 0x03, s.pending⟩ := by rw [exec_clamp, State.runTap_up h]
    have highz : exec .highz s = .next ⟨d.pinHold 0x04, s.pending⟩ := by rw [exec_highz, State.runTap_up h]
    have scan : exec .scan s = .next ⟨d.scan, s.pending⟩ := by rw [exec_scan, State.runTap_up h]
    have next {u v : Dev} (h : u = v) : Host.Outcome.next (State.mk u s.pending) = (.next ⟨v, s.pending⟩ : Host.Outcome State Fault Refusal) := by
      rw [h]
    refine ⟨chain _ _ ?_, ?_, ?_, ?_, fun hm => ?_, fun hm => ?_, fun ht => ?_, fun ht => ?_⟩
    · rw [exec_samplePreload, State.runTap_up h]
      rfl
    · have hid : beBytes 4 0x19412A5B = [0x19, 0x41, 0x2A, 0x5B] := by decide
      rw [exec_idcode, State.runTap_up h]
      exact next (congrArg (d.tapGo 0x02) hid)
    · rw [exec_idcode, State.runTap_up h]
      rfl
    · rw [exec_bypass, State.runTap_up h]
      rfl
    · have hs := Dev.scanOk_iff.2 hm
      refine ⟨chain _ _ ?_, ?_, ?_⟩
      · rw [extest]
        exact next (if_pos hs)
      · rw [clamp]
        exact next (if_pos hs)
      · rw [highz]
        exact next (if_pos hs)
    · have hs : ¬ d.scanOk = true := fun hh => hm (Dev.scanOk_iff.1 hh)
      refine ⟨?_, ?_, ?_⟩
      · rw [extest]
        exact next (if_neg hs)
      · rw [clamp]
        exact next (if_neg hs)
      · rw [highz]
        exact next (if_neg hs)
    · rw [scan]
      exact next (if_pos ht)
    · rw [scan]
      exact next (if_neg (Bool.eq_false_iff.1 ht))
  · have ask : exec (.dbgChal ok rnd) s = .next ⟨d.dbgChal ok rnd, s.pending⟩ := by rw [exec_dbgChal, State.runTap_up h]
    have resp : exec (.dbgResp key sig) s = .next ⟨d.dbgResp key sig, s.pending⟩ := by rw [exec_dbgResp, State.runTap_up h]
    have reach : exec (.dbgAccess w addr v) s = .next ⟨d.dbgAccess w addr v, s.pending⟩ := by rw [exec_dbgAccess, State.runTap_up h]
    have next {u v : Dev} (h : u = v) : Host.Outcome.next (State.mk u s.pending) = (.next ⟨v, s.pending⟩ : Host.Outcome State Fault Refusal) := by
      rw [h]
    refine ⟨fun hk => ?_, fun hk => ?_, fun hm => ?_, fun hm => ?_, fun hr => ?_, fun hl hr => ?_, fun hu => ?_, fun hu hw => ?_,
      fun hu hw => ?_⟩
    · subst hk
      rw [ask, Dev.dbgChal_good (ent := ent) (c := chal) rnd rfl rfl]
    · subst hk
      rw [ask, Dev.dbgChal_bad (ent := ent) rnd rfl]
    · rw [resp]
      exact next (if_pos hm)
    · rw [resp]
      exact next (if_neg hm)
    · by_cases hl : d.live = true
      · rw [verdict hl, Dev.dbgVerified_of_none hr]
      · rw [exec_dbgRespVerified, State.run_still (Bool.eq_false_iff.2 hl)]
    · intro e zero good
      have hdead : d.noEntropy = true ↔ d.rb Reg.SEC_STAT 26 = false ∨ zero := Dev.noEntropy_iff
      have judged : exec .dbgRespVerified s = .next ⟨if d.noEntropy then e
          else if d.unlockOk key sig then (e.secMod (fun s => { s with key := none, deriv := false, barred := true })).wb Reg.SEC_STAT 27 true
          else e.tamper 5, s.pending⟩ := by
        rw [verdict hl, Dev.dbgVerified_of_some hr]
        rfl
      have live (h26 : d.rb Reg.SEC_STAT 26 = true) (hz : ¬ zero) : ¬ d.noEntropy = true := fun hh =>
        (hdead.1 hh).elim (fun h => Bool.false_ne_true (h.symm.trans h26)) hz
      refine ⟨fun hd => ?_, fun h26 hz hg => ?_, fun h26 hz hg => ?_⟩
      · rw [judged, if_pos (hdead.2 hd)]
      · rw [judged, if_neg (live h26 hz), if_pos ((Dev.unlockOk_iff hz).2 hg)]
      · rw [judged, if_neg (live h26 hz), if_neg (fun hh => hg ((Dev.unlockOk_iff hz).1 hh))]
    · rw [reach, Dev.dbgAccess_locked hu]
      rfl
    · subst hw
      intro barred takes r
      refine ⟨fun hb => ?_, fun hb ho => ?_, fun hb ho ht => ?_, fun hb ho ht => ?_⟩
      · rw [reach, Dev.dbgAccess_write hu, Dev.dbgWrite_barred v hb]
        rfl
      · rw [reach, Dev.dbgAccess_write hu, Dev.dbgWrite_open v hb, if_pos ho]
      · rw [reach, Dev.dbgAccess_write hu, Dev.dbgWrite_open v hb, if_neg (Bool.eq_false_iff.1 ho)]
        exact next (if_pos ht)
      · rw [reach, Dev.dbgAccess_write hu, Dev.dbgWrite_open v hb, if_neg (Bool.eq_false_iff.1 ho)]
        exact next (if_neg ht)
    · subst hw
      intro store reads r
      refine ⟨fun hr => ?_, fun hr ho hs => ?_, fun hr ho hs hi => ?_, fun hr ho ht => ?_, fun hr ho ht => ?_⟩
      · rw [reach, Dev.dbgAccess_read hu, Dev.dbgRead_barred hr]
        rfl
      · rw [reach, Dev.dbgAccess_read hu, Dev.dbgRead_open hr, if_pos ho]
        exact next (if_pos (hs.imp_left (ixOf_keyStore addr).2))
      · rw [reach, Dev.dbgAccess_read hu, Dev.dbgRead_open hr, if_pos ho]
        exact next (if_neg (fun hh => hh.elim (fun h => hs ((ixOf_keyStore addr).1 h)) (fun h => Bool.false_ne_true (hi.symm.trans h))))
      · rw [reach, Dev.dbgAccess_read hu, Dev.dbgRead_open hr, if_neg (Bool.eq_false_iff.1 ho)]
        exact next (if_pos ht)
      · rw [reach, Dev.dbgAccess_read hu, Dev.dbgRead_open hr, if_neg (Bool.eq_false_iff.1 ho)]
        exact next (if_neg ht)

end Sys2Proof.Machine

/-! ## Units of the self-test and the fused repair -/

namespace Sys2Proof.Machine

set_option Elab.async false

section
variable {d : Dev}

theorem Dev.bistResult_of_pass {u : Nat} (rep : Bool) {o : BistOut} (h : bistFailed o u = false) : d.bistResult u rep o = 0 := by
  unfold Dev.bistResult
  rw [h]
  rfl

/-- R418, R425: the result of a unit in which a fault was found, by the spares that its repair takes. -/
theorem Dev.bistResult_of_fault {u : Nat} {rep : Bool} {o : BistOut} (h : bistFailed o u = true) : d.bistResult u rep o =
    match bistLines o u with
    | none => 1
    | some l => if (!rep) = true then 1 else if (!d.sparesFit l) = true then 3 else if o.retestOk = true then 2 else 1 := by
  unfold Dev.bistResult Dev.repairOf
  rw [h]
  cases hl : bistLines o u with
  | none => rfl
  | some l =>
    cases rep with
    | false => rfl
    | true =>
      have fit_nonempty (hf : d.sparesFit l = true) : l.isEmpty = false :=
        (Bool.not_eq_true' _).mp ((Bool.and_eq_true _ _).mp hf).1
      by_cases hf : d.sparesFit l = true
      · simp [hf, fit_nonempty hf]
      · simp [hf]

theorem Dev.bistUnitEnd_of_idle (o : BistOut) (h : d.sec.bist = none ∨ ∃ r, d.sec.bist = some r ∧ r.todo = []) : d.bistUnitEnd o = d := by
  unfold Dev.bistUnitEnd
  obtain h | ⟨r, h, ht⟩ := h
  · rw [h]
  · rw [h]
    dsimp only
    rw [ht]

/-- A unit that has passed ends without a report. -/
theorem Dev.bistUnitEnd_of_pass {o : BistOut} {r : BistRun} {u : Nat} {l : List Nat} (h : d.sec.bist = some r) (ht : r.todo = u :: l)
    (hp : d.bistResult u r.repair o = 0) : d.bistUnitEnd o = (((d.bistStore u r.repair o).reinit u r.split).ev 0x05).bistNext
      { r with ran := r.ran + 2 ^ u, bad := r.bad + 0 } l := by
  unfold Dev.bistUnitEnd
  rw [h]
  dsimp only
  rw [ht]
  dsimp only
  rw [hp]
  rfl

/-- A unit that has not passed is reported, and counts as bad. -/
theorem Dev.bistUnitEnd_of_bad {o : BistOut} {r : BistRun} {u : Nat} {l : List Nat} (h : d.sec.bist = some r) (ht : r.todo = u :: l)
    (hp : d.bistResult u r.repair o ≠ 0) : d.bistUnitEnd o =
      ((((d.bistStore u r.repair o).occ 0x0F01 u).reinit u r.split).ev 0x05).bistNext
        { r with ran := r.ran + 2 ^ u, bad := r.bad + 2 ^ u } l := by
  have hb : (d.bistResult u r.repair o == 0) = false := beq_eq_false_iff_ne.mpr hp
  unfold Dev.bistUnitEnd
  rw [h]
  dsimp only
  rw [ht]
  dsimp only
  rw [hb]
  rfl

theorem Dev.noLink_gi : d.noLink 0xB = true ↔ d.laneUp 12 = false ∨ d.laneUp 13 = false := by
  change (!d.laneUp 12 || !d.laneUp 13) = true ↔ _
  rw [Bool.or_eq_true, Bool.not_eq_true', Bool.not_eq_true']

theorem Dev.noLink_high : d.noLink 0xC = true ↔ ∃ m < 12, d.inTopo (m / 3) = true ∧ d.laneUp m = false := by
  change (List.range 12).any (fun n => d.inTopo (n / 3) && !d.laneUp n) = true ↔ _
  simp only [List.any_eq_true, List.mem_range, Bool.and_eq_true, Bool.not_eq_true']

theorem Dev.noLink_ax : d.noLink 0xD = true ↔ d.boot.axLink = false := by
  change (!d.boot.axLink) = true ↔ _
  rw [Bool.not_eq_true']

theorem Dev.noLink_cd {u : Nat} (hb : u ≠ 0xB) (hc : u ≠ 0xC) (hd : u ≠ 0xD) : d.noLink u = false := by
  unfold Dev.noLink
  split
  · exact absurd rfl hb
  · exact absurd rfl hc
  · exact absurd rfl hd
  · rfl

theorem Dev.fuseEnd_of_none (ok : Bool) (n : Nat) (h : d.sec.fuseRun = none) : d.fuseEnd ok n = d := by
  unfold Dev.fuseEnd
  rw [h]

theorem Dev.fuseEnd_good (n : Nat) {u : Nat} {all : List Spare} {e : Dev} (h : d.sec.fuseRun = some u) (ha : inUse d.sec.soft u = all)
    (he : d.secMod (fun x => { x with
      fuseRun := none
      soft := d.sec.soft.filter (fun y => y.unit != u) ++ all.drop all.length
      fused := x.fused ++ all.take all.length }) = e) :
    d.fuseEnd true n = ({ e with boot := { e.boot with resetDue := true } } : Dev).completeRun (fun c => c.op == 0x43) stOk
      (e.fuseBytes u all.length 0) := by
  subst ha he
  unfold Dev.fuseEnd
  rw [h]
  rfl

theorem Dev.fuseEnd_bad {n u : Nat} {all : List Spare} {e : Dev} (h : d.sec.fuseRun = some u) (ha : inUse d.sec.soft u = all)
    (he : d.secMod (fun x => { x with
      fuseRun := none
      soft := d.sec.soft.filter (fun y => y.unit != u) ++ all.drop (min n all.length)
      fused := x.fused ++ all.take (min n all.length) }) = e) :
    d.fuseEnd false n = (e.occ 0x0F04 0).completeRun (fun c => c.op == 0x43) stCrc (e.fuseBytes u (min n all.length) 3) := by
  subst ha he
  unfold Dev.fuseEnd
  rw [h]
  rfl

end

/-- R417: the spares of the units that have any. -/
theorem spares_sram {b : Nat} (h : b < 4) (col : Bool) : spares 5 b col = if col then 4 else 8 := if_pos h

/-- Settles O58: a unit ends by its result, the next one that has its links starts, and programmed entries move to the fuses. -/
theorem bistUnitsAndFusedRepair : Obligations.BistUnitsAndFusedRepair := by
  intro s o ok n hl d
  have unit : exec (.bistUnitComplete o) s = .next ⟨d.bistUnitEnd o, s.pending⟩ := by rw [exec_bistUnitComplete, State.run_live hl]
  have fuse : exec (.repairProgramEnd ok n) s = .next ⟨d.fuseEnd ok n, s.pending⟩ := by rw [exec_repairProgramEnd, State.run_live hl]
  refine ⟨fun h => ?_, ?_, fun b hb => ⟨spares_sram hb false, spares_sram hb true⟩, fun u hu => ?_, rfl, fun e r => rfl,
    fun e r u l => ⟨fun hn => if_pos hn, fun hn => if_neg (Bool.eq_false_iff.1 hn)⟩,
    fun e => ⟨Dev.noLink_gi, Dev.noLink_high, Dev.noLink_ax, fun u => Dev.noLink_cd⟩, fun h => ?_, ?_⟩
  · rw [unit, Dev.bistUnitEnd_of_idle o h]
  · intro r u l hr ht logic mem failed lines fits taken res soft counted sig shown stored next
    have hres : d.bistResult u r.repair o = res := by
      by_cases hf : bistFailed o u = true
      · rw [Dev.bistResult_of_fault hf]
        exact (if_neg (by rw [show failed = true from hf]; decide)).symm
      · rw [Dev.bistResult_of_pass r.repair (Bool.eq_false_iff.2 hf)]
        exact (if_pos (by rw [show failed = false from Bool.eq_false_iff.2 hf]; decide)).symm
    have hstored : d.bistStore u r.repair o = stored := by
      unfold Dev.bistStore
      rw [hres]
      rfl
    refine ⟨fun h => ?_, fun h => ?_⟩
    · rw [unit, Dev.bistUnitEnd_of_bad hr ht (hres.trans_ne h), hstored]
    · rw [unit, Dev.bistUnitEnd_of_pass hr ht (hres.trans h), hstored]
  · obtain rfl | rfl := hu <;> exact ⟨rfl, rfl⟩
  · rw [fuse, Dev.fuseEnd_of_none ok n h]
  · intro u hu all m e
    refine ⟨fun hk => ?_, fun hk => ?_⟩
    · subst hk
      rw [fuse, Dev.fuseEnd_good n hu (all := all) (e := e) rfl rfl]
      rfl
    · subst hk
      rw [fuse, Dev.fuseEnd_bad hu (all := all) (e := e) rfl rfl]
      rfl

end Sys2Proof.Machine

/-! ## Temperature sensors, levels and throttling -/

namespace Sys2Proof.Machine

set_option Elab.async false

/-- Among three levels the highest that meets a test is at least each that does. -/
theorem le_find_descending (p : Nat → Bool) {l : Nat} (h1 : 1 ≤ l) (h3 : l ≤ 3) (hp : p l = true) : l ≤ ([3, 2, 1].find? p).getD 0 := by
  obtain rfl | rfl | rfl : l = 3 ∨ l = 2 ∨ l = 1 := by omega
  · simp only [List.find?_cons, hp, Option.getD_some, Nat.le_refl]
  · simp only [List.find?_cons, hp]
    cases p 3 <;> decide
  · simp only [List.find?_cons, hp]
    cases p 3 <;> cases p 2 <;> decide

section
variable {d : Dev}

/-- R427: when the periodic demand of a sensor falls due. -/
theorem Dev.demandDue_iff {n : Nat} : d.demandDue n = true ↔ n < 30 ∧ d.rb (Reg.THERM_S_CFG n) 31 = true ∧
    d.rf (Reg.THERM_S_CFG n) 0 10 ≠ 0 ∧ d.committed = true ∧ tget d.therm.demAt n + d.rf (Reg.THERM_S_CFG n) 0 10 * msTicks ≤ d.now := by
  unfold Dev.demandDue
  simp only [Bool.and_eq_true, decide_eq_true_iff, bne_iff_ne, and_assoc]

/-- A result waits for a frame exactly when one of the sensor's lanes holds one. -/
theorem Dev.tempOnWay_iff {n : Nat} : (d.tempOnWay n).isSome = true ↔ ∃ l ∈ sensorLanes n, (tget d.link l).temp ≠ none := by
  unfold Dev.tempOnWay
  rw [List.findSome?_isSome_iff]
  simp only [Option.isSome_iff_ne_none]

theorem Dev.sensorStart_of_served {n : Nat}
    (h : (aget d.therm.busy n).isSome = true ∨ ∃ l ∈ sensorLanes n, (tget d.link l).temp ≠ none) : d.sensorStart n = d :=
  if_pos ((Bool.or_eq_true _ _).mpr (h.imp_right Dev.tempOnWay_iff.2))

theorem Dev.sensorStart_of_free {n : Nat} (hb : aget d.therm.busy n = none) (hw : ¬ ∃ l ∈ sensorLanes n, (tget d.link l).temp ≠ none) :
    d.sensorStart n = d.thermMod (fun x => { x with busy := aput x.busy n d.now }) := by
  refine if_neg (fun h => ?_)
  obtain h | h := (Bool.or_eq_true _ _).mp h
  · rw [hb] at h
    exact Bool.false_ne_true h
  · exact hw (Dev.tempOnWay_iff.1 h)

theorem Dev.convOver_of_none {n : Nat} (h : aget d.therm.busy n = none) : d.convOver n = false := by
  unfold Dev.convOver
  rw [h]

theorem Dev.convOver_of_some {n b : Nat} (h : aget d.therm.busy n = some b) : d.convOver n = decide (b + 20 * usTicks ≤ d.now) := by
  unfold Dev.convOver
  rw [h]

theorem Dev.sensorEnd_of_running {n : Nat} (t : Option Int) (h : d.convOver n = false) : d.sensorEnd n t = d :=
  if_pos (by rw [h]; rfl)

/-- R427: the end of a conversion, by the link and the lanes of its sensor. -/
theorem Dev.sensorEnd_of_over {n : Nat} (t : Option Int) {e : Dev} (h : d.convOver n = true)
    (he : d.thermMod (fun x => { x with busy := adel x.busy n }) = e) : d.sensorEnd n t =
      if e.sensorLink n = false then e.tempHere n none else if sensorLanes n = [] then e.tempHere n t else e.tempSet n (some t) := by
  subst he
  unfold Dev.sensorEnd
  rw [if_neg (by rw [h]; decide)]
  simp only [Bool.not_eq_true', List.isEmpty_iff]

/-- The highest level whose threshold is reached is at least each level whose threshold is. -/
theorem Dev.le_reached {n l : Nat} {x th : Int} (h1 : 1 ≤ l) (h3 : l ≤ 3) (ht : d.threshold n l = some th) (hx : th ≤ x) :
    l ≤ d.reached n x := by
  refine le_find_descending _ h1 h3 ?_
  rw [ht]
  exact decide_eq_true hx

/-- R431: a level whose threshold less the hysteresis is still reached stands. -/
theorem Dev.fallen_of_held {n l : Nat} {x th : Int} (ht : d.threshold n (l + 1) = some th)
    (hx : th - 10 * d.rf (Reg.THERM_S_TH n) 0 4 ≤ x) : d.fallen n x (l + 1) = l + 1 := by
  unfold Dev.fallen
  rw [ht]
  exact if_neg (by rw [decide_eq_true_iff]; omega)

theorem Dev.setSteps_same {a n : Nat} (h : d.steps a = n) : d.setSteps a n = d := if_pos h
theorem Dev.setSteps_new {a n : Nat} (h : d.steps a ≠ n) : d.setSteps a n = (d.wf Reg.THERM_THROT (8 * a) 5 n).ev 0xFB := if_neg h

/-- R432: the step count at the end of an interval. -/
theorem Dev.throttleTimer_of_due {a n : Nat} (h : tget d.therm.thrAt a + d.rf Reg.THERM_CFG 16 14 * msTicks ≤ d.now)
    (hn : (if d.throttled a = true then min (d.steps a + 1) (d.rf Reg.THERM_CFG 0 5) else d.steps a - 1) = n) :
    d.throttleTimer a = (d.throttleRestart a).setSteps a n := by
  subst hn
  exact if_pos h

end

/-- Settles O59: demands and conversions by sensor and lane, levels by threshold and hysteresis, steps by interval. -/
theorem sensorsLevelsAndThrottling : Obligations.SensorsLevelsAndThrottling := by
  intro s n a t hl _ _ d asked dem freed lanes onWay here most due timed
  have demand : exec (.sensorDemand n) s = .next ⟨d.sensorDemand n, s.pending⟩ := by rw [exec_sensorDemand, State.run_live hl]
  have conv : exec (.sensorConversionEnd n t) s = .next ⟨d.sensorEnd n t, s.pending⟩ := by
    rw [exec_sensorConversionEnd, State.run_live hl]
  have timer : exec (.throttleInterval a) s = .next ⟨d.throttleTimer a, s.pending⟩ := by
    rw [exec_throttleInterval, State.run_live hl]
  have start (h : asked) : d.sensorDemand n = dem.sensorStart n := if_pos (Dev.demandDue_iff.2 h)
  refine ⟨fun h hw => ?_, fun h hb hw => ?_, fun h => ?_, fun h => ?_, ?_, fun e => rfl, ?_, ?_, fun e l h => if_pos h,
    fun e l h => if_neg h, fun h => ?_, fun h ht hs => ?_, fun h ht hs => ?_, fun h ht hs => ?_, fun h ht hs => ?_⟩
  · rw [demand, start h, Dev.sensorStart_of_served (d := dem) hw]
  · rw [demand, start h, Dev.sensorStart_of_free (d := dem) hb hw]
    rfl
  · have still : d.sensorDemand n = d := if_neg (fun hh => h (Dev.demandDue_iff.1 hh))
    rw [demand, still]
  · have running : d.convOver n = false := by
      obtain hb | ⟨b, hb, hn⟩ := h
      · exact Dev.convOver_of_none hb
      · exact (Dev.convOver_of_some hb).trans (decide_eq_false (Nat.not_le.mpr hn))
    rw [conv, Dev.sensorEnd_of_running t running]
  · intro b hb hn
    have ended : d.convOver n = true := (Dev.convOver_of_some hb).trans (decide_eq_true hn)
    have ends := Dev.sensorEnd_of_over t (e := freed) ended rfl
    refine ⟨fun hk => ?_, fun hk hw => ?_, fun hk hw => ?_⟩
    · rw [conv, ends, if_pos hk]
      rfl
    · rw [conv, ends, if_neg (by rw [hk]; decide), if_pos (show sensorLanes n = [] from hw)]
      rfl
    · rw [conv, ends, if_neg (by rw [hk]; decide), if_neg (show ¬ sensorLanes n = [] from hw)]
      rfl
  · rintro e x l h1 h3 hlt ⟨th, ht, hx⟩
    have hr : l ≤ e.reached n x := Dev.le_reached h1 h3 ht hx
    have rises : e.levelOf n x = e.reached n x := if_pos (hlt.trans_le hr)
    exact hr.trans_eq rises.symm
  · intro e x th l hlev _ ht hx
    by_cases hup : e.level n < e.reached n x
    · have rises : e.levelOf n x = e.reached n x := if_pos hup
      rw [rises]
      omega
    · have stands : e.levelOf n x = e.fallen n x (e.level n) := if_neg hup
      rw [stands, hlev, Dev.fallen_of_held ht hx]
  · have still : d.throttleTimer a = d := if_neg h
    rw [timer, still]
  · rw [timer, Dev.throttleTimer_of_due h (if_pos ht), Dev.setSteps_same (d := d.throttleRestart a) hs]
    rfl
  · rw [timer, Dev.throttleTimer_of_due h (if_pos ht), Dev.setSteps_new (d := d.throttleRestart a) hs]
    rfl
  · have h0 : d.steps a = d.steps a - 1 := by omega
    rw [timer, Dev.throttleTimer_of_due h (if_neg (Bool.eq_false_iff.1 ht)), Dev.setSteps_same (d := d.throttleRestart a) h0]
    rfl
  · have h1 : d.steps a ≠ d.steps a - 1 := by omega
    rw [timer, Dev.throttleTimer_of_due h (if_neg (Bool.eq_false_iff.1 ht)), Dev.setSteps_new (d := d.throttleRestart a) h1]
    rfl

end Sys2Proof.Machine

/-! ## The preserve lane and its programs -/

namespace Sys2Proof.Machine

set_option Elab.async false

/-- The write whose turn is next is pending, and no pending one has an earlier deadline. -/
theorem nextWrite_least {l : List PresWrite} {w : PresWrite} (h : nextWrite l = some w) : w ∈ l ∧ ∀ x ∈ l, w.deadline ≤ x.deadline := by
  induction l generalizing w with
  | nil => exact absurd h (by simp [nextWrite])
  | cons x l ih =>
    unfold nextWrite at h
    cases hn : nextWrite l with
    | none =>
      have hl : l = [] := by
        cases l with
        | nil => rfl
        | cons y r =>
          unfold nextWrite at hn
          split at hn
          · split at hn <;> exact absurd hn (by simp)
          · exact absurd hn (by simp)
      rw [hn] at h
      obtain rfl := Option.some.inj h
      rw [hl]
      exact ⟨List.mem_singleton_self x, fun y hy => by rw [List.mem_singleton.1 hy]⟩
    | some y =>
      obtain ⟨hy, hle⟩ := ih hn
      rw [hn] at h
      dsimp only at h
      by_cases hlt : y.deadline < x.deadline
      · rw [if_pos hlt] at h
        obtain rfl := Option.some.inj h
        refine ⟨List.mem_cons_of_mem x hy, fun z hz => ?_⟩
        obtain rfl | hz := List.mem_cons.1 hz
        · exact hlt.le
        · exact hle z hz
      · rw [if_neg hlt] at h
        obtain rfl := Option.some.inj h
        refine ⟨List.mem_cons_self, fun z hz => ?_⟩
        obtain rfl | hz := List.mem_cons.1 hz
        · exact Nat.le_refl _
        · exact (Nat.not_lt.1 hlt).trans (hle z hz)

section
variable {d : Dev}

theorem Dev.turnStart_of_none (h : d.prs.cur.isSome = true ∨ d.prs.pend = []) : d.turnStart = d := by
  unfold Dev.turnStart
  by_cases hc : d.prs.cur.isSome = true
  · exact if_pos hc
  · rw [if_neg hc, h.resolve_left hc]
    rfl

/-- The lane takes a pending write, and judges it (R45, R435, R436). -/
theorem Dev.turnStart_of_some {w : PresWrite} {e : Dev} (hc : d.prs.cur = none) (hw : nextWrite d.prs.pend = some w)
    (he : d.prsMod (fun p => { p with pend := p.pend.filter (fun x => x.word != w.word) }) = e) : d.turnStart =
    if e.dstate = .lockout then e.laneDone w stState
    else if e.pword w.word = w.val then e.laneDone w stOk
    else if e.worn w.word = true then (e.occ 0x1102 0).laneDone w stWorn
    else if e.power.vddIoLow = true then e.laneDone w stState
    else e.prsMod (fun p => { p with cur := some w, curAt := e.now, again := false, wait := e.laneWait w }) := by
  subst he
  unfold Dev.turnStart
  rw [hc, hw]
  rfl

theorem Dev.programEnd_of_none (ok : Bool) (h : d.prs.cur = none) : d.programEnd ok = d := by
  unfold Dev.programEnd
  rw [h]

/-- The program of write `w` on the lane ends: its wear is added, and a good one stores the word. -/
theorem Dev.programEnd_good {w : PresWrite} {freed : Dev} (h : d.prs.cur = some w)
    (hf : (d.setWear w.word (d.wear w.word + d.wearUnit)).prsMod (fun p => { p with cur := none, again := false }) = freed) :
    d.programEnd true =
      ((freed.setWord w.word w.val).hlt 0x11 0 ((d.setWear w.word (d.wear w.word + d.wearUnit)).prs.wait : Nat)).laneDone w stOk := by
  subst hf
  unfold Dev.programEnd
  rw [h]
  rfl

theorem Dev.setWear_now (w n : Nat) : (d.setWear w n).now = d.now := by simp [Dev.setWear, Dev.prsMod]
theorem Dev.setWear_again (w n : Nat) : (d.setWear w n).prs.again = d.prs.again := by simp [Dev.setWear, Dev.prsMod]

theorem Dev.programEnd_again {w : PresWrite} {e : Dev} (h : d.prs.cur = some w) (he : d.setWear w.word (d.wear w.word + d.wearUnit) = e)
    (ha : d.prs.again = false) : d.programEnd false = e.prsMod (fun p => { p with again := true, curAt := d.now }) := by
  have hn : e.now = d.now := he ▸ Dev.setWear_now _ _
  replace ha : e.prs.again = false := he ▸ (Dev.setWear_again _ _).trans ha
  rw [← hn]
  subst he
  unfold Dev.programEnd
  rw [h]
  dsimp only
  rw [if_neg Bool.false_ne_true, ha]
  rfl

theorem Dev.programEnd_worn {w : PresWrite} {e : Dev} (h : d.prs.cur = some w) (he : d.setWear w.word (d.wear w.word + d.wearUnit) = e)
    (ha : d.prs.again = true) : d.programEnd false =
      (((e.prsMod (fun p => { p with cur := none, again := false })).setWear w.word wearLimit).occ 0x1103 0).laneDone w stCrc := by
  replace ha : e.prs.again = true := he ▸ (Dev.setWear_again _ _).trans ha
  subst he
  unfold Dev.programEnd
  rw [h]
  dsimp only
  rw [if_neg Bool.false_ne_true, ha]
  rfl

theorem Dev.logWordEnd_of_idle (ok : Bool)
    (h : d.prs.log = [] ∨ d.prs.logRun = none ∨ ∃ r, d.prs.logRun = some r ∧ r.busy = false) : d.logWordEnd ok = d := by
  unfold Dev.logWordEnd
  obtain h | h | ⟨r, h, hb⟩ := h
  · rw [h]
  · rw [h]
    cases d.prs.log <;> rfl
  · rw [h]
    cases d.prs.log with
    | nil => rfl
    | cons x rest => exact if_pos (by rw [hb]; rfl)

section
variable {x : List Word} {rest : List (List Word)} {r : LogRun} {w : Nat} {e f : Dev}

/-- A program of the log's port, by its verification and the place of its word. -/
theorem Dev.logWordEnd_of_busy (ok : Bool) (hx : d.prs.log = x :: rest) (hr : d.prs.logRun = some r) (hb : r.busy = true)
    (hw : 0x400 + 4 * ((x.getD 0 0).toNat % 256) + r.done = w) (he : d.setWear w (d.wear w + d.wearUnit) = e)
    (hf : e.setWord w (x.getD r.done 0) = f) : d.logWordEnd ok =
    if ok = true then
      if 3 ≤ r.done then f.logDone x else f.prsMod (fun p => { p with logRun := some ⟨r.done + 1, !f.power.vddIoLow, false⟩ })
    else if (!r.again) = true then e.prsMod (fun p => { p with logRun := some { r with again := true } })
    else (e.occ 0x0D03 0).logNext := by
  subst hw he hf
  unfold Dev.logWordEnd
  rw [hx, hr]
  exact if_neg (by rw [hb]; decide)

end

end

/-- Settles O60: a turn is judged once, and a program ends by its verification, with the reset that waits for it. -/
theorem preserveTurnsAndPrograms : Obligations.PreserveTurnsAndPrograms := by
  intro s ok d fin cut
  have turn (hl : d.live = true) : exec .preserveTurnStart s = .next ⟨d.turnStart, s.pending⟩ := by
    rw [exec_preserveTurnStart, State.run_live hl]
  have lane : exec (.preserveProgramEnd false ok) s = .next ⟨fin (d.programEnd ok), s.pending⟩ := rfl
  have log : exec (.preserveProgramEnd true ok) s = .next ⟨fin (cut (d.logWordEnd ok)), s.pending⟩ := rfl
  refine ⟨fun hl h => ?_, ?_, fun h => ?_, ?_, fun h => ?_, ?_⟩
  · rw [turn hl, Dev.turnStart_of_none h]
  · intro w hl hc hw e dead
    obtain ⟨hmem, hleast⟩ := nextWrite_least hw
    have judged := Dev.turnStart_of_some (e := e) hc hw rfl
    have live_state (h : ¬ dead) : ¬ e.dstate = .lockout := h
    refine ⟨hmem, hleast, fun h => ?_, fun h hv => ?_, fun h hv hwn => ?_, fun h hv hwn hp => ?_, fun h hv hwn hp => ?_⟩
    · rw [turn hl, judged, if_pos (show e.dstate = .lockout from h)]
    · rw [turn hl, judged, if_neg (live_state h), if_pos hv]
    · rw [turn hl, judged, if_neg (live_state h), if_neg hv, if_pos hwn]
    · rw [turn hl, judged, if_neg (live_state h), if_neg hv, if_neg (Bool.eq_false_iff.1 hwn),
        if_pos (show e.power.vddIoLow = true from hp)]
    · rw [turn hl, judged, if_neg (live_state h), if_neg hv, if_neg (Bool.eq_false_iff.1 hwn),
        if_neg (show ¬ e.power.vddIoLow = true from Bool.eq_false_iff.1 hp)]
      rfl
  · rw [lane, Dev.programEnd_of_none ok h]
  · intro w hw e freed
    refine ⟨fun hk => ?_, fun hk ha => ?_, fun hk ha => ?_⟩
    · subst hk
      rw [lane, Dev.programEnd_good (freed := freed) hw rfl]
      rfl
    · subst hk
      rw [lane, Dev.programEnd_again (e := e) hw rfl ha]
    · subst hk
      rw [lane, Dev.programEnd_worn (e := e) hw rfl ha]
  · rw [log, Dev.logWordEnd_of_idle ok h]
  · intro x rest r hx hr hb i w e f above
    have ends := Dev.logWordEnd_of_busy ok (w := w) (e := e) (f := f) hx hr hb rfl rfl rfl
    refine ⟨fun hk hd => ?_, fun hk hd ha => ?_, fun hk hd ha => ?_, fun hk ha => ?_, fun hk ha => ?_⟩
    · rw [log, ends, if_pos hk, if_neg (Nat.not_le.2 hd)]
    · rw [log, ends, if_pos hk, if_pos hd, Dev.logDone_eq, if_pos ha]
    · rw [log, ends, if_pos hk, if_pos hd, Dev.logDone_eq, if_neg ha]
    · rw [log, ends, if_neg (Bool.eq_false_iff.1 hk), if_pos (by rw [ha]; rfl)]
    · rw [log, ends, if_neg (Bool.eq_false_iff.1 hk), if_neg (by rw [ha]; decide)]

end Sys2Proof.Machine

/-! ## Supplies, and images written and verified in the field -/

namespace Sys2Proof.Machine

set_option Elab.async false

section
variable {d : Dev}

theorem Dev.live_of {e : Dev} (hs : e.dstate = d.dstate) (hb : e.boot = d.boot) : e.live = d.live := by
  unfold Dev.live
  rw [hs, hb]

/-- R45, R48: `VDD_IO` is back in its range. -/
theorem Dev.supplyReturn_io {e : Dev} (hl : d.live = true) (he : d.lvlOff 0x0021 0 = e) :
    d.supplyReturn 1 = ({ e with power := { e.power with vddIoLow := false, ioUp := true } } : Dev).logResume := by
  have hrun : ({ e with power := { e.power with vddIoLow := false, ioUp := true } } : Dev).live = true :=
    (Dev.live_of (he ▸ by simp) (he ▸ by simp)).trans hl
  subst he
  exact if_pos hrun

theorem Dev.supplyReturn_other {rail : Nat} (h : rail ≠ 1) : d.supplyReturn rail = d.lvlOff (0x0020 + rail) 0 := if_neg h

theorem Dev.imgWritten_of_idle (ok : Bool) (h : d.opRuns 0x44 = false) : d.imgWritten ok = d := if_neg (Bool.eq_false_iff.1 h)

theorem Dev.imgWritten_of_run (ok : Bool) (h : d.opRuns 0x44 = true) : d.imgWritten ok =
    (d.occIf (!ok) 0x0203 0).completeRun (fun c => c.op == 0x44) (if ok then stOk else stCrc) [] := if_pos h

theorem Dev.imgVerified_of_idle (r : Nat) (h : d.opRuns 0x45 = false) : d.imgVerified r = d := if_neg (Bool.eq_false_iff.1 h)

theorem Dev.imgVerified_of_barred {r : Nat} (h : d.opRuns 0x45 = true) (hb : d.wordBarred 0 (d.sigWord r) = true) :
    d.imgVerified r = d.completeRun (fun c => c.op == 0x45) stState [] := (if_pos h).trans (if_pos hb)

/-- R89, R90: a result shows, and counts as the result of a start-up would. -/
theorem Dev.imgVerified_of_open {r : Nat} {shown : Dev} (h : d.opRuns 0x45 = true) (hb : d.wordBarred 0 (d.sigWord r) = false)
    (hs : d.setRes d.otherSlot r = shown) : d.imgVerified r =
      ({ (if r = 0 then shown.setSigfail 0 else shown.countFail r) with
        boot := { (if r = 0 then shown.setSigfail 0 else shown.countFail r).boot with verified := decide (r = 0) } } : Dev).completeRun
        (fun c => c.op == 0x45) (if r = 0 then stOk else stCrc) [] := by
  subst hs
  exact (if_pos h).trans (if_neg (Bool.eq_false_iff.1 hb))

end

/-- Settles O13: each supply changes its own, and an image command ends by its result. -/
theorem suppliesAndFieldImages : Obligations.SuppliesAndFieldImages := by
  intro s rail ok po cd aux strobe body sig hl _ d r verify barred shown kept
  have back (k : Nat) : exec (.supplyReturn k) s = .next ⟨d.supplyReturn k, s.pending⟩ := rfl
  have write (k : Bool) : exec (.imgWriteEnd k) s = .next ⟨d.imgWritten k, s.pending⟩ := by rw [exec_imgWriteEnd, State.run_live hl]
  have judge : exec verify s = .next ⟨d.imgVerified r, s.pending⟩ := (exec_imgVerifyEnd _ _ _ _ _ _ _).trans (State.run_live hl)
  have fault : exec (.supplyFault rail) s = .next ⟨d.lvlOn (0x0020 + rail) 0, s.pending⟩ := by
    rw [exec_supplyFault, State.run_live hl]
    rfl
  refine ⟨fault, fun h => ?_, fun h => ?_, rfl, fun h => ?_, fun h => ?_, fun h => ?_, fun h => ?_, fun h hb => ?_, fun h hb hr => ?_,
    fun h hb hr => ?_⟩
  · rw [back, Dev.supplyReturn_other h]
  · subst h
    exact ⟨_, back 1, Dev.supplyReturn_io hl rfl⟩
  · rw [write, Dev.imgWritten_of_idle ok h]
  · rw [write, Dev.imgWritten_of_run true h]
    rfl
  · rw [write, Dev.imgWritten_of_run false h]
    rfl
  · rw [judge, Dev.imgVerified_of_idle r h]
  · rw [judge, Dev.imgVerified_of_barred h hb]
  · rw [judge, Dev.imgVerified_of_open (shown := shown) h hb rfl]
    simp only [if_pos hr, decide_eq_true hr]
    rfl
  · rw [judge, Dev.imgVerified_of_open (shown := shown) h hb rfl]
    simp only [if_neg hr, decide_eq_false hr]
    rfl

end Sys2Proof.Machine

/-! ## What leads to LOCKOUT stays there -/

namespace Sys2Proof.Machine

set_option Elab.async false

section
variable {d : Dev}

/-! ### What a transition does beside its state (R29) -/

theorem calm_dstate : Calm Dev.dstate := fun _ _ _ _ _ _ _ _ _ _ _ => rfl

theorem Dev.axGo_dstate (d : Dev) (a : Nat) (st : AState) : (d.axGo a st).dstate = d.dstate :=
  calm_dstate.axGo_of_ax (fun _ _ => rfl) d a st

theorem Dev.completeRun_dstate (d : Dev) (p : Cmd → Bool) (st : Nat) (r : List Byte) : (d.completeRun p st r).dstate = d.dstate := by
  have one (e : Dev) (c : Cmd) : (e.complete c st r).dstate = e.dstate := by
    obtain ⟨_, _, hs, _⟩ := e.complete_keeps c st r
    exact hs
  exact foldl_view (·.dstate) _ one _ d

theorem Dev.diagLeave_dstate (d : Dev) (a : Nat) : (d.diagLeave a).dstate = d.dstate :=
  Calm.ite _ ((Dev.completeRun_dstate _ _ _ _).trans (Calm.ite _ rfl rfl)) rfl

theorem Dev.toSafe_dstate (d : Dev) (a : Nat) : (d.toSafe a).dstate = d.dstate :=
  Calm.ite _ ((Dev.axGo_dstate _ _ _).trans (calm_dstate.selDecide d a)) rfl

theorem Dev.setAcq_dstate (d : Dev) (a : Nat) (p : AcqPath) : (d.setAcq a p).dstate = d.dstate := by
  unfold Dev.setAcq
  exact Calm.ite _ rfl (foldl_view (·.dstate) _ (fun e x => (calm_dstate.syncGates _ x).trans (calm_dstate.pwMod e x _)) _ _)

theorem Dev.acqToAsc_dstate (d : Dev) (a : Nat) : (d.acqToAsc a).dstate = d.dstate := Calm.ite _ (d.setAcq_dstate a .asc) rfl

theorem Dev.select_dstate (d : Dev) (a : Nat) : (d.select a).dstate = d.dstate :=
  (Calm.ite _ ((Dev.acqToAsc_dstate _ _).trans (Dev.axGo_dstate _ _ _)) rfl).trans (calm_dstate.selDecide d a)

theorem Dev.blame_dstate (d : Dev) (code a : Nat) : (d.blame code a).dstate = d.dstate := Calm.ite _ rfl rfl

theorem Dev.axisToSafe_dstate (d : Dev) (a : Nat) : (d.axisToSafe a).dstate = d.dstate := by
  unfold Dev.axisToSafe
  split
  · exact d.axGo_dstate _ _
  · exact (Dev.axGo_dstate _ _ _).trans (d.diagLeave_dstate a)
  · exact d.toSafe_dstate a
  · exact d.toSafe_dstate a
  · exact d.toSafe_dstate a
  · exact d.select_dstate a
  · exact d.select_dstate a

theorem Dev.axisSafe_dstate (d : Dev) (a : Nat) : (d.axisSafe a).dstate = d.dstate :=
  Calm.ite _ rfl ((foldl_view (·.dstate) _ (fun e _ => e.blame_dstate _ a) _ _).trans (d.axisToSafe_dstate a))

theorem Dev.auxMod_dstate (d : Dev) (x : Nat) (f : Aux → Aux) : (d.auxMod x f).dstate = d.dstate := rfl
theorem Dev.dclMod_dstate (d : Dev) (f : Dcl → Dcl) : (d.dclMod f).dstate = d.dstate := rfl
theorem Dev.safeMod_dstate (d : Dev) (f : Safe → Safe) : (d.safeMod f).dstate = d.dstate := rfl

theorem Dev.bridgesOff_dstate (d : Dev) (x : Nat) : (d.bridgesOff x).dstate = d.dstate :=
  (Dev.auxMod_dstate _ _ _).trans ((Dev.auxMod_dstate _ _ _).trans (Dev.auxMod_dstate _ _ _))

theorem Dev.auxLockout_dstate (d : Dev) (x : Nat) : (d.auxLockout x).dstate = d.dstate := by
  unfold Dev.auxLockout Dev.setAux
  extract_lets u v
  have hu : u.dstate = d.dstate := (calm_dstate.ev _ _).trans (calm_dstate.wf _ _ _ _ _)
  have hv : v.dstate = u.dstate := (Dev.auxMod_dstate _ _ _).trans ((calm_dstate.wf _ _ _ _ _).trans (calm_dstate.wb _ _ _ _))
  clear_value u v
  exact Calm.ite _ rfl (Calm.ite _ ((calm_dstate.lanesUnsupervised _ _).trans ((calm_dstate.injAxisLeft _ _).trans
    ((v.bridgesOff_dstate x).trans (hv.trans hu)))) hu)

theorem Dev.leftRun_dstate (d : Dev) (was : Bool) : (d.leftRun was).dstate = d.dstate :=
  Calm.ite _ (foldl_view (·.dstate) _ (fun e g => Calm.ite _ (calm_dstate.injEnd e g 4) rfl) _ d) rfl

theorem Dev.setAds_dstate (d : Dev) (l : List Nat) : (d.setAds l).dstate = d.dstate := by
  have one (e : Dev) (i : Nat) (on : Bool) : (e.setAd i on).dstate = e.dstate := Calm.ite _ rfl (calm_dstate.ilkOff _ _)
  exact foldl_view (·.dstate) _ (fun e i => Calm.ite _ (one e i _) rfl) _ d

theorem Dev.probeStart_dstate (d : Dev) (i : Nat) : (d.probeStart i).dstate = d.dstate := d.setAds_dstate [i]

theorem Dev.runAll_dstate (d : Dev) : d.runAll.dstate = d.dstate := by
  unfold Dev.runAll
  split
  · exact d.probeStart_dstate _
  · exact d.setAds_dstate _

theorem Dev.nextProbe_dstate (d : Dev) (i : Nat) : (d.nextProbe i).dstate = d.dstate :=
  Calm.ite _ (d.setAds_dstate []) (Calm.ite _ (d.setAds_dstate _) (Calm.ite _ (d.probeStart_dstate _)
    (Calm.ite _ (d.probeStart_dstate _) (Calm.ite _ (d.probeStart_dstate _) d.runAll_dstate))))

theorem Dev.dischBelow_dstate (d : Dev) : d.dischBelow.dstate = d.dstate := by
  unfold Dev.dischBelow
  exact Calm.ite _ ((calm_dstate.ev _ _).trans (calm_dstate.wb _ _ _ _)) rfl

theorem Dev.dischargeStart_dstate (d : Dev) : d.dischargeStart.dstate = d.dstate := by
  unfold Dev.dischargeStart
  extract_lets u v w
  have hv : v.dstate = d.dstate := (Dev.dclMod_dstate _ _).trans (calm_dstate.rset d _ _)
  have hw : w.dstate = v.dstate := foldl_view (·.dstate) _ (fun e i => Calm.ite _ ((calm_dstate.occ _ _ _).trans
    (calm_dstate.wb e _ _ _)) rfl) [0, 1] v
  clear_value u v w
  exact Calm.ite _ rfl ((Dev.dischBelow_dstate _).trans ((Dev.nextProbe_dstate _ _).trans (hw.trans hv)))

theorem Dev.sbcPins_dstate (d : Dev) (hs ls : Bool) : (d.sbcPins hs ls).dstate = d.dstate := by
  unfold Dev.sbcPins
  extract_lets u p v
  have hu : u.dstate = d.dstate := (calm_dstate.wb _ _ _ _).trans ((calm_dstate.wb _ _ _ _).trans (calm_dstate.wb _ _ _ _))
  have hv : v.dstate = u.dstate := rfl
  clear_value v u
  exact Calm.ite _ rfl ((Dev.safeMod_dstate _ _).trans (hv.trans hu))

theorem Dev.sbcEnd_dstate (d : Dev) : d.sbcEnd.dstate = d.dstate := by
  unfold Dev.sbcEnd
  split
  · rfl
  · extract_lets h l u v w
    have hu : u.dstate = d.dstate := (Dev.safeMod_dstate _ _).trans (calm_dstate.wb d _ _ _)
    have hv : v.dstate = u.dstate := calm_dstate.ev _ _
    have hw : w.dstate = v.dstate := Calm.ite _ ((calm_dstate.lvlOff _ _ _).trans (Dev.safeMod_dstate _ _)) rfl
    clear_value h l w v u
    exact (Dev.completeRun_dstate _ _ _ _).trans (hw.trans (hv.trans hu))

theorem Dev.sbcRes_dstate (d : Dev) (sw res : Nat) : (d.sbcRes sw res).dstate = d.dstate := by
  have hu : (d.wf Reg.SAFE_SBC_STAT (if sw = 0 then 20 else 16) 4 res).dstate = d.dstate := calm_dstate.wf d _ _ _ _
  unfold Dev.sbcRes
  exact Calm.ite _ hu ((calm_dstate.occ _ _ _).trans ((calm_dstate.wb _ _ _ _).trans hu))

theorem Dev.sbcAbort_dstate (d : Dev) : d.sbcAbort.dstate = d.dstate := by
  unfold Dev.sbcAbort
  split
  · rfl
  · exact (Dev.sbcEnd_dstate _).trans (foldl_view (·.dstate) _ (fun e sw => e.sbcRes_dstate sw 5) _ d)

theorem Dev.sbcUpdate_dstate (d : Dev) : d.sbcUpdate.dstate = d.dstate := by
  have take (r : Bool) : (d.sbcTake r).dstate = d.dstate := (d.sbcAbort.sbcPins_dstate r r).trans d.sbcAbort_dstate
  unfold Dev.sbcUpdate
  exact Calm.ite _ (Calm.ite _ rfl (take true)) (Calm.ite _ (Calm.ite _ rfl (take false)) (Calm.ite _ rfl
    ((d.sbcAbort.sbcPins_dstate false false).trans d.sbcAbort_dstate)))

/-- R29: what LOCKOUT ends does not lead out of it. -/
theorem Dev.enterLockout_dstate (d : Dev) : d.enterLockout.dstate = .lockout :=
  calc d.enterLockout.dstate
    _ = _ := (Dev.sbcUpdate_dstate _).trans ((Calm.ite _ (Dev.dischargeStart_dstate _) rfl).trans (Dev.leftRun_dstate _ _))
    _ = _ := foldl_view (·.dstate) _ (fun e x => Calm.ite _ rfl (e.auxLockout_dstate x)) [0, 1] _
    _ = _ := foldl_view (·.dstate) _ Dev.axisSafe_dstate [0, 1, 2, 3] (d.setState .lockout).ptDrop
    _ = .lockout := rfl

/-! ### What one report leaves (R360) -/

theorem mem_putRec {l : List FltRec} {x y : FltRec} (h : y ∈ l) (hc : y.code ≠ x.code) : y ∈ putRec l x := by
  induction l with
  | nil => exact absurd h List.not_mem_nil
  | cons z l ih =>
    unfold putRec
    obtain rfl | h := List.mem_cons.1 h
    · rw [if_neg hc]
      exact List.mem_cons_self
    · split
      · exact List.mem_cons_of_mem x h
      · exact List.mem_cons_of_mem z (ih h)

theorem self_mem_putRec (l : List FltRec) (x : FltRec) : x ∈ putRec l x := by
  induction l with
  | nil => exact List.mem_singleton_self x
  | cons z l ih =>
    unfold putRec
    split
    · exact List.mem_cons_self
    · exact List.mem_cons_of_mem z ih

theorem Dev.logLost_state (d : Dev) : d.logLost.flt.recs = d.flt.recs ∧ d.logLost.dstate = d.dstate := by
  unfold Dev.logLost
  extract_lets u
  have hu : u.flt.recs = d.flt.recs ∧ u.dstate = d.dstate := ⟨rfl, rfl⟩
  clear_value u
  split
  · split <;> exact hu
  · split <;> exact hu

theorem Dev.logStart_state (d : Dev) (l : List (List Word)) :
    (d.logStart l).flt.recs = d.flt.recs ∧ (d.logStart l).dstate = d.dstate := by
  induction l generalizing d with
  | nil => exact ⟨rfl, rfl⟩
  | cons e rest ih =>
    unfold Dev.logStart
    split
    · exact ⟨(ih d.logLost).1.trans d.logLost_state.1, (ih d.logLost).2.trans d.logLost_state.2⟩
    · exact ⟨rfl, rfl⟩

theorem Dev.logResume_state (d : Dev) : d.logResume.flt.recs = d.flt.recs ∧ d.logResume.dstate = d.dstate := by
  unfold Dev.logResume
  split
  · exact ⟨rfl, rfl⟩
  · split
    · exact d.logStart_state _
    · exact ⟨rfl, rfl⟩

theorem Dev.logQueue_state (d : Dev) (r : FltRec) (esc : Bool) :
    (d.logQueue r esc).flt.recs = d.flt.recs ∧ (d.logQueue r esc).dstate = d.dstate := by
  unfold Dev.logQueue
  split
  · exact d.logLost_state
  · exact Dev.logResume_state _

theorem Dev.injNote_state (d : Dev) (r : Report) : (d.injNote r).flt = d.flt ∧ (d.injNote r).dstate = d.dstate ∧
    (d.injNote r).regs = d.regs := by
  unfold Dev.injNote
  split
  · split <;> exact ⟨rfl, rfl, rfl⟩
  · exact ⟨rfl, rfl, rfl⟩

/-- R360: the record that a report opens stands among the others, and the device stays in its state. -/
theorem Dev.openRec_state (d : Dev) (r : Report) : ∃ x : FltRec, (d.openRec r).flt.recs = putRec d.flt.recs x ∧ x.code = r.code ∧
    x.eclass = d.mapClass r.code ∧ (r.level = false → d.mapClass r.code = 4 → x.isOpen = true) ∧ (d.openRec r).dstate = d.dstate := by
  unfold Dev.openRec
  extract_lets c here x u
  have hx : r.level = false → d.mapClass r.code = 4 → x.isOpen = true := fun hl h4 => by
    have hh : here = true := if_neg (by rw [hl]; decide)
    have hc : c ≠ 0 := fun h0 => by
      have : (4 : Nat) = 0 := h4.symm.trans h0
      omega
    show (decide (c ≠ 0) && (here || decide (c ≠ 1))) = true
    rw [hh, decide_eq_true hc]
    rfl
  refine ⟨x, ?_, rfl, rfl, hx, ?_⟩
  · split
    · exact (u.logQueue_state x false).1
    · rfl
  · split
    · exact (u.logQueue_state x false).2
    · rfl

/-- One report changes no record but that of its code, and no device state. -/
theorem Dev.report_keeps (d : Dev) (r : Report) : (d.report r).dstate = d.dstate ∧
    ∀ y ∈ d.flt.recs, y.code ≠ r.code → y ∈ (d.report r).flt.recs := by
  obtain ⟨hf, hs, _⟩ := d.injNote_state r
  unfold Dev.report
  split
  · exact ⟨rfl, fun y hy _ => hy⟩
  · have opens : ((d.injNote r).openRec r).dstate = d.dstate ∧
        ∀ y ∈ d.flt.recs, y.code ≠ r.code → y ∈ ((d.injNote r).openRec r).flt.recs := by
      obtain ⟨x, hr, hc, _, _, hk⟩ := (d.injNote r).openRec_state r
      refine ⟨hk.trans hs, fun y hy hn => ?_⟩
      rw [hr, hf]
      exact mem_putRec hy (hc ▸ hn)
    dsimp only
    split
    case h_1 x hx =>
      split
      · refine ⟨hs, fun y hy hn => ?_⟩
        have hc : x.code = r.code := by simpa using List.find?_some hx
        exact mem_putRec (hf ▸ hy) (hc ▸ hn)
      · exact opens
    · exact opens

theorem Dev.mapClass_of_regs {e : Dev} (h : e.regs = d.regs) (c : Nat) : e.mapClass c = d.mapClass c := by
  have hg (a : Nat) : e.rget a = d.rget a := Dev.rget_of_regs h a
  unfold Dev.mapClass Dev.mapWord
  simp only [hg]

/-- R360, R362: a report of class F4 whose record is closed opens one. -/
theorem Dev.report_opens {r : Report} (hs : slotOf r.code ≠ none) (hl : r.level = false) (h4 : d.mapClass r.code = 4)
    (hc : ∀ y ∈ d.flt.recs, y.code = r.code → y.isOpen = false) :
    ∃ x ∈ (d.report r).flt.recs, x.code = r.code ∧ x.isOpen = true ∧ x.eclass = 4 := by
  obtain ⟨hf, _, hg⟩ := d.injNote_state r
  have hm : (d.injNote r).mapClass r.code = 4 := (Dev.mapClass_of_regs hg _).trans h4
  have opens : ∃ x ∈ ((d.injNote r).openRec r).flt.recs, x.code = r.code ∧ x.isOpen = true ∧ x.eclass = 4 := by
    obtain ⟨x, hr, hcode, he, ho, _⟩ := (d.injNote r).openRec_state r
    exact ⟨x, hr ▸ self_mem_putRec _ x, hcode, ho hl hm, he.trans hm⟩
  unfold Dev.report
  rw [if_neg (by rw [Option.isNone_iff_eq_none]; exact hs)]
  dsimp only
  split
  case h_1 x hx =>
    have closed : x.isOpen = false := hc x (hf ▸ List.mem_of_find?_eq_some hx) (by simpa using List.find?_some hx)
    rw [if_neg (Bool.eq_false_iff.1 closed)]
    exact opens
  · exact opens

/-- R27, R363: once the reports of a cycle have opened a record of class F4 that was closed before, the device is in LOCKOUT. -/
theorem Dev.reports_dstate_lockout {l : List Report} {x : FltRec} (hx : x ∈ (d.reported l).flt.recs) (ho : x.isOpen = true)
    (h4 : x.eclass = 4) (hc : ∀ y ∈ d.flt.recs, y.code = x.code → y.isOpen = false) (hd : (d.reported l).dstate ≠ .dormant) :
    (d.reports l).dstate = .lockout := by
  have old : ¬ x.code ∈ d.flt.recs.filterMap (fun r => if r.isOpen then some r.code else none) := fun hm => by
    obtain ⟨y, hy, he⟩ := List.mem_filterMap.1 hm
    by_cases hyo : y.isOpen = true
    · rw [if_pos hyo] at he
      exact Bool.false_ne_true ((hc y hy (Option.some.inj he)).symm.trans hyo)
    · rw [if_neg hyo] at he
      exact absurd he (by simp)
  have fresh : x ∈ d.freshRecs l := List.mem_filter.2 ⟨hx, by simp [ho, old]⟩
  have any : (d.freshRecs l).any (fun r => r.eclass == 4) = true := List.any_eq_true.2 ⟨x, fresh, beq_iff_eq.2 h4⟩
  by_cases hl : (d.reported l).dstate = .lockout
  · rw [Dev.reports_eq, if_pos any, if_pos (Or.inl hl), hl]
  · rw [Dev.reports_lockout any hl hd, Dev.enterLockout_dstate]

end

end Sys2Proof.Machine

/-! ## Start-up: the steps of BOOT and IMAGE_CHECK -/

namespace Sys2Proof.Machine

set_option Elab.async false

section
variable {d : Dev}

/-- The state of a step is IMAGE_CHECK with its number. -/
theorem not_atStep {n : Nat} (h : ¬ (d.dstate = .imageCheck ∧ d.rf Reg.IMG_STATUS 16 4 = n)) :
    d.dstate ≠ .imageCheck ∨ d.rf Reg.IMG_STATUS 16 4 ≠ n := Decidable.not_and_iff_or_not.1 h

theorem atStep {n : Nat} (h : d.dstate = .imageCheck ∧ d.rf Reg.IMG_STATUS 16 4 = n) :
    ¬ (d.dstate ≠ .imageCheck ∨ d.rf Reg.IMG_STATUS 16 4 ≠ n) := fun hh => hh.elim (fun hs => hs h.1) (fun hn => hn h.2)

/-! ### A step acts at its number only -/

theorem Dev.flashEnd_still (po : Bool) (ha hb : List Byte) (h : ¬ (d.dstate = .imageCheck ∧ d.rf Reg.IMG_STATUS 16 4 = 1)) :
    d.flashEnd po ha hb = d := if_pos (not_atStep h)

theorem Dev.readEnd_still (body : List Byte) (cd aux strobe : Bool) (h : ¬ (d.dstate = .imageCheck ∧ d.rf Reg.IMG_STATUS 16 4 = 2)) :
    d.readEnd body cd aux strobe = d := if_pos (not_atStep h)

theorem Dev.verifyEnd_still (sig : List Byte) (h : ¬ (d.dstate = .imageCheck ∧ d.rf Reg.IMG_STATUS 16 4 = 3)) :
    d.verifyEnd sig = d := if_pos (not_atStep h)

theorem Dev.commitEnd_still (c : ImageContent) (h : ¬ (d.dstate = .imageCheck ∧ d.rf Reg.IMG_STATUS 16 4 = 4)) :
    d.commitEnd c = d := if_pos (not_atStep h)

theorem Dev.bootBist_still (outs : List BistOut) (h : ¬ (d.dstate = .imageCheck ∧ d.rf Reg.IMG_STATUS 16 4 = 5)) :
    d.bootBist outs = d := if_pos (not_atStep h)

theorem Dev.islandsEnd_still (h : ¬ (d.dstate = .imageCheck ∧ d.rf Reg.IMG_STATUS 16 4 = 6)) : d.islandsEnd = d := if_pos (not_atStep h)

/-! ### The clock step (R68, R123) -/

/-- The cause of the boot, the locks and the clock in use show. -/
def Dev.clockShown (d : Dev) (mdll ilo : Bool) : Dev :=
  (((d.rset Reg.IMG_CAUSE (BitVec.ofNat 32 d.boot.cause.code)).wb Reg.CLK_STATUS 3 mdll).wb Reg.CLK_STATUS 4 ilo).wf Reg.CLK_STATUS 1 2
    (if mdll then 0 else if ilo then 1 else 2)

/-- With that the clear of the SRAM begins. -/
def Dev.clockBegun (d : Dev) (mdll ilo : Bool) : Dev :=
  { d.clockShown mdll ilo with
    clk := { (d.clockShown mdll ilo).clk with mdllFaultAtCommit := !mdll && ilo }
    boot := { (d.clockShown mdll ilo).boot with clearing := true } }

theorem Dev.clockShown_keeps (d : Dev) (mdll ilo : Bool) : (d.clockShown mdll ilo).flt = d.flt ∧ (d.clockShown mdll ilo).dstate = d.dstate ∧
    (d.clockShown mdll ilo).power = d.power ∧ (d.clockShown mdll ilo).clk = d.clk ∧ (d.clockShown mdll ilo).boot = d.boot := by
  simp [Dev.clockShown]

theorem Dev.clockBegun_keeps (d : Dev) (mdll ilo : Bool) : (d.clockBegun mdll ilo).flt = d.flt ∧
    (d.clockBegun mdll ilo).dstate = d.dstate ∧ (d.clockBegun mdll ilo).power = d.power := by
  obtain ⟨hflt, hstate, hpower, _⟩ := d.clockShown_keeps mdll ilo
  exact ⟨hflt, hstate, hpower⟩

theorem Dev.clockShown_rget (d : Dev) (mdll ilo : Bool) {a : Nat} (hc : a ≠ Reg.IMG_CAUSE) (hs : a ≠ Reg.CLK_STATUS) :
    (d.clockShown mdll ilo).rget a = d.rget a :=
  (Dev.rget_wf_other _ _ _ _ hs).trans ((Dev.rget_wb_other _ _ _ hs).trans ((Dev.rget_wb_other _ _ _ hs).trans
    (Dev.rget_rset_other _ _ hc)))

theorem Dev.clockRomEnd_boot (h : d.dstate = .boot) (rom mdll ilo : Bool) : d.clockRomEnd rom mdll ilo =
    if (!rom || !(mdll || ilo)) = true then (d.clockBegun mdll ilo).reports
      ((if rom = true then [] else [⟨0x0001, 0, false⟩]) ++ (if (mdll || ilo) = true then [] else [⟨0x0002, 0, false⟩]))
    else if (d.clockBegun mdll ilo).power.testMode = true then (d.clockBegun mdll ilo).bootFail 0x0213
    else ((d.clockBegun mdll ilo).setState .imageCheck).setStep 1 := if_neg (fun hn => hn h)

/-! ### A failure leads to LOCKOUT (R74) -/

/-- A device whose registers agree but for those of the start-up has the same map of faults. -/
theorem Dev.mapClass_of_rget {e : Dev} (h : ∀ n, e.rget (Reg.FLT_MAP n) = d.rget (Reg.FLT_MAP n)) (c : Nat) :
    e.mapClass c = d.mapClass c := by
  unfold Dev.mapClass Dev.mapWord
  simp only [h]

theorem Dev.setStep_mapClass (d : Dev) (n c : Nat) : (d.setStep n).mapClass c = d.mapClass c :=
  Dev.mapClass_of_rget (fun _ => Dev.rget_wf_other _ _ _ _ (by unfold Reg.FLT_MAP Reg.IMG_STATUS; omega)) c

theorem Dev.clockBegun_mapClass (d : Dev) (mdll ilo : Bool) (c : Nat) : (d.clockBegun mdll ilo).mapClass c = d.mapClass c :=
  Dev.mapClass_of_rget (fun _ => (Dev.rget_of_regs (d := d.clockShown mdll ilo) rfl _).trans
    (d.clockShown_rget mdll ilo (by unfold Reg.FLT_MAP Reg.IMG_CAUSE; omega) (by unfold Reg.FLT_MAP Reg.CLK_STATUS; omega))) c

/-- One report of class F4 with a closed record leads to LOCKOUT. -/
theorem Dev.lockout_of_report {r : Report} (hs : slotOf r.code ≠ none) (hl : r.level = false) (h4 : d.mapClass r.code = 4)
    (hc : ∀ y ∈ d.flt.recs, y.code = r.code → y.isOpen = false) (hd : d.dstate ≠ .dormant) : (d.reports [r]).dstate = .lockout := by
  obtain ⟨x, hx, hcode, ho, he⟩ := Dev.report_opens hs hl h4 hc
  refine Dev.reports_dstate_lockout (l := [r]) hx ho he (fun y hy hyc => hc y hy (hyc.trans hcode)) ?_
  exact (d.report_keeps r).1.trans_ne hd

/-- So does the first of two of different codes. -/
theorem Dev.lockout_of_two {r q : Report} (hsort : sortReports [r, q] = [r, q]) (hs : slotOf r.code ≠ none) (hl : r.level = false)
    (h4 : d.mapClass r.code = 4) (hc : ∀ y ∈ d.flt.recs, y.code = r.code → y.isOpen = false) (hn : r.code ≠ q.code)
    (hd : d.dstate ≠ .dormant) : (d.reports [r, q]).dstate = .lockout := by
  obtain ⟨x, hx, hcode, ho, he⟩ := Dev.report_opens hs hl h4 hc
  obtain ⟨hk, hkeep⟩ := (d.report r).report_keeps q
  have both : d.reported [r, q] = (d.report r).report q := by
    unfold Dev.reported
    rw [hsort]
    rfl
  refine Dev.reports_dstate_lockout (l := [r, q]) (x := x) ?_ ho he (fun y hy hyc => hc y hy (hyc.trans hcode)) ?_
  · rw [both]
    exact hkeep x hx (fun h => hn (hcode.symm.trans h))
  · rw [both]
    exact (hk.trans (d.report_keeps r).1).trans_ne hd

/-! ### The flash step (R81, R87, R88) -/

/-- Of two results the one of the slot in use. -/
theorem tget_pair {x y n : Nat} (h : n < 2) : tget #v[x, y] n = if n = 0 then x else y := by
  obtain rfl | rfl : n = 0 ∨ n = 1 := by omega
  · rfl
  · rfl

/-- The slot in use is the one that has been taken. -/
theorem Dev.slot_wf {n : Nat} (hn : n < 2) (h : canon resetOf d.regs = true) : (d.wf Reg.IMG_STATUS 8 1 n).slot = n :=
  (rf_wf_same h _ _ (by decide)).trans (Nat.mod_eq_of_lt hn)

theorem Dev.flashEnd_step {po : Bool} {ha hb : List Byte} {heads shown : Dev}
    (h : d.dstate = .imageCheck ∧ d.rf Reg.IMG_STATUS 16 4 = 1)
    (hh : { d with boot := { d.boot with
      res := #v[d.hdrCheck po ha, d.hdrCheck po hb], len := #v[beAt ha 0x0C 4, beAt hb 0x0C 4], ver := #v[beAt ha 8 4, beAt hb 8 4]
      catEnd := #v[beAt ha 0x10 4 + 16 * beAt ha 0x14 1, beAt hb 0x10 4 + 16 * beAt hb 0x14 1]
      count := #v[beAt ha 0x14 1, beAt hb 0x14 1], key := #v[hdrKey ha, hdrKey hb] } } = heads)
    (hs : ((((heads.setRes 0 (d.hdrCheck po ha)).setRes 1 (d.hdrCheck po hb)).rset Reg.IMG_ARB (d.pword 1)).wf Reg.IMG_STATUS 8 1
      (fget (d.pword 0) 0 1)) = shown) : d.flashEnd po ha hb =
    if tget shown.boot.res shown.slot = 0 then shown.setStep 2 else shown.slotFail (tget shown.boot.res shown.slot) := by
  subst hs hh
  exact if_neg (atStep h)

/-! ### Reading, verification, commit (R79–R84) -/

theorem Dev.readEnd_step {body bytes : List Byte} {cd aux strobe : Bool} {read : Nat} {hashed : Dev}
    (h : d.dstate = .imageCheck ∧ d.rf Reg.IMG_STATUS 16 4 = 2) (hb : padTo (tget d.boot.len d.slot - 7856) body = bytes)
    (hr : readCheck (tget d.boot.catEnd d.slot) (tget d.boot.len d.slot - 7856)
      (catalogue (tget d.boot.catEnd d.slot - 16 * tget d.boot.count d.slot) (tget d.boot.count d.slot) bytes) cd aux strobe = read)
    (hh : { d with boot := { d.boot with hash := sha256 bytes } } = hashed) : d.readEnd body cd aux strobe =
    if read = 0 then hashed.setStep 3 else hashed.slotFail read := by
  subst hb hr hh
  exact if_neg (atStep h)

theorem Dev.verifyEnd_step {sig : List Byte} (h : d.dstate = .imageCheck ∧ d.rf Reg.IMG_STATUS 16 4 = 3) : d.verifyEnd sig =
    if imageSigned (tget d.boot.key d.slot) d.boot.hash sig = true then (d.setSigfail 0).setStep 4 else d.slotFail 0x0F :=
  if_neg (atStep h)

theorem Dev.commitEnd_step {c : ImageContent} (h : d.dstate = .imageCheck ∧ d.rf Reg.IMG_STATUS 16 4 = 4) : d.commitEnd c =
    if d.contentOk c = true then (d.setRes d.slot 0).commit c else d.slotFail 0x10 := if_neg (atStep h)

/-! ### The failure rule (R74, R81, R88) -/

theorem Dev.slotFail_both {r : Nat} (h : d.boot.fellBack = true) : d.slotFail r = ((d.slotBad r).setStep 8).reports [⟨0x0202, 0, false⟩] :=
  if_pos h

theorem Dev.slotFail_first {r : Nat} {x y : Dev} (h : d.boot.fellBack = false) (hx : d.slotBad r = x)
    (hy : (x.ownWord 0 (bset (x.pword 0) 1 false)).wf Reg.IMG_STATUS 8 1 (1 - x.slot) = y) : d.slotFail r =
    if tget y.boot.res (1 - x.slot) = 0 then ({ y with boot := { y.boot with fellBack := true } } : Dev).setStep 2
    else ({ y with boot := { y.boot with fellBack := true } } : Dev).bothBad (tget y.boot.res (1 - x.slot)) := by
  subst hx hy
  exact if_neg (Bool.eq_false_iff.1 h)

/-! ### The mandatory self-test and the islands (R74, R421) -/

/-- The results of the mandatory units, in their order. -/
def Dev.booted (d : Dev) (outs : List BistOut) : Dev := (bootUnits.zip outs).foldl (fun d x => (d.bistStore x.1 true x.2).ev 0x05) d

/-- Some unit of the subset ended with a result that `p` picks. -/
theorem Dev.anyUnit_iff {outs : List BistOut} {p : Nat → Bool} {e : Dev} :
    (bootUnits.zip outs).any (fun x => p (e.rf (Reg.BIST_U_RES x.1) 28 4)) = true ↔
      ∃ u ∈ (bootUnits.zip outs).map Prod.fst, p (e.rf (Reg.BIST_U_RES u) 28 4) = true := by
  rw [List.any_eq_true]
  exact ⟨fun ⟨x, hx, hp⟩ => ⟨x.1, List.mem_map_of_mem hx, hp⟩, fun ⟨u, hu, hp⟩ => by
    obtain ⟨x, hx, rfl⟩ := List.mem_map.1 hu
    exact ⟨x, hx, hp⟩⟩

theorem Dev.bootBist_step {outs : List BistOut} (h : d.dstate = .imageCheck ∧ d.rf Reg.IMG_STATUS 16 4 = 5) : d.bootBist outs =
    if (bootUnits.zip outs).any (fun x => (d.booted outs).rf (Reg.BIST_U_RES x.1) 28 4 == 1 ||
      (d.booted outs).rf (Reg.BIST_U_RES x.1) 28 4 == 3) = true then (d.booted outs).reports [⟨0x0F03, 0, false⟩]
    else ((d.booted outs).occIf ((bootUnits.zip outs).any (fun x => (d.booted outs).rf (Reg.BIST_U_RES x.1) 28 4 == 2)) 0x0F02 0).islandsStart :=
  if_neg (atStep h)

theorem Dev.islandsEnd_step {islands : Dev} (h : d.dstate = .imageCheck ∧ d.rf Reg.IMG_STATUS 16 4 = 6)
    (hi : (d.lanesNeeded.foldl Dev.untrained d).seqGo d.img.adcGo = islands) :
    d.islandsEnd = ({ islands with boot := { islands.boot with axLink := true } } : Dev).enterReady := by
  subst hi
  exact if_neg (atStep h)

end

/-- Settles O12: each end of a step by its number, and each failure by the rule of the slots or of LOCKOUT. -/
theorem startupStepsAndSlots : Obligations.StartupStepsAndSlots := by
  intro s po cd aux strobe rom mdll ilo ha hb body sig c outs hl hok d at' caused begun closed ra rb ends heads pref shown rp last bytes read
    signed hashed tested res units islands
  have canonical : canon resetOf d.regs = true := Dev.regs_canon hok
  have clock (r : Bool) : exec (.clockRomStepEnd r mdll ilo) s = .next ⟨d.clockRomEnd r mdll ilo, s.pending⟩ := by
    rw [exec_clockRomStepEnd, State.run_live hl]
  have flash : exec (.flashStartEnd po ha hb) s = .next ⟨d.flashEnd po ha hb, s.pending⟩ := by
    rw [exec_flashStartEnd, State.run_live hl]
  have reads : exec (.imageReadEnd body cd aux strobe) s = .next ⟨d.readEnd body cd aux strobe, s.pending⟩ := by
    rw [exec_imageReadEnd, State.run_live hl]
  have verify : exec (.verifyEnd sig) s = .next ⟨d.verifyEnd sig, s.pending⟩ := by rw [exec_verifyEnd, State.run_live hl]
  have commit : exec (.commitEnd c) s = .next ⟨d.commitEnd c, s.pending⟩ := by rw [exec_commitEnd, State.run_live hl]
  have bist : exec (.mandatoryBistEnd outs) s = .next ⟨d.bootBist outs, s.pending⟩ := by rw [exec_mandatoryBistEnd, State.run_live hl]
  have isl : exec .islandsStepEnd s = .next ⟨d.islandsEnd, s.pending⟩ := by rw [exec_islandsStepEnd, State.run_live hl]
  obtain ⟨_, _, _, hclk, hboot⟩ := d.clockShown_keeps mdll ilo
  have hbegun : d.clockBegun mdll ilo = begun := by
    unfold Dev.clockBegun
    rw [hclk, hboot]
    rfl
  have bkeeps := d.clockBegun_keeps mdll ilo
  have bmap := d.clockBegun_mapClass mdll ilo
  have ends_clock := fun h : d.dstate = .boot => d.clockRomEnd_boot h rom mdll ilo
  have ends_good := fun h : d.dstate = .boot => d.clockRomEnd_boot h true mdll ilo
  rw [hbegun] at bkeeps bmap ends_clock ends_good
  clear_value begun
  obtain ⟨bflt, bstate, bpower⟩ := bkeeps
  have awake (h : d.dstate = .boot) : begun.dstate ≠ .dormant := fun hh => by
    rw [bstate, h] at hh
    exact absurd hh (by decide)
  have headers (h : at' 1) : d.flashEnd po ha hb = if rp = 0 then shown.setStep 2 else shown.slotFail rp := by
    have hpref : pref < 2 := Nat.mod_lt _ (by decide)
    have hslot : shown.slot = pref := Dev.slot_wf hpref (rset_canon (rset_canon (rset_canon canonical _ _) _ _) _ _)
    have hres : tget shown.boot.res shown.slot = rp := by
      rw [hslot]
      exact tget_pair hpref
    rw [Dev.flashEnd_step (heads := heads) (shown := shown) h rfl rfl, hres]
  have bad : (bootUnits.zip outs).any (fun x => (d.booted outs).rf (Reg.BIST_U_RES x.1) 28 4 == 1 ||
      (d.booted outs).rf (Reg.BIST_U_RES x.1) 28 4 == 3) = true ↔ ∃ u ∈ units, res u = 1 ∨ res u = 3 := by
    rw [Dev.anyUnit_iff (p := fun n => n == 1 || n == 3)]
    simp only [Bool.or_eq_true, beq_iff_eq]
    rfl
  have mended : (bootUnits.zip outs).any (fun x => (d.booted outs).rf (Reg.BIST_U_RES x.1) 28 4 == 2) = true ↔
      ∃ u ∈ units, res u = 2 := by
    rw [Dev.anyUnit_iff (p := fun n => n == 2)]
    simp only [beq_iff_eq]
    rfl
  have good (hx : ∀ u ∈ units, res u ≠ 1 ∧ res u ≠ 3) : ¬ (bootUnits.zip outs).any (fun x => (d.booted outs).rf (Reg.BIST_U_RES x.1) 28 4 == 1 ||
      (d.booted outs).rf (Reg.BIST_U_RES x.1) 28 4 == 3) = true := fun hh => by
    obtain ⟨u, hu, h1 | h3⟩ := bad.1 hh
    · exact (hx u hu).1 h1
    · exact (hx u hu).2 h3
  refine ⟨?_, fun h => ?_, fun h hk ht => ?_, fun h hk ht => ?_, fun h hk => ?_, fun h => ?_, fun h hr => ?_, fun h hr => ?_, fun h => ?_,
    fun h hr => ?_, fun h hr => ?_, fun h => ?_, fun h hr => ?_, fun h hr => ?_, fun h => ?_, fun h hr => ?_, fun h hr => ?_,
    fun e r => rfl, fun e r h => Dev.slotFail_both h, ?_, fun h => ?_, fun h hx => ?_, fun h hx h2 => ?_, fun h hx h2 => ?_, fun h => ?_,
    fun h => ?_⟩
  · rw [exec_sramClearEnd, State.run_live hl]
    rfl
  · have still : d.clockRomEnd rom mdll ilo = d := if_pos h
    rw [clock, still]
  · have locked : (mdll || ilo) = true := (Bool.or_eq_true _ _).mpr hk
    rw [clock, ends_good h, locked, if_neg (by decide), if_neg (Bool.eq_false_iff.1 (bpower ▸ ht))]
  · have locked : (mdll || ilo) = true := (Bool.or_eq_true _ _).mpr hk
    refine ⟨(begun.setStep 8).reports [⟨0x0213, 0, false⟩], ?_, rfl, fun h4 hc => ?_⟩
    · rw [clock, ends_good h, locked, if_neg (by decide), if_pos (bpower ▸ ht)]
      rfl
    · exact Dev.lockout_of_report (by decide) rfl ((begun.setStep_mapClass 8 _).trans ((bmap _).trans h4))
        (fun y hy hy' => hc y (bflt ▸ hy) hy') (awake h)
  · have failed : (!rom || !(mdll || ilo)) = true := by
      obtain rfl | ⟨rfl, rfl⟩ := hk
      · rfl
      · simp
    refine ⟨_, ?_, rfl, fun h1 h2 c1 c2 => ?_⟩
    · rw [clock, ends_clock h, if_pos failed]
    · have closed1 : ∀ y ∈ begun.flt.recs, y.code = 0x0001 → y.isOpen = false := fun y hy hy' => c1 y (bflt ▸ hy) hy'
      have closed2 : ∀ y ∈ begun.flt.recs, y.code = 0x0002 → y.isOpen = false := fun y hy hy' => c2 y (bflt ▸ hy) hy'
      cases rom with
      | true =>
        rw [Bool.not_true, Bool.false_or, Bool.not_eq_true'] at failed
        rw [failed]
        exact Dev.lockout_of_report (r := ⟨0x0002, 0, false⟩) (by decide) rfl ((bmap _).trans h2) closed2 (awake h)
      | false =>
        by_cases hk : (mdll || ilo) = true
        · rw [hk]
          exact Dev.lockout_of_report (r := ⟨0x0001, 0, false⟩) (by decide) rfl ((bmap _).trans h1) closed1 (awake h)
        · rw [Bool.eq_false_iff.2 hk]
          exact Dev.lockout_of_two (r := ⟨0x0001, 0, false⟩) (q := ⟨0x0002, 0, false⟩) (by decide) (by decide) rfl
            ((bmap _).trans h1) closed1 (by decide) (awake h)
  · rw [flash, Dev.flashEnd_still _ _ _ h]
  · rw [flash, headers h, if_pos hr]
  · rw [flash, headers h, if_neg hr]
  · rw [reads, Dev.readEnd_still _ _ _ _ h]
  · rw [reads, Dev.readEnd_step (bytes := bytes) (read := read) (hashed := hashed) h rfl rfl rfl, if_pos hr]
  · rw [reads, Dev.readEnd_step (bytes := bytes) (read := read) (hashed := hashed) h rfl rfl rfl, if_neg hr]
  · rw [verify, Dev.verifyEnd_still _ h]
  · rw [verify, Dev.verifyEnd_step h]
    exact congrArg (fun u => Host.Outcome.next (State.mk u s.pending)) (if_pos hr)
  · rw [verify, Dev.verifyEnd_step h]
    exact congrArg (fun u => Host.Outcome.next (State.mk u s.pending)) (if_neg (Bool.eq_false_iff.1 hr))
  · rw [commit, Dev.commitEnd_still _ h]
  · rw [commit, Dev.commitEnd_step h, if_pos hr]
  · rw [commit, Dev.commitEnd_step h, if_neg (Bool.eq_false_iff.1 hr)]
  · intro e r hf x o y y'
    have fails := Dev.slotFail_first (r := r) (x := x) (y := y) hf rfl rfl
    exact ⟨fun h => fails.trans (if_pos h), fun h => fails.trans (if_neg h)⟩
  · rw [bist, Dev.bootBist_still _ h]
  · rw [bist, Dev.bootBist_step h, if_pos (bad.2 hx)]
    rfl
  · have whole : (bootUnits.zip outs).any (fun x => (d.booted outs).rf (Reg.BIST_U_RES x.1) 28 4 == 2) = false :=
      Bool.eq_false_iff.2 (fun hh => (mended.1 hh).elim (fun u hu => h2 u hu.1 hu.2))
    rw [bist, Dev.bootBist_step h, if_neg (good hx), whole]
    rfl
  · rw [bist, Dev.bootBist_step h, if_neg (good hx), mended.2 h2]
    rfl
  · rw [isl, Dev.islandsEnd_still h]
  · rw [isl, Dev.islandsEnd_step (islands := islands) h rfl]

end Sys2Proof.Machine

/-! ## Power, wake and reset, and the pins meanwhile -/

namespace Sys2Proof.Machine

set_option Elab.async false

section
variable {d : Dev} {c : BootCause}

/-! ### Sleeping and waking (R42, R61, R66) -/

theorem Dev.asleep_iff : (d.asleep && d.power.vkaUp) = true ↔ d.dstate = .dormant ∧ d.boot.waiting = none ∧ d.power.vkaUp = true := by
  unfold Dev.asleep
  simp only [Bool.and_eq_true, beq_iff_eq, Option.isNone_iff_eq_none, and_assoc]

/-- The rails are up and the power-on reset is over. -/
def Dev.railed (d : Dev) (tm : Bool) : Dev :=
  { d with power := { d.power with railsUp := true, porEnded := true, vddIoLow := false, ioUp := true, testMode := tm } }

theorem Dev.porEnd_of_asleep (tm : Bool) (h : (d.asleep && d.power.vkaUp) = true) (hp : d.power.porEnded = false) : d.porEnd tm =
    if d.power.wake = true then (d.railed tm).bootRequest .power
    else if d.power.nResetLow = true then (d.railed tm).bootRequest .nreset else d.railed tm :=
  if_pos (by rw [h, hp]; rfl)

theorem Dev.porEnd_of_not (tm : Bool) (h : ¬ (d.asleep && d.power.vkaUp) = true ∨ d.power.porEnded = true) : d.porEnd tm = d := by
  refine if_neg (fun hh => ?_)
  obtain ⟨ha, hp⟩ := (Bool.and_eq_true _ _).mp hh
  obtain h | h := h
  · exact h ha
  · rw [h] at hp
    exact Bool.false_ne_true hp

theorem Dev.wakeUp_of_asleep (h : (d.asleep && d.power.vkaUp) = true) : d.wakeUp =
    if d.power.porEnded = true then d.bootRequest .wake else { d with power := { d.power with wake := true } } := if_pos h

theorem Dev.wakeUp_of_not (h : ¬ (d.asleep && d.power.vkaUp) = true) : d.wakeUp = d := if_neg h

/-! ### nRESET and the self-reset (R61, R89, R422) -/

/-- The level of nRESET is kept; a rise that may reset samples `TEST_MODE`. -/
theorem Dev.nReset_eq {held tm : Bool} {level : Dev}
    (hl : { d with power := { d.power with
      nResetLow := held
      testMode := if held = false ∧ (d.boot.waiting.isSome = true ∨ (d.dstate ≠ .lockout ∧ d.power.porEnded = true)) then tm
        else d.power.testMode } } = level) : d.nReset held tm =
    if d.boot.waiting.isSome = true then level.resetEnds
    else if d.dstate = .lockout ∨ d.power.porEnded = false ∨ (d.power.nResetLow = true ∧ held = false) then level
    else level.bootRequest .nreset := by
  subst hl
  unfold Dev.nReset
  simp only [Bool.and_eq_true, Bool.or_eq_true, Bool.not_eq_true', bne_iff_ne]

/-! ### What a reset leaves, and when BOOT begins (R61, R445) -/

theorem Prs.cut_of_idle {p : Prs} (h : ∀ r, p.logRun = some r → r.busy = false) : p.cut = { p with pend := [], log := [], logRun := none } := by
  refine if_neg (fun hh => ?_)
  cases hr : p.logRun with
  | none =>
    rw [hr] at hh
    exact Bool.false_ne_true hh
  | some r =>
    rw [hr] at hh
    exact Bool.false_ne_true ((h r hr).symm.trans hh)

theorem Prs.cut_of_busy {p : Prs} {r : LogRun} (hr : p.logRun = some r) (hb : r.busy = true) :
    p.cut = { p with pend := [], log := p.log.take 1 } := by
  refine if_pos ?_
  rw [hr]
  exact hb

theorem Prs.cut_keeps (p : Prs) : p.cut.words = p.words ∧ p.cut.wear = p.wear ∧ p.cut.cur = p.cur ∧ p.cut.pend = [] := by
  unfold Prs.cut
  split <;> exact ⟨rfl, rfl, rfl, rfl⟩

theorem Dev.resetEnds_free (hw : d.boot.waiting = some c) (hc : d.prs.cur = none) (hr : d.prs.logRun = none)
    (hn : d.power.nResetLow = false) : d.resetEnds = d.enterBoot c := by
  unfold Dev.resetEnds
  rw [hw]
  exact if_neg (by rw [hc, hr, hn]; decide)

theorem Dev.resetEnds_held (hw : d.boot.waiting = some c)
    (h : d.prs.cur.isSome = true ∨ d.prs.logRun.isSome = true ∨ d.power.nResetLow = true) : d.resetEnds = d := by
  unfold Dev.resetEnds
  rw [hw]
  exact if_pos (by simpa [or_assoc] using h)

/-- The device is reset and waits for what BOOT needs. -/
def Dev.waits (d : Dev) (c : BootCause) : Dev := { d.cleared with boot := { d.cleared.boot with waiting := some c } }

theorem Dev.bootRequest_free (hc : d.prs.cur = none) (hr : ∀ r, d.prs.logRun = some r → r.busy = false) (hn : d.power.nResetLow = false) :
    d.bootRequest c = d.cleared.enterBoot c := by
  have hcut : (d.waits c).prs = { d.prs with pend := [], log := [], logRun := none } := Prs.cut_of_idle hr
  have begins : (d.waits c).resetEnds = (d.waits c).enterBoot c :=
    Dev.resetEnds_free rfl (by rw [hcut]; exact hc) (by rw [hcut]) hn
  exact begins

theorem Dev.bootRequest_held (h : d.prs.cur.isSome = true ∨ (∃ r, d.prs.logRun = some r ∧ r.busy = true) ∨ d.power.nResetLow = true) :
    d.bootRequest c = d.waits c := by
  refine Dev.resetEnds_held (d := d.waits c) rfl ?_
  obtain ⟨_, _, hcur, _⟩ := d.prs.cut_keeps
  refine h.imp (fun hc => (congrArg Option.isSome hcur).trans hc) (Or.imp_left (fun ⟨r, hr, hb⟩ => ?_))
  have hcut : (d.waits c).prs.logRun = some r := (congrArg Prs.logRun (Prs.cut_of_busy hr hb)).trans hr
  rw [hcut]
  rfl

/-! ### The pins outside boundary scan (R48, R70, R75) -/

theorem Dev.scanned_own (n : Nat) (own : PinLevel) (h0 : d.tap.ir ≠ 0) (h3 : d.tap.ir ≠ 3) (h4 : d.tap.ir ≠ 4) : d.scanned n own = own := by
  unfold Dev.scanned
  exact (congrArg _ ((if_neg h4).trans (if_neg (not_or.2 ⟨h0, h3⟩)))).trans (ite_self own)

theorem Dev.ownLevel_dq {i : Nat} (h : i < 8) : d.ownLevel (15 + i) = d.xspi .highZ .active .active .highZ := by
  interval_cases i <;> rfl

theorem Dev.ownLevel_canTx {k : Nat} (h : k < 3) : d.ownLevel (24 + k) = d.canTxLevel k := by
  interval_cases k <;> rfl

theorem Dev.xspi_unpowered (x y z w : PinLevel) (h : d.power.ioUp = false) : d.xspi x y z w = .highZ := if_pos (by rw [h]; rfl)

theorem Dev.xspi_lockout (x y z w : PinLevel) (h : d.power.ioUp = true) (hs : d.dstate = .lockout) : d.xspi x y z w = w :=
  (if_neg (by rw [h]; decide)).trans (if_pos hs)

theorem Dev.live_dormant (hs : d.dstate = .dormant) : d.live = false := by
  unfold Dev.live
  rw [hs]
  rfl

theorem Dev.xspi_dormant (x y z w : PinLevel) (h : d.power.ioUp = true) (hs : d.dstate = .dormant) : d.xspi x y z w = x := by
  have start : d.startStep = none := if_neg (by rw [hs]; decide)
  have unused : d.flashInUse = false := by
    unfold Dev.flashInUse
    rw [Dev.live_dormant hs, Bool.false_and]
  unfold Dev.xspi
  rw [h, hs, start, unused]
  rfl

theorem Dev.canTxLevel_unpowered (k : Nat) (h : d.power.ioUp = false) : d.canTxLevel k = .highZ := if_pos (by rw [h]; rfl)

theorem Dev.canTxLevel_dormant (k : Nat) (h : d.power.ioUp = true) (hs : d.dstate = .dormant) : d.canTxLevel k = .high := by
  unfold Dev.canTxLevel
  rw [h, Dev.live_dormant hs, Bool.false_and]
  rfl

end

/-- Settles O11: what each power and reset command does by the state it meets, what a reset leaves, and the pins in DORMANT and LOCKOUT. -/
theorem powerWakeAndReset : Obligations.PowerWakeAndReset := by
  intro s rail held tm d rails sampled level asleep keeps
  have por : exec (.powerOnResetEnd tm) s = .next ⟨d.porEnd tm, s.pending⟩ := rfl
  have wake : exec .wakeRecognised s = .next ⟨d.wakeUp, s.pending⟩ := rfl
  have nreset : exec (.nresetPulse held tm) s = .next ⟨d.nReset held tm, s.pending⟩ := rfl
  have pulse : d.nReset held tm = if d.boot.waiting.isSome = true then level.resetEnds
      else if keeps then level else level.bootRequest .nreset := Dev.nReset_eq rfl
  refine ⟨fun h hp hw hn => ?_, fun h hp hw hn => ?_, fun h hp hw => ?_, fun h => ?_, fun h hp => ?_, fun h hp => ?_, fun h => ?_, rfl,
    ⟨_, rfl, rfl, rfl, rfl, rfl, rfl, rfl, rfl, rfl, rfl, rfl, rfl⟩, ⟨_, rfl, rfl, rfl, rfl, rfl, rfl, rfl⟩, rfl, fun h hk => ?_,
    fun h hk => ?_, fun h => ?_, fun hl h => ?_, fun h => ?_, fun e c => Dev.bootRequest_free, fun e c h => ?_,
    fun e c => Dev.resetEnds_free, fun e => ⟨fun r hr hb => ?_, fun h => ?_, ?_⟩, ?_⟩
  · rw [por, Dev.porEnd_of_asleep tm (Dev.asleep_iff.2 h) hp, if_neg (Bool.eq_false_iff.1 hw), if_neg (Bool.eq_false_iff.1 hn)]
    rfl
  · rw [por, Dev.porEnd_of_asleep tm (Dev.asleep_iff.2 h) hp, if_neg (Bool.eq_false_iff.1 hw), if_pos hn]
    rfl
  · rw [por, Dev.porEnd_of_asleep tm (Dev.asleep_iff.2 h) hp, if_pos hw]
    rfl
  · rw [por, Dev.porEnd_of_not tm (h.imp_left (fun hn hh => hn (Dev.asleep_iff.1 hh)))]
  · rw [wake, Dev.wakeUp_of_asleep (Dev.asleep_iff.2 h), if_pos hp]
  · rw [wake, Dev.wakeUp_of_asleep (Dev.asleep_iff.2 h), if_neg (Bool.eq_false_iff.1 hp)]
  · rw [wake, Dev.wakeUp_of_not (fun hh => h (Dev.asleep_iff.1 hh))]
  · rw [nreset, pulse, h, if_neg (by decide), if_pos hk]
  · rw [nreset, pulse, h, if_neg (by decide), if_neg hk]
  · rw [nreset, pulse, if_pos h]
  · have due : d.selfReset = d.bootRequest .self := if_pos h
    rw [exec_selfReset, State.run_live hl, due]
  · have none_due : d.selfReset = d := if_neg (Bool.eq_false_iff.1 h)
    by_cases hl : d.live = true
    · rw [exec_selfReset, State.run_live hl, none_due]
    · rw [exec_selfReset, State.run_still (Bool.eq_false_iff.2 hl)]
  · rw [Dev.bootRequest_held h]
    exact ⟨rfl, rfl⟩
  · have hcut : e.cleared.prs = { e.prs with pend := [], log := e.prs.log.take 1 } := Prs.cut_of_busy hr hb
    rw [hcut]
    exact ⟨hr, rfl⟩
  · have hcut : e.cleared.prs = { e.prs with pend := [], log := [], logRun := none } := Prs.cut_of_idle h
    rw [hcut]
    exact ⟨rfl, rfl⟩
  · obtain ⟨hwords, hwear, hcur, hpend⟩ := e.prs.cut_keeps
    exact ⟨hwords, hwear, hcur, hpend, rfl, rfl, rfl, rfl, rfl, rfl, rfl, rfl, rfl, rfl, rfl, rfl, rfl⟩
  · intro e i c p nCs hi hc _ h0 h3 h4 pins
    have level (n : Nat) (own : PinLevel) : e.scanned n own = own := Dev.scanned_own n own h0 h3 h4
    have shown : pins = [e.xspi .low (.clock 25) (.clock 100) .highZ, e.xspi .high .active .active .pulledHigh,
        e.xspi .highZ .active .active .highZ, e.canTxLevel c,
        if (!e.power.ioUp || nCs || !e.live || !e.portsLive) = true then .highZ else .active] := by
      show [e.scanned _ _, e.scanned _ _, e.scanned _ _, e.scanned _ _, e.scanned _ _] = _
      rw [level, level, level, level, level, Dev.ownLevel_dq hi, Dev.ownLevel_canTx hc]
      rfl
    refine ⟨fun hp hs => ?_, fun hp hs => ?_, fun hp => ?_⟩
    · rw [shown, Dev.xspi_dormant _ _ _ _ hp hs, Dev.xspi_dormant _ _ _ _ hp hs, Dev.xspi_dormant _ _ _ _ hp hs,
        Dev.canTxLevel_dormant c hp hs, Dev.live_dormant hs, if_pos (by simp)]
    · rw [shown, Dev.xspi_lockout _ _ _ _ hp hs, Dev.xspi_lockout _ _ _ _ hp hs, Dev.xspi_lockout _ _ _ _ hp hs]
      rfl
    · rw [shown, Dev.xspi_unpowered _ _ _ _ hp, Dev.xspi_unpowered _ _ _ _ hp, Dev.xspi_unpowered _ _ _ _ hp,
        Dev.canTxLevel_unpowered c hp, hp, if_pos (by simp)]
      rfl

end Sys2Proof.Machine

/-! ## Frames: arrival, checks, replies -/

namespace Sys2Proof.Machine

set_option Elab.async false

/-! ### The row of a frame -/

/-- Each opcode's row is a frame of that opcode. -/
theorem frameRows_exec : (ticketedRows ++ directRows).Forall (fun x => ∀ f s, exec (x.2 f) s = s.opFrame x.1 f) := by
  unfold ticketedRows directRows
  repeat' apply And.intro
  all_goals exact fun f s => rfl

theorem exec_row {op : Nat} {row : Frame → Instr} (h : (op, row) ∈ ticketedRows ++ directRows) (f : Frame) (s : State) :
    exec (row f) s = s.opFrame op f := List.forall_iff_forall_mem.1 frameRows_exec _ h f s

theorem opFrame_live {s : State} (hl : s.dev.live = true) (op : Nat) (f : Frame) :
    s.opFrame op f = .next ⟨s.dev.frame op (fun b => b == some (BitVec.ofNat 8 op)) f, s.pending⟩ := State.run_live hl

section
variable {d e : Dev} {p : Nat} {bs : List Byte}

/-! ### Arrival (R72, R98, R100) -/

theorem Dev.frame_of_none {op : Nat} {pick : Option Byte → Bool} {f : Frame} (h : d.arrivalOf op pick f = none) : d.frame op pick f = d := by
  unfold Dev.arrivalOf at h
  unfold Dev.frame
  split
  · rfl
  · rename_i hlive
    rw [if_neg hlive] at h
    split
    · rename_i hspi
      rw [if_pos hspi] at h
      split
      · rename_i hpick
        rw [if_pos hpick] at h
        exact absurd h (Option.some_ne_none _)
      · rfl
    · rename_i hspi
      rw [if_neg hspi] at h
      by_cases hp : f.port < 4
      · rw [if_pos hp] at h
        split
        · rfl
        · rename_i hq
          rw [hq] at h
          dsimp only at h
          split
          · rename_i hgo
            rw [if_pos (by simpa [hp] using hgo)] at h
            exact absurd h (Option.some_ne_none _)
          · rfl
      · split
        · rfl
        · exact if_neg (by simp [hp])

/-- What arrives ends on its port, which is one of the four, and the frames of the cycle stay. -/
theorem Dev.frame_of_some {op : Nat} {pick : Option Byte → Bool} {f : Frame} (h : d.arrivalOf op pick f = some (e, bs)) :
    d.frame op pick f = e.frameEnds f.port bs f.more ∧ f.port < 4 ∧ e.hosts.ended = d.hosts.ended := by
  unfold Dev.arrivalOf at h
  unfold Dev.frame
  split
  · rename_i hlive
    rw [if_pos hlive] at h
    exact absurd h.symm (Option.some_ne_none _)
  · rename_i hlive
    rw [if_neg hlive] at h
    split
    · rename_i hspi
      rw [if_pos hspi] at h
      split
      · rename_i hpick
        rw [if_pos hpick] at h
        obtain ⟨rfl, rfl⟩ := Prod.mk.inj (Option.some.inj h)
        exact ⟨rfl, by omega, rfl⟩
      · rename_i hpick
        rw [if_neg hpick] at h
        exact absurd h.symm (Option.some_ne_none _)
    · rename_i hspi
      rw [if_neg hspi] at h
      by_cases hp : f.port < 4
      · rw [if_pos hp] at h
        split
        · rename_i hq
          rw [hq] at h
          exact absurd h.symm (Option.some_ne_none _)
        · rename_i hq
          rw [hq] at h
          dsimp only at h
          split
          · rename_i hgo
            rw [if_pos (by simpa [hp] using hgo)] at h
            obtain ⟨rfl, rfl⟩ := Prod.mk.inj (Option.some.inj h)
            exact ⟨rfl, hp, rfl⟩
          · rename_i hgo
            rw [if_neg (by simpa [hp] using hgo)] at h
            exact absurd h.symm (Option.some_ne_none _)
      · rw [if_neg hp] at h
        exact absurd h.symm (Option.some_ne_none _)

/-! ### The end of a frame -/

theorem inTurns_single (hp : p < 4) (bs : List Byte) : inTurns [(p, bs)] = [(p, bs)] := by
  obtain rfl | rfl | rfl | rfl : p = 0 ∨ p = 1 ∨ p = 2 ∨ p = 3 := by omega
  all_goals rfl

/-- A frame that ends alone is checked by itself. -/
theorem Dev.frameEnds_alone (hp : p < 4) (he : d.hosts.ended = []) : d.frameEnds p bs false = d.frameIn p bs := by
  have same : ({ d with hosts := { d.hosts with ended := [] } } : Dev) = d := by rw [← he]
  unfold Dev.frameEnds
  rw [he]
  dsimp only
  rw [if_neg Bool.false_ne_true, List.nil_append, inTurns_single hp, same]
  rfl

/-- What a frame does that arrives alone. -/
theorem Dev.frame_alone {op : Nat} {pick : Option Byte → Bool} {f : Frame} (ha : d.alone f) (h : d.arrivalOf op pick f = some (e, bs)) :
    d.frame op pick f = e.frameIn f.port bs := by
  obtain ⟨hmore, hended⟩ := ha
  obtain ⟨hf, hp, he⟩ := Dev.frame_of_some h
  rw [hf, hmore, Dev.frameEnds_alone hp (he.trans hended)]

/-! ### Checks (R97) -/

/-- A frame that passes every check is served. -/
theorem Dev.frameIn_of_accepts {u : Dev} {r : Req} (h : d.accepts p bs = some (u, r)) : d.frameIn p bs = u.serve r bs ∧ u.verdict r = stOk ∧
    ∃ l pl conn, soundness p bs = .inr l ∧ r = reqOf p bs pl conn := by
  unfold Dev.accepts at h
  unfold Dev.frameIn
  split at h
  · exact absurd h.symm (Option.some_ne_none _)
  · rename_i hs
    rw [if_neg hs]
    cases hl : soundness p bs with
    | inl x =>
      rw [hl] at h
      exact absurd h.symm (Option.some_ne_none _)
    | inr l =>
      rw [hl] at h
      dsimp only at h ⊢
      cases hw : d.unwrap p bs l with
      | mk v x =>
        rw [hw] at h
        cases x with
        | inl st => exact absurd h.symm (Option.some_ne_none _)
        | inr y =>
          obtain ⟨pl, conn⟩ := y
          dsimp only at h ⊢
          split at h
          · rename_i hv
            obtain ⟨rfl, rfl⟩ := Prod.mk.inj (Option.some.inj h)
            exact ⟨rfl, hv, l, pl, conn, rfl, rfl⟩
          · exact absurd h.symm (Option.some_ne_none _)

/-! ### Replies (R99, R375) -/

/-- A view of the device that sees no register, port, replay counter of a connection or free choice. -/
def Quiet {β : Type} (g : Dev → β) : Prop :=
  ∀ (d : Dev) (regs : List (Nat × Word)) (safe : Safe) (port : Vector HostPort 4) (cport : Vector CanPort 2) (freeCtr : Nat),
    g { d with regs, safe, hosts := { d.hosts with port }, cport, freeCtr } = g d

/-- A reply changes nothing that a quiet view sees. -/
theorem Quiet.answerFrom {β : Type} {g : Dev → β} (h : Quiet g) (d : Dev) (p : Nat) (bs : List Byte) (conn : Option Nat) (st info : Nat)
    (pl : List Byte) (t : Nat) : g (d.answerFrom p bs conn st info pl t) = g d := by
  have held (e : Dev) (b : List Byte) (n : Nat) : g (e.holdReply p b n) = g e := by
    unfold Dev.holdReply
    have sent (u : Dev) (k : Nat) : g (u.queueReply k b) = g u := Calm.ite _ (h u _ _ _ _ _) rfl
    exact Calm.ite _ ((Dev.hlt_view g (fun e a v => h e _ _ _ _ _) _ _ _ _).trans (h e _ _ _ _ _))
      ((sent _ _).trans (h e _ _ _ _ _))
  unfold Dev.answerFrom
  cases conn with
  | none => exact (h _ _ _ _ _ _).trans (held d _ _)
  | some c => exact (h _ _ _ _ _ _).trans ((held _ _ _).trans (h d _ _ _ _ _))

theorem Dev.answer_hosts (d : Dev) (p : Nat) (bs : List Byte) (conn : Option Nat) (st info : Nat) (pl : List Byte) :
    (d.answer p bs conn st info pl).hosts.cmds = d.hosts.cmds ∧ (d.answer p bs conn st info pl).flt = d.flt ∧
    (d.answer p bs conn st info pl).ax = d.ax ∧ (d.answer p bs conn st info pl).dstate = d.dstate :=
  ⟨Quiet.answerFrom (g := (·.hosts.cmds)) (fun _ _ _ _ _ _ => rfl) d p bs conn st info pl d.now,
    Quiet.answerFrom (g := (·.flt)) (fun _ _ _ _ _ _ => rfl) d p bs conn st info pl d.now,
    Quiet.answerFrom (g := (·.ax)) (fun _ _ _ _ _ _ => rfl) d p bs conn st info pl d.now,
    Quiet.answerFrom (g := (·.dstate)) (fun _ _ _ _ _ _ => rfl) d p bs conn st info pl d.now⟩

end

/-! ### A refusal reaches the engines (R97, R261) -/

theorem CeEng.see_contains (g : CeEng) (n : Nat) : (g.see n).seen.contains n = true := by
  unfold CeEng.see
  split
  · assumption
  · simp

theorem Dev.ev_seen (d : Dev) (n : Nat) : (tget (d.ev n).ce.eng 0).seen.contains n = true := by
  have h : tget (d.ev n).ce.eng 0 = (tget d.ce.eng 0).see n := by simp [Dev.ev, tget]
  rw [h]
  exact CeEng.see_contains _ n

/-- The event of a refusal is one that the engines see at their next step, so that their state does not stay as it was: the last clause
about the engines fails for a frame whose event they have not seen since their last step. -/
theorem not_refusedOnly {e t : Dev} {p : Nat} {bs : List Byte} {r : Req} {v : Nat} (hv : v ≠ stNotReady)
    (hs : (tget e.ce.eng 0).seen = []) : ¬ RefusedOnly e t p bs r v := by
  rintro ⟨ht, _, _, _, _, _, _, _, _, _, _, hce, _⟩
  have fires : t = (e.answer p bs r.conn v (e.infoOf v) []).ev (0x18 + p) := ht.trans (if_pos (bne_iff_ne.2 hv))
  have seen : (tget t.ce.eng 0).seen.contains (0x18 + p) = true := fires ▸ Dev.ev_seen _ _
  rw [hce, hs] at seen
  exact Bool.false_ne_true seen

/-- A device in READY, as after reset otherwise. -/
def readyState : State := { State.reset with dev := { State.reset.dev with dstate := .ready } }

/-- A sound frame on port A that names host B: check 5 refuses it with PRIV. -/
def strangerFrame (op : Byte) : Frame :=
  ⟨0, 0xA5, 2, 7, 0, 0, 0xF, beBytes 4 (crc32c [0xA5, 2, op, 7, 0, 0, 0, 0xF]).toNat, none, false, false⟩

/-- A frame that the checks refuse with a status while engine A has seen no event. -/
theorem refused_of_status {d : Dev} {op : Nat} {pick : Option Byte → Bool} {f : Frame} {v : Nat}
    (h : ((d.arrivalOf op pick f).bind (fun x => x.1.rejects 0 x.2)).map (fun y => (y.2.2, (tget y.1.ce.eng 0).seen)) = some (v, [])) :
    ∃ u bs e r, d.arrivalOf op pick f = some (u, bs) ∧ u.rejects 0 bs = some (e, r, v) ∧ (tget e.ce.eng 0).seen = [] := by
  obtain ⟨⟨e, r, w⟩, hb, hy⟩ := Option.map_eq_some_iff.1 h
  obtain ⟨⟨u, bs⟩, ha, hr⟩ := Option.bind_eq_some_iff.1 hb
  obtain ⟨rfl, hs⟩ := Prod.mk.inj hy
  exact ⟨u, bs, e, r, ha, hr, hs⟩

/-- Refutes O16: a frame of IDENTITY on port A that names host B is refused with PRIV, and the engines see event 0x18. -/
theorem not_checksOfAFrameInOrder : ¬ Obligations.ChecksOfAFrameInOrder := by
  rintro ⟨h, _⟩
  obtain ⟨u, bs, e, r, ha, hr, hs⟩ := refused_of_status (d := readyState.dev) (op := 0x02) (pick := fun b => b == some 0x02)
    (f := strangerFrame 0x02) (v := stPriv) (by decide +kernel)
  have row : ((0x02, Instr.identity) : Nat × (Frame → Instr)) ∈ ticketedRows ++ directRows :=
    List.mem_append_right _ (List.mem_cons_of_mem _ List.mem_cons_self)
  obtain ⟨t, _, hk⟩ := h readyState 0x02 .identity (strangerFrame 0x02) u bs e r stPriv row rfl ⟨rfl, rfl⟩ ha hr
  exact not_refusedOnly (by decide) hs hk

/-- Refutes O15: a frame of an opcode that no row names is refused in the same way, and its event reaches the engines as well. -/
theorem not_directFramesAreAnswered : ¬ Obligations.DirectFramesAreAnswered := by
  intro h
  obtain ⟨u, bs, e, r, ha, hr, hs⟩ := refused_of_status (d := readyState.dev) (op := 0x08) (pick := unknownByte)
    (f := strangerFrame 0x08) (v := stPriv) (by decide +kernel)
  obtain ⟨_, alone, _⟩ := h readyState (strangerFrame 0x08) rfl
  obtain ⟨_, _, _, _, _, _, _, _, _, unknown, _⟩ := alone ⟨rfl, rfl⟩
  obtain ⟨t, _, hk⟩ := unknown 0x08 u bs e r stPriv ha hr
  exact not_refusedOnly (by decide) hs hk

end Sys2Proof.Machine

/-! ## Ticketed frames: admission -/

namespace Sys2Proof.Machine

set_option Elab.async false

/-- The opcodes of the ticketed rows are one byte, and ticketed. -/
theorem ticketedRows_op {op : Nat} {row : Frame → Instr} (h : (op, row) ∈ ticketedRows) : ticketed op = true ∧ op < 256 := by
  have every : ticketedRows.Forall (fun x => ticketed x.1 = true ∧ x.1 < 256) := by
    unfold ticketedRows
    repeat' apply And.intro
    all_goals decide
  exact List.forall_iff_forall_mem.1 every _ h

theorem beAt_one {bs : List Byte} {i : Nat} {b : Byte} (h : bs[i]? = some b) : beAt bs i 1 = b.toNat := by
  have hd : (bs.drop i).take 1 = [b] := by
    rw [List.take_one, List.head?_drop, h]
    rfl
  rw [beAt, hd]
  simp [beNat]

/-- What a frame of an opcode puts on a port names the opcode in its third byte, when as much of it has come. -/
theorem frameBytes_op {op : Nat} {f : Frame} (h : 6 ≤ (frameBytes op f).length) : (frameBytes op f)[2]? = some (BitVec.ofNat 8 op) := by
  unfold frameBytes at h ⊢
  dsimp only at h ⊢
  cases hc : f.cut with
  | none => rfl
  | some n =>
    rw [hc] at h
    dsimp only at h ⊢
    have hn : 2 < n := by
      rw [List.length_take] at h
      omega
    rw [List.getElem?_take_of_lt hn]
    rfl

theorem soundness_length {p l : Nat} {bs : List Byte} (h : soundness p bs = .inr l) : 6 ≤ bs.length := by
  unfold soundness at h
  dsimp only at h
  split at h
  · cases h
  · omega

section
variable {d e : Dev} {bs : List Byte} {r : Req}

/-- A sound frame that arrives as one of an opcode names the opcode. -/
theorem Dev.arrival_op {op l : Nat} {f : Frame} (ha : d.arrival op f = some (e, bs)) (hl : soundness f.port bs = .inr l) (hop : op < 256) :
    beAt bs 2 1 = op := by
  have third : bs[2]? = some (BitVec.ofNat 8 op) := by
    unfold Dev.arrival Dev.arrivalOf at ha
    split at ha
    · exact absurd ha.symm (Option.some_ne_none _)
    · split at ha
      · split at ha
        · obtain ⟨_, rfl⟩ := Prod.mk.inj (Option.some.inj ha)
          exact frameBytes_op (soundness_length hl)
        · exact absurd ha.symm (Option.some_ne_none _)
      · split at ha
        · split at ha
          · exact absurd ha.symm (Option.some_ne_none _)
          · split at ha
            · rename_i hgo
              obtain ⟨_, rfl⟩ := Prod.mk.inj (Option.some.inj ha)
              exact beq_iff_eq.1 hgo.1
            · exact absurd ha.symm (Option.some_ne_none _)
        · exact absurd ha.symm (Option.some_ne_none _)
  rw [beAt_one third, BitVec.toNat_ofNat, Nat.mod_eq_of_lt hop]

/-! ### Admission (R107, R109) -/

theorem Dev.serve_ticketed (hv : d.verdict r = stOk) (ht : ticketed r.op = true) : d.serve r bs = d.request r bs :=
  (if_neg (fun h => h hv)).trans (if_pos ht)

theorem Dev.request_of_busy {info : Nat} (h : d.admission r = .inl info) :
    d.request r bs = (d.answer r.port bs r.conn stBusy info []).ev (0x1C + r.port) := by
  unfold Dev.request
  rw [h]

theorem Dev.request_of_admitted {c : Cmd} (h : d.admission r = .inr c) :
    d.request r bs = (d.admitCmd c r).answer r.port bs r.conn stOk 0 [] := by
  unfold Dev.request
  rw [h]

/-- What is admitted is the command of the request, with what it has booked. -/
theorem Dev.admission_cmd {c : Cmd} (h : d.admission r = .inr c) : ∃ gs, c = d.cmdFrom r gs := by
  unfold Dev.admission at h
  split at h
  · cases h
  · split at h
    · cases h
    · rename_i gs _
      dsimp only at h
      split at h
      · cases h
      · generalize (if r.op = 0x11 then d.now + d.classLimit r else (d.cmdFrom r gs).deadline) = dl at h
        split at h
        · cases h
        · exact ⟨gs, (Sum.inr.inj h).symm⟩

/-- Admission queues the command and its preserve words, and nothing else but what the health monitors count. -/
theorem Dev.admitCmd_keeps (d : Dev) (c : Cmd) (r : Req) : (d.admitCmd c r).hosts.cmds = d.hosts.cmds ++ [c] ∧ (d.admitCmd c r).flt = d.flt ∧
    (d.admitCmd c r).ax = d.ax ∧ (d.admitCmd c r).dstate = d.dstate := by
  unfold Dev.admitCmd
  extract_lets q u v
  have words {β : Type} (g : Dev → β) (hg : ∀ (e : Dev) f, g (e.prsMod f) = g e) : g v = g u :=
    foldl_view g _ (fun e k => hg e _) _ u
  have hlt := v.hlt_keeps 0x04 0 v.poolFree
  refine ⟨?_, ?_, ?_, ?_⟩
  · simp only [hlt]
    exact words (·.hosts.cmds) (fun _ _ => rfl)
  · simp only [hlt]
    exact words (·.flt) (fun _ _ => rfl)
  · simp only [hlt]
    exact words (·.ax) (fun _ _ => rfl)
  · simp only [hlt]
    exact words (·.dstate) (fun _ _ => rfl)

end

/-- The row of a frame, in every case. -/
theorem rowArrives {s : State} {op : Nat} {row : Frame → Instr} {f : Frame} (h : (op, row) ∈ ticketedRows ++ directRows)
    (hl : s.dev.live = true) : RowArrives s op row f := by
  have run : exec (row f) s = .next ⟨s.dev.frame op (fun b => b == some (BitVec.ofNat 8 op)) f, s.pending⟩ :=
    (exec_row h f s).trans (opFrame_live hl op f)
  refine ⟨fun ha => ?_, fun d bs ha => ?_⟩
  · rw [run, Dev.frame_of_none ha]
  · intro l
    obtain ⟨hf, _, _⟩ := Dev.frame_of_some ha
    refine ⟨fun hm => ?_, fun hm => ?_⟩
    · rw [run, hf, hm]
      rfl
    · rw [run, hf, hm]
      rfl

/-- Settles O14: a frame that passes its checks becomes a command, or is answered BUSY. -/
theorem ticketedFramesAreAdmitted : Obligations.TicketedFramesAreAdmitted := by
  intro s op row f hrow hl
  have hrows : (op, row) ∈ ticketedRows ++ directRows := List.mem_append_left _ hrow
  obtain ⟨hticket, hbyte⟩ := ticketedRows_op hrow
  refine ⟨rowArrives hrows hl, fun d bs e r ha harr hacc => ?_⟩
  obtain ⟨hin, hv, l, pl, conn, hsound, hr⟩ := Dev.frameIn_of_accepts hacc
  have hop : r.op = op := hr ▸ Dev.arrival_op harr hsound hbyte
  have hport : r.port = f.port := hr ▸ rfl
  have served : exec (row f) s = .next ⟨e.request r bs, s.pending⟩ := by
    rw [exec_row hrows, opFrame_live hl, Dev.frame_alone ha harr, hin, Dev.serve_ticketed hv (hop ▸ hticket)]
  refine ⟨hop, fun c hc => ⟨_, served, ?_⟩, fun info hi => ⟨_, served, ?_⟩⟩
  · obtain ⟨gs, hgs⟩ := Dev.admission_cmd hc
    obtain ⟨acmds, aflt, aax, astate⟩ := e.admitCmd_keeps c r
    obtain ⟨rcmds, rflt, rax, rstate⟩ := (e.admitCmd c r).answer_hosts r.port bs r.conn stOk 0 []
    rw [Dev.request_of_admitted hc, ← hport]
    subst hgs
    exact ⟨rfl, rcmds.trans acmds, rfl, hop, rfl, rfl, rfl, rfl, rfl, congrArg Flt.recs (rflt.trans aflt), rax.trans aax,
      rstate.trans astate⟩
  · obtain ⟨rcmds, rflt, rax, rstate⟩ := e.answer_hosts r.port bs r.conn stBusy info []
    rw [Dev.request_of_busy hi, ← hport]
    exact ⟨rfl, rcmds, congrArg Flt.recs rflt, rax, rstate⟩

end Sys2Proof.Machine

/-! ## Axis commands, CE_MODE and the steps of a join -/

namespace Sys2Proof.Machine

set_option Elab.async false

section
variable {d : Dev} {c : Cmd}

theorem Dev.groupEffect_gone {i : CmdId} (g : CmdGroup) (h : d.cmdOf i = none) : d.groupEffect i g = d := by
  unfold Dev.groupEffect
  rw [h]

theorem Dev.groupEffect_axis (g : CmdGroup) (h : d.cmdOf c.id = some c) (hop : c.op ≠ 0x11) : d.groupEffect c.id g = d.axisEffect c := by
  unfold Dev.groupEffect
  rw [h]
  exact if_neg hop

/-! ### Axis commands (R28, R104, R105, R111) -/

theorem Dev.axisEffect_refused (hop : c.op ≠ 0x34) (h : ¬ d.mayAct c = true) : d.axisEffect c = d.lapse c stState [] :=
  (if_neg hop).trans (if_pos (by simpa using h))

/-- The effect of an axis command that may act, by its opcode. -/
def Dev.axisAct (d : Dev) (c : Cmd) (op : Nat) : Dev :=
  match op with
  | 0x22 => (d.enableAxis c.target).finish c stOk []
  | 0x23 => (d.disableAxis c.target).finish c stOk []
  | 0x24 => (d.stopAxis c.target).finish c stOk []
  | 0x25 => ((spLanes c.payload).foldl (fun d p => d.laneSet p.1 p.2) d).finish c stOk []
  | 0x26 => (d.diagStart c.target).startCmd c
  | 0x29 => d.moveOwner c false
  | _ => d.moveOwner c true

theorem Dev.axisEffect_acts (h : d.mayAct c = true) (hop : c.op ≠ 0x34) : d.axisEffect c = d.axisAct c c.op :=
  (if_neg hop).trans (if_neg (by rw [h]; decide))

/-- R25: the first enabled axis takes the device from ARMED to RUN. -/
theorem Dev.enableAxis_eq {x : Nat} {u : Dev} (hu : (if x < 4 then (d.axGo x .enabled).heed x else d.setAux (x - 4) 1) = u) :
    d.enableAxis x = if u.dstate = .armed then u.enterRun else u := by
  subst hu
  rfl

/-- R104, R105: an axis has moved to the host of a command. -/
def Dev.ownerMoved (d : Dev) (c : Cmd) : Dev :=
  (((d.wf Reg.HOST_OWN (3 * c.target) 3 c.id.host).wf Reg.HOST_OFFER (3 * c.target) 3 7).ev (0x20 + c.target)).finish c stOk []

theorem Dev.moveOwner_own (h : d.owner c.target = c.id.host) : d.moveOwner c true = d.ownerMoved c :=
  if_neg (by rw [h]; simp)

theorem Dev.moveOwner_seize (h : d.owner c.target ≠ c.id.host) : d.moveOwner c true =
    ((d.ownerMoved c).hosts.cmds.filter (waiting (d.owner c.target) c.target)).foldl (fun d y => d.lapse y stState []) (d.ownerMoved c) :=
  if_pos (by simpa using h)

theorem Dev.axisAct_enable : d.axisAct c 0x22 = (d.enableAxis c.target).finish c stOk [] := rfl
theorem Dev.axisAct_disable : d.axisAct c 0x23 = (d.disableAxis c.target).finish c stOk [] := rfl
theorem Dev.axisAct_stop : d.axisAct c 0x24 = (d.stopAxis c.target).finish c stOk [] := rfl
theorem Dev.axisAct_setpoint : d.axisAct c 0x25 = ((spLanes c.payload).foldl (fun d p => d.laneSet p.1 p.2) d).finish c stOk [] := rfl
theorem Dev.axisAct_diag : d.axisAct c 0x26 = (d.diagStart c.target).startCmd c := rfl
theorem Dev.axisAct_take : d.axisAct c 0x29 = d.ownerMoved c := rfl
theorem Dev.axisAct_seize : d.axisAct c 0x2A = d.moveOwner c true := rfl

/-! ### CE_MODE (R281) -/

theorem Dev.modeCommand_still (h : ¬ d.mayAct c = true ∨ d.ceModeChange (beAt c.payload 0 1 == 1) = (d, false)) :
    d.modeCommand c = d.lapse c stState [if d.ceMode = 0 then 0 else 1] := by
  have r : (if d.mayAct c then d.ceModeChange (beAt c.payload 0 1 == 1) else (d, false)) = (d, false) := by
    obtain h | h := h
    · exact if_neg h
    · rw [h, ite_self]
  unfold Dev.modeCommand
  rw [r]
  rfl

theorem Dev.modeCommand_moves {u : Dev} (h : d.mayAct c = true) (hu : d.ceModeChange (beAt c.payload 0 1 == 1) = (u, true)) :
    d.modeCommand c = u.finish c stOk [if u.ceMode = 0 then 0 else 1] := by
  unfold Dev.modeCommand
  rw [if_pos h, hu]
  rfl

theorem Dev.ceModeChange_still {split : Bool} (h : d.ceMode = (if split then 1 else 0) ∨ 2 ≤ d.ceMode) : d.ceModeChange split = (d, false) :=
  if_pos h

theorem Dev.ceModeChange_split (h : d.ceMode = 0) : d.ceModeChange true = ((((d.injEnd 0 5).injEnd 1 5).setCeMode 1 0).ev 0xCB, true) :=
  if_neg (by rw [h]; decide)

theorem Dev.ceModeChange_join (h : d.ceMode = 1) : d.ceModeChange false =
    ((((d.injEnd 0 5).injEnd 1 5).setCeMode 2 1).ceMod (fun c => { c with joinBad := false }), true) := if_neg (by rw [h]; decide)

/-- R281: `CE_STATUS` shows the mode, the join step and the engines that are active. -/
theorem Dev.setCeMode_shows (h : d.tablesOk = true) {m j : Nat} (hm : m < 8) (hj : j < 16) : (d.setCeMode m j).ceMode = m ∧
    (d.setCeMode m j).joinStep = j ∧ (d.setCeMode m j).rb Reg.CE_STATUS 23 = (m != 4) ∧
    (d.setCeMode m j).rb Reg.CE_STATUS 22 = (m != 3) := by
  unfold Dev.setCeMode
  extract_lets u
  have hu : canon resetOf u.regs = true := by
    have : u.regs = d.regs := by
      unfold u
      split <;> rfl
    rw [this]
    exact Dev.regs_canon h
  clear_value u
  have h1 := wf_canon hu Reg.CE_STATUS 29 3 m
  have h2 := wf_canon h1 Reg.CE_STATUS 24 4 j
  have h3 := wb_canon h2 Reg.CE_STATUS 23 (m != 4)
  refine ⟨?_, ?_, ?_, ?_⟩
  · unfold Dev.ceMode
    rw [rf_wb, rf_wf_disjoint h3 _ _ (by decide) (by decide), rf_wb, rf_wf_disjoint h2 _ _ (by decide) (by decide),
      rf_wf_disjoint h1 _ _ (by decide) (by decide), rf_wf_same hu _ _ (by decide), Nat.mod_eq_of_lt (show m < 2 ^ 3 from hm)]
  · unfold Dev.joinStep
    rw [rf_wb, rf_wf_disjoint h3 _ _ (by decide) (by decide), rf_wb, rf_wf_disjoint h2 _ _ (by decide) (by decide),
      rf_wf_same h1 _ _ (by decide), Nat.mod_eq_of_lt (show j < 2 ^ 4 from hj)]
  · rw [rb_wb h3 _ _ (by decide), if_neg (by decide), rb_wb h2 _ _ (by decide), if_pos rfl]
  · rw [rb_wb h3 _ _ (by decide), if_pos rfl]

/-! ### The steps of a join (R282, R283) -/

theorem Dev.joinEnd_good (h : d.ce.joinBad = false) : d.joinEnd =
    if d.joinStep = 3 then (d.setCeMode 2 4).joinCopy else if 11 ≤ d.joinStep then (d.setCeMode 0 0).ev 0xCB
    else d.setCeMode 2 (d.joinStep + 1) := if_neg (Bool.eq_false_iff.1 h)

theorem Dev.joinEnd_bad (h : d.ce.joinBad = true) : d.joinEnd =
    ((((d.setCeMode 1 0).ceMod (fun c => { c with joinBad := false })).wb Reg.CE_FLAGS 5 true).ev 0xCC).occ 0x0906
      (d.ce.rejoin.getD ((Config.freeFun 0x288 [0x0906]).natAbs % 2)) := if_pos h

end

/-- Settles O18: each axis command by its opcode, CE_MODE by the mode in effect, and a join by its step. -/
theorem axisCommandsAtTheirCommitPoint : Obligations.AxisCommandsAtTheirCommitPoint := by
  intro d c g x may seized given
  have acts (h : may) {n : Nat} (ho : c.op = n) (hn : n ≠ 0x34) : d.axisEffect c = d.axisAct c n :=
    (Dev.axisEffect_acts h (fun hh => hn (ho.symm.trans hh))).trans (congrArg (d.axisAct c) ho)
  have enable (h : may) (ho : c.op = 0x22) : d.axisEffect c = (d.enableAxis x).finish c stOk [] :=
    (acts h ho (by decide)).trans Dev.axisAct_enable
  have disable (h : may) (ho : c.op = 0x23) : d.axisEffect c = (d.disableAxis x).finish c stOk [] :=
    (acts h ho (by decide)).trans Dev.axisAct_disable
  have stop (h : may) (ho : c.op = 0x24) : d.axisEffect c = (d.stopAxis x).finish c stOk [] :=
    (acts h ho (by decide)).trans Dev.axisAct_stop
  have seize (h : may) (ho : c.op = 0x2A) : d.axisEffect c = d.moveOwner c true := (acts h ho (by decide)).trans Dev.axisAct_seize
  have mode (ho : c.op = 0x34) : d.axisEffect c = d.modeCommand c := if_pos ho
  refine ⟨Dev.groupEffect_gone g, Dev.groupEffect_axis g, Dev.axisEffect_refused, fun h ho hx => ?_, fun h ho hx => ?_, fun h ho hx => ?_,
    fun h ho hx => ?_, fun h ho hx => ?_, fun h ho hx => ?_, fun h ho => ?_, fun h ho => ?_, fun h ho => ?_, fun h ho he => ?_,
    fun h ho he => ?_, fun ho => ?_, fun m j hd hm hj => Dev.setCeMode_shows hd hm hj, fun h h3 h11 => ?_, fun h h3 => ?_, fun h h11 => ?_,
    fun h => ?_⟩
  · intro v u
    have enabled := Dev.enableAxis_eq (d := d) (x := x) (u := u) (if_pos hx)
    refine ⟨fun hs => ?_, fun hs => ?_⟩
    · rw [enable h ho, enabled, if_pos hs]
    · rw [enable h ho, enabled, if_neg hs]
  · intro u
    have enabled := Dev.enableAxis_eq (d := d) (x := x) (u := u) (if_neg (Nat.not_lt.2 hx))
    refine ⟨fun hs => ?_, fun hs => ?_⟩
    · rw [enable h ho, enabled, if_pos hs]
    · rw [enable h ho, enabled, if_neg hs]
  · have still : d.disableAxis x = (d.axGo x .idle).idled := if_pos hx
    rw [disable h ho, still]
  · have still : d.disableAxis x = d.setAux (x - 4) 0 := if_neg (Nat.not_lt.2 hx)
    rw [disable h ho, still]
  · have stops : d.stopAxis x = d.axGo x .stopping := if_pos hx
    rw [stop h ho, stops]
  · have stops : d.stopAxis x = d.auxStop (x - 4) := if_neg (Nat.not_lt.2 hx)
    rw [stop h ho, stops]
  · rw [acts h ho (by decide), Dev.axisAct_setpoint]
  · rw [acts h ho (by decide), Dev.axisAct_diag]
  · rw [acts h ho (by decide), Dev.axisAct_take]
    rfl
  · rw [seize h ho, Dev.moveOwner_own he]
    rfl
  · rw [seize h ho, Dev.moveOwner_seize he]
    rfl
  · intro split stopped refused
    have chosen (hs : split) : (beAt c.payload 0 1 == 1) = true := beq_iff_eq.2 hs
    have joined (hs : ¬ split) : (beAt c.payload 0 1 == 1) = false := beq_eq_false_iff_ne.2 hs
    have still (h : d.ceModeChange (beAt c.payload 0 1 == 1) = (d, false)) : refused := (mode ho).trans (Dev.modeCommand_still (.inr h))
    refine ⟨fun h => (mode ho).trans (Dev.modeCommand_still (.inl h)), fun h => still (Dev.ceModeChange_still (.inr h)),
      fun hs h => still ?_, fun hs h => still ?_, fun h hs hm => ?_, fun h hs hm => ?_⟩
    · rw [chosen hs]
      exact Dev.ceModeChange_still (.inl h)
    · rw [joined hs]
      exact Dev.ceModeChange_still (.inl h)
    · intro u
      exact (mode ho).trans (Dev.modeCommand_moves h (by rw [chosen hs, Dev.ceModeChange_split hm]))
    · intro u u'
      exact (mode ho).trans (Dev.modeCommand_moves (u := u') h (by rw [joined hs, Dev.ceModeChange_join hm]; rfl))
  · rw [Dev.joinEnd_good h, if_neg h3, if_neg (Nat.not_le.2 h11)]
  · rw [Dev.joinEnd_good h, if_pos h3]
  · rw [Dev.joinEnd_good h, if_neg (by omega), if_pos h11]
  · refine ⟨d.ce.rejoin.getD ((Config.freeFun 0x288 [0x0906]).natAbs % 2), fun k hk => ?_, Dev.joinEnd_bad h⟩
    rw [hk]
    rfl

end Sys2Proof.Machine

/-! ## The Docent lane, completion records, promises, heartbeats and offers -/

namespace Sys2Proof.Machine

set_option Elab.async false

section
variable {d : Dev} {c : Cmd}

/-! ### The command that the lane comes to (R109) -/

/-- It waits in the lane, and no waiting one has an earlier lane deadline. -/
theorem nextInLane_least {l : List Cmd} : (nextInLane l = none → ∀ y ∈ l, y.phase ≠ .lane) ∧
    ∀ c, nextInLane l = some c → (c ∈ l ∧ c.phase = .lane) ∧ ∀ y ∈ l, y.phase = .lane → c.laneDl ≤ y.laneDl := by
  induction l with
  | nil => exact ⟨fun _ y hy => absurd hy List.not_mem_nil, fun c h => absurd h (by simp [nextInLane])⟩
  | cons x l ih =>
    obtain ⟨gone, least⟩ := ih
    unfold nextInLane
    by_cases hx : x.phase ≠ .lane
    · rw [if_pos hx]
      refine ⟨fun h y hy => ?_, fun c h => ?_⟩
      · obtain rfl | hy := List.mem_cons.1 hy
        · exact hx
        · exact gone h y hy
      · obtain ⟨⟨hc, hp⟩, hle⟩ := least c h
        refine ⟨⟨List.mem_cons_of_mem x hc, hp⟩, fun y hy hl => ?_⟩
        obtain rfl | hy := List.mem_cons.1 hy
        · exact absurd hl hx
        · exact hle y hy hl
    · rw [if_neg hx]
      have first := not_not.1 hx
      cases hn : nextInLane l with
      | none =>
        refine ⟨fun h => absurd h (by simp), fun c h => ?_⟩
        obtain rfl := Option.some.inj h
        refine ⟨⟨List.mem_cons_self, first⟩, fun y hy hl => ?_⟩
        obtain rfl | hy := List.mem_cons.1 hy
        · exact Nat.le_refl _
        · exact absurd hl (gone hn y hy)
      | some z =>
        obtain ⟨⟨hz, hp⟩, hle⟩ := least z hn
        dsimp only
        by_cases hlt : z.laneDl < x.laneDl
        · rw [if_pos hlt]
          refine ⟨fun h => absurd h (by simp), fun c h => ?_⟩
          obtain rfl := Option.some.inj h
          refine ⟨⟨List.mem_cons_of_mem x hz, hp⟩, fun y hy hl => ?_⟩
          obtain rfl | hy := List.mem_cons.1 hy
          · exact hlt.le
          · exact hle y hy hl
        · rw [if_neg hlt]
          refine ⟨fun h => absurd h (by simp), fun c h => ?_⟩
          obtain rfl := Option.some.inj h
          refine ⟨⟨List.mem_cons_self, first⟩, fun y hy hl => ?_⟩
          obtain rfl | hy := List.mem_cons.1 hy
          · exact Nat.le_refl _
          · exact (Nat.not_lt.1 hlt).trans (hle y hy hl)

/-! ### The lane executes (R109, R110) -/

theorem Dev.laneExec_empty (h : nextInLane d.hosts.cmds = none) : d.laneExec = d := by
  unfold Dev.laneExec
  rw [h]

theorem Dev.laneExec_some (h : nextInLane d.hosts.cmds = some c) : d.laneExec =
    if c.op = 0x11 then ((c.doc.foldl (fun d k => d.docPair c.id c.payload k) (d.staged c.id)).writeDone c.id)
    else if c.groups.isEmpty then (d.staged c.id).docentEffect c
    else d.staged c.id := by
  unfold Dev.laneExec
  rw [h]

/-- What the opcode of a command of the Docent lane does. -/
def Dev.docentAct (d : Dev) (c : Cmd) (op : Nat) : Dev :=
  match op with
  | 0x12 => d.memWrite c
  | 0x20 => d.enterArmed.finish c stOk []
  | 0x21 => d.enterReady.finish c stOk []
  | 0x27 => d.sbcCommand c
  | 0x28 => (d.offerAxis c.target (beAt c.payload 0 1)).finish c stOk []
  | 0x30 => d.clearCommand c
  | 0x31 => d.injCommand c
  | 0x32 => (d.sensorStart (beAt c.payload 0 1)).startCmd c
  | 0x33 => d.captureCommand c
  | 0x35 => d.calCommand c
  | 0x40 => d.enterService.finish c stOk []
  | 0x41 => d.enterReady.finish c stOk []
  | 0x42 => d.bistCommand c
  | 0x43 => d.fuseStart c
  | 0x49 => d.attest c
  | _ => d.imgCommand c

theorem Dev.docentEffect_acts (h : d.mayAct c = true) : d.docentEffect c = d.docentAct c c.op := if_neg (by rw [h]; decide)

theorem Dev.docentEffect_refused (h : d.mayAct c = false) : d.docentEffect c = d.lapse c stState [] := if_pos (by rw [h]; decide)

theorem Dev.docentAct_mem : d.docentAct c 0x12 = d.memWrite c := rfl
theorem Dev.docentAct_arm : d.docentAct c 0x20 = d.enterArmed.finish c stOk [] := rfl
theorem Dev.docentAct_disarm : d.docentAct c 0x21 = d.enterReady.finish c stOk [] := rfl
theorem Dev.docentAct_brake : d.docentAct c 0x27 = d.sbcCommand c := rfl
theorem Dev.docentAct_offer : d.docentAct c 0x28 = (d.offerAxis c.target (beAt c.payload 0 1)).finish c stOk [] := rfl
theorem Dev.docentAct_clear : d.docentAct c 0x30 = d.clearCommand c := rfl
theorem Dev.docentAct_inject : d.docentAct c 0x31 = d.injCommand c := rfl
theorem Dev.docentAct_measure : d.docentAct c 0x32 = (d.sensorStart (beAt c.payload 0 1)).startCmd c := rfl
theorem Dev.docentAct_capture : d.docentAct c 0x33 = d.captureCommand c := rfl
theorem Dev.docentAct_calibrate : d.docentAct c 0x35 = d.calCommand c := rfl
theorem Dev.docentAct_service : d.docentAct c 0x40 = d.enterService.finish c stOk [] := rfl
theorem Dev.docentAct_leave : d.docentAct c 0x41 = d.enterReady.finish c stOk [] := rfl
theorem Dev.docentAct_bist : d.docentAct c 0x42 = d.bistCommand c := rfl
theorem Dev.docentAct_fuse : d.docentAct c 0x43 = d.fuseStart c := rfl
theorem Dev.docentAct_imgWrite : d.docentAct c 0x44 = d.imgCommand c := rfl
theorem Dev.docentAct_imgVerify : d.docentAct c 0x45 = d.imgCommand c := rfl
theorem Dev.docentAct_imgSelect : d.docentAct c 0x46 = d.imgCommand c := rfl
theorem Dev.docentAct_imgAccept : d.docentAct c 0x47 = d.imgCommand c := rfl
theorem Dev.docentAct_imgReject : d.docentAct c 0x48 = d.imgCommand c := rfl
theorem Dev.docentAct_attest : d.docentAct c 0x49 = d.attest c := rfl

/-! ### Commands of the Docent lane -/

theorem Dev.memWrite_stores (ho : d.attOverlap (beAt c.payload 0 3) (c.payload.drop 4).length = false) (hb : d.bistUnit ≠ some 5)
    (hp : d.poisonedPart (beAt c.payload 0 3) (c.payload.drop 4).length = false) : d.memWrite c =
      ((d.mwrite (beAt c.payload 0 3) (c.payload.drop 4)).unpoison (beAt c.payload 0 3) (c.payload.drop 4).length).finish c stOk [] :=
  (if_neg (by rw [ho]; simpa using hb)).trans (if_neg (by rw [hp]; decide))

theorem Dev.sbcCommand_starts (h : d.sbcStart.2 = true) : d.sbcCommand c = d.sbcStart.1.startCmd c := if_pos h

theorem Dev.sbcCommand_lapses (h : d.sbcStart.2 = false) : d.sbcCommand c = d.lapse c stState [] := if_neg (by rw [h]; decide)

theorem Dev.injCommand_starts (h : d.rgr.inj = none) : d.injCommand c =
    (d.injStart (beAt c.payload 0 2) (beAt c.payload 2 1) (beAt c.payload 3 1)).startCmd c := if_neg (by rw [h]; decide)

theorem Dev.captureCommand_cancels (h0 : beAt c.payload 0 1 = 0) : d.captureCommand c = (d.capArm none).finish c stOk [] := if_pos h0

theorem Dev.capArm_idle (h : d.ce.cap = none) : d.capArm none = d := if_neg (by rw [h]; decide)

theorem Dev.capArm_ends (h : d.ce.cap ≠ none) : d.capArm none =
    (({ d with ce := { d.ce with cap := none } } : Dev).wf Reg.CE_CAPSTAT 30 2 0).wb Reg.CE_CAPSTAT 29 true :=
  if_pos (Option.isSome_iff_ne_none.2 h)

/-- The capture that the payload of a `CE_CAPTURE` describes (R286). -/
def armedCap (pl : List Byte) : CeCap :=
  ⟨capSigs pl, beAt pl 1 1 + 1, 0, beAt pl 4 4, beAt pl 8 4, 0, beAt pl 2 1, decide (beAt pl 3 1 % 2 = 1), false, 0⟩

theorem Dev.captureCommand_arms (h0 : beAt c.payload 0 1 ≠ 0) : d.captureCommand c =
    (d.capArm (some (armedCap c.payload))).finish c stOk (beBytes 2 (capSize (capSigs c.payload))) := if_neg h0

theorem Dev.capArm_arms (k : CeCap) {u : Dev}
    (hu : (d.rset Reg.CE_CAPSTAT (if d.ce.cap = none then 0x40000000 else 0x60000000)).rset Reg.CE_CAPPOS
      (BitVec.ofNat 32 (65536 * capSize k.sigs)) = u) :
    d.capArm (some k) = ({ u with ce := { u.ce with cap := some k } } : Dev).capAct := by
  have stat : BitVec.ofNat 32 (1 * 0x40000000 + d.ce.cap.isSome.toNat * 0x20000000) =
      (if d.ce.cap = none then 0x40000000 else 0x60000000 : Word) := by
    cases d.ce.cap with
    | none => decide
    | some k =>
      rw [if_neg (Option.some_ne_none k), Option.isSome_some]
      decide
  subst hu
  rw [← stat, Nat.mul_comm 65536]
  rfl

theorem Dev.captureCommand_armed (h0 : beAt c.payload 0 1 ≠ 0) {k : CeCap} {u : Dev} (hk : armedCap c.payload = k)
    (hu : (d.rset Reg.CE_CAPSTAT (if d.ce.cap = none then 0x40000000 else 0x60000000)).rset Reg.CE_CAPPOS
      (BitVec.ofNat 32 (65536 * capSize k.sigs)) = u) :
    d.captureCommand c = ({ u with ce := { u.ce with cap := some k } } : Dev).capAct.finish c stOk (beBytes 2 (capSize k.sigs)) := by
  rw [Dev.captureCommand_arms h0, hk, Dev.capArm_arms k hu, ← hk]
  rfl

theorem Dev.calCommand_starts (h : d.laneUp (adcLane (beAt c.payload 0 1)) = true) :
    d.calCommand c = (d.calStart (beAt c.payload 0 1)).startCmd c := if_pos h

theorem Dev.calCommand_lapses (h : d.laneUp (adcLane (beAt c.payload 0 1)) = false) :
    d.calCommand c = d.lapse c stOk [BitVec.ofNat 8 (beAt c.payload 0 1), 3] := if_neg (by rw [h]; decide)

theorem Dev.fuseStart_nothing (h : (inUse d.sec.soft (beAt c.payload 0 1)).length = 0) :
    d.fuseStart c = d.finish c stState (d.fuseBytes (beAt c.payload 0 1) 0 1) := if_pos h

theorem Dev.fuseStart_full (h : 0 < (inUse d.sec.soft (beAt c.payload 0 1)).length)
    (hf : 64 < d.sec.fused.length + (inUse d.sec.soft (beAt c.payload 0 1)).length) :
    d.fuseStart c = d.finish c stState (d.fuseBytes (beAt c.payload 0 1) 0 2) := (if_neg (Nat.ne_of_gt h)).trans (if_pos hf)

theorem Dev.fuseStart_programs (h : 0 < (inUse d.sec.soft (beAt c.payload 0 1)).length)
    (hf : d.sec.fused.length + (inUse d.sec.soft (beAt c.payload 0 1)).length ≤ 64) :
    d.fuseStart c = ({ d with sec := { d.sec with fuseRun := some (beAt c.payload 0 1) } } : Dev).startCmd c :=
  (if_neg (Nat.ne_of_gt h)).trans (if_neg (Nat.not_lt.2 hf))

/-- What an image command does when its words can be programmed. -/
def Dev.imgAct (d : Dev) (c : Cmd) (op : Nat) : Dev :=
  match op with
  | 0x44 => ({ d with boot := { d.boot with verified := false } } : Dev).startCmd c
  | 0x45 => d.startCmd c
  | 0x46 => ((d.setPref d.otherSlot true).finish c stOk []).resetLater
  | 0x47 => d.imgAccept.finish c stOk []
  | _ => ((d.setPref (1 - fget (d.pword 0) 0 1) false).finish c stOk []).resetLater

theorem Dev.imgCommand_barred (h : d.imgBarred c.op = true) : d.imgCommand c = d.lapse c stState [] := if_pos h

theorem Dev.imgCommand_acts (h : d.imgBarred c.op = false) : d.imgCommand c = d.imgAct c c.op := if_neg (by rw [h]; decide)

theorem Dev.imgBarred_write : d.imgBarred 0x44 = false := rfl
theorem Dev.imgBarred_verify : d.imgBarred 0x45 = false := rfl
theorem Dev.imgAct_write : d.imgAct c 0x44 = ({ d with boot := { d.boot with verified := false } } : Dev).startCmd c := rfl
theorem Dev.imgAct_verify : d.imgAct c 0x45 = d.startCmd c := rfl
theorem Dev.imgAct_select : d.imgAct c 0x46 = ((d.setPref d.otherSlot true).finish c stOk []).resetLater := rfl
theorem Dev.imgAct_accept : d.imgAct c 0x47 = d.imgAccept.finish c stOk [] := rfl
theorem Dev.imgAct_reject : d.imgAct c 0x48 = ((d.setPref (1 - fget (d.pword 0) 0 1) false).finish c stOk []).resetLater := rfl

theorem Dev.attest_lapses (h : d.sec.att ≠ none ∨ d.rb Reg.BIST_STAT 31 = true) : d.attest c = d.lapse c stState [] :=
  if_pos (by simpa [Option.isSome_iff_ne_none] using h)

theorem Dev.attest_keyless (ha : d.sec.att = none) (hb : d.rb Reg.BIST_STAT 31 = false) (hk : d.sec.key = none) {u : Dev}
    (hu : ((d.mwrite 0x25B000 (List.replicate 17264 0)).unpoison 0x25B000 17264).wf Reg.SEC_ATT 24 2 1 = u) :
    d.attest c = u.finish c stState ([0xB0, 0, 0x43, 0x70, 1, 0, 0, 0] ++ beBytes 4 (d.rf Reg.SEC_ATT 0 24)) := by
  subst hu
  unfold Dev.attest
  rw [if_neg (by simp [ha, hb]), hk]
  rfl

theorem Dev.attest_starts (ha : d.sec.att = none) (hb : d.rb Reg.BIST_STAT 31 = false) {key r : List Byte} (hk : d.sec.key = some key)
    {u w : Dev} (hu : (d.wf Reg.SEC_ATT 0 24 ((d.rf Reg.SEC_ATT 0 24 + 1) % 2 ^ 24)).wb Reg.SEC_ATT 31 true = u)
    (hr : u.attReport (c.id.host + 1) c.payload = r) (hw : (u.mwrite 0x25B000 r).unpoison 0x25B000 176 = w) :
    d.attest c = ({ w with sec := { w.sec with att := some (key, r) } } : Dev).startCmd c := by
  have counted : (d.wmod Reg.SEC_ATT 0 24).wb Reg.SEC_ATT 31 true = u := hu
  unfold Dev.attest
  rw [if_neg (by simp [ha, hb]), hk]
  dsimp only
  rw [counted, hr]
  exact congrArg (fun v : Dev => ({ v with sec := { v.sec with att := some (key, r) } } : Dev).startCmd c) hw

end
end Sys2Proof.Machine

namespace Sys2Proof.Machine

set_option Elab.async false

section
variable {d : Dev} {c : Cmd} {st : Nat} {res : List Byte}

/-! ### Completion records (R113, R115) -/

theorem Dev.notice_rget (d : Dev) {p a : Nat} (bs : List Byte) (ha : a ≠ Reg.CAN_PORT_STAT p) : (d.notice p bs).rget a = d.rget a := by
  unfold Dev.notice
  split
  · rfl
  · split
    · exact d.rget_wf_other 0 16 _ ha
    · rfl

theorem Dev.wf_of_regs {d e : Dev} (h : e.regs = d.regs) (a lo w x : Nat) : (e.wf a lo w x).regs = (d.wf a lo w x).regs := by
  unfold Dev.wf Dev.rset Dev.rget
  dsimp only
  rw [h]

/-- The record of a command in its host's ring. -/
def Dev.recorded (d : Dev) (c : Cmd) (st : Nat) (res : List Byte) : Dev :=
  (d.mwrite (recAddr c.id.host (d.head c.id.host)) (recBytes c st (((d.hp c.id.host).count + 1) % 2 ^ 32) res)).unpoison
    (recAddr c.id.host (d.head c.id.host)) 32

/-- What a completion writes: the record into memory, port and commands of the hosts, its event. -/
theorem Dev.complete_writes : (d.complete c st res).sram = (d.recorded c st res).sram ∧
    (d.complete c st res).hosts = { d.hosts with
      port := tmod d.hosts.port c.id.host (fun p =>
        { p with count := ((d.hp c.id.host).count + 1) % 2 ^ 32, recs := p.recs ++ [(c.id.label, decide (c.flags / 4 % 2 = 1))] }),
      cmds := d.hosts.cmds.filter (fun x => !(x.id == c.id)) } ∧
    (d.complete c st res).events = d.events ++ [0x10 + c.id.host] := by
  unfold Dev.complete
  extract_lets h i n irq d1 d2 d3 d4 d5 d6
  have h4 : d4.sram = d1.sram ∧ d4.hosts = { d.hosts with
      port := tmod d.hosts.port h (fun p => { p with count := n, recs := p.recs ++ [(c.id.label, irq)] }),
      cmds := d.hosts.cmds.filter (fun x => !(x.id == c.id)) } ∧ d4.events = d.events := by
    simp [d4, d3, d2, d1, Dev.setCmds, Dev.hpMod]
  have h5 : d5.sram = d4.sram ∧ d5.hosts = d4.hosts ∧ d5.events = d4.events := by
    simp only [d5]
    split <;> simp
  have h6 : d6.sram = d5.sram ∧ d6.hosts = d5.hosts ∧ d6.events = d5.events := by
    simp only [d6]
    split <;> simp [Dev.notice_keeps]
  obtain ⟨s4, p4, e4⟩ := h4
  obtain ⟨s5, p5, e5⟩ := h5
  obtain ⟨s6, p6, e6⟩ := h6
  have last := d6.ev_keeps (0x10 + h)
  have events : (d6.ev (0x10 + h)).events = d6.events ++ [0x10 + h] := rfl
  refine ⟨?_, ?_, ?_⟩
  · rw [show (d6.ev (0x10 + h)).sram = d6.sram by simp only [last], s6, s5, s4]
    rfl
  · rw [show (d6.ev (0x10 + h)).hosts = d6.hosts by simp only [last], p6, p5, p4]
  · rw [events, e6, e5, e4]

/-- Of the registers a completion writes the ring's head and, when asked, the host's interrupt; the count of lost notices apart. -/
theorem Dev.complete_regs {a : Nat} (ha : a ≠ Reg.CAN_PORT_STAT (c.id.host - 2)) : (d.complete c st res).rget a =
    (if c.flags / 4 % 2 = 1 then (d.wf (Reg.HOST_CQ c.id.host) 16 9 ((d.head c.id.host + 1) % 512)).wb (Reg.HOST_IRQ c.id.host) 0 true
      else d.wf (Reg.HOST_CQ c.id.host) 16 9 ((d.head c.id.host + 1) % 512)).rget a := by
  unfold Dev.complete
  extract_lets h i n irq d1 d2 d3 d4 d5 d6
  have h1 : d1.regs = d.regs := by simp [d1]
  have h2 : d2.regs = (d.wf (Reg.HOST_CQ h) 16 9 ((i + 1) % 512)).regs := Dev.wf_of_regs h1 (Reg.HOST_CQ h) 16 9 ((i + 1) % 512)
  have h4 : d4.regs = (d.wf (Reg.HOST_CQ h) 16 9 ((i + 1) % 512)).regs := by
    simp only [d4, d3, Dev.setCmds, Dev.hpMod]
    exact h2
  have h6 : d6.rget a = d5.rget a := by
    simp only [d6]
    split
    · exact d5.notice_rget _ ha
    · rfl
  rw [Dev.rget_of_regs (show (d6.ev (0x10 + h)).regs = d6.regs by simp) a, h6]
  refine Dev.rget_of_regs ?_ a
  simp only [d5, irq, decide_eq_true_iff]
  split
  · exact Dev.wf_of_regs h4 (Reg.HOST_IRQ h) 0 1 true.toNat
  · exact h4

theorem Dev.complete_quiet (h : c.flags / 4 % 2 = 0) : (d.complete c st res).cport = d.cport := by
  unfold Dev.complete
  extract_lets h i n irq d1 d2 d3 d4 d5 d6
  have off : irq = false := decide_eq_false (by omega)
  simp [d6, d5, d4, d3, d2, d1, off, Dev.setCmds, Dev.hpMod]

theorem length_recBytes (n : Nat) : (recBytes c st n res).length = 32 := by
  simp [recBytes, padTo, length_beBytes]

end
end Sys2Proof.Machine

namespace Sys2Proof.Machine

set_option Elab.async false

section
variable {d : Dev} {c : Cmd} {st : Nat} {res : List Byte}

/-- The 32 bytes of the record stand at the head of the ring, and no other byte of memory has changed. -/
theorem Dev.complete_memory (hd : d.tablesOk = true) :
    (d.complete c st res).mread (recAddr c.id.host (d.head c.id.host)) 32 =
      recBytes c st (((d.hp c.id.host).count + 1) % 2 ^ 32) res ∧
    ∀ a, (a < recAddr c.id.host (d.head c.id.host) ∨ recAddr c.id.host (d.head c.id.host) + 32 ≤ a) →
      (d.complete c st res).mget a = d.mget a := by
  obtain ⟨sram, -, -⟩ := d.complete_writes (c := c) (st := st) (res := res)
  have wf := Dev.sram_wf hd
  refine ⟨?_, fun a ha => ?_⟩
  · rw [Dev.mread_of_sram sram]
    exact Dev.mread_written wf (length_recBytes _)
  · rw [← length_recBytes (c := c) (st := st) (res := res) (((d.hp c.id.host).count + 1) % 2 ^ 32)] at ha
    have written : (d.recorded c st res).sram = (d.mwrite (recAddr c.id.host (d.head c.id.host))
        (recBytes c st (((d.hp c.id.host).count + 1) % 2 ^ 32) res)).sram := by simp only [Dev.recorded, Dev.unpoison_keeps]
    rw [← mget_mwrite_outside _ wf _ a ha, Dev.mget, Dev.mget, sram, written]

/-- The ring's head moves on by one. -/
theorem Dev.complete_head (hd : d.tablesOk = true) (hh : c.id.host < 4) :
    (d.complete c st res).head c.id.host = (d.head c.id.host + 1) % 512 := by
  have canon := Dev.regs_canon hd
  have apart : Reg.HOST_CQ c.id.host ≠ Reg.CAN_PORT_STAT (c.id.host - 2) := by
    unfold Reg.HOST_CQ Reg.CAN_PORT_STAT
    omega
  have moved : (d.wf (Reg.HOST_CQ c.id.host) 16 9 ((d.head c.id.host + 1) % 512)).head c.id.host = (d.head c.id.host + 1) % 512 := by
    unfold Dev.head
    rw [rf_wf_same canon _ _ (by omega)]
    omega
  have kept := d.complete_regs (st := st) (res := res) apart
  unfold Dev.head Dev.rf at moved ⊢
  rw [kept]
  split
  · rw [Dev.rget_wb_other _ _ _ (by unfold Reg.HOST_CQ Reg.HOST_IRQ; omega)]
    exact moved
  · exact moved

/-- The host's interrupt is set when the command asks for it, and stays else. -/
theorem Dev.complete_irq (hd : d.tablesOk = true) (hh : c.id.host < 4) : (d.complete c st res).rb (Reg.HOST_IRQ c.id.host) 0 =
    (decide (c.flags / 4 % 2 = 1) || d.rb (Reg.HOST_IRQ c.id.host) 0) := by
  have canon := Dev.regs_canon hd
  have apart : Reg.HOST_IRQ c.id.host ≠ Reg.CAN_PORT_STAT (c.id.host - 2) := by
    unfold Reg.HOST_IRQ Reg.CAN_PORT_STAT
    omega
  rw [Dev.rb_of_rget (d.complete_regs (st := st) (res := res) apart)]
  by_cases h : c.flags / 4 % 2 = 1
  · rw [if_pos h, rb_wb (wf_canon canon _ _ _ _) _ _ (by omega), if_pos rfl, decide_eq_true h, Bool.true_or]
  · rw [if_neg h, decide_eq_false h, Bool.false_or]
    exact Dev.rb_of_rget (d.rget_wf_other _ _ _ (by unfold Reg.HOST_CQ Reg.HOST_IRQ; omega)) 0

/-- R113, R115: what a completion shows. -/
theorem Dev.complete_shows (hd : d.tablesOk = true) (hh : c.id.host < 4) :
    let t := d.complete c st res
    t.mread (recAddr c.id.host (d.head c.id.host)) 32 = recBytes c st (((d.hp c.id.host).count + 1) % 2 ^ 32) res ∧
    t.head c.id.host = (d.head c.id.host + 1) % 512 ∧ (t.hp c.id.host).count = ((d.hp c.id.host).count + 1) % 2 ^ 32 ∧
    (t.hp c.id.host).recs = (d.hp c.id.host).recs ++ [(c.id.label, decide (c.flags / 4 % 2 = 1))] ∧
    t.hosts.cmds = d.hosts.cmds.filter (fun y => !(y.id == c.id)) ∧
    (c.flags / 4 % 2 = 1 → t.rb (Reg.HOST_IRQ c.id.host) 0 = true) ∧
    (c.flags / 4 % 2 = 0 → t.rb (Reg.HOST_IRQ c.id.host) 0 = d.rb (Reg.HOST_IRQ c.id.host) 0 ∧ t.cport = d.cport) ∧
    t.events = d.events ++ [0x10 + c.id.host] ∧
    ∀ a, (a < recAddr c.id.host (d.head c.id.host) ∨ recAddr c.id.host (d.head c.id.host) + 32 ≤ a) → t.mget a = d.mget a := by
  intro t
  obtain ⟨-, hosts, events⟩ := d.complete_writes (c := c) (st := st) (res := res)
  obtain ⟨bytes, others⟩ := d.complete_memory (c := c) (st := st) (res := res) hd
  have irq := d.complete_irq (st := st) (res := res) hd hh
  refine ⟨bytes, Dev.complete_head hd hh, ?_, ?_, ?_, fun h => ?_, fun h => ⟨?_, Dev.complete_quiet h⟩, events, others⟩
  · rw [Dev.hp, hosts]
    exact congrArg HostPort.count (tget_tmod_same _ hh _)
  · rw [Dev.hp, hosts]
    exact congrArg HostPort.recs (tget_tmod_same _ hh _)
  · rw [hosts]
  · rw [irq, decide_eq_true h, Bool.true_or]
  · rw [irq, decide_eq_false (by omega), Bool.false_or]

/-! ### Promises, heartbeats, offers (R104, R106, R112) -/

theorem Dev.missed_gone {h label : Nat} (hc : d.cmdOf ⟨h, label⟩ = none) : d.missed h label = d := by
  unfold Dev.missed
  rw [hc]

theorem Dev.missed_early {h label : Nat} (hc : d.cmdOf ⟨h, label⟩ = some c) (hp : c.phase = .running ∨ d.promiseOver c = false) :
    d.missed h label = d := by
  unfold Dev.missed
  rw [hc]
  exact if_pos hp

theorem Dev.missed_command {h label : Nat} (hc : d.cmdOf ⟨h, label⟩ = some c) (hp : c.phase ≠ .running) (ho : d.promiseOver c = true)
    (hop : c.op ≠ 0x11) :
    d.missed h label = (((d.complete { c with effective := d.free 0x112 } stBusy []).tick1).occ 0x0140 0).ev 0x26 := by
  have late : ¬ (c.phase = .running ∨ d.promiseOver c = false) := by simp [hp, ho]
  unfold Dev.missed
  rw [hc]
  dsimp only
  rw [if_neg late, if_neg hop]

/-- What is left of a `REG_WRITE` whose missed pairs have ended: with none of its pairs in effect, its Effective field is free. -/
def Dev.missedRest (d : Dev) (c : Cmd) : Dev :=
  if (c.fails.length + (d.missedPairs c).length == c.payload.length / 8) = true then
    (d.missWrite c).cmdMod c.id (fun x => { x with effective := d.free 0x112 })
  else d.missWrite c

theorem Dev.missed_write {h label : Nat} (hc : d.cmdOf ⟨h, label⟩ = some c) (hp : c.phase ≠ .running) (ho : d.promiseOver c = true)
    (hop : c.op = 0x11) : d.missed h label = ((((d.missedRest c).writeDone c.id).tick1).occ 0x0140 0).ev 0x26 := by
  have late : ¬ (c.phase = .running ∨ d.promiseOver c = false) := by simp [hp, ho]
  unfold Dev.missed
  rw [hc]
  dsimp only
  rw [if_neg late, if_pos hop]
  rfl

theorem Dev.missedRest_some (h : c.fails.length + (d.missedPairs c).length ≠ c.payload.length / 8) : d.missedRest c = d.missWrite c :=
  if_neg (by simpa using h)

theorem Dev.missedRest_all (h : c.fails.length + (d.missedPairs c).length = c.payload.length / 8) :
    d.missedRest c = (d.missWrite c).cmdMod c.id (fun x => { x with effective := d.free 0x112 }) := if_pos (beq_iff_eq.2 h)

theorem Dev.promiseOver_command (hop : c.op ≠ 0x11) : d.promiseOver c = decide (c.deadline ≤ d.now) := if_neg hop

theorem Dev.promiseOver_write (hop : c.op = 0x11) : d.promiseOver c = c.parts.any (fun p => decide (p.1 ≤ d.now)) := if_pos hop

theorem Dev.promiseOver_early (h : (c.op ≠ 0x11 ∧ d.now < c.deadline) ∨ (c.op = 0x11 ∧ ∀ p ∈ c.parts, d.now < p.1)) :
    d.promiseOver c = false := by
  obtain ⟨hop, h⟩ | ⟨hop, h⟩ := h
  · rw [Dev.promiseOver_command hop]
    exact decide_eq_false (Nat.not_le.2 h)
  · rw [Dev.promiseOver_write hop, List.any_eq_false]
    exact fun p hp => by simpa using h p hp

theorem Dev.promiseOver_part (hop : c.op = 0x11) (h : ∃ p ∈ c.parts, p.1 ≤ d.now) : d.promiseOver c = true := by
  rw [Dev.promiseOver_write hop, List.any_eq_true]
  simpa using h

end

/-- Settles O17: the lane's choice by induction on the commands in flight, then one lemma per opcode; a completion is followed
through its writes, a missed promise by the part that it is of. -/
theorem docentLaneCarriesOutCommands : Obligations.DocentLaneCarriesOutCommands := by
  unfold Obligations.DocentLaneCarriesOutCommands
  intro s h x label hl hh hx d watched armed
  have row : exec .docentLaneExecute s = .next ⟨d.laneExec, s.pending⟩ := by
    rw [exec_docentLaneExecute, State.run_live hl]
  have promise : exec (.promiseMissed h label) s = .next ⟨d.missed h label, s.pending⟩ := by
    rw [exec_promiseMissed, State.run_live hl]
  have beat : exec (.heartbeatExpired h) s = .next ⟨d.hbExpired h, s.pending⟩ := by
    rw [exec_heartbeatExpired, State.run_live hl]
  have offer : exec (.ownOfferExpired x) s = .next ⟨d.offerExpired x, s.pending⟩ := by
    rw [exec_ownOfferExpired, State.run_live hl]
  refine ⟨fun hn => ?_, fun c hn => ?_, fun e c st res hc he => Dev.complete_shows he hc, fun hc => ?_, fun c hc => ⟨fun hp => ?_,
    fun hp hop hd => ⟨d.free 0x112, ?_⟩, fun hp hop hd => ⟨d.missedRest c, ?_, Dev.missedRest_some, fun ha =>
      ⟨d.free 0x112, Dev.missedRest_all ha⟩⟩⟩, fun hw => ?_, fun hw => ?_, fun ho => ?_, fun ho => ?_⟩
  · rw [row, Dev.laneExec_empty hn]
  · intro e does now
    have first := (nextInLane_least (l := d.hosts.cmds)).2 c hn
    have lane := Dev.laneExec_some hn
    have effect (h11 : c.op ≠ 0x11) (hg : c.groups = []) : d.laneExec = e.docentEffect c := by
      rw [lane, if_neg h11, if_pos (List.isEmpty_iff.2 hg)]
      rfl
    have acts {op : Nat} {u : Dev} (hnow : now) (ho : c.op = op) (ha : e.docentAct c op = u) : does u := by
      obtain ⟨h11, hg, hmay⟩ := hnow
      show exec .docentLaneExecute s = .next ⟨u, s.pending⟩
      rw [row, effect h11 hg, Dev.docentEffect_acts hmay, ho, ha]
    have image {op : Nat} {u : Dev} (hnow : now) (ho : c.op = op) (ha : e.docentAct c op = e.imgCommand c)
        (hb : e.imgBarred c.op = false) (hu : e.imgAct c op = u) : does u :=
      acts hnow ho (by rw [ha, Dev.imgCommand_acts hb, ho, hu])
    refine ⟨⟨first.1.1, first.1.2, first.2⟩, fun h11 => ?_, fun h11 hg => ?_, fun h11 hg hm => ?_, fun hw ho ha hb hp => ?_, fun hw ho => ?_,
      fun hw ho => ?_, fun hw ho hs => ?_, fun hw ho hs => ?_, fun hw ho => ?_, fun hw ho => ?_, fun hw ho hi => ?_, fun hw ho => ?_,
      fun hw ho h0 hc => ?_, fun hw ho h0 hc => ?_, fun hw ho h0 => ?_, fun hw ho hu => ?_, fun hw ho hu => ?_, fun hw ho => ?_,
      fun hw ho => ?_, fun hw ho => ?_, fun hw ho => ?_, fun hw ho => ?_, fun hw ho => ?_, fun hw ho hb => ?_, fun hw ho hb => ?_,
      fun hw ho hb => ?_, fun hw ho hb => ?_, fun hw ho hb => ?_, fun hw ho ha hb hk => ?_, fun key hw ho ha hb hk => ?_⟩
    · show exec .docentLaneExecute s = _
      rw [row, lane, if_pos h11]
      rfl
    · show exec .docentLaneExecute s = _
      rw [row, lane, if_neg h11, if_neg (by simpa using hg)]
      rfl
    · show exec .docentLaneExecute s = _
      rw [row, effect h11 hg, Dev.docentEffect_refused hm]
    · exact acts hw ho (Dev.docentAct_mem.trans (Dev.memWrite_stores ha hb hp))
    · exact acts hw ho Dev.docentAct_arm
    · exact acts hw ho Dev.docentAct_disarm
    · exact acts hw ho (Dev.docentAct_brake.trans (Dev.sbcCommand_starts hs))
    · exact acts hw ho (Dev.docentAct_brake.trans (Dev.sbcCommand_lapses hs))
    · intro who
      exact acts hw ho Dev.docentAct_offer
    · intro r
      exact acts hw ho Dev.docentAct_clear
    · exact acts hw ho (Dev.docentAct_inject.trans (Dev.injCommand_starts hi))
    · exact acts hw ho Dev.docentAct_measure
    · exact acts hw ho (Dev.docentAct_capture.trans (by rw [Dev.captureCommand_cancels h0, Dev.capArm_idle hc]))
    · exact acts hw ho (Dev.docentAct_capture.trans (by rw [Dev.captureCommand_cancels h0, Dev.capArm_ends hc]))
    · intro k u
      exact acts hw ho (Dev.docentAct_capture.trans (Dev.captureCommand_armed h0 (k := k) (u := u) rfl rfl))
    · exact acts hw ho (Dev.docentAct_calibrate.trans (Dev.calCommand_starts hu))
    · exact acts hw ho (Dev.docentAct_calibrate.trans (Dev.calCommand_lapses hu))
    · exact acts hw ho Dev.docentAct_service
    · exact acts hw ho Dev.docentAct_leave
    · intro m u
      exact acts hw ho Dev.docentAct_bist
    · intro u n left res
      refine ⟨fun h0 => ?_, fun hp hf => ?_, fun hp hf => ?_⟩
      · exact acts hw ho (Dev.docentAct_fuse.trans (Dev.fuseStart_nothing h0))
      · exact acts hw ho (Dev.docentAct_fuse.trans (Dev.fuseStart_full hp hf))
      · exact acts hw ho (Dev.docentAct_fuse.trans (Dev.fuseStart_programs hp hf))
    · have free : e.imgBarred c.op = false := by rw [ho]; exact Dev.imgBarred_write
      exact ⟨_, image hw ho Dev.docentAct_imgWrite free Dev.imgAct_write, rfl, rfl, rfl⟩
    · have free : e.imgBarred c.op = false := by rw [ho]; exact Dev.imgBarred_verify
      exact image hw ho Dev.docentAct_imgVerify free Dev.imgAct_verify
    · have img : e.docentAct c c.op = e.imgCommand c := by
        simp only [List.mem_cons, List.not_mem_nil, or_false] at ho
        obtain ho | ho | ho := ho
        · rw [ho, Dev.docentAct_imgSelect]
        · rw [ho, Dev.docentAct_imgAccept]
        · rw [ho, Dev.docentAct_imgReject]
      exact acts hw rfl (img.trans (Dev.imgCommand_barred hb))
    · exact image hw ho Dev.docentAct_imgSelect hb Dev.imgAct_select
    · exact image hw ho Dev.docentAct_imgAccept hb Dev.imgAct_accept
    · exact image hw ho Dev.docentAct_imgReject hb Dev.imgAct_reject
    · exact acts hw ho (Dev.docentAct_attest.trans (Dev.attest_lapses hb))
    · intro u
      exact acts hw ho (Dev.docentAct_attest.trans (Dev.attest_keyless ha hb hk (u := u) rfl))
    · intro u r u'
      exact acts hw ho (Dev.docentAct_attest.trans (Dev.attest_starts ha hb hk (r := r) (u := u) (w := u') rfl rfl rfl))
  · rw [promise, Dev.missed_gone hc]
  · rw [promise, Dev.missed_early hc (hp.imp_right Dev.promiseOver_early)]
  · rw [promise, Dev.missed_command hc hp ((Dev.promiseOver_command hop).trans (decide_eq_true hd)) hop]
  · rw [promise, Dev.missed_write hc hp (Dev.promiseOver_part hop hd) hop]
  · have due : d.hbExpired h = ((d.wb (Reg.HOST_HB h) 31 true).occ (0x0110 + h) 0).ev (0x14 + h) := if_pos ⟨hh, hw⟩
    rw [beat, due]
  · have early : d.hbExpired h = d := if_neg fun hb => hw hb.2
    rw [beat, early]
  · have due : d.offerExpired x = d.wf Reg.HOST_OFFER (3 * x) 3 7 := if_pos ⟨hx, decide_eq_true ho⟩
    rw [offer, due]
  · have early : d.offerExpired x = d := if_neg fun hb => Nat.not_le.2 ho (of_decide_eq_true hb.2)
    rw [offer, early]

end Sys2Proof.Machine
